-- ==== Sys2Proof/Word.lean ====
section
/-! DEFINITION. The word and byte types of the block (R2, R4) and their plainest arithmetic. -/

namespace Sys2Proof

/-- The native word: every register is 64 bits wide (R2, R4). -/
abbrev Word := BitVec 64

/-- One octet of a host structure or of an octet string (R3). -/
abbrev Byte := BitVec 8

/-- The event sequence number, the time in CD_MGMT cycles and the like count upward by one. -/
abbrev Word.succ (w : Word) : Word := w + 1

end Sys2Proof
end

