-- ==== Sys2Proof/Kinds.lean ====
section
/-! DEFINITION. Small kinds that commands carry as operands. -/

namespace Sys2Proof

/-- What the word in progress reads as when power is lost (R281). -/
inductive WordOutcome where
  | old | new | uncorrectable
deriving DecidableEq, Repr

/-- Where a register access comes from: function `fn`'s BAR0, its doorbells in BAR2 or its MSI-X structures in BAR4, inside Secure
IDE stream `stream` or outside any; its configuration space; or the I3C port (R33, R37, R428). -/
inductive Via where
  | host (fn : Nat) (stream : Option Nat)
  | bar2 (fn : Nat) (stream : Option Nat)
  | bar4 (fn : Nat) (stream : Option Nat)
  | config (fn : Nat)
  | i3c
deriving DecidableEq, Repr

/-- A Mortar frame as it arrives (R380, R383): port 0 or 1, or 2 for the relay; SRC, DST, HOPS, COUNTER; EPOCH and MSG_ID of its
payload header; whether its CRC and its tag check, and whether its reserved fields are zero. -/
structure Frame where
  port : Nat
  src : Nat
  dst : Nat
  hops : Nat
  counter : Nat
  epoch : Nat
  msgId : Nat
  crc : Bool
  tag : Bool
  clean : Bool
deriving DecidableEq, Repr

/-- A word that the SRAM scrubber found in error (R420, R423): the unit code of its array or tile, its word index there, the
number of the entry that holds it (slot, staging entry, context, command, thread of the tile, image), what of the entry it is (of a
thread: 0 a register, 1 a slice word, any other the datapath that its next instruction uses), and whether the error was corrected. -/
structure ScrubHit where
  unit : Nat
  word : Nat
  idx : Nat
  sub : Nat
  fixed : Bool
deriving DecidableEq, Repr

/-- How a library program uses a key position: what the read of the key's memory meets (0 good), how many requests it makes
under the key, which the signed image decides (R92, R230), and the unit that faults in one of its requests, if one does: unit code
(R312) and CAUSE. -/
structure KeyUse where
  read : Nat
  uses : Nat
  fault : Option (Nat × Nat)
deriving DecidableEq, Repr

/-- The branch conditions of R164 (COND 0 to 6). -/
inductive Cond where
  | eq | ne | lt | ge | ltu | geu | always
deriving DecidableEq, Repr

/-- Their codes. -/
def Cond.code : Cond → Nat
  | .eq => 0 | .ne => 1 | .lt => 2 | .ge => 3 | .ltu => 4 | .geu => 5 | .always => 6

end Sys2Proof
end

