-- ==== Sys2Proof/Insn.lean ====
section
/-! DEFINITION. The Clazeir instructions as data (R157 to R180): what a tile executes when one of the instruction commands of the
table runs. -/

namespace Sys2Proof

/-- The R-format operations of OP 0x00 (R161). -/
inductive ROp where
  | add | sub | and | or | xor | andn | shl | shrz | shrs | seteq | setne | setlt | setge | setltu | setgeu | mul | mulx | divr
deriving DecidableEq, Repr

/-- The constant forms (R162). -/
inductive KOp where
  | addk | andk | ork | xork | shlk | shrzk | shrsk | ksh | setltk | setltuk
deriving DecidableEq, Repr

/-- The width of a load or store (R163). -/
inductive Width where
  | w8 | w4 | w2 | w1
deriving DecidableEq, Repr

/-- The tag instructions (R165). -/
inductive TagOp where
  | mov | glz | hmake
deriving DecidableEq, Repr

/-- The Sealed Operand Unit operations (R166). -/
inductive SouOp where
  | panfield | pinchk | pinconv | decim | offadd | offsub | offpack | cmpeq | maccmp | zeroise
deriving DecidableEq, Repr

/-- A Clazeir instruction with its fields. -/
inductive Insn where
  | r (o : ROp) (rd rs1 rs2 : BitVec 5)
  | k (o : KOp) (rd rs1 : BitVec 5) (imm : BitVec 16)
  | load (w : Width) (rd rs1 : BitVec 5) (imm : BitVec 16)
  | store (w : Width) (rs2 rs1 : BitVec 5) (imm : BitVec 16)
  | br (cond : Cond) (rs1 rs2 : BitVec 5) (off : BitVec 13)
  | jump (rd : BitVec 5) (off : BitVec 21)
  | jmpr (rd rs1 : BitVec 5)
  | tag (o : TagOp) (rd rs1 : BitVec 5)
  | sou (o : SouOp) (rd rs1 rs2 rs3 : BitVec 5)
  | ecall (tk : BitVec 4) (ra rk rb rx : BitVec 5)
  | twait (tk : BitVec 4) (ra : BitVec 5)
  | twall
  | rand (rd : BitVec 5)
  | cinc (tk : BitVec 4) (rk : BitVec 5)
  | csync
  | release (rs1 : BitVec 5)
  | done
deriving DecidableEq, Repr

/-- The operation is one of the constant shifts, whose IMM [15:6] must be zero (R158). -/
def KOp.isShift : KOp → Bool
  | .shlk | .shrzk | .shrsk => true
  | _ => false

/-- The instruction keeps the rules of R158 that its own fields decide. -/
def Insn.wf : Insn → Bool
  | .k o _ _ imm => !o.isShift || decide (imm.toNat < 64)
  | .br .always rs1 rs2 _ => rs1 == 0 && rs2 == 0
  | .sou .zeroise _ _ _ rs3 => rs3 == 0
  | .ecall tk _ _ _ _ => decide (tk.toNat ≤ 11)
  | .twait tk _ => decide (tk.toNat ≤ 11)
  | .cinc tk _ => decide (tk.toNat ≤ 11)
  | _ => true

end Sys2Proof
end

