-- ==== Sys2Proof/Syntax.lean ====
section
/-! DEFINITION. The commands of the block: one constructor for each row of spec/opcode_table.json, in the order of the table's
families. Operands: n a partition or function, i a course, e a staging entry, h a thread (16 times its tile and its number in
the tile), tk a token, m what a key memory's read meets, p a card port or a link, st the IDE stream that carries an access, v how
a register is reached, fr a frame, same whether another alarm enters in the same cycle; octet strings are what comes in with
the command, in address order. -/

namespace Sys2Proof

inductive Instr where
  -- the host accesses, doorbells, link and function events (R8 to R63, R416)
  | registerWrite (v : Via) (off size : Nat) (w : Word)
  | rcRead (v : Via) (off size : Nat)
  | rngDataRead (n : Nat) (st : Option Nat) (size : Nat)
  | rngDataLoad (n : Nat)
  | msixTableWrite (n : Nat) (st : Option Nat) (off size x : Nat)
  | sqDoorbell (n : Nat) (st : Option Nat) (i size x : Nat)
  | cqDoorbell (n : Nat) (st : Option Nat) (i size x : Nat)
  | sqEnable (n : Nat) (st : Option Nat) (i : Nat)
  | cqEnable (n : Nat) (st : Option Nat) (i : Nat)
  | sqDisable (n : Nat) (st : Option Nat) (i : Nat)
  | cqDisable (n : Nat) (st : Option Nat) (i : Nat)
  | sqPause (n : Nat) (st : Option Nat) (i : Nat) (on : Bool)
  | intEnable (n : Nat) (st : Option Nat) (i : Nat) (on : Bool)
  | partitionEnable (st : Option Nat) (n : Nat) (on : Bool)
  | partitionReset (st : Option Nat) (n : Nat)
  | vfFlr (n : Nat)
  | vfDisable (num : Nat)
  | vfEnableSet (num : Nat)
  | functionLevelResetEnd (n : Nat)
  | ideKmKeyInstall (k : Nat)
  | ideStreamInsecure (k : Nat × Bool)
  | busMasterEnableChange (n : Nat) (on : Bool)
  | powerStateChange (n : Nat) (d3 : Bool)
  | msixControlWrite (n : Nat) (en mask : Bool)
  | doeDiscovery (len i : Nat)
  -- SPDM over DOE (R35, R349, R350)
  | spdmGetVersion (req : List Byte)
  | spdmGetCapabilities (req : List Byte)
  | spdmNegotiateAlgorithms (req : List Byte) (asym hash dhe aead : Nat)
  | spdmGetDigests (req : List Byte)
  | spdmGetCertificate (req : List Byte)
  | spdmChallenge (req : List Byte)
  | spdmGetMeasurements (req : List Byte)
  | spdmKeyExchange (req : List Byte)
  | spdmFinish (req : List Byte)
  | spdmEndSession (req : List Byte)
  -- fetching, admission, contexts, fences and completions (R45 to R86)
  | descriptorFetch (n i e : Nat)
  | descriptorReadCompletion (e : Nat) (w : BitVec 512)
  | palletFetch (e : Nat) (es : List Nat)
  | palletReadCompletion (e : Nat) (ws : List (BitVec 512))
  | readFailure (e : Nat)
  | readCompletionTimeout (e : Nat)
  | inputPrefetch (e : Nat) (bs : List Byte)
  | commandAdmit (e : Nat)
  | threadAssign (e h : Nat) (cached : Bool)
  | contextSet (e : Nat) (bs : List Byte)
  | contextGet (e : Nat)
  | fenceCourse (e : Nat)
  | fencePartition (e : Nat)
  | fenceKeys (e : Nat)
  | fenceCounters (e : Nat)
  | fenceBond (e : Nat)
  | fenceSatisfied (e : Nat)
  | completionQueue (e : Nat)
  | completionWrite (n i : Nat)
  | coalTimerExpiry (n i : Nat)
  -- the Standard Function Library (R91 to R127)
  | pinTranslate (h : Nat) (us : List KeyUse)
  | pinVerify (h : Nat) (us : List KeyUse)
  | pinOffsetGenerate (h : Nat) (us : List KeyUse)
  | arqcVerify (h : Nat) (bs : List Byte) (us : List KeyUse)
  | issuerScript (h : Nat) (bs : List Byte) (us : List KeyUse)
  | dukptPinTranslate (h : Nat) (us : List KeyUse)
  | dukptData (h : Nat) (bs : List Byte) (us : List KeyUse)
  | macGenerate (h : Nat) (bs : List Byte) (us : List KeyUse)
  | macVerify (h : Nat) (bs : List Byte) (us : List KeyUse)
  | cscGenerate (h : Nat) (us : List KeyUse)
  | cscVerify (h : Nat) (us : List KeyUse)
  | ff1Tokenise (h : Nat) (us : List KeyUse)
  | ff1Detokenise (h : Nat) (us : List KeyUse)
  | keyblockImport (e : Nat) (bs : List Byte) (m : Nat)
  | keyblockExport (e m m1 : Nat)
  | tr34Nonce (e : Nat)
  | tr34NonceExpiry (n : Nat)
  | tr34Import (e : Nat) (bs : List Byte)
  | wardenRequest (e : Nat) (bs : List Byte)
  | gcmEncrypt (h : Nat) (bs : List Byte) (us : List KeyUse)
  | gcmDecrypt (h : Nat) (bs : List Byte) (us : List KeyUse)
  | random (h : Nat)
  | ecdsaSign (h : Nat) (bs : List Byte) (us : List KeyUse)
  | ecdsaVerify (h : Nat) (bs : List Byte) (us : List KeyUse)
  | mldsaSign (h : Nat) (bs : List Byte) (us : List KeyUse)
  | mldsaVerify (h : Nat) (bs : List Byte) (us : List KeyUse)
  | rsaSign (h : Nat) (bs : List Byte) (us : List KeyUse)
  | mlkemEncaps (h : Nat) (bs : List Byte) (us : List KeyUse)
  | mlkemDecaps (h : Nat) (bs : List Byte) (us : List KeyUse)
  | customerFunction (e h : Nat) (cached : Bool)
  -- the Clazeir instructions (R157 to R180); an instruction runs where it is the next of its thread's program
  | add (h : Nat) (rd rs1 rs2 : BitVec 5)
  | sub (h : Nat) (rd rs1 rs2 : BitVec 5)
  | and (h : Nat) (rd rs1 rs2 : BitVec 5)
  | or (h : Nat) (rd rs1 rs2 : BitVec 5)
  | xor (h : Nat) (rd rs1 rs2 : BitVec 5)
  | andn (h : Nat) (rd rs1 rs2 : BitVec 5)
  | shl (h : Nat) (rd rs1 rs2 : BitVec 5)
  | shrz (h : Nat) (rd rs1 rs2 : BitVec 5)
  | shrs (h : Nat) (rd rs1 rs2 : BitVec 5)
  | seteq (h : Nat) (rd rs1 rs2 : BitVec 5)
  | setne (h : Nat) (rd rs1 rs2 : BitVec 5)
  | setlt (h : Nat) (rd rs1 rs2 : BitVec 5)
  | setge (h : Nat) (rd rs1 rs2 : BitVec 5)
  | setltu (h : Nat) (rd rs1 rs2 : BitVec 5)
  | setgeu (h : Nat) (rd rs1 rs2 : BitVec 5)
  | mul (h : Nat) (rd rs1 rs2 : BitVec 5)
  | mulx (h : Nat) (rd rs1 rs2 : BitVec 5)
  | divr (h : Nat) (rd rs1 rs2 : BitVec 5)
  | addk (h : Nat) (rd rs1 : BitVec 5) (imm : BitVec 16)
  | andk (h : Nat) (rd rs1 : BitVec 5) (imm : BitVec 16)
  | ork (h : Nat) (rd rs1 : BitVec 5) (imm : BitVec 16)
  | xork (h : Nat) (rd rs1 : BitVec 5) (imm : BitVec 16)
  | shlk (h : Nat) (rd rs1 : BitVec 5) (imm : BitVec 16)
  | shrzk (h : Nat) (rd rs1 : BitVec 5) (imm : BitVec 16)
  | shrsk (h : Nat) (rd rs1 : BitVec 5) (imm : BitVec 16)
  | ksh (h : Nat) (rd rs1 : BitVec 5) (imm : BitVec 16)
  | setltk (h : Nat) (rd rs1 : BitVec 5) (imm : BitVec 16)
  | setltuk (h : Nat) (rd rs1 : BitVec 5) (imm : BitVec 16)
  | ld (h : Nat) (rd rs1 : BitVec 5) (imm : BitVec 16)
  | lw (h : Nat) (rd rs1 : BitVec 5) (imm : BitVec 16)
  | lh (h : Nat) (rd rs1 : BitVec 5) (imm : BitVec 16)
  | lb (h : Nat) (rd rs1 : BitVec 5) (imm : BitVec 16)
  | st (h : Nat) (rs2 rs1 : BitVec 5) (imm : BitVec 16)
  | sw (h : Nat) (rs2 rs1 : BitVec 5) (imm : BitVec 16)
  | sh (h : Nat) (rs2 rs1 : BitVec 5) (imm : BitVec 16)
  | sb (h : Nat) (rs2 rs1 : BitVec 5) (imm : BitVec 16)
  | br (h : Nat) (cond : Cond) (rs1 rs2 : BitVec 5) (off : BitVec 13)
  | jump (h : Nat) (rd : BitVec 5) (off : BitVec 21)
  | jmpr (h : Nat) (rd rs1 : BitVec 5)
  | mov (h : Nat) (rd rs1 : BitVec 5)
  | glz (h : Nat) (rd rs1 : BitVec 5)
  | hmake (h : Nat) (rd rs1 : BitVec 5)
  | panfield (h : Nat) (rd rs1 rs2 rs3 : BitVec 5)
  | pinchk (h : Nat) (rd rs1 rs2 rs3 : BitVec 5)
  | decim (h : Nat) (rd rs1 rs2 rs3 : BitVec 5)
  | offadd (h : Nat) (rd rs1 rs2 rs3 : BitVec 5)
  | offsub (h : Nat) (rd rs1 rs2 rs3 : BitVec 5)
  | cmpeq (h : Nat) (rd rs1 rs2 rs3 : BitVec 5)
  | maccmp (h : Nat) (rd rs1 rs2 rs3 : BitVec 5)
  | pinconv (h : Nat) (rd rs1 rs2 rs3 : BitVec 5)
  | offpack (h : Nat) (rd rs1 rs2 rs3 : BitVec 5)
  | zeroise (h : Nat) (rd rs1 rs2 rs3 : BitVec 5)
  | ecall (h : Nat) (tk : BitVec 4) (ra rk rb rx : BitVec 5)
  | twait (h : Nat) (tk : BitVec 4) (ra : BitVec 5)
  | twall (h : Nat)
  | rand (h : Nat) (rd : BitVec 5)
  | cinc (h : Nat) (tk : BitVec 4) (rk : BitVec 5)
  | csync (h : Nat)
  | release (h : Nat) (rs1 : BitVec 5)
  | done (h : Nat)
  -- the events of a tile's threads (R130, R135, R148, R150, R153, R176)
  | randResult (h : Nat)
  | threadZeroiseDone (h : Nat)
  | runLimitExpiry (h : Nat)
  | engineResult (h tk m : Nat)
  | tileSelftestDone (t : Nat) (pass : Bool)
  | instructionCacheFill (h : Nat) (ok : Bool)
  -- the symmetric cipher cluster, its nonces and leases (R183 to R203)
  | cipherEncrypt (h tk m : Nat)
  | cipherDecrypt (h tk m : Nat)
  | ghash (h tk m : Nat)
  | nonce (h tk : Nat)
  | windowCommitDurable
  | needLeaseRetry
  | leaseTake (l : Nat)
  | leaseExpiry
  | wardenLeaseGrant
  | coreDispatch (k : Nat) (area : List Byte) (par blocks : Nat)
  | coreSelftestDone (k : Nat) (pass : Bool)
  -- the hash engines and the public-key and lattice engine (R204 to R222)
  | sha256 (h tk : Nat)
  | sha384 (h tk : Nat)
  | sha512 (h tk : Nat)
  | sha3256 (h tk : Nat)
  | sha3384 (h tk : Nat)
  | sha3512 (h tk : Nat)
  | shake128 (h tk : Nat)
  | shake256 (h tk : Nat)
  | hashSqueeze (h tk : Nat)
  | hashEngineDispatch (u : Nat) (area : List Byte) (bad : Bool)
  | hpkSelftestDone (u : Nat) (pass : Bool)
  | pklRsaPrivate (h tk m : Nat)
  | pklRsaPublic (h tk m : Nat)
  | pklEcdsaSign (h tk m : Nat)
  | pklEcdsaVerify (h tk m : Nat)
  | pklEcKeyGeneration (h tk m : Nat)
  | pklEcdh (h tk m : Nat)
  | pklEd25519Sign (h tk m : Nat)
  | pklEd25519Verify (h tk m : Nat)
  | pklX25519 (h tk m : Nat)
  | pklMlkemKeyGeneration (h tk m : Nat)
  | pklMlkemEncapsulation (h tk m : Nat)
  | pklMlkemDecapsulation (h tk m : Nat)
  | pklMldsaSign (h tk m : Nat)
  | pklMldsaVerify (h tk m : Nat)
  | pklRawModularMultiply (h tk m : Nat)
  | pklRawNtt (h tk m : Nat)
  | pklRawInverseNtt (h tk m : Nat)
  | pklUnitDispatch (u : Nat) (area : List Byte) (cause : Nat)
  | pklClockGate
  | pklClockRestart
  -- the key vault: derivation, key requests and key changes (R223 to R249)
  | deriveValue (h tk m : Nat)
  | deriveHandle (h tk m : Nat)
  | info (h tk m : Nat)
  | keyGenerate
  | keyDelete
  | keySetAttr
  | keyQuery
  | vaultStaging (e : Nat)
  | vaultCommitVisible (e : Nat)
  | retiringCopyDrain (e : Nat)
  | faultedSlotClear (slot : Nat)
  | rootRederivation
  | vaultDerivation
  -- the Extended Key Store and the host engine (R136, R173, R174, R250 to R266, R414)
  | lookup (h tk m loc : Nat)
  | hostRead (h tk : Nat) (bs : List Byte)
  | hostWrite (h tk : Nat)
  | hostFill (h tk : Nat)
  | xksSave (m : Nat)
  | xksLoad (img : Option (List Byte)) (m : Nat)
  | xksCopy (m r : Nat)
  | xksDelete (m : Nat)
  | xksTransferEnd
  | dramPllUnlock
  | dramPllRelock (m : Nat)
  | dramRelockTimeout
  | dramTraining (capacity m : Nat)
  -- the entropy source and the DRBG instances (R267 to R277)
  | repetitionCountFail (src : Nat)
  | adaptiveProportionFail (src : Nat)
  | startupTestDone (test sources : Nat)
  | retestTimerExpiry
  | conditionedBlock
  | drbgInstantiateDone (ix : Nat × List Bool)
  | drbgReseedDue (i : Nat)
  | drbgReseedDone (ix : Nat × List Bool)
  -- non-volatile storage and scrubbing (R278 to R299, R423)
  | nvsRecordWrite (k : Nat)
  | nvsOperationDone
  | counterIncrement (k : Nat)
  | counterAdd (k : Nat)
  | counterRaise (k : Nat)
  | journalReclaim
  | nvsJournalRecovery
  | lifetimePeriod
  | mramScrub (corrected : Nat) (bad : List Nat)
  | sramScrubPass (hits : List ScrubHit)
  -- the tamper monitor: alarms, deliveries, supplies and the built-in test (R300 to R320)
  | coreRail (low : Bool) (det detail : Nat) (same : Bool)
  | ioRail (low : Bool) (det detail : Nat) (same : Bool)
  | railRecovery (same : Bool)
  | railFreezeTimeout (same : Bool)
  | clkFreq (det detail : Nat) (same : Bool)
  | clkGlitch (pll : Bool) (det detail : Nat) (same : Bool)
  | tempLow (det detail : Nat) (same : Bool)
  | tempHigh (det detail : Nat) (same : Bool)
  | light (det detail : Nat) (same : Bool)
  | magnetic (det detail : Nat) (same : Bool)
  | mesh (det trace : Nat) (short same : Bool)
  | tampIn (p det : Nat) (same : Bool)
  | debugAccess (same : Bool)
  | tileFaultReport (same : Bool)
  | faultWindowExpiry
  | panic (ns : Nat) (caught same : Bool)
  | managementPanic (v : Via) (w : Word) (same : Bool)
  | wardenSelfcheck (cause : Nat) (same : Bool)
  | backupLoss (main : Bool)
  | lockDelivery
  | eraseDelivery
  | eraseComplete
  | vbatLow
  | vbatLowClear
  | detectorBist (st : Option Nat) (w : Word)
  | bistComplete (response : Nat)
  -- the Warden requests and their timers (R321 to R353, R368, R376)
  | provision (bulk : Option (List Byte))
  | debugEnter (bulk : Option (List Byte))
  | debugExit
  | decommission (bulk : Option (List Byte))
  | statusQuery
  | configSubmit (bulk : Option (List Byte))
  | imageAdmit (bulk : Option (List Byte))
  | imageRetire
  | patchInstall (bulk : Option (List Byte))
  | codesignInstall
  | codesignRevoke
  | xksImageAdvance
  | tr34KrdCreate
  | tr34KrdDelete
  | tr34KdhCa
  | ceremonyOpen
  | ceremonyCollect
  | ceremonyTimeout
  | unlock
  | restoreBegin
  | restoreEnd
  | flagClear
  | timeSet
  | archiveKeyCreate
  | archiveWindowEnd
  | backupWrite
  | auditRead
  | bondEnrol
  | bondStart
  | bondRoster
  | bondLeave
  | bondStatus
  | watchdogExpiry
  -- custodian cards and the backup card (R354 to R377)
  | cardActivation (p : Nat)
  | atrReceive (p : Nat) (bs : List Byte)
  | atrTimeout (p : Nat)
  | ppsResponse (p : Nat) (bs : List Byte)
  | ppsTimeout (p : Nat)
  | t1BlockReceive (p nad pcb : Nat) (inf : List Byte) (ok : Bool)
  | t1BlockTimeout (p : Nat)
  | sWtxRequest (p k : Nat)
  | sAbortRequest (p : Nat)
  | sIfsRequest (p k : Nat)
  | cardResponseTimeout (p : Nat)
  | cardRemoval (p : Nat)
  | select (p : Nat)
  | getInfo (p : Nat)
  | openSession (p : Nat)
  | signAuth (p : Nat)
  | putShare (p : Nat)
  | getShare (p : Nat)
  | closeSession (p : Nat)
  | getResponse (p : Nat)
  | sdCardInit (cmd8 ready ccs s18a sw : Bool) (blocks : Nat) (sdxc : Bool) (top : Nat)
  | sdTuning (ok : Bool)
  | sdBlockWrite (crcs : Nat)
  | sdBlockRead (bs : List Byte) (crcs : Nat)
  | sdBusyEnd
  | sdBusyTimeout
  | sdCardRemoval (data : Bool)
  -- Mortar: sessions, the bond's frames and timers, the relay (R378 to R397)
  | hello (fr : Frame) (p : List Byte)
  | helloReply (fr : Frame) (p : List Byte)
  | finish (fr : Frame) (p : List Byte)
  | sessionRetry (k peer : Nat)
  | join (fr : Frame) (last highest held0 held1 : Nat)
  | joinAccept (fr : Frame) (role last burn0 burn1 : Nat) (roster : List (Nat × List Byte))
  | sync (fr : Frame) (images : List (Nat × List Byte))
  | syncEnd (fr : Frame) (last slots : Nat)
  | heartbeat (fr : Frame) (standby renew : Nat)
  | heartbeatAck (fr : Frame) (state last : Nat)
  | heartbeatInterval
  | frameForward (fr : Frame) (bs : List Byte)
  | prepare (fr : Frame) (txn slot before : Nat) (img : List Byte)
  | prepared (fr : Frame) (txn status : Nat)
  | commit (fr : Frame) (txn : Nat)
  | applied (fr : Frame) (txn status : Nat)
  | abort (fr : Frame) (txn : Nat)
  | leaseRequest (fr : Frame) (highest : Nat)
  | leaseGrant (fr : Frame) (l : Nat)
  | leaseHeld (fr : Frame) (l : Nat)
  | leaseState (fr : Frame) (hw holder ev l : Nat)
  | leaseStateAck (fr : Frame) (hw : Nat)
  | standbyDesignate (fr : Frame) (hw last : Nat) (table : List (Nat × Nat))
  | standbyAccept (fr : Frame) (hw : Nat)
  | promoted (fr : Frame) (last : Nat) (burns : List Nat)
  | nak (fr : Frame) (kind cause manager : Nat)
  | unlockRelay (fr : Frame) (target token : List Byte)
  | unlockResult (fr : Frame) (status : Nat)
  | reset (fr : Frame)
  | retransmitTimer
  | memberLost (m : Nat)
  | cutOff
  | promotion
  | mortarLinkUp (p lanes peer : Nat)
  | mortarLinkDown (p : Nat)
  | relayEnable (st : Option Nat) (w : Word)
  | relayInboundDoorbell (st : Option Nat) (w : Word)
  | relayOutboundDoorbell (st : Option Nat) (w : Word)
  | relayInboundEntry (ok : Bool) (len peer src : Nat) (clean : Bool)
  | relayOutboundEntry
  -- supplies, resets, the release sequence, block resets and maintenance (R398 to R415, R438)
  | powerOn
  | porRelease
  | powerLoss (o : WordOutcome)
  | resetInN (low : Bool) (ns : Nat) (caught : Bool)
  | perstN (low : Bool)
  | resetCmdCold (v : Via) (w : Word)
  | resetCmdWarm (v : Via) (w : Word)
  | hotReset
  | stretchEnd
  | fuseLoad
  | rootPllLock
  | wardenRom
  | kiln (tiles cores units : List Nat) (inject : Bool) (dets : List Nat)
  | configValidation
  | resetOutRelease
  | dataPlaneEnable
  | blockResetHold (v : Via) (w : Word)
  | blockResetRelease (v : Via) (w : Word)
  | blockReleaseTestsDone (b : Nat) (bad : List Nat) (m : Nat)
  | maintenanceEnter (v : Via) (w : Word)
  | maintenanceExit (v : Via) (w : Word)
  -- telemetry, snapshots, the management port and link training (R402, R424 to R432)
  | snapshotCapture (v : Via) (w : Word)
  | telemetrySample (temps mvs devs counts : List (BitVec 16))
  | i3cPrivateRead (off n : Nat) (i2c : Bool)
  | i3cPrivateWrite (bs : List Byte) (i2c : Bool)
  | entdaa (addr : Nat)
  | setdasa (stat addr : Nat)
  | rstdaa
  | enec (events : Nat)
  | disec (events : Nat)
  | getpid
  | getbcr
  | getdcr
  | getstatus
  | getmwl
  | getmrl
  | pcieLinkUp (width rate : Nat) (flit : Bool)
  | pcieLinkDown
deriving DecidableEq, Repr

end Sys2Proof
end

