-- ==== Sys2Proof/Decode.lean ====
section
/-! DEFINITION. The reading of the opcode table's words. The table gives no row any bits, so no word spells a command. (The codec of the
tiles' own instruction words is Machine/Clazeir.lean.) -/

namespace Sys2Proof

/-- No row of the table has bits: no word spells a command of the block. -/
def decodeTableWord (_nbits _w : Nat) : Option Instr := none

end Sys2Proof
end

