-- ==== Sys2Proof/Machine/Bits.lean ====
section
/-! DEFINITION. Bit fields of a register word (R4, R6), little-endian byte order (R3) and the counters that
saturate. -/

namespace Sys2Proof.Machine

/-- The field of `width` bits whose lowest bit is `lo`, as a number. -/
def getF (w : Word) (lo width : Nat) : Nat := (w.extractLsb' lo width).toNat

/-- A word of ones at bits `lo` to `lo + width - 1`. -/
def maskF (lo width : Nat) : Word := ((BitVec.allOnes width).setWidth 64) <<< lo

/-- `w` with that field replaced by `v` (the bits of `v` above the field's width are dropped). -/
def setF (w : Word) (lo width v : Nat) : Word :=
  (w &&& ~~~ maskF lo width) ||| ((BitVec.ofNat width v).setWidth 64 <<< lo)

/-- `new` in the bits that `m` names, `old` elsewhere. -/
def mergeW (old new m : Word) : Word := (old &&& ~~~ m) ||| (new &&& m)

/-- A counting field that stops at its largest value (the RC count fields of the register tables). -/
def satAdd (width old d : Nat) : Nat := if 2 ^ width ≤ old + d then 2 ^ width - 1 else old + d

/-- The low `n` octets of `v`, least significant first (R3). -/
def leBytes : Nat → Nat → List Byte
  | 0, _ => []
  | n + 1, v => BitVec.ofNat 8 v :: leBytes n (v / 256)

/-- The number whose octets, least significant first, are `bs` (R3). -/
def ofLe : List Byte → Nat
  | [] => 0
  | b :: bs => b.toNat + 256 * ofLe bs

/-- The low `n` octets of `v`, most significant first (big-endian octet strings of the standards). -/
def beBytes (n v : Nat) : List Byte := (leBytes n v).reverse

/-- The number whose octets, most significant first, are `bs`. -/
def ofBe (bs : List Byte) : Nat := ofLe bs.reverse

/-- The octets of a bit vector of `8 * n` bits, least significant first. -/
def bvBytes (n : Nat) {w : Nat} (v : BitVec w) : List Byte := leBytes n v.toNat

/-- The bit vector whose octets, least significant first, are `bs`; octets beyond the width are dropped. -/
def bytesBv (w : Nat) (bs : List Byte) : BitVec w := BitVec.ofNat w (ofLe bs)

/-- `n` octets of `bs` from `off`, with zero octets past its end. -/
def slice (bs : List Byte) (off n : Nat) : List Byte := (bs.drop off ++ List.replicate n 0).take n

/-- The little-endian number in `n` octets of `bs` from `off`. -/
def leAt (bs : List Byte) (off n : Nat) : Nat := ofLe (slice bs off n)

/-- The big-endian number in `n` octets of `bs` from `off`. -/
def beAt (bs : List Byte) (off n : Nat) : Nat := ofBe (slice bs off n)

/-- Every octet is zero: the rule for reserved bytes (R11). -/
def allZero (bs : List Byte) : Bool := bs.all (fun b => b == 0)

/-- `new` written over `bs` from `off` (octets past the end of `bs` are dropped). -/
def overlay (bs : List Byte) (off : Nat) (new : List Byte) : List Byte :=
  (bs.take off ++ new ++ bs.drop (off + new.length)).take bs.length

/-- Nibble `k` of an octet string, the high nibble of octet 0 first (R166). -/
def nibble (bs : List Byte) (k : Nat) : Nat :=
  let b := (slice bs (k / 2) 1).head?.getD 0
  if k % 2 = 0 then b.toNat / 16 else b.toNat % 16

/-- The nibbles of an octet string, high nibble first. -/
def nibbles (bs : List Byte) : List Nat := bs.flatMap (fun b => [b.toNat / 16, b.toNat % 16])

/-- The octets whose nibbles are `ns`, high nibble first; an odd last nibble is padded with 0. -/
def packNibbles : List Nat → List Byte
  | [] => []
  | [a] => [BitVec.ofNat 8 (16 * (a % 16))]
  | a :: b :: r => BitVec.ofNat 8 (16 * (a % 16) + b % 16) :: packNibbles r

/-- Exclusive-or of two octet strings, the shorter deciding the length. -/
def xorBytes (a b : List Byte) : List Byte := List.zipWith (fun x y => x ^^^ y) a b

end Sys2Proof.Machine
end

