-- ==== Sys2Proof/Machine/Pin.lean ====
section
/-! DEFINITION. PIN fields, PAN fields, offsets and decimalisation as nibble strings (R94, R100 to R106): the first nibble
is the high nibble of octet 0. -/

namespace Sys2Proof.Machine

/-- A format of R100. -/
def pinFormatOk (f : Nat) : Bool := f == 0 || f == 1 || f == 3 || f == 4

/-- Nibbles of the PIN field of a format: 16, or 32 for format 4. -/
def pinWidth (f : Nat) : Nat := if f = 4 then 32 else 16

/-- Octets of the cipher block of a format. -/
def pinBytes (f : Nat) : Nat := if f = 4 then 16 else 8

/-- Nibble `i` of a nibble string; 0 past its end. -/
def nib (ns : List Nat) (i : Nat) : Nat := ns.getD i 0

/-- The PAN is in range (R94). -/
def panOk (pan digits : Nat) : Bool := decide (12 ≤ digits) && decide (digits ≤ 19) && decide (pan < 10 ^ digits)

/-- `n` decimal digits of `v`, the leftmost first, with leading zeros. -/
def decDigits : Nat → Nat → List Nat
  | 0, _ => []
  | n + 1, v => decDigits n (v / 10) ++ [v % 10]

/-- The number that decimal digits spell. -/
def ofDigits (ds : List Nat) : Nat := ds.foldl (fun a x => 10 * a + x) 0

/-- The PAN field (R100): of formats 0 and 3 four zero nibbles and the 12 rightmost digits without the check digit; of
format 4 the digit count less 12, the digits, and zeros. -/
def panField (f pan digits : Nat) : List Nat :=
  if f = 4 then ((digits - 12) :: decDigits digits pan ++ List.replicate 32 0).take 32
  else [0, 0, 0, 0] ++ decDigits 12 (pan / 10)

/-- A fill nibble of format `f` at nibble `i` is one that R100 allows; the fill of format 1 and the second eight octets of
format 4 are unchecked (R102). -/
def fillOk (f i v : Nat) : Bool :=
  match f with
  | 0 => v == 15
  | 3 => decide (10 ≤ v)
  | 4 => if i < 16 then v == 10 else true
  | _ => true

/-- The PIN field of format `f` passes every check of R102 with lengths `lo` to `hi`. -/
def pinFieldOk (f lo hi : Nat) (ns : List Nat) : Bool :=
  let l := nib ns 1
  nib ns 0 == f && decide (lo ≤ l) && decide (l ≤ hi) && decide (l ≤ 14)
    && (List.range l).all (fun i => decide (nib ns (2 + i) ≤ 9))
    && (List.range (pinWidth f)).all (fun i => decide (i < 2 + l) || fillOk f i (nib ns i))

/-- Nibble `i` of a random word. -/
def wordNib (w : Word) (i : Nat) : Nat := getF w (4 * (i % 16)) 4

/-- A fill nibble of destination format `f` at nibble `i`, from the random words `r` and `r2` (R100). -/
def fillNib (f i : Nat) (r r2 : Word) : Nat :=
  match f with
  | 0 => 15
  | 1 => wordNib r i
  | 3 => 10 + wordNib r i % 6
  | _ => if i < 16 then 10 else wordNib r2 i

/-- PINCONV's field (R145): the destination's control nibble, L and the min(L, 14) nibbles after it unchanged, and the
destination's fill. -/
def pinConv (dst : Nat) (ns : List Nat) (r r2 : Word) : List Nat :=
  let l := nib ns 1
  let k := min l 14
  (List.range (pinWidth dst)).map (fun i =>
    if i = 0 then dst else if i = 1 then l else if i < 2 + k then nib ns i else fillNib dst i r r2)

/-- The destination draws random fill (R100, R145). -/
def pinDraws (dst : Nat) : Bool := dst != 0

/-- The entry of a decimalisation table for value `v`: entry 0 is the high nibble of its first octet (R104). -/
def decEntry (table : List Nat) (v : Nat) : Nat := nib table v

/-- A table that R105 accepts. -/
def decTableOk (table : List Nat) : Bool :=
  (List.range 10).all (fun v => decEntry table v == v) && (List.range 6).all (fun v => decide (decEntry table (10 + v) ≤ 9))

/-- The leftmost `n` nibbles of `value`, each mapped through the table (R143). -/
def decim (table value : List Nat) (n : Nat) : List Nat := (List.range n).map (fun i => decEntry table (nib value i))

/-- Digits (a + b) mod 10 and (a - b) mod 10, digit by digit (R143). -/
def digAdd (a b : List Nat) (n : Nat) : List Nat := (List.range n).map (fun i => (nib a i + nib b i) % 10)
def digSub (a b : List Nat) (n : Nat) : List Nat := (List.range n).map (fun i => (nib a i + 20 - nib b i) % 10)

/-- The offset layout of R106 with random fill from 0xA to 0xF, `width` octets. -/
def offPack (digits : List Nat) (n width : Nat) (r r2 : Word) : List Nat :=
  (List.range (2 * width)).map (fun i =>
    if i = 0 then 12 else if i = 1 then n else if i < 2 + n then nib digits (i - 2)
    else 10 + wordNib (if i < 16 then r else r2) i % 6)

/-- An offset layout with its digits, if its form is right: nibble 0xC, L, digits, fill `fill` (R106). -/
def offParse (ns : List Nat) (n width : Nat) (fill : Nat → Bool) : Option (List Nat) :=
  if nib ns 0 == 12 && nib ns 1 == n && (List.range n).all (fun i => decide (nib ns (2 + i) ≤ 9))
      && (List.range (2 * width)).all (fun i => decide (i < 2 + n) || fill (nib ns i)) then
    some ((List.range n).map (fun i => nib ns (2 + i)))
  else none

/-- The octets of a 64-bit word, low byte first, as nibbles. -/
def wordNibbles (w : Word) : List Nat := nibbles (bvBytes 8 w)

/-- The word whose octets have the nibbles `ns`, padded with zero nibbles (R166). -/
def nibWord (ns : List Nat) : Word := bytesBv 64 (packNibbles ((ns ++ List.replicate 16 0).take 16))

end Sys2Proof.Machine
end

