-- ==== Sys2Proof/Config.lean ====
section
/-! DEFINITION. What the spec leaves open (free values: constants without a body, so that nothing can be proved of their
value) and the standards it names without stating them (the cryptographic primitives, uninterpreted). Blocks are bit
vectors with octet 0 in the low byte (R157); octet strings are lists in transmission order (R3). -/

namespace Sys2Proof

/-- A free 64-bit value: the n-th value that the spec does not fix and the block goes on with (random words of the DRBG
instances R17, R176, random fills R145, and the values named in notes/assumptions). -/
opaque Config.freeWord : Nat → BitVec 64

/-- Octet `k` of the n-th free octet string (generated keys, salts, nonces, random octets). -/
opaque Config.freeByte : Nat → Nat → BitVec 8

/-- The n-th 1,024 raw bits of the noise sources, the first of them bit 0 (R266, R268). -/
opaque Config.rawBits : Nat → BitVec 1024

/-- `len` octets of the n-th free octet string. -/
def Config.freeBytes (n len : Nat) : List (BitVec 8) := (List.range len).map (Config.freeByte n)

/-- An octet string cut or filled with zeros to the `n` octets that its standard gives. -/
def Config.fit (n : Nat) (bs : List (BitVec 8)) : List (BitVec 8) := (bs ++ List.replicate n 0).take n

/-! ## Roots (R231, R234) -/

/-- The Device Root Key, blown at the factory. -/
opaque Config.deviceRootKey : List (BitVec 8)
/-- The Test Root Key of R234. -/
opaque Config.testRootKey : List (BitVec 8)
/-- The vendor's key that signs the device's own images, patches and restores, as the verifier sees it. -/
opaque Config.vendorKey : List (BitVec 8)

/-! ## Primitives of the named standards -/

/-- One AES block under a 16, 24 or 32-octet key (FIPS 197), forward and inverse. -/
opaque Config.aesEnc : List (BitVec 8) → BitVec 128 → BitVec 128
opaque Config.aesDec : List (BitVec 8) → BitVec 128 → BitVec 128
/-- One TDEA block under a two- or three-key bundle. -/
opaque Config.tdeaEnc : List (BitVec 8) → BitVec 64 → BitVec 64
opaque Config.tdeaDec : List (BitVec 8) → BitVec 64 → BitVec 64
/-- AES-CMAC (SP 800-38B) under a key of 16, 24 or 32 octets. -/
opaque Config.cmac : List (BitVec 8) → List (BitVec 8) → BitVec 128
/-- CRC-32C, four octets, the least significant first. -/
opaque Config.crc32c : List (BitVec 8) → BitVec 32
/-- Multiplication in GF(2^128) with the bit order of SP 800-38D. -/
opaque Config.gfMul : BitVec 128 → BitVec 128 → BitVec 128
/-- AES-SIV (RFC 5297): key, associated data, plaintext to SIV and ciphertext; and back, none when the SIV fails. -/
opaque Config.sivSeal : List (BitVec 8) → List (BitVec 8) → List (BitVec 8) → List (BitVec 8)
opaque Config.sivOpen : List (BitVec 8) → List (BitVec 8) → List (BitVec 8) → Option (List (BitVec 8))
/-- AES-256-GCM for links, cards and the archive: key, nonce, associated data, plaintext to ciphertext and tag; and
back, none when the tag fails. -/
opaque Config.gcmSeal : List (BitVec 8) → List (BitVec 8) → List (BitVec 8) → List (BitVec 8) → List (BitVec 8)
opaque Config.gcmOpen : List (BitVec 8) → List (BitVec 8) → List (BitVec 8) → List (BitVec 8) → Option (List (BitVec 8))
/-- SHA-256, SHA-384 and SHA-1 of a whole string. -/
opaque Config.sha256Of : List (BitVec 8) → List (BitVec 8)
opaque Config.sha384Of : List (BitVec 8) → List (BitVec 8)
opaque Config.sha1Of : List (BitVec 8) → List (BitVec 8)
def Config.sha256 (m : List (BitVec 8)) : List (BitVec 8) := Config.fit 32 (Config.sha256Of m)
def Config.sha384 (m : List (BitVec 8)) : List (BitVec 8) := Config.fit 48 (Config.sha384Of m)
def Config.sha1 (m : List (BitVec 8)) : List (BitVec 8) := Config.fit 20 (Config.sha1Of m)
/-- One step of a hash engine: the algorithm of R174, the chaining or sponge state and one block to the next state. -/
opaque Config.hashStep : Nat → List (BitVec 8) → List (BitVec 8) → List (BitVec 8)
/-- The initial state of an algorithm. -/
opaque Config.hashInit : Nat → List (BitVec 8)
/-- Keccak's permutation, for SQUEEZE (R208). -/
opaque Config.keccak : List (BitVec 8) → List (BitVec 8)
/-- The public key of a private key of an algorithm (R226), by ALG. -/
opaque Config.publicOf : Nat → List (BitVec 8) → List (BitVec 8)
/-- What the standards give for a public-key or lattice operation of R175 on operands that pass its format checks: OP, MOD, operand
block, key, random octets to the octets of the secret it installs, if any, and of its result; ML-KEM decapsulation of an invalid
ciphertext gives the pseudorandom secret of its implicit rejection (R216), and the low bit of a verification's first octet says
whether the signature verifies. -/
opaque Config.pkl : Nat → Nat → List (BitVec 8) → List (BitVec 8) → List (BitVec 8) → List (BitVec 8)
/-- One EMV or ANSI X9.24-3 derivation: method of R245, the parent's algorithm code, parent key, data to the child. -/
opaque Config.deriveStep : Nat → Nat → List (BitVec 8) → List (BitVec 8) → List (BitVec 8)
/-- A MAC of ANSI X9.19, ISO/IEC 9797-1 or CMAC under an algorithm code: method, key, message. -/
opaque Config.mac : Nat → List (BitVec 8) → List (BitVec 8) → List (BitVec 8)
/-- FF1 (SP 800-38G), radix 10: key, tweak, numeral string to numeral string, forward and inverse. -/
opaque Config.ff1Enc : List (BitVec 8) → List (BitVec 8) → List Nat → List Nat
opaque Config.ff1Dec : List (BitVec 8) → List (BitVec 8) → List Nat → List Nat
/-- The RSA key in a key block under its KBPK: modulus, public and private exponent; none when the block is not version D with usage S0
or its MAC fails. -/
opaque Config.rsaKey : List (BitVec 8) → List (BitVec 8) → Option (Nat × Nat × Nat)
/-- The octets of a modulus. -/
def rsaOctets (n : Nat) : Nat := (Nat.log2 n + 8) / 8
/-- The modulus octets of the RSA key in a key block. -/
def Config.rsaModulus (kbpk kb : List (BitVec 8)) : Option Nat := (Config.rsaKey kbpk kb).map (fun k => rsaOctets k.1)
/-- The encoded message representative of RSASSA-PKCS1-v1_5 (7) or RSASSA-PSS (8): scheme, HASH, digest, modulus octets, salt (R125). -/
opaque Config.rsaEncode : Nat → Nat → List (BitVec 8) → Nat → List (BitVec 8) → List (BitVec 8)
/-- A signature check: algorithm (0 ECDSA P-384 with SHA-384, 1 ML-DSA-87), public key, message, signature. -/
opaque Config.verify : Nat → List (BitVec 8) → List (BitVec 8) → List (BitVec 8) → Bool
/-- A signature made: algorithm, private seed, message. -/
opaque Config.sign : Nat → List (BitVec 8) → List (BitVec 8) → List (BitVec 8)
/-- An X9.143 key block opened under a KBPK: the key, none when its MAC fails; and a key wrapped under a KBPK with a header. -/
opaque Config.keyBlockOpen : List (BitVec 8) → List (BitVec 8) → Option (List (BitVec 8))
opaque Config.keyBlockWrap : List (BitVec 8) → List (BitVec 8) → List (BitVec 8) → List (BitVec 8)
/-- The optional blocks of a key block are well formed; and the check value that its KC optional block carries, if it has one. -/
opaque Config.keyBlockOptional : List (BitVec 8) → Bool
opaque Config.keyBlockKc : List (BitVec 8) → Option (List (BitVec 8))
/-- A TR-34 key token is a two-pass one, as its unencrypted part says. -/
opaque Config.tr34TwoPass : List (BitVec 8) → Bool
/-- A TR-34 key token under a KRD private key and a KDH CA certificate: none when the signature, the chain or the decryption
fails; else octets 0 to 7 are the signing time, 8 to 23 the random number it carries, 24 to 39 the X9.143 header, and the key follows. -/
opaque Config.tr34Open : List (BitVec 8) → List (BitVec 8) → List (BitVec 8) → Option (List (BitVec 8))
/-- An octet string is a well-formed DER X.509 certificate with an RSA or ECDSA key. -/
opaque Config.certOk : List (BitVec 8) → Bool
/-- An RSA key pair of a bit length from random octets: the private key as a record holds it, and its SubjectPublicKeyInfo. -/
opaque Config.rsaPrivate : Nat → List (BitVec 8) → List (BitVec 8)
opaque Config.rsaPublic : Nat → List (BitVec 8) → List (BitVec 8)
/-- The cyclic check of a T=1 block (ISO/IEC 13239). -/
opaque Config.crc16 : List (BitVec 8) → List (BitVec 8)
/-- The public half of a signature key derived from a seed: 0 ECDSA P-384, 1 ML-DSA-87. -/
opaque Config.signPublic : Nat → List (BitVec 8) → List (BitVec 8)
/-- The digest of the boot ROM (R350). -/
opaque Config.romDigest : List (BitVec 8)

/-- Shamir shares over GF(2^8): threshold, the secret's octets and random octets to the share of point x; and back. -/
opaque Config.shareOf : Nat → List (BitVec 8) → List (BitVec 8) → Nat → List (BitVec 8)
opaque Config.shareJoin : List (Nat × List (BitVec 8)) → List (BitVec 8)
/-- An ECDH agreement with a peer's public value, and the key derivation of a link or a card session. -/
opaque Config.agree : List (BitVec 8) → List (BitVec 8) → List (BitVec 8)

/-- An ML-KEM-1024 encapsulation key from a seed; the ciphertext to such a key and the shared secret, from random octets; and the
shared secret that a seed's owner takes from a ciphertext (R382). -/
opaque Config.kemKey : List (BitVec 8) → List (BitVec 8)
opaque Config.kemEncaps : List (BitVec 8) → List (BitVec 8) → List (BitVec 8)
opaque Config.kemShared : List (BitVec 8) → List (BitVec 8) → List (BitVec 8)
opaque Config.kemDecaps : List (BitVec 8) → List (BitVec 8) → List (BitVec 8)
/-- Whether the member of a bond (BOND_ID) that a DEVICE_ID names was certified MANAGER_ELIGIBLE, where no session has shown its
certificate. -/
opaque Config.eligible : List (BitVec 8) → List (BitVec 8) → Bool

/-- Tamvewald's MIPI manufacturer ID with its type selector, and the last 16 bits of the Provisional ID (R427). -/
opaque Config.mipiManufacturer : BitVec 16
opaque Config.mipiInstance : BitVec 16

/-- The vendor's certificate chain of SPDM slot 0, up to the device certificate (R349), and the capabilities of the SPDM responder that
the spec does not state. -/
opaque Config.vendorChain : List (BitVec 8)
opaque Config.spdmTiming : BitVec 8
/-- HMAC with SHA-384: key, message. -/
opaque Config.hmac384Of : List (BitVec 8) → List (BitVec 8) → List (BitVec 8)
def Config.hmac384 (k m : List (BitVec 8)) : List (BitVec 8) := Config.fit 48 (Config.hmac384Of k m)

end Sys2Proof
end

