-- ==== Sys2Proof/Machine/Regs.lean ====
section
/-! DEFINITION. The register map (R4, R6, R9, R38, R39): one row for every register heading of the spec's
register tables, with its Reset value and the bits of each access type and change class, and one name for every field.
Registers are numbered by their offset in the physical function's BAR0; the registers of virtual function n that its
own BAR0 holds (courses, RNG_DATA, RNG_STATUS) by n * 0x100000 plus their offset there (R39). -/

namespace Sys2Proof.Machine

/-- One register heading. `count` registers lie `stride` bytes apart from `base`. `view` 0: only in the physical
function's BAR0; 1: in every function's view; 2: only in a virtual function's view. `rw` leaves out the fields whose
write has a command of its own. `keep` are the bits whose Description says that they survive warm reset (R9). -/
structure RegRow where
  base : Nat
  stride : Nat
  count : Nat
  view : Nat
  reset : Word
  rw : Word
  w1c : Word
  rc : Word
  sBits : Word
  hBits : Word
  keep : Word
deriving DecidableEq, Repr

/-- A register field: the register's number, its lowest bit and its width. -/
structure Fld where
  reg : Nat
  lo : Nat
  width : Nat
deriving DecidableEq, Repr

/-- The HIU_ registers (02_host_link_and_courses.md). -/
def regRowsHiu : List RegRow := [
  ⟨0x0, 0x8, 1, 0, 0xc19400, 0x0, 0x0, 0x0, 0x0, 0x0, 0x0⟩,
  ⟨0x10, 0x8, 1, 0, 0x0, 0x0, 0x1, 0x0, 0x0, 0x0, 0x0⟩,
  ⟨0x18, 0x8, 1, 0, 0x0, 0x0, 0x0, 0x0, 0x0, 0x0, 0x0⟩,
  ⟨0x100, 0x8, 16, 0, 0x0, 0x0, 0x0, 0x0, 0x0, 0x0, 0x0⟩,
  ⟨0x1000, 0x20, 256, 1, 0x0, 0xfffffffffffff000, 0x0, 0x0, 0xfffffffffffff000, 0x0, 0x0⟩,
  ⟨0x1008, 0x20, 256, 1, 0x100000000, 0xf00ff000f, 0x0, 0x0, 0xff000f, 0xf00000000, 0x0⟩,
  ⟨0x1010, 0x20, 256, 1, 0x10000000000, 0x0, 0x20000000000, 0x0, 0x0, 0x0, 0x0⟩,
  ⟨0x1018, 0x20, 256, 1, 0x0, 0x0, 0x0, 0x0, 0x0, 0x0, 0x0⟩,
  ⟨0x3000, 0x20, 256, 1, 0x0, 0xfffffffffffff000, 0x0, 0x0, 0xfffffffffffff000, 0x0, 0x0⟩,
  ⟨0x3008, 0x20, 256, 1, 0x100000000, 0xffff07ff000f, 0x0, 0x0, 0x7ff000f, 0xffff00000000, 0x0⟩,
  ⟨0x3010, 0x20, 256, 1, 0x100000000, 0x0, 0x20000000000, 0x0, 0x0, 0x0, 0x0⟩,
  ⟨0x3018, 0x20, 256, 1, 0x0, 0x0, 0x0, 0x0, 0x0, 0x0, 0x0⟩]

/-- The PART_ registers (02_host_link_and_courses.md). -/
def regRowsPart : List RegRow := [
  ⟨0x10000, 0x40, 64, 0, 0x0, 0x0, 0x0, 0x0, 0x0, 0x0, 0x0⟩,
  ⟨0x10008, 0x40, 64, 0, 0x0, 0x0, 0x0, 0x0, 0x0, 0x0, 0x0⟩,
  ⟨0x10010, 0x40, 64, 0, 0x0, 0x0, 0x0, 0x0, 0x0, 0x0, 0x0⟩,
  ⟨0x10018, 0x40, 64, 0, 0x0, 0x0, 0x0, 0x0, 0x0, 0x0, 0x0⟩,
  ⟨0x10020, 0x40, 64, 0, 0x80000000000000, 0x0, 0x0, 0x0, 0x0, 0x0, 0xffffffff⟩,
  ⟨0x10028, 0x40, 64, 0, 0x0, 0x0, 0x0, 0x0, 0x0, 0x0, 0x0⟩]

/-- The DSP_ registers (03_commands_contexts_ordering.md). -/
def regRowsDsp : List RegRow := [
  ⟨0x20000, 0x8, 1, 0, 0x0, 0x0, 0x0, 0x0, 0x0, 0x0, 0xffffffffffffffff⟩,
  ⟨0x20008, 0x8, 1, 0, 0x0, 0x0, 0x0, 0x0, 0x0, 0x0, 0x0⟩,
  ⟨0x20010, 0x8, 1, 0, 0x0, 0x0, 0x0, 0x3fff, 0x0, 0x0, 0x0⟩,
  ⟨0x20018, 0x8, 1, 0, 0x0, 0x0, 0x0, 0x0, 0x0, 0x0, 0x0⟩,
  ⟨0x20020, 0x8, 1, 0, 0x0, 0x0, 0x0, 0x0, 0x0, 0x0, 0x0⟩]

/-- The TILE_ registers (05_tiles_and_glaze.md). -/
def regRowsTile : List RegRow := [
  ⟨0x40000, 0x8, 1, 0, 0x0, 0x0, 0x0, 0x0, 0x0, 0x0, 0x0⟩,
  ⟨0x40008, 0x8, 1, 0, 0x0, 0x0, 0x0, 0x0, 0x0, 0x0, 0x0⟩,
  ⟨0x40010, 0x8, 1, 0, 0x0, 0x0, 0x0, 0x0, 0x0, 0x0, 0xffffffffffffffff⟩,
  ⟨0x40018, 0x8, 1, 0, 0x0, 0x0, 0x1, 0x0, 0x0, 0x0, 0x0⟩,
  ⟨0x40020, 0x8, 1, 0, 0x4, 0xf, 0x0, 0x0, 0xf, 0x0, 0x0⟩,
  ⟨0x40028, 0x8, 1, 0, 0x40000, 0xffffffff, 0x0, 0x0, 0x0, 0xffffffff, 0x0⟩,
  ⟨0x40030, 0x8, 1, 0, 0x0, 0x0, 0x0, 0xffffffffffff, 0x0, 0x0, 0x0⟩,
  ⟨0x40038, 0x8, 1, 0, 0x0, 0x0, 0x0, 0x0, 0x0, 0x0, 0x0⟩,
  ⟨0x40040, 0x8, 1, 0, 0x0, 0x0, 0x0, 0x0, 0x0, 0x0, 0xffffffffffffffff⟩,
  ⟨0x40100, 0x8, 64, 0, 0x30000, 0x0, 0x0, 0x0, 0x0, 0x0, 0xffff⟩]

/-- The CIPH_ registers (07_cipher_cluster.md). -/
def regRowsCiph : List RegRow := [
  ⟨0x50000, 0x8, 1, 0, 0x0, 0x0, 0x0, 0x0, 0x0, 0x0, 0x0⟩,
  ⟨0x50008, 0x8, 1, 0, 0x0, 0x0, 0x0, 0x0, 0x0, 0x0, 0x0⟩,
  ⟨0x50010, 0x8, 1, 0, 0x0, 0x0, 0x0, 0x0, 0x0, 0x0, 0xffffffffffff⟩,
  ⟨0x50018, 0x8, 1, 0, 0x0, 0x0, 0x1, 0x0, 0x0, 0x0, 0x0⟩,
  ⟨0x50020, 0x8, 1, 0, 0x80000, 0xfffff, 0x0, 0x0, 0x0, 0xfffff, 0x0⟩,
  ⟨0x50028, 0x8, 1, 0, 0x0, 0x0, 0x0, 0x0, 0x0, 0x0, 0xffffffff⟩,
  ⟨0x50030, 0x8, 1, 0, 0x0, 0x0, 0x0, 0x0, 0x0, 0x0, 0xfffffffffff⟩,
  ⟨0x50038, 0x8, 1, 0, 0x0, 0x0, 0x0, 0x0, 0x0, 0x0, 0xfffffffffff⟩,
  ⟨0x50040, 0x8, 1, 0, 0x0, 0x0, 0x0, 0x0, 0x0, 0x0, 0x0⟩,
  ⟨0x50048, 0x8, 1, 0, 0x0, 0x0, 0x0, 0x0, 0x0, 0x0, 0xffffffffffffffff⟩,
  ⟨0x50050, 0x8, 1, 0, 0x0, 0x0, 0x0, 0x0, 0x0, 0x0, 0x0⟩,
  ⟨0x50058, 0x8, 1, 0, 0x0, 0x0, 0x0, 0x0, 0x0, 0x0, 0x0⟩,
  ⟨0x50060, 0x8, 1, 0, 0x0, 0x0, 0x0, 0xffffffffffff, 0x0, 0x0, 0x0⟩,
  ⟨0x50068, 0x8, 1, 0, 0x0, 0x0, 0x0, 0x0, 0x0, 0x0, 0x0⟩,
  ⟨0x50070, 0x8, 1, 0, 0x0, 0x0, 0x0, 0x0, 0x0, 0x0, 0xffffffffffffffff⟩]

/-- The HPK_ registers (08_hash_and_public_key.md). -/
def regRowsHpk : List RegRow := [
  ⟨0x60000, 0x8, 1, 0, 0x0, 0x0, 0x0, 0x0, 0x0, 0x0, 0x0⟩,
  ⟨0x60008, 0x8, 1, 0, 0x0, 0x0, 0x0, 0x0, 0x0, 0x0, 0x0⟩,
  ⟨0x60010, 0x8, 1, 0, 0x0, 0x0, 0x0, 0x0, 0x0, 0x0, 0xffffffff⟩,
  ⟨0x60018, 0x8, 1, 0, 0x2, 0x0, 0x1, 0x0, 0x0, 0x0, 0x0⟩,
  ⟨0x60020, 0x8, 1, 0, 0x0, 0x0, 0x0, 0x0, 0x0, 0x0, 0x0⟩,
  ⟨0x60028, 0x8, 1, 0, 0x3e8, 0xffff, 0x0, 0x0, 0x0, 0xffff, 0x0⟩,
  ⟨0x60030, 0x8, 1, 0, 0x0, 0x0, 0x0, 0xffffffffffff, 0x0, 0x0, 0x0⟩,
  ⟨0x60038, 0x8, 1, 0, 0x0, 0x0, 0x0, 0x0, 0x0, 0x0, 0x0⟩,
  ⟨0x60040, 0x8, 1, 0, 0x0, 0x0, 0x0, 0x0, 0x0, 0x0, 0xffffffffffffffff⟩]

/-- The VLT_ registers (09_key_vault.md). -/
def regRowsVlt : List RegRow := [
  ⟨0x70000, 0x8, 1, 0, 0x0, 0x0, 0x0, 0x0, 0x0, 0x0, 0x10⟩,
  ⟨0x70008, 0x8, 1, 0, 0x0, 0x0, 0x0, 0x0, 0x0, 0x0, 0x0⟩,
  ⟨0x70010, 0x8, 1, 0, 0x0, 0x0, 0x0, 0x0, 0x0, 0x0, 0x1ffff00000000⟩,
  ⟨0x70018, 0x8, 1, 0, 0x0, 0x0, 0x0, 0xffffffffffff, 0x0, 0x0, 0x0⟩,
  ⟨0x70020, 0x8, 1, 0, 0x0, 0x0, 0x0, 0x0, 0x0, 0x0, 0xffffffffffffffff⟩,
  ⟨0x70100, 0x8, 64, 0, 0x0, 0x0, 0x0, 0x0, 0x0, 0x0, 0x0⟩]

/-- The XKS_ registers (10_extended_key_store.md). -/
def regRowsXks : List RegRow := [
  ⟨0x80000, 0x8, 1, 0, 0x0, 0x0, 0x10, 0x0, 0x0, 0x0, 0x24⟩,
  ⟨0x80008, 0x8, 1, 0, 0x0, 0x0, 0x0, 0x0, 0x0, 0x0, 0x0⟩,
  ⟨0x80010, 0x8, 1, 0, 0x0, 0x0, 0x0, 0xffffffffffffffff, 0x0, 0x0, 0x0⟩,
  ⟨0x80018, 0x8, 1, 0, 0x0, 0x0, 0x0, 0x0, 0x0, 0x0, 0x0⟩,
  ⟨0x80020, 0x8, 1, 0, 0x0, 0x0, 0x0, 0x0, 0x0, 0x0, 0xffffffffffffffff⟩,
  ⟨0x80040, 0x8, 1, 0, 0x0, 0x3f07, 0x0, 0x0, 0x3f07, 0x0, 0x0⟩,
  ⟨0x80048, 0x8, 1, 0, 0x0, 0xffff07ffffff, 0x0, 0x0, 0xffff07ffffff, 0x0, 0x0⟩,
  ⟨0x80050, 0x8, 1, 0, 0x0, 0xfffffff, 0x0, 0x0, 0xfffffff, 0x0, 0x0⟩,
  ⟨0x80058, 0x8, 1, 0, 0x0, 0xfffffffffffffff0, 0x0, 0x0, 0xfffffffffffffff0, 0x0, 0x0⟩,
  ⟨0x80060, 0x8, 1, 0, 0x0, 0xffffffffffffffff, 0x0, 0x0, 0xffffffffffffffff, 0x0, 0x0⟩,
  ⟨0x80068, 0x8, 1, 0, 0x0, 0x0, 0x0, 0x0, 0x0, 0x0, 0x0⟩,
  ⟨0x80070, 0x8, 1, 0, 0x0, 0x0, 0x0, 0x0, 0x0, 0x0, 0x0⟩,
  ⟨0x80100, 0x8, 64, 0, 0x0, 0x0, 0x0, 0x0, 0x0, 0x0, 0x0⟩,
  ⟨0x80300, 0x8, 64, 0, 0x0, 0x0, 0x0, 0x0, 0x0, 0x0, 0x0⟩]

/-- The RNG_ registers (11_entropy_and_random.md). -/
def regRowsRng : List RegRow := [
  ⟨0x90000, 0x8, 1, 0, 0x0, 0x0, 0x0, 0x80000000ffffffff, 0x0, 0x0, 0x0⟩,
  ⟨0x8000, 0x8, 1, 2, 0x0, 0x0, 0x0, 0x80000000ffffffff, 0x0, 0x0, 0x0⟩,
  ⟨0x90008, 0x8, 1, 0, 0x0, 0x0, 0x1, 0x0, 0x0, 0x0, 0x0⟩,
  ⟨0x8008, 0x8, 1, 2, 0x0, 0x0, 0x1, 0x0, 0x0, 0x0, 0x0⟩,
  ⟨0x90010, 0x8, 1, 0, 0x0, 0x0, 0x0, 0x0, 0x0, 0x0, 0x330033⟩,
  ⟨0x90018, 0x8, 1, 0, 0x0, 0x0, 0x0, 0xffffffffffff, 0x0, 0x0, 0x0⟩,
  ⟨0x90020, 0x8, 1, 0, 0x0, 0x0, 0x0, 0x0, 0x0, 0x0, 0xffffffffffffffff⟩]

/-- The NVS_ registers (12_nonvolatile_store.md). -/
def regRowsNvs : List RegRow := [
  ⟨0xa0000, 0x8, 1, 0, 0x0, 0x0, 0x16, 0x0, 0x0, 0x0, 0x0⟩,
  ⟨0xa0008, 0x8, 1, 0, 0x0, 0x0, 0x0, 0x0, 0x0, 0x0, 0x0⟩,
  ⟨0xa0010, 0x8, 1, 0, 0x0, 0x0, 0x0, 0x0, 0x0, 0x0, 0x0⟩,
  ⟨0xa0018, 0x8, 1, 0, 0x0, 0x0, 0x0, 0x0, 0x0, 0x0, 0x0⟩,
  ⟨0xa0020, 0x8, 1, 0, 0x0, 0x0, 0x0, 0xffffffffffffffff, 0x0, 0x0, 0x0⟩,
  ⟨0xa0028, 0x8, 1, 0, 0x0, 0x0, 0x0, 0x0, 0x0, 0x0, 0x0⟩,
  ⟨0xa0030, 0x8, 1, 0, 0x0, 0x0, 0x0, 0x0, 0x0, 0x0, 0xffffffffffffffff⟩,
  ⟨0xa0038, 0x8, 1, 0, 0x0, 0x0, 0x0, 0x0, 0x0, 0x0, 0xffffffffffffffff⟩,
  ⟨0xa0040, 0x8, 1, 0, 0x0, 0x107ff, 0x0, 0x0, 0x0, 0x0, 0x0⟩,
  ⟨0xa0048, 0x8, 1, 0, 0x0, 0x0, 0x0, 0x0, 0x0, 0x0, 0x0⟩,
  ⟨0xa0100, 0x8, 64, 0, 0x0, 0x0, 0x0, 0x0, 0x0, 0x0, 0x0⟩]

/-- The TMP_ registers (13_tamper_and_backup.md). -/
def regRowsTmp : List RegRow := [
  ⟨0xb0000, 0x8, 1, 0, 0x0, 0x0, 0x0, 0x0, 0x0, 0x0, 0x0⟩,
  ⟨0xb0008, 0x8, 1, 0, 0x0, 0x0, 0x0, 0x0, 0x0, 0x0, 0x0⟩,
  ⟨0xb0010, 0x8, 1, 0, 0x0, 0x0, 0x8, 0x0, 0x0, 0x0, 0x0⟩,
  ⟨0xb0018, 0x8, 1, 0, 0x0, 0x0, 0x0, 0x0, 0x0, 0x0, 0x0⟩,
  ⟨0xb0020, 0x8, 1, 0, 0x0, 0x0, 0x0, 0x0, 0x0, 0x0, 0x0⟩,
  ⟨0xb0028, 0x8, 1, 0, 0x0, 0xff011f, 0x0, 0x0, 0x0, 0x0, 0x0⟩,
  ⟨0xb0030, 0x8, 1, 0, 0x0, 0x0, 0x0, 0x0, 0x0, 0x0, 0x0⟩,
  ⟨0xb0038, 0x8, 1, 0, 0x0, 0x0, 0x0, 0x0, 0x0, 0x0, 0x0⟩,
  ⟨0xb0040, 0x8, 1, 0, 0x0, 0x0, 0x0, 0x0, 0x0, 0x0, 0x0⟩,
  ⟨0xb0048, 0x8, 1, 0, 0x0, 0x0, 0x0, 0x0, 0x0, 0x0, 0xffffffffffffffff⟩,
  ⟨0xb0100, 0x10, 16, 0, 0x0, 0x0, 0x0, 0x0, 0x0, 0x0, 0x0⟩,
  ⟨0xb0108, 0x10, 16, 0, 0x0, 0x0, 0x0, 0x0, 0x0, 0x0, 0x0⟩]

/-- The WDN_ registers (14_warden_lifecycle_ceremonies.md). -/
def regRowsWdn : List RegRow := [
  ⟨0xc0000, 0x8, 1, 0, 0x0, 0x0, 0x0, 0x0, 0x0, 0x0, 0x0⟩,
  ⟨0xc0008, 0x8, 1, 0, 0x0, 0x0, 0x6, 0x0, 0x0, 0x0, 0x0⟩,
  ⟨0xc0010, 0x8, 1, 0, 0x0, 0x0, 0x0, 0x0, 0x0, 0x0, 0x1000⟩,
  ⟨0xc0018, 0x8, 1, 0, 0x0, 0x0, 0x0, 0x0, 0x0, 0x0, 0x0⟩,
  ⟨0xc1000, 0x8, 512, 0, 0x0, 0xffffffffffffffff, 0x0, 0x0, 0x0, 0x0, 0x0⟩,
  ⟨0xc2000, 0x8, 512, 0, 0x0, 0x0, 0x0, 0x0, 0x0, 0x0, 0x0⟩]

/-- The CRD_ registers (15_card_ports.md). -/
def regRowsCrd : List RegRow := [
  ⟨0xd0000, 0x40, 2, 0, 0x0, 0x0, 0x0, 0x0, 0x0, 0x0, 0x0⟩,
  ⟨0xd0008, 0x40, 2, 0, 0x0, 0x0, 0x0, 0x0, 0x0, 0x0, 0x0⟩,
  ⟨0xd0010, 0x40, 2, 0, 0x0, 0x0, 0x0, 0xffffffffffffffff, 0x0, 0x0, 0x0⟩,
  ⟨0xd0018, 0x40, 2, 0, 0x0, 0x0, 0x0, 0x0, 0x0, 0x0, 0x0⟩,
  ⟨0xd0100, 0x8, 1, 0, 0x0, 0x0, 0xf00, 0x0, 0x0, 0x0, 0x0⟩,
  ⟨0xd0108, 0x8, 1, 0, 0x0, 0x0, 0x0, 0x0, 0x0, 0x0, 0x0⟩,
  ⟨0xd0110, 0x8, 1, 0, 0x0, 0x0, 0x0, 0x0, 0x0, 0x0, 0x0⟩,
  ⟨0xd0118, 0x8, 1, 0, 0x5, 0x7, 0x0, 0x0, 0x7, 0x0, 0x0⟩,
  ⟨0xd0120, 0x8, 1, 0, 0x0, 0x0, 0x0, 0xffffffffffff, 0x0, 0x0, 0x0⟩,
  ⟨0xd0128, 0x8, 1, 0, 0x0, 0x0, 0x0, 0x0, 0x0, 0x0, 0x0⟩]

/-- The MTR_ registers (16_bonds_and_mortar.md). -/
def regRowsMtr : List RegRow := [
  ⟨0xe0000, 0x8, 1, 0, 0x0, 0x0, 0x200, 0x0, 0x0, 0x0, 0x0⟩,
  ⟨0xe0008, 0x8, 1, 0, 0x0, 0x0, 0x0, 0x0, 0x0, 0x0, 0xffffffff⟩,
  ⟨0xe0010, 0x8, 1, 0, 0x0, 0x0, 0x0, 0x0, 0x0, 0x0, 0x0⟩,
  ⟨0xe0018, 0x8, 2, 0, 0x0, 0x0, 0x0, 0x0, 0x0, 0x0, 0x0⟩,
  ⟨0xe0028, 0x8, 1, 0, 0x0, 0x0, 0x0, 0x0, 0x0, 0x0, 0xfffffffffff⟩,
  ⟨0xe0030, 0x8, 1, 0, 0x0, 0x0, 0x0, 0x0, 0x0, 0x0, 0x0⟩,
  ⟨0xe0038, 0x8, 1, 0, 0x0, 0x0, 0x0, 0xffffffffffffffff, 0x0, 0x0, 0x0⟩,
  ⟨0xe0040, 0x8, 1, 0, 0x0, 0x0, 0x0, 0x0, 0x0, 0x0, 0xffffffffffffffff⟩,
  ⟨0xe0080, 0x8, 1, 0, 0x0, 0x7ff00ff, 0x0, 0x0, 0x7ff00ff, 0x0, 0x0⟩,
  ⟨0xe0088, 0x8, 1, 0, 0x0, 0xfffffffffffff000, 0x0, 0x0, 0xfffffffffffff000, 0x0, 0x0⟩,
  ⟨0xe0090, 0x8, 1, 0, 0x0, 0xfffffffffffff000, 0x0, 0x0, 0xfffffffffffff000, 0x0, 0x0⟩,
  ⟨0xe0098, 0x8, 1, 0, 0x0, 0x0, 0x0, 0x0, 0x0, 0x0, 0x0⟩,
  ⟨0xe00a0, 0x8, 1, 0, 0x100000000, 0x0, 0x0, 0x0, 0x0, 0x0, 0x0⟩]

/-- The PLT_ registers (17_reset_clocks_configuration.md). -/
def regRowsPlt : List RegRow := [
  ⟨0xf0000, 0x8, 1, 0, 0x0, 0x0, 0x0, 0x0, 0x0, 0x0, 0x0⟩,
  ⟨0xf0008, 0x8, 1, 0, 0x20, 0x0, 0x0, 0x0, 0x0, 0x0, 0xffff0000⟩,
  ⟨0xf0010, 0x8, 1, 0, 0x0, 0x0, 0x0, 0x0, 0x0, 0x0, 0x0⟩,
  ⟨0xf0018, 0x8, 1, 0, 0x3ff00000000, 0x0, 0x0, 0x0, 0x0, 0x0, 0x0⟩,
  ⟨0xf0020, 0x8, 1, 0, 0x0, 0x0, 0x0, 0x0, 0x0, 0x0, 0x0⟩,
  ⟨0xf0028, 0x8, 1, 0, 0x0, 0x0, 0x3, 0x0, 0x0, 0x0, 0x0⟩,
  ⟨0xf0030, 0x8, 1, 0, 0x7f00, 0x0, 0x0, 0xffff00000000, 0x0, 0x0, 0x0⟩,
  ⟨0xf0038, 0x8, 1, 0, 0x0, 0x0, 0x0, 0x0, 0x0, 0x0, 0xffffffffffffffff⟩,
  ⟨0xf0040, 0x8, 1, 0, 0x195f, 0xffff, 0x0, 0x0, 0x0, 0x0, 0x0⟩,
  ⟨0xf0048, 0x8, 1, 0, 0x0, 0x0, 0x3, 0x0, 0x0, 0x0, 0x0⟩,
  ⟨0xf0050, 0x8, 1, 0, 0x0, 0x0, 0x0, 0x0, 0x0, 0x0, 0x0⟩,
  ⟨0xf0060, 0x8, 1, 0, 0x0, 0x7ff, 0x0, 0x0, 0x0, 0x0, 0x0⟩,
  ⟨0xf0068, 0x8, 1, 0, 0x0, 0x0, 0x0, 0x0, 0x0, 0x0, 0x0⟩,
  ⟨0xf0070, 0x8, 1, 0, 0x0, 0x0, 0x100, 0x0, 0x0, 0x0, 0x0⟩,
  ⟨0xf0078, 0x8, 1, 0, 0x0, 0x0, 0x0, 0x0, 0x0, 0x0, 0x0⟩,
  ⟨0xf0088, 0x8, 1, 0, 0x0, 0x0, 0x0, 0x0, 0x0, 0x0, 0x7f00000000⟩,
  ⟨0xf0100, 0x8, 16, 0, 0x0, 0x0, 0x0, 0x0, 0x0, 0x0, 0x0⟩,
  ⟨0xf0180, 0x8, 24, 0, 0x0, 0x0, 0x0, 0x0, 0x0, 0x0, 0x0⟩,
  ⟨0xf0300, 0x8, 32, 0, 0x0, 0x0, 0x0, 0x0, 0x0, 0x0, 0x0⟩,
  ⟨0xf0800, 0x8, 80, 0, 0x0, 0x0, 0x0, 0x0, 0x0, 0x0, 0x0⟩]

/-- Every row of the map. -/
def regRows : List RegRow :=
  regRowsHiu ++ regRowsPart ++ regRowsDsp ++ regRowsTile ++ regRowsCiph ++ regRowsHpk ++ regRowsVlt ++ regRowsXks ++ regRowsRng ++ regRowsNvs ++ regRowsTmp ++ regRowsWdn ++ regRowsCrd ++ regRowsMtr ++ regRowsPlt

/-- The row that holds register number `a`, if any (R5: every other offset holds no register). -/
def RegRow.holds (r : RegRow) (a : Nat) : Bool :=
  let n := a / 0x100000
  let off := if r.view = 0 then a else a % 0x100000
  (r.view != 2 || n != 0) && decide (n < 64) && decide (r.base ≤ off) && decide ((off - r.base) % r.stride = 0)
    && decide ((off - r.base) / r.stride < r.count)

/-- The row of register number `a`. -/
def regRow (a : Nat) : Option RegRow := regRows.find? (fun r => r.holds a)

/-- The Reset value of register number `a` (R6, R9); zero where no register is. -/
def regReset (a : Nat) : Word := match regRow a with
  | some r => r.reset
  | none => 0

def Fld.HIU_ID_PART : Fld := ⟨0x0, 0, 16⟩
def Fld.HIU_ID_STEPPING : Fld := ⟨0x0, 16, 8⟩
def Fld.HIU_STATUS_NARROW_WRITE : Fld := ⟨0x10, 0, 1⟩
def Fld.HIU_STATUS_LINK_WIDTH : Fld := ⟨0x10, 8, 4⟩
def Fld.HIU_STATUS_LINK_RATE : Fld := ⟨0x10, 12, 4⟩
def Fld.HIU_STATUS_FLIT : Fld := ⟨0x10, 16, 1⟩
def Fld.HIU_STATUS_IDE_SECURE : Fld := ⟨0x10, 20, 4⟩
def Fld.HIU_STATUS_DEVICE_STATE : Fld := ⟨0x10, 32, 3⟩
def Fld.HIU_EVSEQ_SEQ : Fld := ⟨0x18, 0, 64⟩
def Fld.HIU_SQ_ERR_SUMMARY_ERR (n : Nat) : Fld := ⟨0x100 + n * 0x8, 0, 64⟩
def Fld.PART_CTRL_ENABLE (n : Nat) : Fld := ⟨0x10000 + n * 0x40, 0, 1⟩
def Fld.PART_CTRL_RESET (n : Nat) : Fld := ⟨0x10000 + n * 0x40, 1, 1⟩
def Fld.PART_COURSES_SQ_BASE (n : Nat) : Fld := ⟨0x10008 + n * 0x40, 0, 10⟩
def Fld.PART_COURSES_SQ_COUNT (n : Nat) : Fld := ⟨0x10008 + n * 0x40, 16, 9⟩
def Fld.PART_COURSES_CQ_BASE (n : Nat) : Fld := ⟨0x10008 + n * 0x40, 32, 10⟩
def Fld.PART_COURSES_CQ_COUNT (n : Nat) : Fld := ⟨0x10008 + n * 0x40, 48, 9⟩
def Fld.PART_CONTEXTS_CTX_BASE (n : Nat) : Fld := ⟨0x10010 + n * 0x40, 0, 16⟩
def Fld.PART_CONTEXTS_CTX_COUNT (n : Nat) : Fld := ⟨0x10010 + n * 0x40, 16, 17⟩
def Fld.PART_QUOTA_INFLIGHT (n : Nat) : Fld := ⟨0x10018 + n * 0x40, 0, 14⟩
def Fld.PART_QUOTA_STAGING (n : Nat) : Fld := ⟨0x10018 + n * 0x40, 16, 14⟩
def Fld.PART_STATUS_EPOCH (n : Nat) : Fld := ⟨0x10020 + n * 0x40, 0, 32⟩
def Fld.PART_STATUS_INFLIGHT_NOW (n : Nat) : Fld := ⟨0x10020 + n * 0x40, 32, 14⟩
def Fld.PART_STATUS_ENABLED (n : Nat) : Fld := ⟨0x10020 + n * 0x40, 48, 1⟩
def Fld.PART_STATUS_RESETTING (n : Nat) : Fld := ⟨0x10020 + n * 0x40, 49, 1⟩
def Fld.PART_STATUS_IDE_REQUIRED (n : Nat) : Fld := ⟨0x10020 + n * 0x40, 50, 1⟩
def Fld.PART_STATUS_IDE_SECURE (n : Nat) : Fld := ⟨0x10020 + n * 0x40, 51, 1⟩
def Fld.PART_STATUS_IDE_STREAM (n : Nat) : Fld := ⟨0x10020 + n * 0x40, 52, 2⟩
def Fld.PART_STATUS_QUIESCED (n : Nat) : Fld := ⟨0x10020 + n * 0x40, 55, 1⟩
def Fld.PART_EVSEQ_SEQ (n : Nat) : Fld := ⟨0x10028 + n * 0x40, 0, 64⟩
def Fld.HIU_SQ_BASE_BASE (p i : Nat) : Fld := ⟨0x1000 + (p * 0x100000 + i * 0x20), 12, 52⟩
def Fld.HIU_SQ_CFG_SIZE_LOG2 (p i : Nat) : Fld := ⟨0x1008 + (p * 0x100000 + i * 0x20), 0, 4⟩
def Fld.HIU_SQ_CFG_CQ (p i : Nat) : Fld := ⟨0x1008 + (p * 0x100000 + i * 0x20), 16, 8⟩
def Fld.HIU_SQ_CFG_WEIGHT (p i : Nat) : Fld := ⟨0x1008 + (p * 0x100000 + i * 0x20), 32, 4⟩
def Fld.HIU_SQ_STATE_HEAD (p i : Nat) : Fld := ⟨0x1010 + (p * 0x100000 + i * 0x20), 0, 16⟩
def Fld.HIU_SQ_STATE_TAIL (p i : Nat) : Fld := ⟨0x1010 + (p * 0x100000 + i * 0x20), 16, 16⟩
def Fld.HIU_SQ_STATE_ERR_CODE (p i : Nat) : Fld := ⟨0x1010 + (p * 0x100000 + i * 0x20), 32, 4⟩
def Fld.HIU_SQ_STATE_IDLE (p i : Nat) : Fld := ⟨0x1010 + (p * 0x100000 + i * 0x20), 40, 1⟩
def Fld.HIU_SQ_STATE_CFG_REJECT (p i : Nat) : Fld := ⟨0x1010 + (p * 0x100000 + i * 0x20), 41, 1⟩
def Fld.HIU_SQ_STATE_PAUSE (p i : Nat) : Fld := ⟨0x1010 + (p * 0x100000 + i * 0x20), 62, 1⟩
def Fld.HIU_SQ_STATE_ENABLE (p i : Nat) : Fld := ⟨0x1010 + (p * 0x100000 + i * 0x20), 63, 1⟩
def Fld.HIU_SQ_EVSEQ_SEQ (p i : Nat) : Fld := ⟨0x1018 + (p * 0x100000 + i * 0x20), 0, 64⟩
def Fld.HIU_CQ_BASE_BASE (p i : Nat) : Fld := ⟨0x3000 + (p * 0x100000 + i * 0x20), 12, 52⟩
def Fld.HIU_CQ_CFG_SIZE_LOG2 (p i : Nat) : Fld := ⟨0x3008 + (p * 0x100000 + i * 0x20), 0, 4⟩
def Fld.HIU_CQ_CFG_VECTOR (p i : Nat) : Fld := ⟨0x3008 + (p * 0x100000 + i * 0x20), 16, 11⟩
def Fld.HIU_CQ_CFG_COAL_COUNT (p i : Nat) : Fld := ⟨0x3008 + (p * 0x100000 + i * 0x20), 32, 8⟩
def Fld.HIU_CQ_CFG_COAL_TIME (p i : Nat) : Fld := ⟨0x3008 + (p * 0x100000 + i * 0x20), 40, 8⟩
def Fld.HIU_CQ_CFG_INT_EN (p i : Nat) : Fld := ⟨0x3008 + (p * 0x100000 + i * 0x20), 48, 1⟩
def Fld.HIU_CQ_STATE_TAIL (p i : Nat) : Fld := ⟨0x3010 + (p * 0x100000 + i * 0x20), 0, 16⟩
def Fld.HIU_CQ_STATE_HEAD (p i : Nat) : Fld := ⟨0x3010 + (p * 0x100000 + i * 0x20), 16, 16⟩
def Fld.HIU_CQ_STATE_PHASE (p i : Nat) : Fld := ⟨0x3010 + (p * 0x100000 + i * 0x20), 32, 1⟩
def Fld.HIU_CQ_STATE_ERR_CODE (p i : Nat) : Fld := ⟨0x3010 + (p * 0x100000 + i * 0x20), 36, 4⟩
def Fld.HIU_CQ_STATE_FULL (p i : Nat) : Fld := ⟨0x3010 + (p * 0x100000 + i * 0x20), 40, 1⟩
def Fld.HIU_CQ_STATE_CFG_REJECT (p i : Nat) : Fld := ⟨0x3010 + (p * 0x100000 + i * 0x20), 41, 1⟩
def Fld.HIU_CQ_STATE_ENABLE (p i : Nat) : Fld := ⟨0x3010 + (p * 0x100000 + i * 0x20), 63, 1⟩
def Fld.HIU_CQ_EVSEQ_SEQ (p i : Nat) : Fld := ⟨0x3018 + (p * 0x100000 + i * 0x20), 0, 64⟩
def Fld.DSP_SEQ_NOW_SEQ : Fld := ⟨0x20000, 0, 64⟩
def Fld.DSP_OCCUPANCY_STAGED : Fld := ⟨0x20008, 0, 14⟩
def Fld.DSP_OCCUPANCY_ADMITTED : Fld := ⟨0x20008, 16, 14⟩
def Fld.DSP_OCCUPANCY_RUNNING : Fld := ⟨0x20008, 32, 11⟩
def Fld.DSP_HIGHWATER_ADMITTED_MAX : Fld := ⟨0x20010, 0, 14⟩
def Fld.DSP_FENCES_WAITING : Fld := ⟨0x20018, 0, 13⟩
def Fld.DSP_TILES_AVAILABLE : Fld := ⟨0x20020, 0, 7⟩
def Fld.TILE_AVAIL_AVAIL : Fld := ⟨0x40000, 0, 64⟩
def Fld.TILE_SELFTEST_SELFTEST : Fld := ⟨0x40008, 0, 64⟩
def Fld.TILE_RETIRED_RETIRED : Fld := ⟨0x40010, 0, 64⟩
def Fld.TILE_STATUS_CFG_REJECT : Fld := ⟨0x40018, 0, 1⟩
def Fld.TILE_SOU_CFG_PIN_FLOOR : Fld := ⟨0x40020, 0, 4⟩
def Fld.TILE_RUN_LIMIT_LIMIT : Fld := ⟨0x40028, 0, 32⟩
def Fld.TILE_TRAPS_CONTAIN : Fld := ⟨0x40030, 0, 16⟩
def Fld.TILE_TRAPS_POISON : Fld := ⟨0x40030, 16, 16⟩
def Fld.TILE_TRAPS_FAULT : Fld := ⟨0x40030, 32, 16⟩
def Fld.TILE_FAULT_TILE : Fld := ⟨0x40038, 0, 6⟩
def Fld.TILE_FAULT_THREAD : Fld := ⟨0x40038, 8, 4⟩
def Fld.TILE_FAULT_CAUSE : Fld := ⟨0x40038, 12, 4⟩
def Fld.TILE_FAULT_PERMANENT : Fld := ⟨0x40038, 16, 1⟩
def Fld.TILE_FAULT_EVSEQ_SEQ : Fld := ⟨0x40040, 0, 64⟩
def Fld.TILE_EPOCH_EPOCH (n : Nat) : Fld := ⟨0x40100 + n * 0x8, 0, 16⟩
def Fld.TILE_EPOCH_STATE (n : Nat) : Fld := ⟨0x40100 + n * 0x8, 16, 2⟩
def Fld.TILE_EPOCH_BUSY (n : Nat) : Fld := ⟨0x40100 + n * 0x8, 32, 5⟩
def Fld.CIPH_AVAIL_AVAIL : Fld := ⟨0x50000, 0, 48⟩
def Fld.CIPH_SELFTEST_SELFTEST : Fld := ⟨0x50008, 0, 48⟩
def Fld.CIPH_RETIRED_RETIRED : Fld := ⟨0x50010, 0, 48⟩
def Fld.CIPH_STATUS_CFG_REJECT : Fld := ⟨0x50018, 0, 1⟩
def Fld.CIPH_STATUS_QUEUE : Fld := ⟨0x50018, 16, 13⟩
def Fld.CIPH_STATUS_NONCE_READY : Fld := ⟨0x50018, 32, 1⟩
def Fld.CIPH_STATUS_NEED_LEASE : Fld := ⟨0x50018, 33, 1⟩
def Fld.CIPH_CFG_REFILL_AT : Fld := ⟨0x50020, 0, 20⟩
def Fld.CIPH_NONCE_ID_ID : Fld := ⟨0x50028, 0, 32⟩
def Fld.CIPH_NONCE_ID_VALID : Fld := ⟨0x50028, 63, 1⟩
def Fld.CIPH_LEASE_ACTIVE_NUMBER : Fld := ⟨0x50030, 0, 44⟩
def Fld.CIPH_LEASE_ACTIVE_VALID : Fld := ⟨0x50030, 63, 1⟩
def Fld.CIPH_LEASE_NEXT_NUMBER : Fld := ⟨0x50038, 0, 44⟩
def Fld.CIPH_LEASE_NEXT_VALID : Fld := ⟨0x50038, 63, 1⟩
def Fld.CIPH_NONCE_NEXT_NEXT : Fld := ⟨0x50040, 0, 64⟩
def Fld.CIPH_JOURNAL_MARK_MARK : Fld := ⟨0x50048, 0, 64⟩
def Fld.CIPH_LEASE_EXPIRY_SECONDS : Fld := ⟨0x50050, 0, 48⟩
def Fld.CIPH_LEASE_EVSEQ_SEQ : Fld := ⟨0x50058, 0, 64⟩
def Fld.CIPH_COUNTS_EXHAUSTED : Fld := ⟨0x50060, 0, 16⟩
def Fld.CIPH_COUNTS_PARITY : Fld := ⟨0x50060, 16, 16⟩
def Fld.CIPH_COUNTS_BURNED : Fld := ⟨0x50060, 32, 16⟩
def Fld.CIPH_FAULT_CORE : Fld := ⟨0x50068, 0, 6⟩
def Fld.CIPH_FAULT_CAUSE : Fld := ⟨0x50068, 8, 4⟩
def Fld.CIPH_FAULT_PERMANENT : Fld := ⟨0x50068, 12, 1⟩
def Fld.CIPH_FAULT_EVSEQ_SEQ : Fld := ⟨0x50070, 0, 64⟩
def Fld.HPK_AVAIL_AVAIL : Fld := ⟨0x60000, 0, 32⟩
def Fld.HPK_SELFTEST_SELFTEST : Fld := ⟨0x60008, 0, 32⟩
def Fld.HPK_RETIRED_RETIRED : Fld := ⟨0x60010, 0, 32⟩
def Fld.HPK_STATUS_CFG_REJECT : Fld := ⟨0x60018, 0, 1⟩
def Fld.HPK_STATUS_PKL_GATED : Fld := ⟨0x60018, 1, 1⟩
def Fld.HPK_QUEUES_SHA2 : Fld := ⟨0x60020, 0, 16⟩
def Fld.HPK_QUEUES_SHA3 : Fld := ⟨0x60020, 16, 16⟩
def Fld.HPK_QUEUES_LANE : Fld := ⟨0x60020, 32, 16⟩
def Fld.HPK_QUEUES_NTT : Fld := ⟨0x60020, 48, 16⟩
def Fld.HPK_CFG_GATE_IDLE : Fld := ⟨0x60028, 0, 16⟩
def Fld.HPK_COUNTS_RESIDUE : Fld := ⟨0x60030, 0, 16⟩
def Fld.HPK_COUNTS_CRT : Fld := ⟨0x60030, 16, 16⟩
def Fld.HPK_COUNTS_HASH_DUP : Fld := ⟨0x60030, 32, 16⟩
def Fld.HPK_FAULT_UNIT : Fld := ⟨0x60038, 0, 5⟩
def Fld.HPK_FAULT_CAUSE : Fld := ⟨0x60038, 8, 4⟩
def Fld.HPK_FAULT_PERMANENT : Fld := ⟨0x60038, 12, 1⟩
def Fld.HPK_FAULT_EVSEQ_SEQ : Fld := ⟨0x60040, 0, 64⟩
def Fld.VLT_STATUS_DERIVED : Fld := ⟨0x70000, 0, 1⟩
def Fld.VLT_STATUS_BK_PRESENT : Fld := ⟨0x70000, 1, 1⟩
def Fld.VLT_STATUS_TEST_ROOT : Fld := ⟨0x70000, 2, 1⟩
def Fld.VLT_STATUS_IMAGES_DONE : Fld := ⟨0x70000, 3, 1⟩
def Fld.VLT_STATUS_NO_XKS_KEY : Fld := ⟨0x70000, 4, 1⟩
def Fld.VLT_OCCUPANCY_SLOTS : Fld := ⟨0x70008, 0, 17⟩
def Fld.VLT_OCCUPANCY_STAGING : Fld := ⟨0x70008, 32, 13⟩
def Fld.VLT_OCCUPANCY_SCOPED : Fld := ⟨0x70008, 48, 15⟩
def Fld.VLT_IMAGES_LOADED : Fld := ⟨0x70010, 0, 17⟩
def Fld.VLT_IMAGES_UNREADABLE : Fld := ⟨0x70010, 32, 17⟩
def Fld.VLT_CHANGES_COMMITTED : Fld := ⟨0x70018, 0, 32⟩
def Fld.VLT_CHANGES_ABANDONED : Fld := ⟨0x70018, 32, 16⟩
def Fld.VLT_EVSEQ_SEQ : Fld := ⟨0x70020, 0, 64⟩
def Fld.VLT_PART_SLOTS_SLOT_BASE (n : Nat) : Fld := ⟨0x70100 + n * 0x8, 0, 17⟩
def Fld.VLT_PART_SLOTS_SLOT_COUNT (n : Nat) : Fld := ⟨0x70100 + n * 0x8, 24, 17⟩
def Fld.XKS_STATUS_READY : Fld := ⟨0x80000, 0, 1⟩
def Fld.XKS_STATUS_FORMATTING : Fld := ⟨0x80000, 1, 1⟩
def Fld.XKS_STATUS_FAILED : Fld := ⟨0x80000, 2, 1⟩
def Fld.XKS_STATUS_ERASED : Fld := ⟨0x80000, 3, 1⟩
def Fld.XKS_STATUS_CFG_REJECT : Fld := ⟨0x80000, 4, 1⟩
def Fld.XKS_STATUS_NO_KEY : Fld := ⟨0x80000, 5, 1⟩
def Fld.XKS_GEOMETRY_RECORDS : Fld := ⟨0x80008, 0, 28⟩
def Fld.XKS_GEOMETRY_CAPACITY : Fld := ⟨0x80008, 32, 6⟩
def Fld.XKS_GEOMETRY_LEVELS : Fld := ⟨0x80008, 40, 4⟩
def Fld.XKS_COUNTS_LINK_ECC : Fld := ⟨0x80010, 0, 16⟩
def Fld.XKS_COUNTS_REREAD : Fld := ⟨0x80010, 16, 16⟩
def Fld.XKS_COUNTS_LEAF_MISS : Fld := ⟨0x80010, 32, 32⟩
def Fld.XKS_FAULT_LOCATION : Fld := ⟨0x80018, 0, 34⟩
def Fld.XKS_FAULT_LEVEL : Fld := ⟨0x80018, 36, 4⟩
def Fld.XKS_FAULT_CAUSE : Fld := ⟨0x80018, 40, 4⟩
def Fld.XKS_FAULT_EVSEQ_SEQ : Fld := ⟨0x80020, 0, 64⟩
def Fld.XKS_XFER_CTRL_OP : Fld := ⟨0x80040, 0, 3⟩
def Fld.XKS_XFER_CTRL_PARTITION : Fld := ⟨0x80040, 8, 6⟩
def Fld.XKS_XFER_CTRL_GO : Fld := ⟨0x80040, 63, 1⟩
def Fld.XKS_XFER_RANGE_FIRST : Fld := ⟨0x80048, 0, 27⟩
def Fld.XKS_XFER_RANGE_GEN : Fld := ⟨0x80048, 32, 16⟩
def Fld.XKS_XFER_COUNT_COUNT : Fld := ⟨0x80050, 0, 28⟩
def Fld.XKS_XFER_ADDR_ADDR : Fld := ⟨0x80058, 4, 60⟩
def Fld.XKS_XFER_SLOT_HANDLE : Fld := ⟨0x80060, 0, 64⟩
def Fld.XKS_XFER_STATUS_BUSY : Fld := ⟨0x80068, 0, 1⟩
def Fld.XKS_XFER_STATUS_ERR : Fld := ⟨0x80068, 1, 4⟩
def Fld.XKS_XFER_STATUS_DONE_COUNT : Fld := ⟨0x80068, 8, 24⟩
def Fld.XKS_XFER_STATUS_REJECTED : Fld := ⟨0x80068, 32, 16⟩
def Fld.XKS_XFER_STATUS_SKIPPED : Fld := ⟨0x80068, 48, 16⟩
def Fld.XKS_XFER_EVSEQ_SEQ : Fld := ⟨0x80070, 0, 64⟩
def Fld.XKS_PART_RECORDS_BASE (n : Nat) : Fld := ⟨0x80100 + n * 0x8, 0, 27⟩
def Fld.XKS_PART_RECORDS_COUNT (n : Nat) : Fld := ⟨0x80100 + n * 0x8, 32, 28⟩
def Fld.XKS_IMAGE_EPOCH_EPOCH (n : Nat) : Fld := ⟨0x80300 + n * 0x8, 0, 32⟩
def Fld.XKS_IMAGE_EPOCH_FLOOR (n : Nat) : Fld := ⟨0x80300 + n * 0x8, 32, 32⟩
def Fld.RNG_DATA_DATA : Fld := ⟨0x90000, 0, 32⟩
def Fld.RNG_DATA_ERROR : Fld := ⟨0x90000, 62, 1⟩
def Fld.RNG_DATA_VALID : Fld := ⟨0x90000, 63, 1⟩
def Fld.RNG_STATUS_EMPTY_READ : Fld := ⟨0x90008, 0, 1⟩
def Fld.RNG_STATUS_ERROR : Fld := ⟨0x90008, 1, 1⟩
def Fld.RNG_STATUS_BLOCKED : Fld := ⟨0x90008, 2, 1⟩
def Fld.RNG_HEALTH_STATE : Fld := ⟨0x90010, 0, 2⟩
def Fld.RNG_HEALTH_RERUNS : Fld := ⟨0x90010, 4, 2⟩
def Fld.RNG_HEALTH_C_READY : Fld := ⟨0x90010, 8, 1⟩
def Fld.RNG_HEALTH_D_READY : Fld := ⟨0x90010, 9, 1⟩
def Fld.RNG_HEALTH_HOST_READY : Fld := ⟨0x90010, 10, 1⟩
def Fld.RNG_HEALTH_FAIL_SOURCE : Fld := ⟨0x90010, 16, 2⟩
def Fld.RNG_HEALTH_FAIL_TEST : Fld := ⟨0x90010, 20, 2⟩
def Fld.RNG_COUNTS_HEALTH_FAILS : Fld := ⟨0x90018, 0, 16⟩
def Fld.RNG_COUNTS_EMPTY_READS : Fld := ⟨0x90018, 16, 16⟩
def Fld.RNG_COUNTS_HOST_WAITS : Fld := ⟨0x90018, 32, 16⟩
def Fld.RNG_EVSEQ_SEQ : Fld := ⟨0x90020, 0, 64⟩
def Fld.NVS_STATUS_RECOVERED : Fld := ⟨0xa0000, 0, 1⟩
def Fld.NVS_STATUS_UNCORR : Fld := ⟨0xa0000, 1, 1⟩
def Fld.NVS_STATUS_REFUSED : Fld := ⟨0xa0000, 2, 1⟩
def Fld.NVS_STATUS_JOURNAL_FULL : Fld := ⟨0xa0000, 3, 1⟩
def Fld.NVS_STATUS_CFG_REJECT : Fld := ⟨0xa0000, 4, 1⟩
def Fld.NVS_RECOVERY_VALID : Fld := ⟨0xa0008, 0, 16⟩
def Fld.NVS_RECOVERY_TORN : Fld := ⟨0xa0008, 16, 16⟩
def Fld.NVS_RECOVERY_SETTLED : Fld := ⟨0xa0008, 32, 16⟩
def Fld.NVS_RECOVERY_DAMAGED : Fld := ⟨0xa0008, 48, 16⟩
def Fld.NVS_JOURNAL_WRITE_POINT : Fld := ⟨0xa0010, 0, 20⟩
def Fld.NVS_JOURNAL_LIVE : Fld := ⟨0xa0010, 32, 21⟩
def Fld.NVS_RECORD_SEQ_SEQ : Fld := ⟨0xa0018, 0, 64⟩
def Fld.NVS_COUNTS_CORRECTED : Fld := ⟨0xa0020, 0, 16⟩
def Fld.NVS_COUNTS_UNCORRECTABLE : Fld := ⟨0xa0020, 16, 16⟩
def Fld.NVS_COUNTS_RECORDS : Fld := ⟨0xa0020, 32, 32⟩
def Fld.NVS_FAULT_ADDRESS : Fld := ⟨0xa0028, 0, 23⟩
def Fld.NVS_FAULT_CAUSE : Fld := ⟨0xa0028, 24, 4⟩
def Fld.NVS_FAULT_EVSEQ_SEQ : Fld := ⟨0xa0030, 0, 64⟩
def Fld.NVS_EVSEQ_SEQ : Fld := ⟨0xa0038, 0, 64⟩
def Fld.NVS_CTR_SELECT_INDEX : Fld := ⟨0xa0040, 0, 11⟩
def Fld.NVS_CTR_SELECT_REGION : Fld := ⟨0xa0040, 16, 1⟩
def Fld.NVS_CTR_VALUE_VALUE : Fld := ⟨0xa0048, 0, 48⟩
def Fld.NVS_CTR_VALUE_USED : Fld := ⟨0xa0048, 48, 7⟩
def Fld.NVS_CTR_VALUE_DAMAGED : Fld := ⟨0xa0048, 62, 1⟩
def Fld.NVS_CTR_VALUE_VALID : Fld := ⟨0xa0048, 63, 1⟩
def Fld.NVS_PART_COUNTERS_BASE (n : Nat) : Fld := ⟨0xa0100 + n * 0x8, 0, 10⟩
def Fld.NVS_PART_COUNTERS_COUNT (n : Nat) : Fld := ⟨0xa0100 + n * 0x8, 16, 10⟩
def Fld.TMP_STATE_LOCKED : Fld := ⟨0xb0000, 0, 1⟩
def Fld.TMP_STATE_ERASED : Fld := ⟨0xb0000, 1, 1⟩
def Fld.TMP_STATE_ERASING : Fld := ⟨0xb0000, 2, 1⟩
def Fld.TMP_STATE_FROZEN : Fld := ⟨0xb0000, 3, 1⟩
def Fld.TMP_STATE_BK_PRESENT : Fld := ⟨0xb0000, 4, 1⟩
def Fld.TMP_FLAGS_FLAGS : Fld := ⟨0xb0008, 0, 22⟩
def Fld.TMP_STATUS_TIME_VALID : Fld := ⟨0xb0010, 0, 1⟩
def Fld.TMP_STATUS_VBAT_LOW : Fld := ⟨0xb0010, 1, 1⟩
def Fld.TMP_STATUS_BIST_BUSY : Fld := ⟨0xb0010, 2, 1⟩
def Fld.TMP_STATUS_CFG_REJECT : Fld := ⟨0xb0010, 3, 1⟩
def Fld.TMP_STATUS_WINDOW_OPEN : Fld := ⟨0xb0010, 4, 1⟩
def Fld.TMP_TIME_SUBSECONDS : Fld := ⟨0xb0018, 0, 15⟩
def Fld.TMP_TIME_SECONDS : Fld := ⟨0xb0018, 15, 48⟩
def Fld.TMP_TAMP_CLASS_ERASE : Fld := ⟨0xb0020, 0, 8⟩
def Fld.TMP_TAMP_CLASS_PROGRAMMED : Fld := ⟨0xb0020, 8, 1⟩
def Fld.TMP_BIST_CTRL_SOURCE : Fld := ⟨0xb0028, 0, 5⟩
def Fld.TMP_BIST_CTRL_DETECTOR : Fld := ⟨0xb0028, 8, 1⟩
def Fld.TMP_BIST_CTRL_INDEX : Fld := ⟨0xb0028, 16, 8⟩
def Fld.TMP_BIST_CTRL_GO : Fld := ⟨0xb0028, 63, 1⟩
def Fld.TMP_BIST_RESULT_RESPONSE : Fld := ⟨0xb0030, 0, 16⟩
def Fld.TMP_BIST_RESULT_DONE : Fld := ⟨0xb0030, 16, 1⟩
def Fld.TMP_BIST_RESULT_PASS : Fld := ⟨0xb0030, 17, 1⟩
def Fld.TMP_RING_COUNT_NEWEST : Fld := ⟨0xb0038, 0, 16⟩
def Fld.TMP_RING_COUNT_REVIEWED : Fld := ⟨0xb0038, 16, 16⟩
def Fld.TMP_CLUSTER_FIRST_UNIT : Fld := ⟨0xb0040, 0, 9⟩
def Fld.TMP_CLUSTER_SECOND_UNIT : Fld := ⟨0xb0040, 16, 9⟩
def Fld.TMP_EVSEQ_SEQ : Fld := ⟨0xb0048, 0, 64⟩
def Fld.TMP_RING_TIME_WORD (n : Nat) : Fld := ⟨0xb0100 + n * 0x10, 0, 64⟩
def Fld.TMP_RING_INFO_WORD (n : Nat) : Fld := ⟨0xb0108 + n * 0x10, 0, 64⟩
def Fld.WDN_MBOX_CTRL_SUBMIT : Fld := ⟨0xc0000, 0, 1⟩
def Fld.WDN_MBOX_STATUS_BUSY : Fld := ⟨0xc0008, 0, 1⟩
def Fld.WDN_MBOX_STATUS_DONE : Fld := ⟨0xc0008, 1, 1⟩
def Fld.WDN_MBOX_STATUS_CFG_REJECT : Fld := ⟨0xc0008, 2, 1⟩
def Fld.WDN_MBOX_STATUS_CEREMONY : Fld := ⟨0xc0008, 3, 1⟩
def Fld.WDN_LIFECYCLE_STATE : Fld := ⟨0xc0010, 0, 3⟩
def Fld.WDN_LIFECYCLE_DEBUG_FUSES : Fld := ⟨0xc0010, 4, 4⟩
def Fld.WDN_LIFECYCLE_PATCH : Fld := ⟨0xc0010, 8, 2⟩
def Fld.WDN_LIFECYCLE_CONFIG_PENDING : Fld := ⟨0xc0010, 12, 1⟩
def Fld.WDN_LIFECYCLE_RESTORING : Fld := ⟨0xc0010, 13, 1⟩
def Fld.WDN_LIFECYCLE_PATCH_VERSION : Fld := ⟨0xc0010, 32, 32⟩
def Fld.WDN_EVSEQ_SEQ : Fld := ⟨0xc0018, 0, 64⟩
def Fld.WDN_REQ_WORD (n : Nat) : Fld := ⟨0xc1000 + n * 0x8, 0, 64⟩
def Fld.WDN_RESP_WORD (n : Nat) : Fld := ⟨0xc2000 + n * 0x8, 0, 64⟩
def Fld.CRD_CC_STATUS_STATE (n : Nat) : Fld := ⟨0xd0000 + n * 0x40, 0, 3⟩
def Fld.CRD_CC_STATUS_CLASS (n : Nat) : Fld := ⟨0xd0000 + n * 0x40, 4, 2⟩
def Fld.CRD_CC_STATUS_SESSION (n : Nat) : Fld := ⟨0xd0000 + n * 0x40, 6, 1⟩
def Fld.CRD_CC_STATUS_CAUSE (n : Nat) : Fld := ⟨0xd0000 + n * 0x40, 8, 4⟩
def Fld.CRD_CC_LINK_FI (n : Nat) : Fld := ⟨0xd0008 + n * 0x40, 0, 12⟩
def Fld.CRD_CC_LINK_DI (n : Nat) : Fld := ⟨0xd0008 + n * 0x40, 12, 6⟩
def Fld.CRD_CC_LINK_DIVIDER (n : Nat) : Fld := ⟨0xd0008 + n * 0x40, 18, 7⟩
def Fld.CRD_CC_LINK_IFSC (n : Nat) : Fld := ⟨0xd0008 + n * 0x40, 25, 8⟩
def Fld.CRD_CC_LINK_BWI (n : Nat) : Fld := ⟨0xd0008 + n * 0x40, 33, 4⟩
def Fld.CRD_CC_LINK_CWI (n : Nat) : Fld := ⟨0xd0008 + n * 0x40, 37, 4⟩
def Fld.CRD_CC_LINK_CRC (n : Nat) : Fld := ⟨0xd0008 + n * 0x40, 41, 1⟩
def Fld.CRD_CC_COUNTS_RETRANSMIT (n : Nat) : Fld := ⟨0xd0010 + n * 0x40, 0, 16⟩
def Fld.CRD_CC_COUNTS_RESYNCH (n : Nat) : Fld := ⟨0xd0010 + n * 0x40, 16, 16⟩
def Fld.CRD_CC_COUNTS_ACTIVATIONS (n : Nat) : Fld := ⟨0xd0010 + n * 0x40, 32, 16⟩
def Fld.CRD_CC_COUNTS_REFUSED (n : Nat) : Fld := ⟨0xd0010 + n * 0x40, 48, 16⟩
def Fld.CRD_CC_EVSEQ_SEQ (n : Nat) : Fld := ⟨0xd0018 + n * 0x40, 0, 64⟩
def Fld.CRD_SD_STATUS_STATE : Fld := ⟨0xd0100, 0, 3⟩
def Fld.CRD_SD_STATUS_MODE : Fld := ⟨0xd0100, 4, 3⟩
def Fld.CRD_SD_STATUS_V18 : Fld := ⟨0xd0100, 7, 1⟩
def Fld.CRD_SD_STATUS_REMOVED : Fld := ⟨0xd0100, 8, 1⟩
def Fld.CRD_SD_STATUS_REMOVED_IN_DATA : Fld := ⟨0xd0100, 9, 1⟩
def Fld.CRD_SD_STATUS_REMOVED_IN_BUSY : Fld := ⟨0xd0100, 10, 1⟩
def Fld.CRD_SD_STATUS_CFG_REJECT : Fld := ⟨0xd0100, 11, 1⟩
def Fld.CRD_SD_BLOCK_LBA : Fld := ⟨0xd0108, 0, 32⟩
def Fld.CRD_SD_CARD_BLOCKS : Fld := ⟨0xd0110, 0, 32⟩
def Fld.CRD_SD_CARD_SDXC : Fld := ⟨0xd0110, 32, 1⟩
def Fld.CRD_SD_CFG_MAX_MODE : Fld := ⟨0xd0118, 0, 3⟩
def Fld.CRD_SD_COUNTS_CRC_RETRY : Fld := ⟨0xd0120, 0, 16⟩
def Fld.CRD_SD_COUNTS_RETUNE : Fld := ⟨0xd0120, 16, 16⟩
def Fld.CRD_SD_COUNTS_BUSY_TIMEOUT : Fld := ⟨0xd0120, 32, 16⟩
def Fld.CRD_SD_EVSEQ_SEQ : Fld := ⟨0xd0128, 0, 64⟩
def Fld.MTR_STATUS_ROLE : Fld := ⟨0xe0000, 0, 2⟩
def Fld.MTR_STATUS_STATE : Fld := ⟨0xe0000, 4, 3⟩
def Fld.MTR_STATUS_CAN_COMMIT : Fld := ⟨0xe0000, 8, 1⟩
def Fld.MTR_STATUS_CFG_REJECT : Fld := ⟨0xe0000, 9, 1⟩
def Fld.MTR_EPOCH_EPOCH : Fld := ⟨0xe0008, 0, 32⟩
def Fld.MTR_EPOCH_MEMBER_ID : Fld := ⟨0xe0008, 32, 8⟩
def Fld.MTR_EPOCH_MANAGER_ID : Fld := ⟨0xe0008, 40, 8⟩
def Fld.MTR_EPOCH_STANDBY_ID : Fld := ⟨0xe0008, 48, 8⟩
def Fld.MTR_LIVE_LIVE : Fld := ⟨0xe0010, 0, 64⟩
def Fld.MTR_PORT_LINK (n : Nat) : Fld := ⟨0xe0018 + n * 0x8, 0, 2⟩
def Fld.MTR_PORT_LANES (n : Nat) : Fld := ⟨0xe0018 + n * 0x8, 4, 3⟩
def Fld.MTR_PORT_PEER_ID (n : Nat) : Fld := ⟨0xe0018 + n * 0x8, 8, 8⟩
def Fld.MTR_LEASE_HIGH_WATER : Fld := ⟨0xe0028, 0, 44⟩
def Fld.MTR_TXN_TXN : Fld := ⟨0xe0030, 0, 64⟩
def Fld.MTR_COUNTS_NAKS : Fld := ⟨0xe0038, 0, 16⟩
def Fld.MTR_COUNTS_DROPPED : Fld := ⟨0xe0038, 16, 16⟩
def Fld.MTR_COUNTS_MISSED : Fld := ⟨0xe0038, 32, 16⟩
def Fld.MTR_COUNTS_LOST : Fld := ⟨0xe0038, 48, 16⟩
def Fld.MTR_EVSEQ_SEQ : Fld := ⟨0xe0040, 0, 64⟩
def Fld.MTR_RELAY_CFG_IN_SIZE_LOG2 : Fld := ⟨0xe0080, 0, 4⟩
def Fld.MTR_RELAY_CFG_OUT_SIZE_LOG2 : Fld := ⟨0xe0080, 4, 4⟩
def Fld.MTR_RELAY_CFG_VECTOR : Fld := ⟨0xe0080, 16, 11⟩
def Fld.MTR_RELAY_CFG_ENABLE : Fld := ⟨0xe0080, 63, 1⟩
def Fld.MTR_RELAY_IN_BASE_BASE : Fld := ⟨0xe0088, 12, 52⟩
def Fld.MTR_RELAY_OUT_BASE_BASE : Fld := ⟨0xe0090, 12, 52⟩
def Fld.MTR_RELAY_DB_IN_TAIL : Fld := ⟨0xe0098, 0, 16⟩
def Fld.MTR_RELAY_DB_OUT_HEAD : Fld := ⟨0xe0098, 16, 16⟩
def Fld.MTR_RELAY_DB_IN_VALID : Fld := ⟨0xe0098, 32, 1⟩
def Fld.MTR_RELAY_DB_OUT_VALID : Fld := ⟨0xe0098, 33, 1⟩
def Fld.MTR_RELAY_STATE_IN_HEAD : Fld := ⟨0xe00a0, 0, 16⟩
def Fld.MTR_RELAY_STATE_OUT_TAIL : Fld := ⟨0xe00a0, 16, 16⟩
def Fld.MTR_RELAY_STATE_PHASE : Fld := ⟨0xe00a0, 32, 1⟩
def Fld.MTR_RELAY_STATE_FULL : Fld := ⟨0xe00a0, 33, 1⟩
def Fld.MTR_RELAY_STATE_ERR : Fld := ⟨0xe00a0, 36, 4⟩
def Fld.PLT_RESET_CMD_TYPE : Fld := ⟨0xf0000, 0, 2⟩
def Fld.PLT_RESET_CMD_KEY : Fld := ⟨0xf0000, 48, 16⟩
def Fld.PLT_RESET_CAUSE_SOURCE : Fld := ⟨0xf0008, 0, 4⟩
def Fld.PLT_RESET_CAUSE_REACH : Fld := ⟨0xf0008, 4, 2⟩
def Fld.PLT_RESET_CAUSE_ORIGIN : Fld := ⟨0xf0008, 8, 8⟩
def Fld.PLT_RESET_CAUSE_WARM_COUNT : Fld := ⟨0xf0008, 16, 16⟩
def Fld.PLT_RESET_STATUS_STEP : Fld := ⟨0xf0010, 0, 4⟩
def Fld.PLT_RESET_STATUS_HELD : Fld := ⟨0xf0010, 4, 1⟩
def Fld.PLT_RESET_STATUS_KILN_FAIL : Fld := ⟨0xf0010, 5, 1⟩
def Fld.PLT_RESET_STATUS_KILN_TEST : Fld := ⟨0xf0010, 8, 4⟩
def Fld.PLT_BLOCK_RESET_HOLD : Fld := ⟨0xf0018, 0, 10⟩
def Fld.PLT_BLOCK_RESET_READY : Fld := ⟨0xf0018, 32, 10⟩
def Fld.PLT_MAINT_ENTER : Fld := ⟨0xf0020, 0, 1⟩
def Fld.PLT_MAINT_EXIT : Fld := ⟨0xf0020, 1, 1⟩
def Fld.PLT_MAINT_ACTIVE : Fld := ⟨0xf0020, 8, 1⟩
def Fld.PLT_MAINT_KEY : Fld := ⟨0xf0020, 48, 16⟩
def Fld.PLT_STATUS_CFG_REJECT : Fld := ⟨0xf0028, 0, 1⟩
def Fld.PLT_STATUS_BAD_KEY : Fld := ⟨0xf0028, 1, 1⟩
def Fld.PLT_CLOCKS_ROOT_LOCK : Fld := ⟨0xf0030, 0, 1⟩
def Fld.PLT_CLOCKS_DRAM_LOCK : Fld := ⟨0xf0030, 1, 1⟩
def Fld.PLT_CLOCKS_STOPPED : Fld := ⟨0xf0030, 8, 7⟩
def Fld.PLT_CLOCKS_DRAM_UNLOCKS : Fld := ⟨0xf0030, 32, 16⟩
def Fld.PLT_RESET_EVSEQ_SEQ : Fld := ⟨0xf0038, 0, 64⟩
def Fld.PLT_TELEM_WARN_TEMP_C : Fld := ⟨0xf0040, 0, 8⟩
def Fld.PLT_TELEM_WARN_VOLT_PCT : Fld := ⟨0xf0040, 8, 8⟩
def Fld.PLT_TELEM_STATUS_TEMP : Fld := ⟨0xf0048, 0, 1⟩
def Fld.PLT_TELEM_STATUS_VOLT : Fld := ⟨0xf0048, 1, 1⟩
def Fld.PLT_SNAP_CTRL_CAPTURE : Fld := ⟨0xf0050, 0, 1⟩
def Fld.PLT_LIFE_SELECT_INDEX : Fld := ⟨0xf0060, 0, 11⟩
def Fld.PLT_LIFE_VALUE_VALUE : Fld := ⟨0xf0068, 0, 48⟩
def Fld.PLT_LIFE_VALUE_DAMAGED : Fld := ⟨0xf0068, 62, 1⟩
def Fld.PLT_LIFE_VALUE_VALID : Fld := ⟨0xf0068, 63, 1⟩
def Fld.PLT_I3C_STATUS_DYN_ADDR : Fld := ⟨0xf0070, 0, 7⟩
def Fld.PLT_I3C_STATUS_I2C : Fld := ⟨0xf0070, 7, 1⟩
def Fld.PLT_I3C_STATUS_BAD_ACCESS : Fld := ⟨0xf0070, 8, 1⟩
def Fld.PLT_PANIC_GO : Fld := ⟨0xf0078, 0, 1⟩
def Fld.PLT_PANIC_KEY : Fld := ⟨0xf0078, 48, 16⟩
def Fld.PLT_ARRAY_FAULT_UNIT : Fld := ⟨0xf0088, 0, 9⟩
def Fld.PLT_ARRAY_FAULT_WORD : Fld := ⟨0xf0088, 9, 23⟩
def Fld.PLT_ARRAY_FAULT_SPARES_USED : Fld := ⟨0xf0088, 32, 7⟩
def Fld.PLT_ARRAY_FAULT_SCRUB : Fld := ⟨0xf0088, 39, 1⟩
def Fld.PLT_TEMP_TJ (n : Nat) : Fld := ⟨0xf0100 + n * 0x8, 0, 16⟩
def Fld.PLT_VOLT_MV (n : Nat) : Fld := ⟨0xf0180 + n * 0x8, 0, 16⟩
def Fld.PLT_VOLT_DEV (n : Nat) : Fld := ⟨0xf0180 + n * 0x8, 16, 16⟩
def Fld.PLT_PROC_COUNT (n : Nat) : Fld := ⟨0xf0300 + n * 0x8, 0, 16⟩
def Fld.PLT_SNAP_WORD (n : Nat) : Fld := ⟨0xf0800 + n * 0x8, 0, 64⟩

end Sys2Proof.Machine
end

