-- ==== Sys2Proof/Machine/Tab.lean ====
section
/-! DEFINITION. Sparse tables: the one shape in which State holds anything numbered (registers, contexts, slots,
words of a slice, records): a list of (number, value) in rising order, a number that is not listed holding its default,
and no entry equal to that default, so that equal tables are equal data. -/

namespace Sys2Proof.Machine

/-- A sparse table. -/
abbrev Tab (α : Type) := List (Nat × α)

/-- The value at `k`: the listed one, else the default of `k`. -/
def tget {α : Type} (d : Nat → α) : Tab α → Nat → α
  | [], k => d k
  | e :: t, k => if e.1 = k then e.2 else tget d t k

/-- An entry put in its place of the order. -/
def tins {α : Type} (e : Nat × α) : Tab α → Tab α
  | [] => [e]
  | x :: t => if e.1 < x.1 then e :: x :: t else x :: tins e t

/-- The table with `v` at `k`; writing the default removes the entry. -/
def tput {α : Type} [DecidableEq α] (d : Nat → α) (t : Tab α) (k : Nat) (v : α) : Tab α :=
  let r := t.filter (fun e => e.1 != k)
  if v = d k then r else tins (k, v) r

/-- The table with the value at `k` changed by `f`. -/
def tmod {α : Type} [DecidableEq α] (d : Nat → α) (t : Tab α) (k : Nat) (f : α → α) : Tab α :=
  tput d t k (f (tget d t k))

/-- The canonical form: numbers strictly rising, no entry equal to its default. -/
def twf {α : Type} [DecidableEq α] (d : Nat → α) : Tab α → Bool
  | [] => true
  | e :: t => t.all (fun x => decide (e.1 < x.1)) && decide (e.2 ≠ d e.1) && twf d t

/-- How many listed entries satisfy `p` (an unlisted one holds its default). -/
def tcount {α : Type} (p : Nat → α → Bool) (t : Tab α) : Nat := (t.filter (fun e => p e.1 e.2)).length

/-- `f` applied to every listed entry, dropping those that become their default. -/
def tmap {α : Type} [DecidableEq α] (d : Nat → α) (f : Nat → α → α) (t : Tab α) : Tab α :=
  (t.map (fun e => (e.1, f e.1 e.2))).filter (fun e => decide (e.2 ≠ d e.1))

/-- The lowest number listed whose value satisfies `p`. -/
def tfind {α : Type} (p : Nat → α → Bool) (t : Tab α) : Option Nat := (t.find? (fun e => p e.1 e.2)).map Prod.fst

end Sys2Proof.Machine
end

