-- ==== Sys2Proof/Machine/Types.lean ====
section
/-! DEFINITION. The plain data of the data plane: what leaves the device, PCIe functions and courses, commands and
fences, threads, tagged words and engine requests, program images. -/

namespace Sys2Proof.Machine

/-- What leaves the device, in the order in which it leaves (R31, R135 and the chapters of each port). -/
inductive Out where
  /-- a posted write of output bytes for a partition: address, bytes -/
  | memWrite (fn : Nat) (addr : Nat) (bytes : List Byte)
  /-- the zero overwrite of an output area (R86): address, length -/
  | memZero (fn : Nat) (addr len : Nat)
  /-- a 32-byte completion written to entry `idx` of completion course `cq`, at a bus address (R49, R59, R60) -/
  | completion (fn cq idx addr : Nat) (bytes : BitVec 256)
  /-- an MSI-X message of a function's vector (R62) -/
  | msix (fn vec : Nat)
  /-- a non-posted read of host memory -/
  | memRead (fn addr len : Nat)
  /-- data returned to a register read: the register's number and the value -/
  | regData (reg : Nat) (v : Word)
  /-- data returned to a read of BAR2 or BAR4, or of configuration space (`bar` 6): function, BAR, offset, value -/
  | barData (fn bar off : Nat) (v : Word)
  /-- a memory read answered with Unsupported Request (R30, R33) -/
  | unsupported (fn : Nat)
  /-- an error logged through AER (R32) -/
  | aer (fn : Nat)
  /-- a response object of the DOE mailbox (R35) -/
  | doe (protocol : Nat) (bytes : List Byte)
  /-- a response of the Warden to a requester: origin, status, bytes -/
  | warden (origin : Nat) (status : Nat) (bytes : List Byte)
  /-- bytes driven on the I3C bus (R427 to R429) -/
  | i3c (bytes : List Byte)
  /-- an in-band interrupt of the I3C target (R429) -/
  | ibi (payload : Nat)
  /-- a Mortar frame as it goes out of a direct port (R383) -/
  | frame (port : Nat) (bytes : List Byte)
  /-- an APDU or a block sent to a custodian card: port, bytes -/
  | card (port : Nat) (bytes : List Byte)
  /-- a command to the backup card: CMD number, argument, data -/
  | sd (cmd arg : Nat) (data : List Byte)
  /-- the level driven on an output pin -/
  | pin (name : String) (level : Bool)
deriving DecidableEq, Repr

/-- The function whose requester ID a request carries; a response of the block carries none (R31). -/
def Out.fn : Out → Option Nat
  | .memWrite n _ _ => some n
  | .memZero n _ _ => some n
  | .completion n _ _ _ _ => some n
  | .msix n _ => some n
  | .memRead n _ _ => some n
  | _ => none

/-- One PCIe function (R28, R30, R41, R47). -/
structure Fn where
  bme : Bool        -- Bus Master Enable
  d3 : Bool         -- D3hot
  msixEn : Bool     -- MSI-X Enable
  fmask : Bool      -- Function Mask
  held : List (Option Nat × Out)   -- posted writes that wait for Bus Master Enable or D0, oldest first, each with the
                                   -- staging entry whose output it is, if any
deriving DecidableEq, Repr

def Fn.reset : Fn := ⟨false, false, false, false, []⟩

/-- One MSI-X vector: its table entry and its pending bit (R41, R62). -/
structure Vec where
  addr : Word
  data : Nat
  mask : Bool
  pend : Bool
deriving DecidableEq, Repr

def Vec.reset : Vec := ⟨0, 0, true, false⟩

/-- A completion course beyond its registers: the staging entries whose completions wait, oldest first (R61), the
completions written since the last message and whether the coalescing time runs (R63). -/
structure Cq where
  waiting : List Nat
  count : Nat
  timer : Bool
deriving DecidableEq, Repr

def Cq.reset : Cq := ⟨[], 0, false⟩

/-- The host link: functions, vectors, completion courses, VF Enable and NumVFs, the DOE Error bit, the keys of the
four selective IDE streams (R33: whether a key set is installed), the fields of configuration space that the host has written
(R28, R31, R33, R37), and the fetches that each course and each partition has had in its round (R54). -/
structure Hiu where
  fns : Tab Fn
  vecs : Tab Vec          -- numbered fn * 2048 + vector
  cqs : Tab Cq            -- numbered fn * 256 + local index
  vfEnable : Bool
  numVfs : Nat
  doeError : Bool
  ideKeys : Tab Nat       -- key sets installed in stream s, 0 none
  config : Tab Word       -- numbered fn * 64 + field (`cfgReset`)
  served : Tab Nat        -- numbered fn * 256 + local index for a course, 16384 + fn for a partition
deriving DecidableEq, Repr

def Hiu.reset : Hiu := ⟨[], [], [], false, 0, false, [], [], []⟩

/-- The states of a command (R64), with the states of a ring entry before it is staged and of a completion that is
queued but not yet written. -/
inductive CmdSt where
  | free | fetching | palletWait | palletRead | staged | fence | admitted | running | released | ended | queued
deriving DecidableEq, Repr

/-- One staging entry with its tracking entry (R64, R65, R68, R134, R182). -/
structure Cmd where
  st : CmdSt
  part : Nat            -- partition
  sq : Nat              -- SQ_INDEX, local
  pidx : Nat            -- PALLET_INDEX
  inPallet : Bool
  epoch : Nat           -- partition epoch stamped at fetch
  order : Nat           -- hand-over number to the Dispatcher (R78)
  adm : Nat             -- admission number (R66); for a fence, the event number current at its admission
  counted : Bool        -- admitted and not completed: counts against INFLIGHT (R64)
  desc : BitVec 512     -- the descriptor
  ctx : BitVec 1024     -- admission copy of the context
  prefetch : BitVec 2048
  reading : Bool        -- the read into INPUT_PREFETCH is outstanding
  ready : Bool          -- INPUT_PREFETCH has its content, or none is due
  image : Option (Nat × Nat)  -- bound image and ENTRY (R182)
  touched : Bool        -- OUTPUT_TOUCHED
  status : Nat
  result : BitVec 128
  fcount : Nat          -- fences: the COUNT of R81 as far as known
  seq : Word            -- event number of the queued completion
  bad : Option Nat      -- window offset of a word of the entry that the scrubber found uncorrectable (R420, R423)
deriving DecidableEq, Repr

def Cmd.reset : Cmd :=
  ⟨.free, 0, 0, 0, false, 0, 0, 0, false, 0, 0, 0, false, false, none, false, 0, 0, 0, 0, none⟩

/-- The Dispatcher: staging entries, context records, the hand-over and admission numbers, and the records that the scrubber found
uncorrectable (R420, R423). -/
structure Dsp where
  cmds : Tab Cmd
  ctxs : Tab (BitVec 1024)
  nextOrder : Nat
  nextAdm : Nat
  badCtx : Tab Bool
deriving DecidableEq, Repr

def Dsp.reset : Dsp := ⟨[], [], 0, 0, []⟩

/-- The glaze tag (R137). -/
inductive Tag where
  | plain | glazed | handle | poison
deriving DecidableEq, Repr

/-- A tagged word: 64 data bits, the glaze tag, the 3-bit residue (a cause code under POISON) (R137). -/
structure GWord where
  data : Word
  tag : Tag
  res : BitVec 3
deriving DecidableEq, Repr

def GWord.zero : GWord := ⟨0, .plain, 0⟩

/-- The words captured when an engine request is sent (R172). -/
structure Req where
  ra : Word              -- the request word
  key : Word             -- the handle named by RK (zero when the engine takes none)
  rb : GWord
  rb1 : GWord
  rx : GWord
  rx1 : GWord
  epoch : Nat            -- role epoch of the tile at assignment (R154)
  order : Nat            -- hand-over number of its command
  part : Nat             -- partition of its command
deriving DecidableEq, Repr

/-- What an engine returns on a token: a status and the pair for TWAIT (R168). -/
structure Res where
  status : Nat
  even : GWord
  odd : GWord
deriving DecidableEq, Repr

/-- Where a request's result goes (R168, R171): to the pair of TWAIT, to `n` octets of the slice from offset `off`, or to the output
area at `off`, with the octets that the HIU is to accept. -/
inductive Dst where
  | pair
  | slice (off n : Nat)
  | output (off : Nat) (bs : List Byte)
deriving DecidableEq, Repr

/-- A token (R167): free; its request sent; its request past the engine's checks with the key it captured (a vault
slot's key and ATTR as they were then, and the event number current then, R236); its result made and on its way back; its result arrived. -/
inductive Tok where
  | free
  | sent (r : Req)
  | queued (r : Req) (key : List Byte) (attr : Word) (at_ : Nat)
  | done (v : Res) (epoch : Nat) (dst : Dst)
  | arrived (v : Res)
deriving DecidableEq, Repr

/-- What a thread waits for before its next instruction (R130, R160). -/
inductive Wait where
  | none
  | token (tk : Nat) (ra : BitVec 5)   -- TWAIT
  | reuse (tk : Nat)                    -- an ECALL or CINC on a busy token (R167)
  | all                                 -- TWALL
  | release (rs1 : BitVec 5)            -- RELEASE
  | rand (rd : BitVec 5)                -- RAND (R176)
  | counters                            -- CSYNC (R178)
  | icache                              -- an instruction-cache fill (R130)
deriving DecidableEq, Repr

/-- A hardware thread (R129, R133 to R135, R157, R167). Numbered 16 * tile + thread. -/
structure Thr where
  cmd : Option Nat       -- the staging entry it runs
  epoch : Nat            -- role epoch of its tile when the command was assigned
  pc : Word
  g : Tab GWord          -- g0 to g31
  sl : Tab GWord         -- the 2,048 words of its slice
  result : BitVec 128    -- RESULT of the command window
  toks : Tab Tok         -- tk0 to tk11
  wait : Wait
  rel : Bool             -- RELEASE issued
  seqBlocks : Nat        -- counter-sequence blocks requested by the command (R190)
  limit : Nat            -- run limit in force when it entered Running (R148)
  commits : List Nat     -- counter commits issued and not yet durable, by commit number
  zeroising : Bool       -- ended; the clearing of R135 goes on
  writes : List (Nat × Option (Nat × List Byte))  -- host writes issued and not yet sent, in the order of issue: the token,
                         -- and the output-area offset and octets once its engine has made them (R173)
  ecc : Bool             -- the scrubber found a word of it uncorrectable: the word holds residue 0b111 until it is written (R420)
deriving DecidableEq, Repr

def Thr.reset : Thr := ⟨none, 0, 0, [], [], 0, [], .none, false, 0, 0, [], false, [], false⟩

/-- An admitted program image in the program store (R181, R182). -/
structure Image where
  id : Word
  version : Nat
  signer : Nat
  funcs : List (Nat × Nat)       -- FUNCTION_ID, ENTRY
  code : List (BitVec 32)
deriving DecidableEq, Repr

def Image.reset : Image := ⟨0, 0, 0, [], []⟩

/-- The program store: images by number, and the device's function table (FUNCTION_ID to image number and ENTRY). -/
structure Prog where
  images : Tab Image
  funcs : Tab (Option (Nat × Nat))
  next : Nat
deriving DecidableEq, Repr

def Prog.reset : Prog := ⟨[], [], 1⟩

end Sys2Proof.Machine
end

