-- ==== Sys2Proof/Machine/Units.lean ====
section
/-! DEFINITION. The plain data of the engines, the vault, the stores, the tamper monitor, the Warden, the card ports,
the bond and Platform Control, beyond their registers. -/

namespace Sys2Proof.Machine

/-! ## Key vault (chapter 09) -/

/-- A vault slot (R224): KEY, ATTR, GENERATION, KCV. -/
structure Slot where
  key : List Byte
  attr : Word
  gen : Nat
  kcv : Word
deriving DecidableEq, Repr

def Slot.reset : Slot := ⟨[], 0, 0, 0⟩

/-- Where a vault change has got to (R236, R237): staged and held until its bond transaction commits (R389); staged with its check value; its image record with the arbiter (the
commit is decided and becomes visible as that record is programmed); committed, the old material retiring. -/
inductive StagePhase where
  | bond | staged | record | retiring
deriving DecidableEq, Repr

/-- A staging entry of the vault (R236). -/
structure VStage where
  slot : Nat
  part : Nat
  new : Slot            -- KEY, ATTR and KCV to take (its generation is the slot's at commit)
  bump : Bool           -- the commit increments GENERATION
  persist : Bool        -- step 3 applies (R237)
  phase : StagePhase
  op : Nat              -- the arbiter operation of its image record
  old : Slot            -- the retiring copy
  commitSeq : Nat       -- event number at which it became visible, 0 before
  origin : Nat          -- who asked: 0 none, 1 the Warden's current request, 2 bond replication, 3 a restore
  gen : Option Nat      -- the generation to take in place of an increment (SYNC, R387)
deriving DecidableEq, Repr

/-- The keys derived from the root (R232), by presence: their values are the opaque KDF's of the root. -/
structure Roots where
  storage : Bool        -- storage key
  kek : Bool            -- storage KEK
  xks : Bool            -- Extended Store key
  attest : Bool
  mortar : Bool
  partmk : Bool         -- partition master keys
  salt : Option Nat     -- XKS_SALT: the number of the free value drawn for it
  bk : Nat              -- which Backup Key the KEK and the master keys were derived under
deriving DecidableEq, Repr

def Roots.reset : Roots := ⟨false, false, false, false, false, false, none, 0⟩

structure Vlt where
  slots : Tab Slot
  staging : Tab VStage       -- entries 0 to 4,095 in use
  faulted : Tab Bool         -- slots whose word was uncorrectable (R421)
  waiting : List VStage      -- changes that wait for a staging entry, oldest first
  roots : Roots
deriving DecidableEq, Repr

def VStage.reset : VStage := ⟨0, 0, Slot.reset, false, false, .staged, 0, Slot.reset, 0, 0, none⟩
def Vlt.reset : Vlt := ⟨[], [], [], [], Roots.reset⟩

/-! ## Non-volatile store (chapter 12) -/

/-- A record in MRAM (R284): region 0 the journal, 1 the program signatures, 2 and 3 the configuration copies A and B. -/
structure Rec where
  region : Nat
  type : Nat
  subject : Nat
  payload : List Byte
  seq : Nat             -- the NVS's own record sequence (R286)
  pos : Nat             -- byte offset in its region
  valid : Bool          -- its final word reads new (R285)
  test : Bool           -- its MAC is under the Test Root's storage key (R234, R331)
deriving DecidableEq, Repr

/-- A base slot of a counter block (R293): BASE, BSEQ, and whether CHECK matches. -/
structure BaseSlot where
  base : Nat
  bseq : Nat
  ok : Bool
deriving DecidableEq, Repr

/-- A counter block (R292): base slots A and B and, per cell, 0 for a cleared cell or 1 + TAG. -/
structure Block where
  a : BaseSlot
  b : BaseSlot
  cells : Tab Nat
deriving DecidableEq, Repr

/-- A freshly formatted block (R293). -/
def Block.fresh : Block := ⟨⟨0, 1, true⟩, ⟨0, 0, false⟩, []⟩

/-- A persistent image copy with its tag (R239, R289): header, SIV and encrypted KEY as 64 octets, whether its tag checks under the
storage key that made it, and whether that was the Test Root's (R234). -/
structure Copy where
  bytes : List Byte
  tagOk : Bool
  test : Bool
deriving DecidableEq, Repr

def Copy.none_ : Copy := ⟨[], true, false⟩

/-- What an arbiter operation writes. -/
inductive NvKind where
  | record (r : Rec)
  | increment (blk : Nat)          -- block number: region * 4096 + index
  | add (blk d : Nat)
  | raise (blk v : Nat)
deriving DecidableEq, Repr

/-- An operation handed to the arbiter (R21): its priority 1 to 4, its number, and the command that issued a counter
commit (partition, hand-over number). -/
structure NvOp where
  id : Nat
  prio : Nat
  kind : NvKind
  part : Nat
  order : Nat
deriving DecidableEq, Repr

/-- The operation is a counter commit of a command (CINC, R177). -/
def NvOp.isCommit (o : NvOp) : Bool := match o.kind with
  | .increment _ => o.order != 0
  | _ => false

structure Nvs where
  recs : List Rec            -- records present, oldest first
  copies : Tab Copy          -- image copies by slot
  blocks : Tab Block         -- region * 4096 + index
  mirror : Tab Nat           -- value of each block as recovered or last made durable (R296)
  damaged : Tab Bool
  waiting : List NvOp        -- in arrival order
  cur : Option (NvOp × Nat)  -- the operation being programmed and the words programmed so far
  nextOp : Nat
  failed : List Nat          -- operations the arbiter refused or abandoned, by number
  frozen : Bool              -- a rail freeze holds every word (R282)
  corrupt : List Nat         -- MRAM byte addresses of words that read uncorrectable
  hidden : List Rec          -- records whose MAC is under the other root than the one in force (R331)
  alarmRecs : List (List Byte) -- TIME and INFO of the ring entries whose ALARM_EVENT record is durable (R317)
deriving DecidableEq, Repr

def Nvs.reset : Nvs := ⟨[], [], [], [], [], [], none, 1, [], false, [], [], []⟩

/-! ## Cipher cluster (chapter 07) -/

/-- The tags of a core's cached key schedule (R187): the handle's kind and index, generation, partition. -/
structure CacheTag where
  kind : Nat
  index : Nat
  gen : Nat
  part : Nat
deriving DecidableEq, Repr

structure Ciph where
  queue : List (Nat × Nat)        -- thread * 16 + token, and how many younger entries have passed it (R187)
  steps : Tab Nat                 -- by thread * 16 + token, the steps that a derivation in the queue has left (R245)
  cache : Tab (Option CacheTag)   -- by core
  waitNonce : List Nat            -- NONCE requests that wait for a window commit (R195), oldest first
  commitOp : Option Nat           -- the window commit under way, by arbiter operation
  commitMark : Nat                -- the mark it carries
  nextId : Nat                    -- NONCE_ID, bond epoch and expiry of the next lease's grant
  nextBond : Nat
  nextExpiry : Nat
  activeBond : Nat
  burned : List Nat               -- lease numbers burned (R196, R393, R396)
  answered : Nat                  -- SEQ of the newest window commit that the Warden has answered with a lease (R194)
deriving DecidableEq, Repr

def Ciph.reset : Ciph := ⟨[], [], [], [], none, 0, 0, 0, 0, 0, [], 0⟩

/-! ## Hash and public-key engines (chapter 08) -/

structure Hpk where
  sha2 : List Nat        -- the four queues (R204, R210): thread * 16 + token, oldest first
  sha3 : List Nat
  lane : List Nat
  ntt : List Nat
  ntCache : Tab (List CacheTag)   -- expanded keys cached by each NTT unit, newest first, at most 8 (R217)
  restarting : Bool      -- CD_PKL restarts (R210)
deriving DecidableEq, Repr

def Hpk.reset : Hpk := ⟨[], [], [], [], [], false⟩

/-! ## Extended Key Store (chapter 10) -/

/-- A record (R252): KEY, ATTR (PRESENT clear when absent), GENERATION, KCV. -/
structure XRec where
  key : List Byte
  attr : Word
  gen : Nat
  kcv : Word
deriving DecidableEq, Repr

def XRec.reset : XRec := ⟨[], 0, 0, 0⟩

structure Xks where
  recs : Tab XRec
  counters : Tab Nat    -- the counters of the lines and of the tree's nodes since the format, the root's among them (R254; `ctrKey`)
  cache : List (Nat × Nat)  -- the nodes that the tree cache holds beside the pinned levels: level and index, last used first (R257)
  dirty : List (Nat × Nat)  -- the nodes whose DRAM copy is older (R256)
  dram : Tab (List Byte)    -- the 64-byte lines and nodes written to DRAM since the format, by address / 64 (R253, R254)
  waiting : Bool        -- the DRAM PLL has lost lock: requests wait (R414)
  relockFailed : Bool   -- no relock within 1 ms: requests fail (R414)
  xfer : Nat            -- records that the running transfer has dealt with (R265)
  wrote : Nat           -- records it has written or imaged
  fmt : Nat             -- RECORDS that the store is formatted for, 0 when it is not
  ranges : List (Nat × Nat)  -- and the partitions' ranges
  cap : Nat             -- GB found at training
  held : Bool           -- the device has been Held since the reset (R262)
deriving DecidableEq, Repr

def Xks.reset : Xks := ⟨[], [], [], [], [], false, false, 0, 0, 0, [], 0, false⟩

/-! ## Random numbers (chapter 11) -/

/-- The RNG beyond its registers: the start-up period, whether the start-up test of RETEST runs, which instances have an
instantiate or a reseed pending, the conditioned blocks gathered for it, and the requests that wait for a reseed of the
host instance they asked for, or whose reseed is done; the internal conditioner's register; whether the wait of the host instance's
pending demand has been counted; and, by instance, the generate calls since it last took entropy and the octets that its output
buffer holds (R268 to R270, R273). -/
structure Rng where
  startup : Bool
  testing : Bool
  needC : Bool
  needD : Bool
  needH : Bool
  blocks : List (BitVec 256)
  hostWait : List Nat
  hostDone : List Nat
  lfsr : BitVec 256
  counted : Bool
  calls : Tab Nat
  buf : Tab Nat
deriving DecidableEq, Repr

def Rng.reset : Rng := ⟨true, false, false, false, false, [], [], [], 0, false, [], []⟩

/-! ## Tamper monitor (chapter 13) -/

/-- An alarm: its source (R304), which detectors fired (bit 0 A, bit 1 B), DETAIL, its time in sub-seconds, and whether a
rail freeze resolves with it (R306). -/
structure Alarm where
  src : Nat
  det : Nat
  detail : Nat
  time : Nat
  freeze : Bool
deriving DecidableEq, Repr

structure Tmp where
  lock : Bool            -- a Lock is in force: the LOCKED latch outside MANUFACTURE, or a rail freeze's
  erased : Bool          -- the ERASED latch is in force
  erasing : Bool         -- an Erase has been delivered and is not complete
  now : Nat              -- CD_MGMT cycles counted
  firstFault : Tab (Option Nat)   -- when a unit's first fault came, while its window may run (R153, R199, R221)
  reports : List Nat     -- unit codes of faults not yet reported (R312)
  raised : List Nat      -- DETAILs of WARDEN_SELFCHECK that a unit raises and that have not entered the network
  frozen : Bool          -- a rail freeze is in progress (R306)
  crossed : List Alarm   -- the rails that crossed low in it
  batch : List Alarm     -- alarms that have entered in this CD_FABRIC cycle and are not judged yet (R313)
  lockDue : Bool         -- a Lock has been judged and not delivered
  eraseDue : Bool        -- an Erase has been judged and not delivered
  window : List (Nat × Nat)  -- fault reports of the last 10 ms: unit, time
  armed : List Nat       -- sources that have been armed (R304)
  bist : Option (Nat × Nat)  -- the built-in test that runs: source, detector
  vbatLow : Bool         -- VBAT is below 2.6 V (R315)
deriving DecidableEq, Repr

def Tmp.reset : Tmp := ⟨false, false, false, 0, [], [], [], false, [], [], false, false, [], [], none, false⟩

/-! ## Warden (chapter 14) -/

/-- A mailbox request: its origin (0 WDN registers, 1 a key-management course, 2 I3C, 3 Mortar), the staging entry or the
Mortar sender it came from, and its bytes (R324, R325). -/
structure WReq where
  origin : Nat
  entry : Nat
  bytes : List Byte
  s0 : Nat                  -- alarms that had entered the network when it was received (R338)
deriving DecidableEq, Repr

/-- An open ceremony (R336): the 80 bytes and the signatures gathered, each KEY_ID and r ‖ s. -/
structure Ceremony where
  head : List Byte
  sigs : List (List Byte × List Byte)
deriving DecidableEq, Repr

/-- An open archive-key window (R368): the request, the new key, its generation, the KEY_IDs whose share is written. -/
structure ArchWin where
  req : WReq
  key : Nat                 -- the number of the free value that is the new archive key
  gen : Nat
  written : List (List Byte)
deriving DecidableEq, Repr

/-- A BACKUP_WRITE in progress (R376): the next block is block `seq` of copy `copy`. -/
structure Backup1 where
  req : WReq
  start : Nat
  copies : Nat
  count : Nat
  archive : Nat             -- the number of the free value that is ARCHIVE_ID
  entries : List (List Byte)
  copy : Nat
  seq : Nat
deriving DecidableEq, Repr

/-- An open restore (R340, R377). -/
structure Restore where
  req : Option WReq         -- RESTORE_BEGIN, until its response
  start : Nat
  count : Nat
  copies : Nat
  s0 : Nat                  -- number of alarms when it began
  header : List Byte        -- the accepted HEADER block, empty before
  headCopy : Nat
  shares : List (Nat × List Byte)
  key : List Byte           -- the rebuilt archive key, empty before
  nextSeq : Nat             -- the next sequence number to read
  copy : Nat                -- and its copy
  blocks : List (List Byte) -- valid plaintext payloads, in order
  bad : Option Nat          -- the sequence number that has no valid block
  loaded : Nat              -- keys loaded
  loading : Nat             -- loads outstanding
deriving DecidableEq, Repr

/-- The SPDM responder (R350): what has been negotiated, the session, the message transcripts that its signatures cover (the
negotiation, certificates and challenge, measurements, key exchange) and the session's secret. -/
structure Spdm where
  version : Bool
  caps : Bool
  algs : Bool
  session : Nat             -- 0 none, 1 KEY_EXCHANGE answered, 2 open
  vca : List Byte
  certs : List Byte
  meas : List Byte
  kex : List Byte
  secret : List Byte         -- the session's secrets, requester's then responder's (then the master secret until FINISH)
  sid : List Byte            -- the session's identifier
  rx : Nat                   -- records received and sent under those secrets
  tx : Nat
deriving DecidableEq, Repr

def Spdm.reset : Spdm := ⟨false, false, false, 0, [], [], [], [], [], [], 0, 0⟩

/-- No session. -/
def Spdm.ended (s : Spdm) : Spdm := { s with session := 0, kex := [], secret := [], sid := [], rx := 0, tx := 0 }

structure Wdn where
  running : Bool                 -- the Warden runs (from release step 5 on)
  km : Tab (Option Nat)          -- KM_COURSE of each partition
  queue : List WReq              -- requests in order of arrival; the front one is in service
  job : Option WReq              -- the front request waits for a vault change it made (R236)
  config : List Byte             -- the STANDING_CONFIG payload in force, empty if none
  setM : Nat                     -- the recorded custodian set (R343): M, N and the public keys
  setN : Nat
  keys : List (List Byte)
  ceremony : Option Ceremony
  arch : Option ArchWin
  backup : Option Backup1
  restore : Option Restore
  nonces : Tab (Option Nat)      -- TR-34 random number of each partition, by its free value (R120)
  spdm : Spdm
  alarms : Nat                   -- alarms that have entered the network since the cold reset
  answers : List (VStage × Nat)  -- vault changes that have ended and whose source has not been answered: change, status
deriving DecidableEq, Repr

def Wdn.reset : Wdn := ⟨false, [], [], none, [], 0, 0, [], none, none, none, none, [], Spdm.reset, 0, []⟩

/-! ## Card ports (chapter 15) -/

/-- A custodian port beyond its registers. -/
structure CcPort where
  present : Bool
  tries : Nat               -- PPS failures since insertion (R357)
  atr : List Byte           -- the ATR in force
  ns : Nat                  -- N(S) of the next I-block sent, N(S) expected
  nr : Nat
  parts : List (List Byte)  -- the later APDUs of a command that is chained (R361)
  out : List (List Byte)    -- information fields of the APDU not yet sent, first the one in flight
  last : List Byte          -- the block sent last
  sends : Nat               -- how often it has been sent
  resynchs : Nat
  ins : Nat                 -- the command in progress (INS), 0 none
  got : List Byte           -- response bytes received so far
  ready : Bool              -- the response is complete
  info : List Byte          -- what GET_INFO returned
  refused : Bool            -- this card is refused for the ceremony in progress
  eph : Nat                 -- the free value of the session's ephemeral and nonce
  keys : List Byte          -- K_CMD and K_RSP, empty without a session
  cmdCount : Nat
  rspCount : Nat
  slot : Nat                -- the share slot of the command in progress
  waited : Nat              -- BWT multiplier granted for the next block (R359)
deriving DecidableEq, Repr

def CcPort.reset : CcPort :=
  ⟨false, 0, [], 0, 0, [], [], [], 0, 0, 0, [], false, [], false, 0, [], 0, 0, 0, 1⟩

structure Crd where
  ports : Tab CcPort        -- A 0, B 1
  sdPresent : Bool
  sdLimit : Bool            -- limited to high speed until removal (R370)
  sdBusy : Bool             -- a write's busy phase runs
  sdLba : Nat
  sdTuned : Bool            -- the card in the port has been tuned once
  sdStop : Option Nat       -- the status with which a Lock or an Erase ends the write after its busy phase (R353)
deriving DecidableEq, Repr

def Crd.reset : Crd := ⟨[], false, false, false, 0, false, none⟩

/-! ## Bond (chapter 16) -/

/-- A session (R382, R383): 0 none, 1 HELLO sent, 2 HELLO_REPLY sent, 3 established. Sessions 0 and 1 are the direct ports;
16 + m is the relay session with member m. -/
structure Sess where
  st : Nat
  peer : Nat
  cert : List Byte          -- the peer's certificate
  hello : List Byte         -- the payload of HELLO
  rx : Nat                  -- COUNTER last accepted
  tx : Nat                  -- COUNTER last drawn
  drops : Nat               -- drops in a row
  eph : Nat                 -- the first of the free values behind the initiator's ephemeral keys and NONCE_I
  keys : List Byte          -- the session keys: initiator to responder, then responder to initiator
  init : Bool               -- this device is the initiator
deriving DecidableEq, Repr

def Sess.reset : Sess := ⟨0, 0, [], [], 0, 0, 0, 0, [], false⟩

/-- A transaction (R389). On the manager: open, with the vault staging entry, who has answered PREPARED with ST_OK, who takes part. -/
structure MtrTx where
  txn : Nat
  entry : Nat
  image : List Byte         -- the 64 bytes of R224
  slot : Nat
  before : Nat
  seq : Nat                 -- event number at commit
  waiting : List Nat        -- members that have not applied it
  phase : Nat               -- 0 preparing, 1 COMMIT sent to the standby, 2 committed
deriving DecidableEq, Repr

/-- A lease in the manager's or standby's table (R390): member, number, 1 granted, 2 held. -/
structure Holding where
  member : Nat
  lease : Nat
  ev : Nat
deriving DecidableEq, Repr

/-- A message that awaits its answer (R385): destination, type, fields. -/
structure Sent where
  dst : Nat
  kind : Nat
  fields : List Nat
deriving DecidableEq, Repr

structure Mtr where
  cert : List Byte               -- the certificate body and authorisation, empty outside a bond (R378)
  roster : List (Nat × List Byte)
  highest : Nat                  -- HIGHEST_LEASE (R391)
  sess : Tab Sess
  msgId : Nat
  seen : List (Nat × Nat)        -- SRC and MSG_ID of frames accepted, newest first, at most 64
  via : Tab Nat                  -- how a member was last heard: 0 not yet, 1 the ring, 2 the relay
  table : List Holding
  requests : List (Nat × Nat)    -- LEASE_REQUESTs that wait: member, HIGHEST_LEASE
  granting : Option (Nat × Nat)  -- the grant that waits for LEASE_STATE_ACK: member, lease
  burning : List (Nat × Nat)     -- burns that wait for it
  tx : Option MtrTx
  unapplied : List MtrTx         -- committed, not applied by every live worker
  hist : List MtrTx              -- the newest 4,096 committed
  liveWorkers : Nat              -- the FENCE_BOND set (R79)
  outstanding : List Sent
  beats : Nat                    -- HEARTBEATs sent since the last with RENEW
  byReset : Bool                 -- entered JOINING through a reset (R396)
  joining : Nat                  -- the manager it has sent JOIN to, 0 none
  named : List Nat               -- slots that the SYNC in progress has named
  syncLast : Nat                 -- LAST_TXN with which SYNC_END or JOIN_ACCEPT brought it up to date
  prepared : Option (Nat × Nat)  -- on a member: the transaction prepared and its vault staging entry
  pendingImages : Tab (List Byte) -- images of transactions prepared, not yet staged
  relay : List Sent              -- frames that wait for the relay ring, oldest first
  relayIn : Nat                  -- inbound tail last written
  relayOut : Nat                 -- outbound head last written
  lost : List Nat                -- members declared lost that have not joined again (R394)
  want : Nat                     -- the member to designate as standby, 0 for the lowest eligible one (R395, R397)
  relayGot : List Nat            -- SRC of inbound relay frames accepted and not yet handled, oldest first
deriving DecidableEq, Repr

def Mtr.reset : Mtr :=
  ⟨[], [], 0, [], 0, [], [], [], [], none, [], none, [], [], 0, [], 0, false, 0, [], 0, none, [], [], 0, 0, [], 0, []⟩

/-! ## Platform Control (chapters 17 and 18) -/

structure Plt where
  spares : Tab Nat          -- spare rows used by each SRAM array (R422)
  life : Tab Nat            -- lifetime counts not yet issued, by block (R299)
  mainOn : Bool             -- main power is present
  por : Bool                -- POR is asserted
  rstIn : Bool              -- RESET_IN_N is low
  perst : Bool              -- PERST_N is low
  reach : Nat               -- the reset in progress: 1 warm, 2 cold; 0 once released
  fresh : Bool              -- a cold reset's key images and records have not been rebuilt yet
  resets : List Nat         -- lifetime blocks to be incremented at the next recovery (R432): resets, kiln failures
  rstOut : Bool             -- the level driven on RESET_OUT_N
  waiting : Option (Nat × Nat × Nat)  -- a reset that waits for an Erase: reach, source, origin (R399)
  ibi : Bool                -- ENEC has enabled in-band interrupts (R429)
  i3cReq : Tab Word         -- the I3C mailbox buffers (R430)
  i3cResp : Tab Word
  i3cBusy : Bool
  i3cDone : Bool
  hottest : Option Int      -- the period's hottest sample, in 1/16 °C
  devs : Tab (Option Int)   -- the period's largest deviation of each voltage monitor, in 0.01%
  highest : Nat             -- highest DSP_OCCUPANCY.ADMITTED not yet issued
deriving DecidableEq, Repr

def Plt.reset : Plt := ⟨[], [], true, false, false, false, 0, false, [], false, none, false, [], [], false, false, none, [], 0⟩

/-! ## The backup domain and the fuses (R301, R315, R308, R328) -/

structure Backup where
  locked : Bool
  erased : Bool
  bk : Option Nat           -- the Backup Key: the free value it is
  flags : Word
  ring : Tab (Word × Word)  -- TIME and INFO of entry e, e = ENTRY mod 16
  newest : Nat              -- the entry count
  reviewed : Nat
  time : Nat                -- sub-seconds, 63 bits
  phase : Nat               -- what CD_MGMT cycles have gathered towards the next sub-second, in 1/10^8
  timeValid : Bool
deriving DecidableEq, Repr

structure Fuses where
  provision : Bool
  debug : Nat               -- debug fuses blown, 0 to 8
  decommission : Bool
  tampClass : Nat           -- the class bank, 8 bits
  programmed : Bool
deriving DecidableEq, Repr

end Sys2Proof.Machine
end

