-- ==== Sys2Proof/Machine/Dev.lean ====
section
/-! DEFINITION. The device outside the backup domain and the fuses: everything a cold reset reaches. -/

namespace Sys2Proof.Machine

structure Dev where
  regs : Tab Word          -- every register (Regs.lean); an unlisted one holds its Reset value
  heff : Tab (Option Word) -- the values in force of a register whose H-class write waits (R416, R418)
  seq : Word               -- event sequence number most recently assigned (R75)
  hiu : Hiu
  dsp : Dsp
  thrs : Tab Thr           -- 16 * tile + thread
  prog : Prog
  ciph : Ciph
  hpk : Hpk
  vlt : Vlt
  xks : Xks
  rng : Rng
  nvs : Nvs
  tmp : Tmp
  wdn : Wdn
  crd : Crd
  mtr : Mtr
  plt : Plt
  out : List (Option Nat × Out)  -- what has left the device, oldest first, each with the IDE stream in which it travels, if any
  nfree : Nat              -- the MODEL's own: how many free values have been taken
deriving DecidableEq, Repr

end Sys2Proof.Machine
end

