-- ==== Sys2Proof/Machine/Ops.lean ====
section
/-! DEFINITION. The named operations over the device: register fields, event numbers, posted writes and messages, the
state of a partition, what ends a command, and the function-level reset. -/

namespace Sys2Proof.Machine

/-! ## Registers -/

/-- The stored value of register number `a`. -/
def Dev.reg (d : Dev) (a : Nat) : Word := tget regReset d.regs a

/-- Register number `a` set to `w`. -/
def Dev.setReg (d : Dev) (a : Nat) (w : Word) : Dev := { d with regs := tput regReset d.regs a w }

/-- The stored value of a field. -/
def Dev.rd (d : Dev) (f : Fld) : Nat := getF (d.reg f.reg) f.lo f.width

/-- A field set to `v`. -/
def Dev.wr (d : Dev) (f : Fld) (v : Nat) : Dev := d.setReg f.reg (setF (d.reg f.reg) f.lo f.width v)

/-- A one-bit field as a truth value. -/
def Dev.bit (d : Dev) (f : Fld) : Bool := d.rd f != 0

/-- A counting field increased by `n`, stopping at its largest value. -/
def Dev.inc (d : Dev) (f : Fld) (n : Nat) : Dev := d.wr f (satAdd f.width (d.rd f) n)

/-- The value of an H-class field that is in force: the one before a pending write, if one waits (R416, R418). -/
def Dev.eff (d : Dev) (f : Fld) : Nat :=
  match tget (fun _ => none) d.heff f.reg with
  | some w => getF w f.lo f.width
  | none => d.rd f

/-- The boundary of a register's H-class fields: the pending write takes effect (R416). -/
def Dev.boundary (d : Dev) (a : Nat) : Dev := { d with heff := tput (fun _ => none) d.heff a none }

/-- The registers for which `p` holds back at their Reset values, nothing pending on them (R9, R418). -/
def Dev.resetRegs (d : Dev) (p : Nat → Bool) : Dev :=
  { d with regs := d.regs.filter (fun e => !p e.1), heff := d.heff.filter (fun e => !p e.1) }

/-! ## Events (R75) -/

/-- The next event is recorded. -/
def Dev.event (d : Dev) : Dev := { d with seq := d.seq + 1 }

/-- The next event is recorded and its number written to the register `f` names (R10). -/
def Dev.eventAt (d : Dev) (f : Fld) : Dev := d.event.wr f d.event.seq.toNat

/-- A free value is taken (Config.freeWord of the number before). -/
def Dev.takeFree (d : Dev) : Dev := { d with nfree := d.nfree + 1 }

/-! ## Configuration space (R28, R30, R31, R33, R36, R37) -/

/-- What field `k` of function `n`'s configuration space reads as before the host writes it: 0 the Device ID, 1 the Class Code, 2 Max
Payload Size and 3 Max Read Request Size as their codes, 4 the completion timeout range, 5 No_Soft_Reset, 6 TotalVFs, 7 InitialVFs,
8 First VF Offset, 9 VF Stride, 10 to 12 BAR0, BAR2 and BAR4, 13 to 15 VF BAR0, VF BAR2 and VF BAR4, 16 + 4s and on the requester-ID
range and the address base and limit of the association of IDE stream s; 32 the size of the MSI-X table less one. -/
def cfgReset (n k : Nat) : Word :=
  match k with
  | 0 => if n = 0 then 0x9400 else 0x9401
  | 1 => 0x108000
  | 3 => 2
  | 5 => 1
  | 6 => if n = 0 then 63 else 0
  | 7 => if n = 0 then 63 else 0
  | 8 => if n = 0 then 1 else 0
  | 9 => if n = 0 then 1 else 0
  | 10 => if n = 0 then 4 else 0
  | 11 => if n = 0 then 4 else 0
  | 12 => if n = 0 then 4 else 0
  | 13 => if n = 0 then 4 else 0
  | 14 => if n = 0 then 4 else 0
  | 15 => if n = 0 then 4 else 0
  | 32 => if n = 0 then 2047 else 31
  | _ => 0

/-- The bits of a field that the host writes: the codes, an address of a BAR above its size (1 MB, 32 KB and 64 KB on the physical
function, 64 KB, 32 KB and 4 KB on a virtual one), an association range. -/
def cfgMask (n k : Nat) : Word :=
  if k = 4 then 0xF
  else if n ≠ 0 then 0
  else match k with
    | 2 => 7
    | 3 => 7
    | 10 => ~~~0xFFFFF
    | 11 => ~~~0x7FFF
    | 12 => ~~~0xFFFF
    | 13 => ~~~0xFFFF
    | 14 => ~~~0x7FFF
    | 15 => ~~~0xFFF
    | _ => if 16 ≤ k ∧ k < 32 ∧ k % 4 ≠ 3 then ~~~0 else 0

/-- Field `k` of function `n`'s configuration space. -/
def Dev.cfg (d : Dev) (n k : Nat) : Word := tget (fun a => cfgReset (a / 64) (a % 64)) d.hiu.config (n * 64 + k)

/-- A configuration write of `w` to field `k` of function `n`. -/
def Dev.cfgWrite (d : Dev) (n k : Nat) (w : Word) : Dev :=
  let m := cfgMask n k
  { d with hiu := { d.hiu with config := tput (fun a => cfgReset (a / 64) (a % 64)) d.hiu.config (n * 64 + k) ((d.cfg n k &&& ~~~m) ||| (w &&& m)) } }

/-- Octets of the largest write, 128 to 512, and of the largest read, 128 to 4,096 (R28); virtual functions share the physical one's. -/
def Dev.maxPayload (d : Dev) : Nat := 128 * 2 ^ min 2 (d.cfg 0 2).toNat
def Dev.maxRead (d : Dev) : Nat := 128 * 2 ^ min 5 (d.cfg 0 3).toNat

/-! ## What leaves the device -/

/-- The IDE stream in which the requests of function `n` travel: the bound one of an IDE-required partition (R33). -/
def Dev.streamOf (d : Dev) (n : Nat) : Option Nat :=
  if d.bit (Fld.PART_STATUS_IDE_REQUIRED n) then some (d.rd (Fld.PART_STATUS_IDE_STREAM n)) else none

/-- A transfer of `len` octets at `addr` cut so that no piece exceeds `max` octets or crosses a 4 KB boundary (R31): addresses and
lengths. The first operand bounds the number of pieces. -/
def pieces : Nat → Nat → Nat → Nat → List (Nat × Nat)
  | 0, _, _, _ => []
  | k + 1, max, addr, len =>
    if len = 0 then []
    else
      let n := min len (min max (4096 - addr % 4096))
      (addr, n) :: pieces k max (addr + n) (len - n)

/-- What leaves, as the requests that carry it (R31). -/
def Dev.packets (d : Dev) (o : Out) : List Out :=
  match o with
  | .memWrite n addr bs => (pieces bs.length d.maxPayload addr bs.length).map (fun p => .memWrite n p.1 ((bs.drop (p.1 - addr)).take p.2))
  | .memZero n addr len => (pieces len d.maxPayload addr len).map (fun p => .memZero n p.1 p.2)
  | .memRead n addr len => (pieces len d.maxRead addr len).map (fun p => .memRead n p.1 p.2)
  | o => [o]

/-- Something leaves the device that no function's state holds back. -/
def Dev.emit (d : Dev) (o : Out) : Dev := { d with out := d.out ++ (d.packets o).map (fun p => (p.fn.bind d.streamOf, p)) }

def Dev.fn (d : Dev) (n : Nat) : Fn := tget (fun _ => Fn.reset) d.hiu.fns n
def Dev.setFn (d : Dev) (n : Nat) (f : Fn) : Dev :=
  { d with hiu := { d.hiu with fns := tput (fun _ => Fn.reset) d.hiu.fns n f } }

def Dev.cmd (d : Dev) (e : Nat) : Cmd := tget (fun _ => Cmd.reset) d.dsp.cmds e
def Dev.setCmd (d : Dev) (e : Nat) (c : Cmd) : Dev :=
  { d with dsp := { d.dsp with cmds := tput (fun _ => Cmd.reset) d.dsp.cmds e c } }
def Dev.modCmd (d : Dev) (e : Nat) (f : Cmd → Cmd) : Dev := d.setCmd e (f (d.cmd e))

/-- Function `n` may start requests: Bus Master Enable set, and D0 (R30, R47). -/
def Dev.canSend (d : Dev) (n : Nat) : Bool := (d.fn n).bme && !(d.fn n).d3

/-- Something function `n` writes for no staging entry: sent, or held in order while it may start no request (R30,
R47). -/
def Dev.send (d : Dev) (n : Nat) (o : Out) : Dev :=
  if d.canSend n then d.emit o else d.setFn n { d.fn n with held := (d.fn n).held ++ [(none, o)] }

/-- The partition's epoch. -/
def Dev.epoch (d : Dev) (n : Nat) : Nat := d.rd (Fld.PART_STATUS_EPOCH n)

/-- The command in entry `e` was fetched in its partition's current epoch (R46, R83). -/
def Dev.current (d : Dev) (e : Nat) : Bool := (d.cmd e).epoch == d.epoch (d.cmd e).part

/-- An output write of the command in entry `e`: sent, which sets OUTPUT_TOUCHED (R65), or held; nothing leaves for a command fetched
before a reset of its partition (R46). -/
def Dev.sendOut (d : Dev) (n e : Nat) (o : Out) : Dev :=
  if !d.current e then d
  else if d.canSend n then (d.emit o).modCmd e (fun c => { c with touched := true })
  else d.setFn n { d.fn n with held := (d.fn n).held ++ [(some e, o)] }

/-- The held output writes of entry `e`, which have not begun to be sent, are discarded (R86). -/
def Dev.discardOut (d : Dev) (n e : Nat) : Dev :=
  d.setFn n { d.fn n with held := (d.fn n).held.filter (fun h => h.1 != some e) }

/-- Some output write of entry `e` has not been sent (R84). -/
def Dev.outHeld (d : Dev) (n e : Nat) : Bool := (d.fn n).held.any (fun h => h.1 == some e)

def Dev.vec (d : Dev) (n v : Nat) : Vec := tget (fun _ => Vec.reset) d.hiu.vecs (n * 2048 + v)
def Dev.setVec (d : Dev) (n v : Nat) (x : Vec) : Dev :=
  { d with hiu := { d.hiu with vecs := tput (fun _ => Vec.reset) d.hiu.vecs (n * 2048 + v) x } }

/-- Vector `v` of function `n` can send its message now (R62). -/
def Dev.vecOpen (d : Dev) (n v : Nat) : Bool := (d.fn n).msixEn && !(d.fn n).fmask && !(d.vec n v).mask

/-- A held write leaves: an output write sets OUTPUT_TOUCHED; a message whose vector has been masked since becomes pending (R62). -/
def Dev.leaves (d : Dev) (h : Option Nat × Out) : Dev :=
  match h.1, h.2 with
  | some e, o => (d.emit o).modCmd e (fun c => { c with touched := true })
  | none, .msix n v => if d.vecOpen n v then d.emit (.msix n v) else d.setVec n v { d.vec n v with pend := true }
  | none, o => d.emit o

/-- The writes held for function `n` are sent in order, if it may start requests again (R30, R47). -/
def Dev.flush (d : Dev) (n : Nat) : Dev :=
  if d.canSend n then (d.fn n).held.foldl Dev.leaves (d.setFn n { d.fn n with held := [] }) else d

/-- An event that raises vector `v` of function `n`: its message is sent, or its pending bit set (R62). -/
def Dev.fire (d : Dev) (n v : Nat) : Dev :=
  if d.vecOpen n v then d.send n (.msix n v) else d.setVec n v { d.vec n v with pend := true }

/-- A pending vector whose way is open sends its one message and is no longer pending (R62). -/
def Dev.drainVec (d : Dev) (n v : Nat) : Dev :=
  if (d.vec n v).pend && d.vecOpen n v then
    (d.setVec n v { d.vec n v with pend := false }).send n (.msix n v)
  else d

/-- Every pending vector of function `n` whose way is open (R62). -/
def Dev.drainVecs (d : Dev) (n : Nat) : Dev :=
  ((d.hiu.vecs.filter (fun e => e.1 / 2048 == n && e.2.pend)).map (fun e => e.1 % 2048)).foldl (fun x v => x.drainVec n v) d

/-- A virtual function exists (R36, R47); the physical function always does. -/
def Dev.fnExists (d : Dev) (n : Nat) : Bool := n == 0 || (d.hiu.vfEnable && decide (n ≤ d.hiu.numVfs) && decide (n < 64))

/-- The functions that exist, lowest first. -/
def Dev.fnList (d : Dev) : List Nat := (List.range 64).filter d.fnExists

/-! ## The state of the device and of a partition -/

/-- Block `b` of R412 is held in reset by PLT_BLOCK_RESET. -/
def Dev.blockHeld (d : Dev) (b : Nat) : Bool := (d.rd Fld.PLT_BLOCK_RESET_HOLD).testBit b

/-- The device is Held (R43, R405). -/
def Dev.held (d : Dev) : Bool := d.bit Fld.PLT_RESET_STATUS_HELD

/-- The data plane is enabled: release step 12 is done and the device is not Held (R401, R405). -/
def Dev.serving (d : Dev) : Bool := d.rd Fld.PLT_RESET_STATUS_STEP == 12 && !d.held

/-- HIU_STATUS.DEVICE_STATE (R301): 1 Held whatever the latches, 3 Erase in progress, 2 Locked or a rail freeze,
0 running. -/
def Dev.deviceState (d : Dev) : Nat :=
  if d.held then 1 else if d.tmp.erasing then 3 else if d.tmp.lock then 2 else 0

/-- An in-band interrupt of the I3C target, if ENEC has enabled it and the port is not in I2C mode (R429). -/
def Dev.ibi (d : Dev) (cause : Nat) : Dev := if d.plt.ibi && !d.bit Fld.PLT_I3C_STATUS_I2C then d.emit (.ibi cause) else d

/-- What follows a change of DEVICE_STATE: its event, vector 0 of every function and an in-band interrupt (R10, R62, R429). -/
def Dev.stateChanged (d : Dev) (before : Nat) : Dev :=
  if d.deviceState = before then d
  else (d.fnList.foldl (fun x n => x.fire n 0) (d.eventAt Fld.HIU_EVSEQ_SEQ)).ibi 3

/-- `f` applied, then the change of DEVICE_STATE it made recorded. -/
def Dev.watched (d : Dev) (f : Dev → Dev) : Dev := (f d).stateChanged d.deviceState

/-- The IDE stream bound to partition `n` is Secure. -/
def Dev.ideSecure (d : Dev) (n : Nat) : Bool :=
  (d.rd Fld.HIU_STATUS_IDE_SECURE).testBit (d.rd (Fld.PART_STATUS_IDE_STREAM n))

/-- PART_STATUS.ENABLED (R47). -/
def Dev.partEnabled (d : Dev) (n : Nat) : Bool :=
  d.bit (Fld.PART_CTRL_ENABLE n) && d.serving && !d.bit (Fld.PART_STATUS_RESETTING n) && d.fnExists n && (d.fn n).bme
    && (!d.bit (Fld.PART_STATUS_IDE_REQUIRED n) || d.ideSecure n)

/-- How many staging entries satisfy `p`. -/
def Dev.countCmds (d : Dev) (p : Cmd → Bool) : Nat := tcount (fun _ c => p c) d.dsp.cmds

/-- PART_STATUS.INFLIGHT_NOW: admitted commands not yet completed (fences are not among them, R64). -/
def Dev.inflight (d : Dev) (n : Nat) : Nat := d.countCmds (fun c => c.counted && c.part == n)

/-- Staging entries in use for partition `n` (R45). -/
def Dev.staged (d : Dev) (n : Nat) : Nat := d.countCmds (fun c => c.st != .free && c.part == n)

/-- Fences of partition `n` admitted and not completed (R74). -/
def Dev.fences (d : Dev) (n : Nat) : Nat := d.countCmds (fun c => c.adm != 0 && !c.counted && c.st != .free && c.part == n)

/-! ## Courses -/

def Dev.cq (d : Dev) (n i : Nat) : Cq := tget (fun _ => Cq.reset) d.hiu.cqs (n * 256 + i)
def Dev.setCq (d : Dev) (n i : Nat) (c : Cq) : Dev :=
  { d with hiu := { d.hiu with cqs := tput (fun _ => Cq.reset) d.hiu.cqs (n * 256 + i) c } }

/-- An error of a submission course: ERR_CODE, its event, vector 0 (R51). -/
def Dev.sqError (d : Dev) (n i code : Nat) : Dev :=
  ((d.wr (Fld.HIU_SQ_STATE_ERR_CODE n i) code).eventAt (Fld.HIU_SQ_EVSEQ_SEQ n i)).fire n 0

/-- An error of a completion course: ERR_CODE, its event, vector 0 (R51). -/
def Dev.cqError (d : Dev) (n i code : Nat) : Dev :=
  ((d.wr (Fld.HIU_CQ_STATE_ERR_CODE n i) code).eventAt (Fld.HIU_CQ_EVSEQ_SEQ n i)).fire n 0

/-- No command fetched from submission course `i` of partition `n` remains in the device (HIU_SQ_STATE.IDLE). -/
def Dev.sqIdle (d : Dev) (n i : Nat) : Bool :=
  d.dsp.cmds.all (fun e => e.2.st == .free || e.2.part != n || e.2.sq != i)

/-! ## Threads -/

def Dev.thr (d : Dev) (h : Nat) : Thr := tget (fun _ => Thr.reset) d.thrs h
def Dev.setThr (d : Dev) (h : Nat) (t : Thr) : Dev := { d with thrs := tput (fun _ => Thr.reset) d.thrs h t }
def Dev.modThr (d : Dev) (h : Nat) (f : Thr → Thr) : Dev := d.setThr h (f (d.thr h))

/-- The number under which the command of thread `h` is kept once its completion has been sent and its staging entry is free, while
the thread has not executed DONE (R64, R182). -/
def pastEntry (h : Nat) : Nat := 8192 + h

/-- A token that still waits for its result. -/
def Tok.pending : Tok → Bool
  | .free => false
  | .arrived _ => false
  | _ => true

/-- The thread's hold on its command ends: its registers and slice are to be cleared (R135). Tokens keep their
requests until each has returned or been discarded; a result that has arrived is given up. -/
def Dev.endThread (d : Dev) (h : Nat) : Dev :=
  (d.modThr h (fun t => { t with cmd := none, g := [], sl := [], result := 0, wait := .none, rel := false, seqBlocks := 0, commits := [], writes := [], zeroising := true, toks := t.toks.filter (fun x => x.2.pending) })).setCmd
    (pastEntry h) Cmd.reset

/-- A command ends without RELEASE with `status` (R149); its RESULT is zero (R90). What becomes of its output area is
decided when its completion is queued (R86). -/
def Dev.failCmd (d : Dev) (e status : Nat) : Dev :=
  d.modCmd e (fun c => { c with st := .ended, status := status, result := 0 })

/-- The thread's command ends with `status`: without release if it has not been released (R149, R169); after RELEASE the
completion already due stands. Either way the thread is cleared. -/
def Dev.endCommand (d : Dev) (h status : Nat) : Dev :=
  match (d.thr h).cmd with
  | none => d
  | some e => (if (d.thr h).rel then d else d.failCmd e status).endThread h

/-- A command rejected before admission: one completion with `status`, nothing written (R86). -/
def Dev.rejectCmd (d : Dev) (e status : Nat) : Dev :=
  d.modCmd e (fun c => { c with st := .ended, status := status, result := 0, counted := false, fcount := 0 })

/-- A command whose completion has been sent, or that completes nowhere: its entry is freed (R46, R64). A thread that has released it
and goes on keeps its program and its window. -/
def Dev.dropCmd (d : Dev) (e : Nat) : Dev :=
  match tfind (fun _ t => t.cmd == some e) d.thrs with
  | none => d.setCmd e Cmd.reset
  | some h => ((d.setCmd e Cmd.reset).setCmd (pastEntry h) { d.cmd e with st := .free, counted := false, adm := 0 }).modThr h
      (fun t => { t with cmd := some (pastEntry h) })

/-! ## Function-level reset (R46) -/

/-- A register of the courses of partition `n` (their place in the function's view, R38, R39). -/
def isCourseReg (n a : Nat) : Bool := a / 0x100000 == n && decide (0x1000 ≤ a % 0x100000) && decide (a % 0x100000 < 0x5000)

/-- The commands of partition `n` that no thread runs are dropped; a running one goes on inside the device, sends nothing more and
completes nowhere. -/
def dropStale (n : Nat) (cs : Tab Cmd) : Tab Cmd :=
  cs.filter (fun e => e.2.part != n || e.2.st == .running || (e.2.st == .released) || decide (8192 ≤ e.1))

/-- IDE_LOST recorded on a course, with the number of the reset's event, and vector 0 (R46, R51). -/
def Dev.sqLost (d : Dev) (n i : Nat) : Dev :=
  ((d.wr (Fld.HIU_SQ_STATE_ERR_CODE n i) 4).wr (Fld.HIU_SQ_EVSEQ_SEQ n i) d.seq.toNat).fire n 0
def Dev.cqLost (d : Dev) (n i : Nat) : Dev :=
  ((d.wr (Fld.HIU_CQ_STATE_ERR_CODE n i) 4).wr (Fld.HIU_CQ_EVSEQ_SEQ n i) d.seq.toNat).fire n 0

/-- What a function-level reset of partition `n` does at its start: one event. `lost` is its cause R34: IDE_LOST on every course.
One that arrives while another is in progress is merged into it. -/
def Dev.flr (d : Dev) (n : Nat) (lost : Bool) : Dev :=
  if d.bit (Fld.PART_STATUS_RESETTING n) then d
  else
    let d := d.resetRegs (isCourseReg n)
    let d := { d with hiu := { d.hiu with cqs := d.hiu.cqs.filter (fun e => e.1 / 256 != n) },
                      dsp := { d.dsp with cmds := dropStale n d.dsp.cmds } }
    let d := (d.setFn n { d.fn n with held := [] }).event
    let d := if lost then
      let d := (List.range (d.rd (Fld.PART_COURSES_SQ_COUNT n))).foldl (fun x i => x.sqLost n i) d
      (List.range (d.rd (Fld.PART_COURSES_CQ_COUNT n))).foldl (fun x i => x.cqLost n i) d
      else d
    let d := (d.wr (Fld.PART_STATUS_EPOCH n) (d.epoch n + 1)).wr (Fld.PART_EVSEQ_SEQ n) d.seq.toNat
    d.wr (Fld.PART_STATUS_RESETTING n) 1

end Sys2Proof.Machine
end

