-- ==== Sys2Proof/Machine/Status.lean ====
section
/-! DEFINITION. The status codes of R89. -/

namespace Sys2Proof.Machine

def stOk : Nat := 0x0000
def stBadDescriptor : Nat := 0x0101
def stUnknownFunction : Nat := 0x0102
def stLength : Nat := 0x0103
def stAlignment : Nat := 0x0104
def stNoContext : Nat := 0x0201
def stPartition : Nat := 0x0202
def stKeyAttr : Nat := 0x0203
def stKeyAbsent : Nat := 0x0204
def stUseLimit : Nat := 0x0205
def stAuthFail : Nat := 0x0301
def stVerifyFail : Nat := 0x0302
def stFormat : Nat := 0x0303
def stQuota : Nat := 0x0401
def stRngUnavailable : Nat := 0x0402
def stCounterExhausted : Nat := 0x0403
def stRecordAbsent : Nat := 0x0404
def stStaleEpoch : Nat := 0x0501
def stFenceAbort : Nat := 0x0502
def stFault : Nat := 0x0601
def stUnitReset : Nat := 0x0602
def stPoison : Nat := 0x0603
def stGlazeViolation : Nat := 0x0604
def stLocked : Nat := 0x0701
def stHeld : Nat := 0x0702
def stErased : Nat := 0x0703

end Sys2Proof.Machine
end

