-- ==== Sys2Proof/Machine/Hiu.lean ====
section
/-! DEFINITION. The Host Interface Unit and the Partition Table: what a host access reaches, doorbells, courses,
descriptor and pallet fetch, completions and messages, partition control, resets of one function, IDE streams, the DOE
mailbox's own protocol and the link (R28 to R63). -/

namespace Sys2Proof.Machine

/-! ## What an access reaches -/

/-- Function `n` takes a memory request that arrives inside Secure stream `st` or outside any: it exists and is in D0 (R30), and an
IDE-required partition is reached only inside its bound stream while that is Secure (R33). A read of any other kind is answered with
Unsupported Request, a write discarded. -/
def Dev.answers (d : Dev) (n : Nat) (st : Option Nat) : Bool :=
  d.fnExists n && !(d.fn n).d3
    && (!d.bit (Fld.PART_STATUS_IDE_REQUIRED n)
        || (d.ideSecure n && st == some (d.rd (Fld.PART_STATUS_IDE_STREAM n))))

/-- Such a request is served: no function-level reset of a virtual function is in progress (R42). -/
def Dev.reachable (d : Dev) (n : Nat) (st : Option Nat) : Bool :=
  d.answers n st && (n == 0 || !d.bit (Fld.PART_STATUS_RESETTING n))

/-- While the device is Held only the HIU global registers and the WDN block of the physical function serve (R43). -/
def heldServes (n off : Nat) : Bool :=
  n == 0 && (decide (off < 0x1000) || (decide (0xC0000 ≤ off) && decide (off < 0xD0000)))

/-- During a reset's release only HIU_ID, HIU_STATUS and the PLT block serve (R403). -/
def releaseServes (n off : Nat) : Bool :=
  n == 0 && (off == 0 || off == 0x10 || (decide (0xF0000 ≤ off) && decide (off < 0x100000)))

/-- The access to BAR0 offset `off` of function `n` is served. -/
def Dev.bar0 (d : Dev) (n : Nat) (st : Option Nat) (off : Nat) : Bool :=
  d.reachable n st && (d.serving || (d.held && heldServes n off) || (!d.held && releaseServes n off))

/-- The number of the register at BAR0 offset `off` of function `n`: a virtual function sees its own partition record at
offset 0, its courses and its RNG registers (R38, R39); R5: any other offset holds no register. -/
def regKey (n off : Nat) : Option Nat :=
  let a := if n = 0 then off
    else if off < 0x40 then 0x10000 + n * 0x40 + off
    else n * 0x100000 + off
  if (n = 0 && decide (0x100000 ≤ off)) || (n != 0 && decide (0x10000 ≤ off)) then none
  else if (regRow a).isSome then some a else none

/-- NARROW_WRITE sets, with its event (R5, R10). -/
def Dev.narrow (d : Dev) : Dev := (d.wr Fld.HIU_STATUS_NARROW_WRITE 1).eventAt Fld.HIU_EVSEQ_SEQ

/-- A BAR4 access of function `n` is served; while the device is Held the physical function's is (R43). -/
def Dev.bar4 (d : Dev) (n : Nat) (st : Option Nat) : Bool := d.reachable n st && (d.serving || (d.held && n == 0))

/-- Partition `n` owns submission course `i`, so that its registers and doorbell are there. -/
def Dev.hasSq (d : Dev) (n i : Nat) : Bool := decide (i < d.rd (Fld.PART_COURSES_SQ_COUNT n))
def Dev.hasCq (d : Dev) (n i : Nat) : Bool := decide (i < d.rd (Fld.PART_COURSES_CQ_COUNT n))

/-- Entries of the ring. -/
def Dev.sqSize (d : Dev) (n i : Nat) : Nat := 2 ^ d.rd (Fld.HIU_SQ_CFG_SIZE_LOG2 n i)
def Dev.cqSize (d : Dev) (n i : Nat) : Nat := 2 ^ d.rd (Fld.HIU_CQ_CFG_SIZE_LOG2 n i)

/-! ## Doorbells (R52) -/

def Dev.sqDoorbell (d : Dev) (n : Nat) (st : Option Nat) (i size v : Nat) : Dev :=
  if !d.reachable n st || !d.serving || !d.hasSq n i then d
  else if size ≠ 8 then d.narrow
  else if 0x10000 ≤ v then d
  else if !d.bit (Fld.HIU_SQ_STATE_ENABLE n i) then d
  else if d.sqSize n i ≤ v then (if d.bit (Fld.HIU_SQ_STATE_ERR_CODE n i) then d else d.sqError n i 1)
  else d.wr (Fld.HIU_SQ_STATE_TAIL n i) v

/-- Entries between `a` and `b` in a ring of `size` entries. -/
def ringDist (size a b : Nat) : Nat := (b + size - a % size) % size

def Dev.cqFull (d : Dev) (n i : Nat) : Bool :=
  (d.rd (Fld.HIU_CQ_STATE_TAIL n i) + 1) % d.cqSize n i == d.rd (Fld.HIU_CQ_STATE_HEAD n i)

def Dev.cqDoorbell (d : Dev) (n : Nat) (st : Option Nat) (i size v : Nat) : Dev :=
  if !d.reachable n st || !d.serving || !d.hasCq n i then d
  else if size ≠ 8 then d.narrow
  else if 0x10000 ≤ v then d
  else if !d.bit (Fld.HIU_CQ_STATE_ENABLE n i) then d
  else if d.cqSize n i ≤ v
      || ringDist (d.cqSize n i) (d.rd (Fld.HIU_CQ_STATE_HEAD n i)) (d.rd (Fld.HIU_CQ_STATE_TAIL n i))
          < ringDist (d.cqSize n i) (d.rd (Fld.HIU_CQ_STATE_HEAD n i)) v then
    (if d.bit (Fld.HIU_CQ_STATE_ERR_CODE n i) then d else d.cqError n i 1)
  else
    let d := d.wr (Fld.HIU_CQ_STATE_HEAD n i) v
    if d.cqFull n i then d else d.wr (Fld.HIU_CQ_STATE_FULL n i) 0

/-- A write of `size` octets at offset `off` of BAR2 (R40, R52): the doorbell of submission course i stands at i * 0x40, that of completion
course i at 0x4000 + i * 0x40. An unaligned write that meets a doorbell is ignored and sets NARROW_WRITE; the other bytes hold nothing. -/
def Dev.bar2Write (d : Dev) (n : Nat) (st : Option Nat) (off size v : Nat) : Dev :=
  let k := if off % 0x40 < 8 then off / 0x40 else off / 0x40 + 1
  let size := if off % 0x40 = 0 then size else 0
  if 0x8000 ≤ off ∨ (8 ≤ off % 0x40 ∧ off % 0x40 + size ≤ 0x40) then d
  else if k < 256 then d.sqDoorbell n st k size v
  else if k < 512 then d.cqDoorbell n st (k - 256) size v
  else d

/-! ## Enabling and disabling courses (R50, R63) -/

def Dev.sqRegs (n i : Nat) : Nat := n * 0x100000 + 0x1000 + i * 0x20
def Dev.cqRegs (n i : Nat) : Nat := n * 0x100000 + 0x3000 + i * 0x20

/-- The conditions of R50 for a submission course. SIZE_LOG2 has four bits, so of the values 4 to 16 that R49 names it holds 4 to 15
(DESIGN CHOICE: the spec does not say how 16 is written). -/
def Dev.sqReady (d : Dev) (n i : Nat) : Bool :=
  decide (4 ≤ d.rd (Fld.HIU_SQ_CFG_SIZE_LOG2 n i))
    && decide (d.rd (Fld.HIU_SQ_CFG_CQ n i) < d.rd (Fld.PART_COURSES_CQ_COUNT n))
    && d.bit (Fld.HIU_CQ_STATE_ENABLE n (d.rd (Fld.HIU_SQ_CFG_CQ n i)))
    && d.partEnabled n

/-- The vectors that a completion course of function `n` may use: 2 to 2,047 on the physical function, 1 to 31 on a
virtual one. -/
def cqVectorOk (n v : Nat) : Bool := if n = 0 then decide (2 ≤ v) && decide (v < 2048) else decide (1 ≤ v) && decide (v < 32)

/-- The conditions of R50 for a completion course; SIZE_LOG2 as for a submission course (DESIGN CHOICE). -/
def Dev.cqReady (d : Dev) (n i : Nat) : Bool :=
  decide (4 ≤ d.rd (Fld.HIU_CQ_CFG_SIZE_LOG2 n i)) && cqVectorOk n (d.rd (Fld.HIU_CQ_CFG_VECTOR n i)) && d.partEnabled n

/-- HEAD, TAIL and ERR_CODE cleared. -/
def Dev.sqClear (d : Dev) (n i : Nat) : Dev :=
  ((d.wr (Fld.HIU_SQ_STATE_HEAD n i) 0).wr (Fld.HIU_SQ_STATE_TAIL n i) 0).wr (Fld.HIU_SQ_STATE_ERR_CODE n i) 0

/-- HEAD, TAIL and ERR_CODE cleared, PHASE 1, no coalescing under way. -/
def Dev.cqClear (d : Dev) (n i : Nat) : Dev :=
  ((((d.wr (Fld.HIU_CQ_STATE_HEAD n i) 0).wr (Fld.HIU_CQ_STATE_TAIL n i) 0).wr (Fld.HIU_CQ_STATE_ERR_CODE n i) 0).wr
    (Fld.HIU_CQ_STATE_PHASE n i) 1).setCq n i Cq.reset

/-- SQ_ENABLE. Where a condition fails the code becomes BAD_CONFIG, on a course that held IDE_LOST too (DESIGN CHOICE: R51 has that code
clear once the conditions of R50 hold, and R50 puts BAD_CONFIG where one fails). -/
def Dev.sqEnable (d : Dev) (n : Nat) (st : Option Nat) (i : Nat) : Dev :=
  if !d.bar0 n st 0x1000 || !d.hasSq n i || d.bit (Fld.HIU_SQ_STATE_ENABLE n i) then d
  else if (d.sqClear n i).sqReady n i then (d.sqClear n i).wr (Fld.HIU_SQ_STATE_ENABLE n i) 1
  else (d.sqClear n i).sqError n i 3

/-- CQ_ENABLE; a failed one on a course that held IDE_LOST as for a submission course (DESIGN CHOICE). -/
def Dev.cqEnable (d : Dev) (n : Nat) (st : Option Nat) (i : Nat) : Dev :=
  if !d.bar0 n st 0x3000 || !d.hasCq n i || d.bit (Fld.HIU_CQ_STATE_ENABLE n i) then d
  else if (d.cqClear n i).cqReady n i then (d.cqClear n i).wr (Fld.HIU_CQ_STATE_ENABLE n i) 1
  else (d.cqClear n i).cqError n i 3

def Dev.sqDisable (d : Dev) (n : Nat) (st : Option Nat) (i : Nat) : Dev :=
  if !d.bar0 n st 0x1000 || !d.bit (Fld.HIU_SQ_STATE_ENABLE n i) then d
  else (d.wr (Fld.HIU_SQ_STATE_ENABLE n i) 0).boundary (Fld.HIU_SQ_CFG_WEIGHT n i).reg

/-- Some enabled submission course of partition `n` names completion course `i`. -/
def Dev.cqNamed (d : Dev) (n i : Nat) : Bool :=
  (List.range (d.rd (Fld.PART_COURSES_SQ_COUNT n))).any (fun k =>
    d.bit (Fld.HIU_SQ_STATE_ENABLE n k) && d.rd (Fld.HIU_SQ_CFG_CQ n k) == i)

def Dev.cqDisable (d : Dev) (n : Nat) (st : Option Nat) (i : Nat) : Dev :=
  if !d.bar0 n st 0x3000 || !d.bit (Fld.HIU_CQ_STATE_ENABLE n i) then d
  else if d.cqNamed n i then d.wr (Fld.HIU_CQ_STATE_CFG_REJECT n i) 1
  else
    let d := (d.cq n i).waiting.foldl (fun x e => x.dropCmd e) d
    (((d.setCq n i Cq.reset).wr (Fld.HIU_CQ_STATE_ENABLE n i) 0).wr (Fld.HIU_CQ_STATE_FULL n i) 0).boundary
      (Fld.HIU_CQ_CFG_COAL_COUNT n i).reg

def Dev.sqPause (d : Dev) (n : Nat) (st : Option Nat) (i : Nat) (v : Bool) : Dev :=
  if !d.bar0 n st 0x1000 || !d.hasSq n i then d else d.wr (Fld.HIU_SQ_STATE_PAUSE n i) v.toNat

/-- The message of a completion course: its vector fires, coalescing starts afresh, and the pending H-class values take
effect (R63). -/
def Dev.cqMessage (d : Dev) (n i : Nat) : Dev :=
  ((d.fire n (d.rd (Fld.HIU_CQ_CFG_VECTOR n i))).setCq n i { d.cq n i with count := 0, timer := false }).boundary
    (Fld.HIU_CQ_CFG_COAL_COUNT n i).reg

def Dev.intEnable (d : Dev) (n : Nat) (st : Option Nat) (i : Nat) (v : Bool) : Dev :=
  if !d.bar0 n st 0x3000 || !d.hasCq n i || d.bit (Fld.HIU_CQ_CFG_INT_EN n i) == v then d
  else
    let d := (d.wr (Fld.HIU_CQ_CFG_INT_EN n i) v.toNat).setCq n i { d.cq n i with count := 0, timer := false }
    if v && d.rd (Fld.HIU_CQ_STATE_HEAD n i) != d.rd (Fld.HIU_CQ_STATE_TAIL n i) then d.cqMessage n i else d

/-! ## Descriptors (R55 to R58) -/

/-- `n` bits of a descriptor from octet `off`. -/
def dField (w : BitVec 512) (off n : Nat) : Nat := (w.extractLsb' (8 * off) (8 * n)).toNat

def dFunction (w : BitVec 512) : Nat := dField w 0 2
def dContext (w : BitVec 512) : Nat := dField w 2 2
def dFlags (w : BitVec 512) : Nat := dField w 4 2
def dPallet (w : BitVec 512) : Bool := (dFlags w).testBit 0
def dFuncFlags (w : BitVec 512) : Nat := dFlags w / 256
def dTag (w : BitVec 512) : Nat := dField w 8 8
def dInAddr (w : BitVec 512) : Nat := dField w 0x10 8
def dOutAddr (w : BitVec 512) : Nat := dField w 0x18 8
def dInLen (w : BitVec 512) : Nat := dField w 0x20 4
def dOutLen (w : BitVec 512) : Nat := dField w 0x24 4
def dParams (w : BitVec 512) : List Byte := leBytes 24 (dField w 0x28 24)

/-- The library functions that run on a tile (R91). -/
def tileLibrary : List Nat :=
  [0x20, 0x21, 0x22, 0x30, 0x31, 0x40, 0x41, 0x50, 0x51, 0x58, 0x59, 0x60, 0x61, 0x80, 0x81, 0x90,
    0xA0, 0xA1, 0xA2, 0xA3, 0xA4, 0xB0, 0xB1]

/-- The library functions that the Warden runs (R91). -/
def wardenFns : List Nat := [0x70, 0x71, 0x78, 0x79, 0x7F]

/-- The fences that are assigned (R77). -/
def fenceFns : List Nat := [0xF000, 0xF001, 0xF002, 0xF003, 0xF004]

/-- A function that runs on a tile: library or customer. -/
def isTileFn (f : Nat) : Bool := tileLibrary.contains f || (decide (0x800 ≤ f) && decide (f < 0x1000))

/-- The image number and ENTRY that the device's function table gives for `f`, if any. -/
def Dev.funcEntry (d : Dev) (f : Nat) : Option (Nat × Nat) := tget (fun _ => none) d.prog.funcs f

/-- Submission course `i` of partition `n` is the partition's key-management course (R23, R92). -/
def Dev.isKm (d : Dev) (n i : Nat) : Bool := tget (fun _ => none) d.wdn.km n == some i

/-- FUNCTION_ID `f` may be submitted on the course (R12, R77, R91, R92): on a key-management course the Warden's
functions only; elsewhere fences, CONTEXT_SET, CONTEXT_GET and tile functions with an admitted program. -/
def Dev.idKnown (d : Dev) (n i f : Nat) : Bool :=
  if d.isKm n i then wardenFns.contains f
  else fenceFns.contains f || f == 0x10 || f == 0x11 || (isTileFn f && (d.funcEntry f).isSome)

/-- One row of the area checks of R56. -/
def areaCheck (addr len : Nat) : Option Nat :=
  if len = 0 && addr != 0 then some stBadDescriptor
  else if len != 0 && addr % 8 != 0 then some stAlignment
  else if 2 ^ 64 < addr + len then some stBadDescriptor
  else none

/-- The HIU's checks of a descriptor in their order (R56): the status of the first that fails. -/
def Dev.descCheck (d : Dev) (n i : Nat) (inPallet : Bool) (w : BitVec 512) : Option Nat :=
  if inPallet && dPallet w then some stBadDescriptor
  else if dField w 6 2 != 0 || dFlags w % 256 / 2 != 0 then some stBadDescriptor
  else match areaCheck (dInAddr w) (dInLen w) with
    | some s => some s
    | none => match areaCheck (dOutAddr w) (dOutLen w) with
      | some s => some s
      | none => if d.idKnown n i (dFunction w) then none else some stUnknownFunction

/-- A pallet descriptor that R58 accepts. -/
def palletOk (w : BitVec 512) : Bool :=
  dFunction w == 0 && dField w 2 2 == 0 && dFlags w == 1 && decide (1 ≤ dField w 6 2) && decide (dField w 6 2 ≤ 60)
    && dField w 0x10 8 % 4096 == 0 && dField w 0x18 40 == 0

/-- A descriptor reaches the Dispatcher in hand-over order (R53, R58, R78): staged if the HIU's checks pass, else to be
completed with the status of the first that fails. -/
def Dev.handOver (d : Dev) (e : Nat) (w : BitVec 512) : Dev :=
  let c := d.cmd e
  let d := { d with dsp := { d.dsp with nextOrder := d.dsp.nextOrder + 1 } }
  let c := { c with desc := w, order := d.dsp.nextOrder }
  match d.descCheck c.part c.sq c.inPallet w with
  | none => d.setCmd e { c with st := .staged, ready := dInLen w == 0 || decide (256 < dInLen w) }
  | some s => (d.setCmd e c).rejectCmd e s

/-- The ring entries of the course that have been read for but not handed over. -/
def Dev.pendingReads (d : Dev) (n i : Nat) : Nat :=
  d.countCmds (fun c => c.part == n && c.sq == i && !c.inPallet && c.st == .fetching)

/-- Entry `e` is the oldest of its course that has not been handed over (R53: ring order). -/
def Dev.isOldest (d : Dev) (e : Nat) : Bool :=
  let c := d.cmd e
  d.dsp.cmds.all (fun x => x.2.part != c.part || x.2.sq != c.sq || decide (c.order ≤ x.2.order)
    || !(x.2.st == .fetching || x.2.st == .palletWait || x.2.st == .palletRead))

/-- The HIU may fetch from the course now (R47, R50 to R52). -/
def Dev.mayFetch (d : Dev) (n i : Nat) : Bool :=
  d.partEnabled n && d.canSend n && d.bit (Fld.HIU_SQ_STATE_ENABLE n i) && !d.bit (Fld.HIU_SQ_STATE_PAUSE n i)
    && !d.bit (Fld.HIU_SQ_STATE_ERR_CODE n i)

/-- The non-posted requests that wait for their data: of ring entries and of pallet blocks (R28). -/
def Dev.outstanding (d : Dev) : Nat :=
  (d.dsp.cmds.map (fun x => if x.2.st == .fetching then 1
    else if x.2.st == .palletRead && !x.2.inPallet then (d.packets (.memRead 0 (dField x.2.desc 0x10 8) (dField x.2.desc 6 2 * 64))).length
    else 0)).sum

/-- The index of the ring entry that the HIU reads next. -/
def Dev.nextRead (d : Dev) (n i : Nat) : Nat := (d.rd (Fld.HIU_SQ_STATE_HEAD n i) + d.pendingReads n i) % d.sqSize n i

/-- The HIU can fetch from the course: it may, the ring has an entry to read, and the partition a staging entry free (R45, R54). -/
def Dev.hasWork (d : Dev) (n i : Nat) : Bool :=
  d.mayFetch n i && d.nextRead n i != d.rd (Fld.HIU_SQ_STATE_TAIL n i) && decide (d.staged n < d.rd (Fld.PART_QUOTA_STAGING n))

def Dev.served (d : Dev) (k : Nat) : Nat := tget (fun _ => 0) d.hiu.served k

/-- The course has had its WEIGHT of fetches in the partition's round, or the partition its STAGING in the device's. -/
def Dev.courseDone (d : Dev) (n i : Nat) : Bool := decide (max 1 (d.eff (Fld.HIU_SQ_CFG_WEIGHT n i)) ≤ d.served (n * 256 + i))
def Dev.partDone (d : Dev) (n : Nat) : Bool := decide (d.rd (Fld.PART_QUOTA_STAGING n) ≤ d.served (16384 + n))

/-- The fetch opportunity is the course's (R54): in a round each course that has work is served WEIGHT times within its partition, and
each partition STAGING times; a round ends when every one that has work has been. A course that is skipped uses nothing of its share. -/
def Dev.itsTurn (d : Dev) (n i : Nat) : Bool :=
  (!d.courseDone n i || (List.range (d.rd (Fld.PART_COURSES_SQ_COUNT n))).all (fun k => !d.hasWork n k || d.courseDone n k))
    && (!d.partDone n || (List.range 64).all (fun m => d.partDone m
      || (List.range (d.rd (Fld.PART_COURSES_SQ_COUNT m))).all (fun k => !d.hasWork m k)))

/-- The course takes the opportunity; where its share or its partition's was used up, a new round begins. -/
def Dev.serve (d : Dev) (n i : Nat) : Dev :=
  let t := if d.courseDone n i then d.hiu.served.filter (fun x => x.1 / 256 != n || decide (16384 ≤ x.1)) else d.hiu.served
  let t := if d.partDone n then t.filter (fun x => decide (x.1 < 16384)) else t
  { d with hiu := { d.hiu with served := tmod (fun _ => 0) (tmod (fun _ => 0) t (n * 256 + i) (· + 1)) (16384 + n) (· + 1) } }

/-- A fresh staging entry of a course. -/
def Dev.newCmd (d : Dev) (n i : Nat) (st : CmdSt) : Cmd :=
  { Cmd.reset with st := st, part := n, sq := i, epoch := d.epoch n, order := d.dsp.nextOrder + 1 }

def Dev.bumpOrder (d : Dev) : Dev := { d with dsp := { d.dsp with nextOrder := d.dsp.nextOrder + 1 } }

def Dev.descriptorFetch (d : Dev) (n i e : Nat) : Dev :=
  if !d.hasWork n i || !d.itsTurn n i || 8192 ≤ e || (d.cmd e).st != .free || 2048 ≤ d.outstanding then d
  else
    (((d.serve n i).setCmd e (d.newCmd n i .fetching)).bumpOrder).emit
      (.memRead n (d.rd (Fld.HIU_SQ_BASE_BASE n i) * 4096 + d.nextRead n i * 64) 64)

/-- HEAD advances by one entry; when it wraps to 0 a pending WEIGHT takes effect. -/
def Dev.headAdvance (d : Dev) (n i : Nat) : Dev :=
  let h := (d.rd (Fld.HIU_SQ_STATE_HEAD n i) + 1) % d.sqSize n i
  let d := d.wr (Fld.HIU_SQ_STATE_HEAD n i) h
  if h = 0 then d.boundary (Fld.HIU_SQ_CFG_WEIGHT n i).reg else d

def Dev.descriptorArrives (d : Dev) (e : Nat) (w : BitVec 512) : Dev :=
  let c := d.cmd e
  if c.st != .fetching || !d.isOldest e then d
  else
    let d := d.headAdvance c.part c.sq
    if dPallet w then
      if palletOk w then d.setCmd e { c with st := .palletWait, desc := w }
      else (d.setCmd e { c with desc := w }).rejectCmd e stBadDescriptor
    else d.handOver e w

/-- The pallet block is read once all its descriptors fit within the quota (R45, R57), unless its course has stopped (R51): the pallet's
own entry takes descriptor 0, `es` the others. A pallet descriptor that was fetched before its course was disabled or paused still has
its block read (DESIGN CHOICE: R50 has commands already fetched complete, and does not say whether that read still comes). -/
def Dev.palletFetch (d : Dev) (e : Nat) (es : List Nat) : Dev :=
  let c := d.cmd e
  let count := dField c.desc 6 2
  if c.st != .palletWait || !d.canSend c.part || !d.partEnabled c.part || d.bit (Fld.HIU_SQ_STATE_ERR_CODE c.part c.sq)
      || 2048 < d.outstanding + (d.packets (.memRead c.part (dField c.desc 0x10 8) (count * 64))).length || es.length + 1 != count || !es.Nodup
      || es.any (fun x => decide (8192 ≤ x) || (d.cmd x).st != .free)
      || d.rd (Fld.PART_QUOTA_STAGING c.part) < d.staged c.part + es.length then d
  else
    let d := (es.zipIdx 1).foldl (fun x p =>
      x.setCmd p.1 { c with st := .palletRead, pidx := p.2, inPallet := true }) d
    (d.setCmd e { c with st := .palletRead }).emit (.memRead c.part (dField c.desc 0x10 8) (count * 64))

/-- The staging entry that holds descriptor `k` of the pallet whose own entry is `e`. -/
def Dev.palletEntry (d : Dev) (e k : Nat) : Option Nat :=
  if k = 0 then some e
  else tfind (fun _ x => x.st == .palletRead && x.inPallet && x.pidx == k && x.order == (d.cmd e).order) d.dsp.cmds

def Dev.palletArrives (d : Dev) (e : Nat) (ws : List (BitVec 512)) : Dev :=
  let c := d.cmd e
  if c.st != .palletRead || c.inPallet || !d.isOldest e || ws.length != dField c.desc 6 2 then d
  else
    let es := (List.range ws.length).map (fun k => d.palletEntry e k)
    (List.zip es (ws.zipIdx)).foldl (fun x p => match p.1 with
      | none => x
      | some k => (x.modCmd k (fun c => { c with inPallet := true, pidx := p.2.2 })).handOver k p.2.1) d

/-- A device-initiated read for entry `e` fails for good (R32): a ring entry stops the course at once, with that read and those issued
after it void, so that HEAD never passes it; a pallet block rejects the pallet; a command's input area ends the command. -/
def Dev.readFails (d : Dev) (e : Nat) : Dev :=
  let c := d.cmd e
  let reads := c.st == .fetching || c.st == .palletRead || c.st == .running
    || ((c.st == .staged || c.st == .admitted) && dInLen c.desc != 0 && !c.ready)
    || (c.st == .admitted && wardenFns.contains (dFunction c.desc) && decide (256 < dInLen c.desc))
  if !reads then d else
  let d := d.emit (.aer c.part)
  match c.st with
  | .staged => d.rejectCmd e stBadDescriptor
  | .fetching =>
    { d with dsp := { d.dsp with cmds := d.dsp.cmds.filter (fun x : Nat × Cmd =>
      x.2.part != c.part || x.2.sq != c.sq || x.2.st != CmdSt.fetching || decide (x.2.order < c.order)) } }.sqError c.part c.sq 2
  | .palletRead =>
    if c.inPallet then d
    else
      ({ d with dsp := { d.dsp with cmds := d.dsp.cmds.filter (fun x : Nat × Cmd =>
        x.2.st != CmdSt.palletRead || !x.2.inPallet || x.2.order != c.order) } }).rejectCmd e stBadDescriptor
  | .admitted => d.failCmd e stBadDescriptor
  | .running =>
    match tfind (fun _ t => t.cmd == some e) d.thrs with
    | some h => d.endCommand h stBadDescriptor
    | none => d
  | _ => d

/-! ## Completions (R59 to R63, R84, R86) -/

/-- The 32-byte completion of a command (R59). -/
def completionBits (c : Cmd) (sqHead : Nat) (phase : Bool) : BitVec 256 :=
  BitVec.ofNat 256 (dTag c.desc + c.status * 2 ^ 64 + c.sq * 2 ^ 80 + sqHead * 2 ^ 96 + c.pidx * 2 ^ 112
    + (phase.toNat + 2 * c.inPallet.toNat) * 2 ^ 120 + c.result.toNat * 2 ^ 128)

/-- The output area is overwritten with zeros (R86): RELEASE with ST_AUTH_FAIL, or an end without RELEASE with
OUTPUT_TOUCHED set. -/
def zeroOutput (c : Cmd) : Bool :=
  dOutLen c.desc != 0 && ((c.st == .released && c.status == stAuthFail) || (c.st == .ended && c.touched))

/-- The HIU queues a completion (R84, R86): after every output write of a released command has been sent; one that ended
without release, or released ST_AUTH_FAIL, has its unsent writes discarded and its area zeroed as R86 gives. One whose
partition epoch is gone completes nowhere; one due to a completion course that is not enabled is discarded (R50). -/
def Dev.completionQueue (d : Dev) (e : Nat) : Dev :=
  let c := d.cmd e
  if c.st != .released && c.st != .ended then d
  else if !d.current e then d.dropCmd e
  else if c.st == .released && c.status != stAuthFail && d.outHeld c.part e then d
  else
    let d := if c.st == .ended || c.status == stAuthFail then d.discardOut c.part e else d
    let d := if zeroOutput c then d.send c.part (.memZero c.part (dOutAddr c.desc) (dOutLen c.desc)) else d
    let q := d.rd (Fld.HIU_SQ_CFG_CQ c.part c.sq)
    if !d.bit (Fld.HIU_CQ_STATE_ENABLE c.part q) then d.dropCmd e
    else
      let d := d.event
      (d.setCmd e { c with st := .queued, seq := d.seq }).setCq c.part q
        { d.cq c.part q with waiting := (d.cq c.part q).waiting ++ [e] }

/-- Coalescing after a completion has been written while INT_EN is 1 (R63). -/
def Dev.coalesce (d : Dev) (n i : Nat) : Dev :=
  if !d.bit (Fld.HIU_CQ_CFG_INT_EN n i) then d
  else
    let k := (d.cq n i).count + 1
    if d.eff (Fld.HIU_CQ_CFG_COAL_TIME n i) = 0 || max 1 (d.eff (Fld.HIU_CQ_CFG_COAL_COUNT n i)) ≤ k then d.cqMessage n i
    else d.setCq n i { d.cq n i with count := k, timer := true }

def Dev.completionWrite (d : Dev) (n i : Nat) : Dev :=
  match (d.cq n i).waiting with
  | [] => d
  | e :: rest =>
    if !d.canSend n || !d.bit (Fld.HIU_CQ_STATE_ENABLE n i) || d.bit (Fld.HIU_CQ_STATE_ERR_CODE n i) then d
    else if d.cqFull n i then d.wr (Fld.HIU_CQ_STATE_FULL n i) 1
    else
      let c := d.cmd e
      let t := d.rd (Fld.HIU_CQ_STATE_TAIL n i)
      let bits := completionBits c (d.rd (Fld.HIU_SQ_STATE_HEAD n c.sq)) (d.bit (Fld.HIU_CQ_STATE_PHASE n i))
      let d := (d.emit (.completion n i t (d.rd (Fld.HIU_CQ_BASE_BASE n i) * 4096 + t * 32) bits)).setCq n i { d.cq n i with waiting := rest }
      let d := d.dropCmd e
      let t' := (t + 1) % d.cqSize n i
      let d := d.wr (Fld.HIU_CQ_STATE_TAIL n i) t'
      let d := if t' = 0 then d.wr (Fld.HIU_CQ_STATE_PHASE n i) (1 - d.rd (Fld.HIU_CQ_STATE_PHASE n i)) else d
      let d := if rest.isEmpty then d.wr (Fld.HIU_CQ_STATE_FULL n i) 0 else d
      d.coalesce n i

def Dev.coalExpire (d : Dev) (n i : Nat) : Dev :=
  if (d.cq n i).timer && d.bit (Fld.HIU_CQ_CFG_INT_EN n i) then d.cqMessage n i else d

/-! ## Functions and partitions (R30, R33 to R36, R46, R47) -/

/-- A write of PART_CTRL reaches the partition only through the physical function (R39). -/
def Dev.partWrite (d : Dev) (n : Nat) (st : Option Nat) : Bool := d.bar0 0 st (0x10000 + n * 0x40) && decide (n < 64)

def Dev.partitionEnable (d : Dev) (st : Option Nat) (n : Nat) (v : Bool) : Dev :=
  if d.partWrite n st then d.wr (Fld.PART_CTRL_ENABLE n) v.toNat else d

/-- The end of a function-level reset: RESETTING clears and vector 0 fires (R46). -/
def Dev.flrEnd (d : Dev) (n : Nat) : Dev :=
  if d.bit (Fld.PART_STATUS_RESETTING n) then (d.wr (Fld.PART_STATUS_RESETTING n) 0).fire n 0 else d

/-- VF Enable cleared (`num` 0) or NumVFs lowered to `num` (R36). -/
def Dev.vfShrink (d : Dev) (flr : Dev → Nat → Dev) (num : Nat) : Dev :=
  if !d.hiu.vfEnable || d.hiu.numVfs ≤ num then d
  else
    let gone := (List.range 64).filter (fun n => decide (num < n) && decide (n ≤ d.hiu.numVfs))
    let d := gone.foldl flr d
    { d with hiu := { d.hiu with vfEnable := num != 0, numVfs := num } }

/-- VF Enable set, or NumVFs raised, so that virtual functions 1 to `num` exist (R36, R47). -/
def Dev.vfGrow (d : Dev) (num : Nat) : Dev :=
  if 63 < num || num = 0 || (d.hiu.vfEnable && decide (num ≤ d.hiu.numVfs)) then d
  else { d with hiu := { d.hiu with vfEnable := true, numVfs := num } }

/-- Stream `s` leaves the Secure state, by an IDE check failure, which AER logs (R28), or by key-set expiry (R34). -/
def Dev.ideInsecure (d : Dev) (flr : Dev → Nat → Dev) (s : Nat) (check : Bool) : Dev :=
  let bits := d.rd Fld.HIU_STATUS_IDE_SECURE
  if 4 ≤ s || !bits.testBit s then d
  else
    let d := (if check then d.emit (.aer 0) else d).wr Fld.HIU_STATUS_IDE_SECURE (bits - 2 ^ s)
    ((List.range 64).filter (fun n => d.bit (Fld.PART_STATUS_IDE_REQUIRED n) && d.rd (Fld.PART_STATUS_IDE_STREAM n) == s)).foldl
      flr d

def Dev.ideInstall (d : Dev) (s : Nat) : Dev :=
  let bits := d.rd Fld.HIU_STATUS_IDE_SECURE
  if 4 ≤ s || d.wdn.spdm.session != 2 then d
  else
    let d := { d with hiu := { d.hiu with ideKeys := tmod (fun _ => 0) d.hiu.ideKeys s (· + 1) } }
    if bits.testBit s then d else d.wr Fld.HIU_STATUS_IDE_SECURE (bits + 2 ^ s)

def Dev.busMaster (d : Dev) (n : Nat) (v : Bool) : Dev :=
  if d.fnExists n then (d.setFn n { d.fn n with bme := v }).flush n else d

def Dev.powerState (d : Dev) (n : Nat) (d3 : Bool) : Dev :=
  if d.fnExists n then (d.setFn n { d.fn n with d3 := d3 }).flush n else d

/-- MSI-X Enable and Function Mask of function `n` (R62). -/
def Dev.msixControl (d : Dev) (n : Nat) (en mask : Bool) : Dev :=
  if d.fnExists n then (d.setFn n { d.fn n with msixEn := en, fmask := mask }).drainVecs n else d

/-- Vectors of function `n` (R28). -/
def vecCount (n : Nat) : Nat := if n = 0 then 2048 else 32

/-- One 32-bit half of an MSI-X table entry written: address low and high, data, vector control (bit 0 the mask). -/
def Vec.write32 (x : Vec) (k v : Nat) : Vec :=
  match k with
  | 0 => { x with addr := setF x.addr 0 32 v }
  | 1 => { x with addr := setF x.addr 32 32 v }
  | 2 => { x with data := v % 2 ^ 32 }
  | _ => { x with mask := v.testBit 0 }

/-- A write to BAR4 (R5, R41, R62): the table is written in aligned 32-bit or 64-bit pieces, the pending-bit array not
at all; anything narrower or unaligned is ignored and sets NARROW_WRITE. -/
def Dev.msixWrite (d : Dev) (n : Nat) (st : Option Nat) (off size v : Nat) : Dev :=
  if !d.bar4 n st then d
  else if !(size == 4 || size == 8) || off % size != 0 then d.narrow
  else
    let k := off / 16
    if vecCount n ≤ k then d
    else
      let x := d.vec n k
      let x := x.write32 (off % 16 / 4) (v % 2 ^ 32)
      let x := if size = 8 then x.write32 (off % 16 / 4 + 1) (v / 2 ^ 32 % 2 ^ 32) else x
      (d.setVec n k x).drainVec n k

/-- The 32-bit word of function `n`'s BAR4 at aligned offset `off` (R41): the table's entries, and from 0x8000, or 0x0800 on a virtual
function, the pending bits. -/
def Dev.bar4Word (d : Dev) (n off : Nat) : Nat :=
  let pba := if n = 0 then 0x8000 else 0x800
  if off < vecCount n * 16 then
    let x := d.vec n (off / 16)
    match off % 16 / 4 with
    | 0 => getF x.addr 0 32
    | 1 => getF x.addr 32 32
    | 2 => x.data
    | _ => x.mask.toNat
  else if pba ≤ off ∧ off < pba + vecCount n / 8 then
    ((List.range 32).map (fun b => if (d.vec n ((off - pba) * 8 + b)).pend then 2 ^ b else 0)).sum
  else 0

/-- A read of BAR4 (R5, R41, R43): an aligned one of 32 or 64 bits returns what is there, any other zero; a function that takes no memory
request answers Unsupported Request. -/
def Dev.bar4Read (d : Dev) (n : Nat) (st : Option Nat) (off size : Nat) : Dev :=
  if !d.answers n st then d.emit (.unsupported n)
  else if !d.bar4 n st || !(size == 4 || size == 8) || off % size != 0 then d.emit (.barData n 4 off 0)
  else d.emit (.barData n 4 off (BitVec.ofNat 64 (d.bar4Word n off + (if size = 8 then 2 ^ 32 * d.bar4Word n (off + 4) else 0))))

/-- A read of BAR2 returns zero (R42). -/
def Dev.bar2Read (d : Dev) (n : Nat) (st : Option Nat) (off : Nat) : Dev :=
  d.emit (if d.answers n st then .barData n 2 off 0 else .unsupported n)

/-- The answer of DOE Discovery for index `i`: the three protocols of R35 in order, each naming the next. -/
def doeDiscovery (i : Nat) : List Byte := [1, 0, BitVec.ofNat 8 i, BitVec.ofNat 8 (if i < 2 then i + 1 else 0)]

/-- A DOE request object of `len` bytes: one longer than 16 KB sets the DOE Error bit and is discarded (R35). -/
def Dev.doeAccepts (len : Nat) : Bool := decide (len ≤ 16384)

def Dev.discovery (d : Dev) (len i : Nat) : Dev :=
  if Dev.doeAccepts len then (if i ≤ 2 then d.emit (.doe 0 (doeDiscovery i)) else d.emit (.doe 0 [255, 255, 255, 0]))
  else { d with hiu := { d.hiu with doeError := true } }

/-- The link trains: the live link fields take what was negotiated (R28, R43). -/
def Dev.linkUp (d : Dev) (width rate : Nat) (flit : Bool) : Dev :=
  ((d.wr Fld.HIU_STATUS_LINK_WIDTH width).wr Fld.HIU_STATUS_LINK_RATE rate).wr Fld.HIU_STATUS_FLIT flit.toNat

end Sys2Proof.Machine
end

