-- ==== Sys2Proof/Machine/Dispatcher.lean ====
section
/-! DEFINITION. The Dispatcher: admission, thread assignment, context records and fences (R64 to R90). -/

namespace Sys2Proof.Machine

/-! ## Context records (R69) -/

def Dev.ctx (d : Dev) (k : Nat) : BitVec 1024 := tget (fun _ => 0) d.dsp.ctxs k
def Dev.setCtx (d : Dev) (k : Nat) (w : BitVec 1024) : Dev :=
  { d with dsp := { d.dsp with ctxs := tput (fun _ => 0) d.dsp.ctxs k w } }

/-- `n` octets of a context record from octet `off`. -/
def cField (w : BitVec 1024) (off n : Nat) : Nat := (w.extractLsb' (8 * off) (8 * n)).toNat

def cKey (w : BitVec 1024) (k : Nat) : Word := w.extractLsb' (64 * k) 64
def cFunction (w : BitVec 1024) : Nat := cField w 0x20 2
def cValid (w : BitVec 1024) : Bool := (cField w 0x22 2).testBit 0
def cOptions (w : BitVec 1024) : Nat := cField w 0x28 8
def cData (w : BitVec 1024) : List Byte := leBytes 64 (cField w 0x30 64)
def cWriteSeq (w : BitVec 1024) : Nat := cField w 0x70 8

/-- The record holds no reserved or device-written field set: what CONTEXT_SET accepts (R71). -/
def ctxImageOk (w : BitVec 1024) : Bool :=
  cField w 0x22 2 / 2 == 0 && cField w 0x24 4 == 0 && cField w 0x70 16 == 0

/-- A record image as stored: PARTITION and WRITE_SEQ written by the device (R69). -/
def ctxStored (w : BitVec 1024) (part : Nat) (seq : Word) : BitVec 1024 :=
  w ||| (BitVec.ofNat 1024 part <<< (8 * 0x24)) ||| (seq.setWidth 1024 <<< (8 * 0x70))

/-- A use of context record `k` (R420): one that is uncorrectable fails the command with ST_FAULT and loses its VALID. -/
def Dev.ctxBad (d : Dev) (k : Nat) : Bool := tget (fun _ => false) d.dsp.badCtx k
def Dev.ctxFail (d : Dev) (k : Nat) : Dev :=
  let d := d.setCtx k (d.ctx k &&& ~~~ ((1 : BitVec 1024) <<< (8 * 0x22)))
  { d with dsp := { d.dsp with badCtx := tput (fun _ => false) d.dsp.badCtx k false } }

/-! ## Admission (R67) -/

/-- FUNCTION_ID `f` takes no context (R91): TR34_NONCE, WARDEN_REQUEST, RANDOM. -/
def noContext (f : Nat) : Bool := f == 0x78 || f == 0x7F || f == 0x90

def isFence (f : Nat) : Bool := fenceFns.contains f

/-- Fence entry `x` orders command `c`, which comes later in its scope (R77, R78). -/
def inScope (x c : Cmd) : Bool :=
  x.part == c.part && (dFunction x.desc != 0xF000 || x.sq == c.sq)

/-- An earlier fence of its scope that has not completed holds the command back (R67, R79). -/
def Dev.behindFence (d : Dev) (c : Cmd) : Bool :=
  d.dsp.cmds.any (fun x => (x.2.st == .staged || x.2.st == .fence || x.2.st == .queued || x.2.st == .ended)
    && isFence (dFunction x.2.desc) && decide (x.2.order < c.order) && inScope x.2 c)

/-- Two byte ranges meet. -/
def overlaps (a la b lb : Nat) : Bool := la != 0 && lb != 0 && decide (a < b + lb) && decide (b < a + la)

/-- The one overlap that a function permits: a GCM function whose output begins at its message (R121). -/
def gcmInPlace (w : BitVec 512) : Bool :=
  (dFunction w == 0x80 && dOutAddr w == dInAddr w + dField w 0x28 4) || (dFunction w == 0x81 && dOutAddr w == dInAddr w + dField w 0x34 4)

/-- Checks 5 to 8 of R67: the status of the first that fails. Only the GCM functions permit an overlap, at the one place R121 gives. -/
def Dev.admitCheck (d : Dev) (c : Cmd) : Option Nat :=
  let f := dFunction c.desc
  let k := dContext c.desc
  let base := d.rd (Fld.PART_CONTEXTS_CTX_BASE c.part)
  let cnt := d.rd (Fld.PART_CONTEXTS_CTX_COUNT c.part)
  let r := d.ctx k
  if noContext f && k != 0 then some stBadDescriptor
  else if !noContext f && !(decide (base ≤ k) && decide (k < base + cnt)) then some stPartition
  else if !noContext f && f != 0x10 && f != 0x11 && !(cValid r && (cFunction r == 0 || cFunction r == f)) then
    some stNoContext
  else if overlaps (dInAddr c.desc) (dInLen c.desc) (dOutAddr c.desc) (dOutLen c.desc) && !gcmInPlace c.desc then some stBadDescriptor
  else if d.rd (Fld.PART_QUOTA_INFLIGHT c.part) = 0 then some stQuota
  else none

/-- No admitted image names the command's function any more (R67). -/
def Dev.unbound (d : Dev) (c : Cmd) : Bool := isTileFn (dFunction c.desc) && (d.funcEntry (dFunction c.desc)).isNone

/-- What every command meets first: checks 1 to 3 of R67. `some none`: discarded with no completion. -/
def Dev.gate (d : Dev) (e : Nat) : Option (Option Nat) :=
  if !d.current e then some none
  else if d.tmp.erased || d.tmp.erasing then some (some stErased)
  else if d.tmp.lock then some (some stLocked)
  else none

/-- Every field of a fence descriptor beyond FUNCTION_ID and HOST_TAG is zero (R77). -/
def fenceFieldsZero (w : BitVec 512) : Bool :=
  dField w 2 6 == 0 && dField w 0x10 48 == 0

/-- Fence handling (R74, R77, R81): its fields, the limit of 64, then it waits as a fence, with the event number current
at its admission. -/
def Dev.admitFence (d : Dev) (e : Nat) : Dev :=
  let c := d.cmd e
  if c.st != .staged || !isFence (dFunction c.desc) then d
  else match d.gate e with
    | some none => d.dropCmd e
    | some (some s) => d.rejectCmd e s
    | none =>
      if !fenceFieldsZero c.desc then d.rejectCmd e stBadDescriptor
      else if 64 ≤ d.fences c.part then d.rejectCmd e stQuota
      else d.setCmd e { c with st := .fence, adm := d.seq.toNat + 1 }

/-- A fence of FUNCTION_ID `f` reaches fence handling. -/
def Dev.fenceAs (d : Dev) (f e : Nat) : Dev := if dFunction (d.cmd e).desc = f then d.admitFence e else d

/-- ADMITTED (DSP_OCCUPANCY). -/
def Dev.admitted (d : Dev) : Nat := d.countCmds (fun c => c.counted)

/-- DSP_TILES.AVAILABLE: the tiles that accept work. -/
def Dev.tilesAvailable (d : Dev) : Nat :=
  ((List.range 64).filter (fun t => (d.rd Fld.TILE_AVAIL_AVAIL).testBit t)).length

/-- The functions of a key-management course for which the Warden builds the mailbox form itself (R325). -/
def kmFns : List Nat := [0x70, 0x71, 0x78, 0x79]

/-- The mailbox form that the Warden builds of a course-bound function (R325). -/
def kmForm (e part code : Nat) (params : List Byte) (alarms : Nat) : WReq :=
  ⟨1, e, leBytes 2 code ++ [BitVec.ofNat 8 part, 0] ++ leBytes 2 params.length ++ List.replicate 26 0 ++ params, alarms⟩

/-- The form of such a function enters the Warden's mailbox as its command is admitted (R18, R23); a WARDEN_REQUEST enters when its
input area has been read (DEDUCED: before that there is no request). -/
def Dev.kmEnter (d : Dev) (e : Nat) : Dev :=
  let c := d.cmd e
  let f := dFunction c.desc
  if kmFns.contains f then
    { d with wdn := { d.wdn with queue := d.wdn.queue ++ [kmForm e c.part f (dParams c.desc) d.wdn.alarms] } }
  else d

/-- A request is the form of a key-management function. -/
def WReq.isKm (r : WReq) : Bool := r.origin == 1 && kmFns.contains (leAt r.bytes 0 2)

/-- The forms of commands that have ended before the Warden took them leave the mailbox. -/
def Dev.kmDrop (d : Dev) : Dev :=
  { d with wdn := { d.wdn with queue := d.wdn.queue.filter (fun r => !r.isKm || d.wdn.job == some r || (d.cmd r.entry).st == .admitted) } }

/-- The command is admitted: it takes its copy of the context, is bound to its image and counted, and the high-water
mark follows (R67, R68). While no tile accepts work a command that needs one completes with ST_FAULT at once (R155). -/
def Dev.takeIn (d : Dev) (e : Nat) : Dev :=
  let c := d.cmd e
  let f := dFunction c.desc
  let d := d.setCmd e { c with st := .admitted, counted := true, adm := d.dsp.nextAdm + 1,
                               ctx := if noContext f then 0 else d.ctx (dContext c.desc), image := d.funcEntry f }
  let d := { d with dsp := { d.dsp with nextAdm := d.dsp.nextAdm + 1 } }
  let d := d.wr Fld.DSP_HIGHWATER_ADMITTED_MAX (max (d.rd Fld.DSP_HIGHWATER_ADMITTED_MAX) d.admitted)
  let d := { d with plt := { d.plt with highest := max d.plt.highest d.admitted } }
  if isTileFn f && d.tilesAvailable == 0 then d.failCmd e (if d.blockHeld 0 then stUnitReset else stFault) else d.kmEnter e

/-- The checks read a record that is uncorrectable: one of the command's partition, for any function but CONTEXT_SET. -/
def Dev.ctxMeet (d : Dev) (c : Cmd) : Bool :=
  let f := dFunction c.desc
  let k := dContext c.desc
  let base := d.rd (Fld.PART_CONTEXTS_CTX_BASE c.part)
  !noContext f && f != 0x10 && decide (base ≤ k) && decide (k < base + d.rd (Fld.PART_CONTEXTS_CTX_COUNT c.part)) && d.ctxBad k

def Dev.commandAdmit (d : Dev) (e : Nat) : Dev :=
  let c := d.cmd e
  if c.st != .staged then d
  else match d.gate e with
    | some none => d.dropCmd e
    | some (some s) => d.rejectCmd e s
    | none =>
      if isFence (dFunction c.desc) then d.admitFence e
      else if d.behindFence c then d
      else if c.bad.any (fun o => decide (o < 0x40)) then d.rejectCmd e stFault
      else match d.ctxMeet c, d.admitCheck c with
        | true, _ => (d.ctxFail (dContext c.desc)).rejectCmd e stFault
        | _, some s => d.rejectCmd e s
        | _, none =>
        if d.rd (Fld.PART_QUOTA_INFLIGHT c.part) ≤ d.inflight c.part then d
        else if d.unbound c then d.rejectCmd e stUnknownFunction
        else d.takeIn e

/-! ## Threads (R66, R134, R135) -/

/-- Entry `e` waits for a thread. -/
def waitsForThread (c : Cmd) : Bool := c.st == .admitted && isTileFn (dFunction c.desc)

/-- Entry `e` is the oldest admitted command that waits for a thread (R66). -/
def Dev.isOldestAdmitted (d : Dev) (e : Nat) : Bool :=
  waitsForThread (d.cmd e) && d.dsp.cmds.all (fun x => !waitsForThread x.2 || decide ((d.cmd e).adm ≤ x.2.adm))

/-- Every token of the thread is free: each request it issued has returned or been discarded. -/
def toksFree (t : Thr) : Bool := t.toks.all (fun x => x.2 == Tok.free)

/-- Thread `h` may take a command: it holds none, its clearing is over, its requests are all back (R135), and its tile
accepts work (R66). -/
def Dev.thrFree (d : Dev) (h : Nat) : Bool :=
  decide (h < 1024) && (d.thr h).cmd == none && !(d.thr h).zeroising && toksFree (d.thr h)
    && (d.rd Fld.TILE_AVAIL_AVAIL).testBit (h / 16) && d.rd (Fld.TILE_EPOCH_STATE (h / 16)) == 0

/-- The oldest waiting command enters Running on free thread `h`: it starts at its ENTRY with everything PLAIN zero
(R135, R182), under the run limit now in force (R148). `cached` says whether its first line is in the tile's cache. -/
def Dev.threadAssign (d : Dev) (e h : Nat) (cached : Bool) : Dev :=
  let c := d.cmd e
  if !d.isOldestAdmitted e || !c.ready || !d.thrFree h || d.tmp.lock then d
  else match c.image with
    | none => d
    | some im =>
      let d := d.boundary Fld.TILE_RUN_LIMIT_LIMIT.reg
      (d.setCmd e { c with st := .running }).setThr h
        { Thr.reset with cmd := some e, epoch := d.rd (Fld.TILE_EPOCH_EPOCH (h / 16)), pc := BitVec.ofNat 64 im.2,
                         wait := if cached then .none else .icache, limit := d.rd Fld.TILE_RUN_LIMIT_LIMIT }

/-- The input area of 1 to 256 bytes is read into INPUT_PREFETCH before the command runs (R134). -/
def Dev.inputPrefetch (d : Dev) (e : Nat) (bs : List Byte) : Dev :=
  let c := d.cmd e
  let n := dInLen c.desc
  if !(c.st == .staged || c.st == .admitted) || c.ready || bs.length != n || !d.canSend c.part then d
  else (d.setCmd e { c with prefetch := bytesBv 2048 bs, ready := true }).emit (.memRead c.part (dInAddr c.desc) n)

/-! ## CONTEXT_SET and CONTEXT_GET (R71, R72) -/

/-- A command that the Dispatcher executed completes with `status` and RESULT. -/
def Dev.finish (d : Dev) (e status : Nat) (result : BitVec 128) : Dev :=
  if (d.cmd e).st == .free then d
  else d.modCmd e (fun c => { c with st := .released, status := status, result := if status = stOk || status = stVerifyFail then result else 0 })

def Dev.contextSet (d : Dev) (e : Nat) (input : List Byte) : Dev :=
  let c := d.cmd e
  let w := bytesBv 1024 input
  if c.st != .admitted || dFunction c.desc != 0x10 then d
  else if dField c.desc 0x28 24 != 0 || dFuncFlags c.desc != 0 || dOutAddr c.desc != 0 || dOutLen c.desc != 0 then
    d.failCmd e stBadDescriptor
  else if dInLen c.desc != 128 then d.failCmd e stLength
  else if !c.ready || input != bvBytes 128 (c.prefetch.setWidth 1024) then d
  else if !ctxImageOk w then d.failCmd e stBadDescriptor
  else
    let d := d.event
    let d := { d with dsp := { d.dsp with badCtx := tput (fun _ => false) d.dsp.badCtx (dContext c.desc) false } }
    (d.setCtx (dContext c.desc) (ctxStored w c.part d.seq)).finish e stOk (d.seq.setWidth 128)

/-- CONTEXT_GET reads the command's admission copy (R68). -/
def Dev.contextGet (d : Dev) (e : Nat) : Dev :=
  let c := d.cmd e
  if c.st != .admitted || dFunction c.desc != 0x11 then d
  else if dField c.desc 0x28 24 != 0 || dFuncFlags c.desc != 0 || dInAddr c.desc != 0 || dInLen c.desc != 0 then
    d.failCmd e stBadDescriptor
  else if dOutLen c.desc != 128 then d.failCmd e stLength
  else
    (d.sendOut c.part e (.memWrite c.part (dOutAddr c.desc) (bvBytes 128 c.ctx))).finish e stOk
      (BitVec.ofNat 128 (cWriteSeq c.ctx))

/-! ## Fences (R79 to R82) -/

/-- Every earlier command of the fence's scope has completed (R79). One that has not been handed over yet is later (R78). -/
def Dev.earlierDone (d : Dev) (c : Cmd) : Bool :=
  d.dsp.cmds.all (fun x => x.2.st == .free || x.2.st == .fetching || x.2.st == .palletWait || x.2.st == .palletRead || decide (c.order ≤ x.2.order) || !inScope c x.2)

/-- Every vault change of the partition's slots committed before the fence's admission has drained (R79, R236). -/
def Dev.keysSettled (d : Dev) (c : Cmd) : Bool :=
  d.vlt.staging.all (fun x => x.2.part != c.part || x.2.commitSeq = 0 || decide (c.adm ≤ x.2.commitSeq))

/-- Every counter commit that an earlier command of the partition issued is durable (R79). -/
def Dev.countersSettled (d : Dev) (c : Cmd) : Bool :=
  (d.nvs.waiting ++ (d.nvs.cur.map Prod.fst).toList).all (fun x => !x.isCommit || x.part != c.part || decide (c.order ≤ x.order))

/-- The added condition of FENCE_BOND (R79): on a manager, every transaction committed before the admission has been
applied by every live worker; on a worker every COMMIT received has been applied; outside a bond, nothing. -/
def Dev.bondSettled (d : Dev) (c : Cmd) : Bool :=
  d.mtr.unapplied.all (fun x => decide (c.adm ≤ x.seq))

/-- The condition of the fence's kind (R79). -/
def Dev.fenceHolds (d : Dev) (c : Cmd) : Bool :=
  d.earlierDone c && (match dFunction c.desc with
    | 0xF002 => d.keysSettled c
    | 0xF003 => d.countersSettled c
    | 0xF004 => d.bondSettled c
    | _ => true)

/-- The RESULT of a fence (R81). -/
def fenceResult (seq : Nat) (epoch count : Nat) : BitVec 128 := BitVec.ofNat 128 (seq + epoch % 2 ^ 32 * 2 ^ 64 + count % 2 ^ 16 * 2 ^ 96)

/-- EPOCH of a fence's RESULT: the bond epoch for FENCE_BOND, 0 outside a bond; the partition's for the others (R81). -/
def Dev.fenceEpoch (d : Dev) (c : Cmd) : Nat :=
  if dFunction c.desc = 0xF004 then (if d.rd Fld.MTR_EPOCH_MEMBER_ID = 0 then 0 else d.rd Fld.MTR_EPOCH_EPOCH) else d.epoch c.part

/-- COUNT of a fence's RESULT (R81): for FENCE_BOND the live workers that have acknowledged all that it waits for. -/
def Dev.fenceCount (d : Dev) (c : Cmd) : Nat :=
  match dFunction c.desc with
  | 0xF003 => c.fcount
  | 0xF004 => d.mtr.liveWorkers - ((d.mtr.unapplied.filter (fun x => decide (x.seq < c.adm))).flatMap (fun x => x.waiting)).eraseDups.length
  | _ => 0

/-- A fence whose conditions hold is satisfied: its number S, and its completion with ST_OK is queued (R80). -/
def Dev.fenceSatisfied (d : Dev) (e : Nat) : Dev :=
  let c := d.cmd e
  if c.st != .fence || !d.current e || !d.fenceHolds c then d
  else
    let d := d.event
    (d.setCmd e { c with st := .ended, status := stOk, result := fenceResult d.seq.toNat (d.fenceEpoch c) (d.fenceCount c) }).completionQueue e

/-- A fence ended by ST_FENCE_ABORT, SEQ being the number of the event that cut it short; `was` is the device that knew its COUNT
(R81, R82). -/
def Dev.abortCmd (d was : Dev) (c : Cmd) : Cmd :=
  let r := fenceResult d.seq.toNat (d.fenceEpoch c) (was.fenceCount c)
  { c with st := CmdSt.ended, status := stFenceAbort, result := r }

/-- Every waiting fence that `p` selects ends with ST_FENCE_ABORT and its completion is queued. -/
def Dev.abortFencesOf (d was : Dev) (p : Cmd → Bool) : Dev :=
  let es := (d.dsp.cmds.filter (fun x => x.2.st == .fence && p x.2)).map Prod.fst
  es.foldl (fun x e => (x.modCmd e (d.abortCmd was)).completionQueue e) d

def Dev.abortFences (d : Dev) (p : Cmd → Bool) : Dev := d.abortFencesOf d p

/-! ## Lock and Erase (R87) -/

/-- A Lock is delivered: a released command keeps its status; one that no thread has started ends with ST_LOCKED at once;
a running one ends at its next engine request (R156), or now if a RAND waits (R176). Waiting fences abort (R82). -/
def Dev.lockCommands (d : Dev) : Dev :=
  let es := (d.dsp.cmds.filter (fun x => x.2.st == .admitted)).map Prod.fst
  let d := es.foldl (fun x e => x.failCmd e stLocked) d
  let hs := (d.thrs.filter (fun x => match x.2.wait with | .rand _ => true | _ => false)).map Prod.fst
  (hs.foldl (fun x h => x.endCommand h stLocked) d).abortFences (fun _ => true)

/-- A command that an Erase ends. -/
def eraseCmd (c : Cmd) : Cmd :=
  { c with st := (if c.st == .queued then .queued else .ended), status := stErased, result := 0 }

/-- An Erase meets a completion that is queued and not yet sent: a touched output area is zeroed (R86). -/
def Dev.eraseOutput (d : Dev) (e : Nat) : Dev :=
  let c := d.cmd e
  if c.st == .queued && c.counted && c.touched && dOutLen c.desc != 0 && c.status != stErased then
    (d.discardOut c.part e).send c.part (.memZero c.part (dOutAddr c.desc) (dOutLen c.desc))
  else d

/-- An Erase begins: every admitted command whose completion has not been sent completes with ST_ERASED, a queued
completion having its status replaced; one rejected at admission and a fence keep theirs, and waiting fences abort. -/
def Dev.eraseCommands (d : Dev) : Dev :=
  let d := d.abortFences (fun _ => true)
  let d := (d.dsp.cmds.map Prod.fst).foldl Dev.eraseOutput d
  { d with dsp := { d.dsp with cmds := d.dsp.cmds.map (fun x =>
      (x.1, if x.2.counted then eraseCmd x.2 else x.2)) } }

end Sys2Proof.Machine
end

