-- ==== Sys2Proof/Machine/Tiles.lean ====
section
/-! DEFINITION. The transaction tiles: tagged words and their residues, the thread's registers and data space, traps,
tile faults and retirement (R129 to R156). -/

namespace Sys2Proof.Machine

/-! ## Words, tags, residues (R137, R150) -/

/-- The residue of a 64-bit value: the value modulo 7. -/
def residue (w : Word) : BitVec 3 := BitVec.ofNat 3 (w.toNat % 7)

/-- A word with its residue computed afresh. -/
def GWord.fresh (v : Word) (t : Tag) : GWord := ⟨v, t, residue v⟩

def GWord.plain (v : Word) : GWord := GWord.fresh v .plain

/-- A POISON word of the given cause (R142). -/
def GWord.poison (cause : BitVec 3) : GWord := ⟨0, .poison, cause⟩

/-- The residue of a PLAIN, GLAZED or HANDLE word is right; a POISON word carries a cause code there instead, and 0b111, which no
cause code is, marks a word of any tag that its memory holds uncorrectable (R142, R152). -/
def resOk (w : GWord) : Bool := if w.tag == .poison then w.res != 7 else w.res == residue w.data

/-- The higher of two tags in the order PLAIN < GLAZED. -/
def tagMax (a b : Tag) : Tag := if a == .plain then b else a

/-! ## Traps (R147) -/

/-- Why an instruction traps: a tile fault with its TILE_FAULT.CAUSE, the first use of a POISON word with its cause, or
a containment cause. -/
inductive Trap where
  | fault (cause : Nat)
  | poison (cause : BitVec 3)
  | contain
deriving DecidableEq, Repr

def Trap.isFault : Trap → Bool | .fault _ => true | _ => false
def Trap.isPoison : Trap → Bool | .poison _ => true | _ => false

/-- The cause that decides: fault before poison before containment (R147). -/
def pickTrap (l : List Trap) : Option Trap :=
  match l.find? Trap.isFault with
  | some t => some t
  | none => match l.find? Trap.isPoison with
    | some t => some t
    | none => l.head?

/-- A residue mismatch found where CAUSE `k` names it (R150). -/
def resC (k : Nat) (w : GWord) : List Trap := if resOk w then [] else [.fault k]

/-- What must be PLAIN: a POISON word is used, anything else but PLAIN is contained (R138). -/
def plainC (w : GWord) : List Trap :=
  match w.tag with
  | .plain => []
  | .poison => [.poison w.res]
  | _ => [.contain]

/-- What may be PLAIN or GLAZED (R138). -/
def dataC (w : GWord) : List Trap :=
  match w.tag with
  | .poison => [.poison w.res]
  | .handle => [.contain]
  | _ => []

/-- The status that a POISON cause decides (R142). -/
def poisonStatus (cause : BitVec 3) : Nat := if cause = 2 then stRngUnavailable else stPoison

/-! ## Faults of a unit: the first fault, and the second within 10 ms (R153, R199, R221, R312) -/

/-- 10 ms in CD_MGMT cycles. -/
def faultWindow : Nat := 1000000

/-- Unit `u` faults again within 10 ms of its first fault. -/
def Dev.refault (d : Dev) (u : Nat) : Bool :=
  match tget (fun _ => none) d.tmp.firstFault u with
  | some t => decide (d.tmp.now < t + faultWindow)
  | none => false

/-- The window of unit `u`'s first fault: opened now unless it is open. -/
def Dev.noteFault (d : Dev) (u : Nat) : Dev :=
  if d.refault u then d
  else { d with tmp := { d.tmp with firstFault := tput (fun _ => none) d.tmp.firstFault u (some d.tmp.now) } }

/-- `n` counted for a lifetime-statistics block, to be issued at the next period (R299, R432). -/
def Dev.lifeAdd (d : Dev) (blk n : Nat) : Dev :=
  { d with plt := { d.plt with life := tmod (fun _ => 0) d.plt.life blk (· + n) } }

/-- The lifetime-statistics block that counts the faults of unit `u` (R312, R432). -/
def lifeOfUnit (u : Nat) : Nat :=
  if u < 0x40 then 320 + u
  else if u = 0x40 then 464
  else if u < 0xC0 then 384 + (u - 0x80)
  else if u < 0x100 then 432 + (u - 0xC0)
  else if u = 0x100 then 465
  else if u = 0x101 then 466
  else 467 + (u - 0x140)

/-- The fault is reported to the tamper monitor (R312) and counted in the lifetime statistics (R432). -/
def Dev.report (d : Dev) (u : Nat) : Dev :=
  { d with tmp := { d.tmp with reports := d.tmp.reports ++ [u] } }.lifeAdd (lifeOfUnit u) 1

/-- Bit `b` of a 64-bit mask field set or cleared. -/
def Dev.setBit (d : Dev) (f : Fld) (b : Nat) (v : Bool) : Dev :=
  d.wr f (if v then d.rd f ||| 2 ^ b else if (d.rd f).testBit b then d.rd f - 2 ^ b else d.rd f)

/-- The role epoch of tile `t` increments (R154), with its event. -/
def Dev.tileEpochUp (d : Dev) (t : Nat) : Dev :=
  (d.wr (Fld.TILE_EPOCH_EPOCH t) (d.rd (Fld.TILE_EPOCH_EPOCH t) + 1)).event

/-- Tile `t` leaves service: into its self-test, or retired for good (R153). -/
def Dev.tileOut (d : Dev) (t : Nat) (forGood : Bool) : Dev :=
  let d := d.setBit Fld.TILE_AVAIL_AVAIL t false
  let d := d.setBit Fld.TILE_SELFTEST_SELFTEST t (!forGood)
  let d := if forGood then d.setBit Fld.TILE_RETIRED_RETIRED t true else d
  d.wr (Fld.TILE_EPOCH_STATE t) (if forGood then 2 else 1)

/-- While no tile accepts work, every admitted command that needs one completes with ST_FAULT at once (R155). -/
def Dev.noTiles (d : Dev) : Dev :=
  if d.tilesAvailable = 0 then
    ((d.dsp.cmds.filter (fun x => waitsForThread x.2)).map Prod.fst).foldl (fun x e => x.failCmd e stFault) d
  else d

/-- A tile fault found by thread `h` (R152, R153): every command on the tile ends with ST_FAULT, the tile leaves
service, and the fault is recorded, counted and reported (an uncorrectable word was reported when the scrubber found it, R423). A
tile retired for good reports no further fault. -/
def Dev.tileFault (d : Dev) (h cause : Nat) : Dev :=
  let t := h / 16
  if d.rd (Fld.TILE_EPOCH_STATE t) = 2 then d
  else
    let good := d.refault t
    let d := (List.range 16).foldl (fun x k => x.endCommand (16 * t + k) stFault) d
    let d := ((((d.wr Fld.TILE_FAULT_TILE t).wr Fld.TILE_FAULT_THREAD (h % 16)).wr Fld.TILE_FAULT_CAUSE cause).wr
      Fld.TILE_FAULT_PERMANENT good.toNat).eventAt Fld.TILE_FAULT_EVSEQ_SEQ
    let d := (d.inc Fld.TILE_TRAPS_FAULT 1).noteFault t
    let d := (d.tileOut t good).tileEpochUp t
    (if cause = 6 || cause = 7 then d else d.report t).noTiles

/-- The trap taken by thread `h`: the instruction has no effect, the command ends with the status of the trap's class
unless it was released, and the trap is counted (R147, R149). A residue of a word that the scrubber found uncorrectable has the
CAUSE of its ECC (6 or 7). -/
def Dev.trap (d : Dev) (h : Nat) : Trap → Dev
  | .fault k => d.tileFault h (if (d.thr h).ecc && decide (k ≤ 2) then k + 5 else k)
  | .poison c => (d.inc Fld.TILE_TRAPS_POISON 1).endCommand h (poisonStatus c)
  | .contain => (d.inc Fld.TILE_TRAPS_CONTAIN 1).endCommand h stGlazeViolation

/-! ## Registers (R131, R157) -/

def gr (t : Thr) (r : BitVec 5) : GWord := if r = 0 then GWord.zero else tget (fun _ => GWord.zero) t.g r.toNat
def gw (t : Thr) (r : BitVec 5) (v : GWord) : Thr :=
  if r = 0 then t else { t with g := tput (fun _ => GWord.zero) t.g r.toNat v }

/-- The even and the odd register of a pair: bit 0 of the field is ignored. -/
def evenR (r : BitVec 5) : BitVec 5 := r &&& 0b11110
def oddR (r : BitVec 5) : BitVec 5 := r ||| 1

def gwPair (t : Thr) (r : BitVec 5) (a b : GWord) : Thr := gw (gw t (evenR r) a) (oddR r) b

/-- A result that TWAIT claims: a pair based at g0 discards it (R168). -/
def gwToken (t : Thr) (r : BitVec 5) (a b : GWord) : Thr := if evenR r = 0 then t else gwPair t r a b

/-- The next instruction. -/
def pcNext (t : Thr) : Thr := { t with pc := t.pc + 4 }

/-! ## Running one instruction -/

/-- The words of the code section that thread `t`'s command runs (R182). -/
def Dev.codeOf (d : Dev) (e : Nat) : List (BitVec 32) :=
  match (d.cmd e).image with
  | some im => (tget (fun _ => Image.reset) d.prog.images im.1).code
  | none => []

/-- The pc lies in the code section (R159). -/
def Dev.inCode (d : Dev) (h e : Nat) : Bool :=
  decide ((d.thr h).pc.toNat < 4 * (d.codeOf e).length) && (d.thr h).pc.toNat % 4 == 0

/-- DONE (R180): before RELEASE the containment trap; after it the thread is cleared and freed. -/
def Dev.doDone (d : Dev) (h : Nat) : Dev := if (d.thr h).rel then d.endThread h else d.trap h .contain

/-! ## The request word (R170) -/

def rEngine (w : Word) : Nat := getF w 60 4
def rOp (w : Word) : Nat := getF w 54 6
def rSrck (w : Word) : Nat := getF w 52 2
def rDstk (w : Word) : Nat := getF w 50 2
def rXink (w : Word) : Nat := getF w 48 2
def rXoutk (w : Word) : Nat := getF w 46 2
def rMod (w : Word) : Nat := getF w 40 6
def rRsv (w : Word) : Nat := getF w 32 8
def rCount (w : Word) : Nat := getF w 0 32

def Req.eng (r : Req) : Nat := rEngine r.ra
def Req.op (r : Req) : Nat := rOp r.ra
def Req.srck (r : Req) : Nat := rSrck r.ra
def Req.dstk (r : Req) : Nat := rDstk r.ra
def Req.xink (r : Req) : Nat := rXink r.ra
def Req.xoutk (r : Req) : Nat := rXoutk r.ra
def Req.mode (r : Req) : Nat := rMod r.ra
def Req.count (r : Req) : Nat := rCount r.ra
/-- The PKL operations that the modular lanes run (R204); the others are the NTT units'. -/
def laneOp (op : Nat) : Bool := decide (op ≤ 9) || op == 16

/-- The engine's queue is full: the issuing thread is not ready (R184, R205, R210). -/
def Dev.queueFull (d : Dev) (r : Req) : Bool :=
  match r.eng with
  | 1 => decide (4096 ≤ d.ciph.queue.length)
  | 2 => if r.op ≤ 3 then decide (1024 ≤ d.hpk.sha2.length) else decide (256 ≤ d.hpk.sha3.length)
  | 3 => if laneOp r.op then decide (512 ≤ d.hpk.lane.length) else decide (256 ≤ d.hpk.ntt.length)
  | _ => false

/-- A request that the thread has sent stands at the tile's port while its engine's queue is full: the thread is not ready (R130,
R184). -/
def Dev.atPort (d : Dev) (h : Nat) : Bool := (d.thr h).toks.any (fun x => match x.2 with
  | .sent r => d.queueFull r
  | _ => false)

/-! ## Issue (R130) -/

/-- Thread `h` waits for nothing. -/
def Dev.unheld (d : Dev) (h : Nat) : Bool := (d.thr h).wait == .none && !d.atPort h

/-- Thread `h` can issue (R130): it holds a command and waits for nothing. -/
def Dev.ready (d : Dev) (h : Nat) : Bool := (d.thr h).cmd.isSome && d.unheld h

/-- One instruction of thread `h`, whose effect is `f` of its command's entry: nothing if the thread is not ready; DONE
if its pc lies outside the code section (R159); else the effect, or the trap its causes decide. -/
def Dev.instr (d : Dev) (h : Nat) (f : Nat → Thr → List Trap × Dev) : Dev :=
  match (d.thr h).cmd with
  | none => d
  | some e =>
    if !d.unheld h then d
    else if !d.inCode h e then d.doDone h
    else match pickTrap (f e (d.thr h)).1 with
      | some t => d.trap h t
      | none => (f e (d.thr h)).2

/-- One instruction that changes its own thread only. -/
def Dev.instrT (d : Dev) (h : Nat) (f : Nat → Thr → List Trap × Thr) : Dev :=
  d.instr h (fun e t => ((f e t).1, d.setThr h (f e t).2))

/-! ## The thread's data space (R133, R134, R163) -/

/-- Word `k` of the slice. -/
def sliceWord (t : Thr) (k : Nat) : GWord := tget (fun _ => GWord.zero) t.sl k
def setSlice (t : Thr) (k : Nat) (w : GWord) : Thr := { t with sl := tput (fun _ => GWord.zero) t.sl k w }

/-- 64 bits of a bit vector from octet `off`. -/
def wordAt {n : Nat} (v : BitVec n) (off : Nat) : Word := v.extractLsb' (8 * off) 64

/-- The word of the command window at octet offset `off` (R134); an uncorrectable word of the staging entry reads as POISON with
cause 0b001 (R420). -/
def windowWord (c : Cmd) (t : Thr) (off : Nat) : GWord :=
  if c.bad = some off then .poison 1
  else if off < 0x40 then .plain (wordAt c.desc off)
  else if off < 0x60 then .fresh (wordAt c.ctx (off - 0x40)) .handle
  else if off < 0xC0 then .plain (wordAt c.ctx (off - 0x40))
  else if off < 0xD0 then .plain (wordAt t.result (off - 0xC0))
  else if off < 0x100 then GWord.zero
  else .plain (wordAt c.prefetch (off - 0x100))

/-- THREAD_ID (R133). -/
def threadId (h : Nat) (c : Cmd) : GWord := .plain (BitVec.ofNat 64 (h / 16 + h % 16 * 2 ^ 8 + c.part * 2 ^ 16))

/-- The word that holds address `a`, if a region is there (R133). -/
def loadWord (h : Nat) (c : Cmd) (t : Thr) (a : Nat) : Option GWord :=
  if a < 0x4000 then some (sliceWord t (a / 8))
  else if 0x10000 ≤ a && a < 0x10200 then some (windowWord c t ((a - 0x10000) / 8 * 8))
  else if 0x20000 ≤ a && a < 0x20008 then some (threadId h c)
  else none

/-- The effective address of a load or store of `w` octets: naturally aligned (R163). -/
def effAddr (b : Word) (imm : BitVec 16) (w : Nat) : Nat :=
  let ea := (b + imm.signExtend 64).toNat
  ea - ea % w

/-- `w` octets of `v` from octet `k`, zero-extended. -/
def narrowOf (v : Word) (k w : Nat) : Word := BitVec.ofNat 64 (getF v (8 * k) (8 * w))

/-- What a load of `w` octets gives for the word `v` that holds its address: the tag of the whole word; a full word's
residue is copied, a narrow one's computed afresh, a POISON cause kept (R138, R140). -/
def loadValue (v : GWord) (a w : Nat) : GWord :=
  if w = 8 then v
  else if v.tag == .poison then ⟨narrowOf v.data (a % 8) w, .poison, v.res⟩
  else .fresh (narrowOf v.data (a % 8) w) v.tag

def doLoad (h : Nat) (w : Nat) (rd rs1 : BitVec 5) (imm : BitVec 16) (c : Cmd) (t : Thr) : List Trap × Thr :=
  let b := gr t rs1
  let a := effAddr b.data imm w
  match loadWord h c t a with
  | none => (resC 1 b ++ plainC b ++ [.contain], t)
  | some v => (resC 1 b ++ plainC b ++ (if b.tag == .plain then resC 2 v else []), pcNext (gw t rd (loadValue v a w)))

/-- The tag of a word after a narrow store: the higher of the two (R140). -/
def mergeWord (old new : GWord) (k w : Nat) : GWord :=
  .fresh (setF old.data (8 * k) (8 * w) (getF new.data 0 (8 * w))) (tagMax old.tag new.tag)

/-- A store of `w` octets into the slice: a full word is copied with tag and residue; a narrow one merges, and traps
when HANDLE or POISON is involved (R138, R140). -/
def storeSlice (w : Nat) (v : GWord) (a : Nat) (t : Thr) : List Trap × Thr :=
  if w = 8 then ([], setSlice t (a / 8) v)
  else
    let old := sliceWord t (a / 8)
    (resC 2 old ++ dataC v ++ dataC old, setSlice t (a / 8) (mergeWord old v (a % 8) w))

/-- A store into RESULT: PLAIN data only, and before RELEASE only (R134, R138, R179). -/
def storeResult (w : Nat) (v : GWord) (a : Nat) (t : Thr) : List Trap × Thr :=
  let off := a - 0x100C0
  let m : BitVec 128 := (BitVec.allOnes (8 * w)).setWidth 128 <<< (8 * off)
  (plainC v ++ (if t.rel then [.contain] else []),
    { t with result := (t.result &&& ~~~ m) ||| ((v.data.setWidth (8 * w)).setWidth 128 <<< (8 * off)) })

def doStore (w : Nat) (rs2 rs1 : BitVec 5) (imm : BitVec 16) (t : Thr) : List Trap × Thr :=
  let b := gr t rs1
  let v := gr t rs2
  let a := effAddr b.data imm w
  let pre := resC 1 b ++ resC 1 v ++ plainC b
  if b.tag != .plain then (pre, t)
  else if a < 0x4000 then (pre ++ (storeSlice w v a t).1, pcNext (storeSlice w v a t).2)
  else if 0x100C0 ≤ a && a < 0x100D0 then (pre ++ (storeResult w v a t).1, pcNext (storeResult w v a t).2)
  else (pre ++ [.contain], t)

/-! ## Data operations (R138, R161, R162) -/

/-- The tag of a result of add, subtract, logic, shift or compare-and-set. -/
def dataTag (a b : GWord) : Tag := if a.tag == .glazed || b.tag == .glazed then .glazed else .plain

/-! ### The checks of the datapaths (R151) -/

/-- The residue predicted for a sum from its operands' and the carry, as 2^64 is 2 modulo 7. -/
def predictAdd (ra rb carry : Nat) : Nat := (ra + rb + 5 * carry) % 7

/-- The residue predicted for a difference from its operands' and the borrow. -/
def predictSub (ra rb borrow : Nat) : Nat := (ra + 6 * rb + 2 * borrow) % 7

/-- The residue predicted for the halves of a product from its operands'. -/
def productOk (ra rb rhi rlo : Nat) : Bool := ra * rb % 7 == (2 * rhi + rlo) % 7

/-- Add, subtract, logic, shift, compare-and-set on two registers. -/
def aluR (f : Word → Word → Word) (rd rs1 rs2 : BitVec 5) (t : Thr) : List Trap × Thr :=
  let a := gr t rs1
  let b := gr t rs2
  (resC 1 a ++ resC 1 b ++ dataC a ++ dataC b, pcNext (gw t rd (.fresh (f a.data b.data) (dataTag a b))))

/-- The same with a constant, which is PLAIN (R162). -/
def aluK (f : Word → Word) (rd rs1 : BitVec 5) (t : Thr) : List Trap × Thr :=
  let a := gr t rs1
  (resC 1 a ++ dataC a, pcNext (gw t rd (.fresh (f a.data) (dataTag a GWord.zero))))

/-- Multiply: PLAIN operands only, one register. -/
def mulR (f : Word → Word → Word) (rd rs1 rs2 : BitVec 5) (t : Thr) : List Trap × Thr :=
  let a := gr t rs1
  let b := gr t rs2
  (resC 1 a ++ resC 1 b ++ plainC a ++ plainC b, pcNext (gw t rd (.plain (f a.data b.data))))

/-- Multiply and divide into a pair: PLAIN operands only. -/
def pairR (f g : Word → Word → Word) (rd rs1 rs2 : BitVec 5) (t : Thr) : List Trap × Thr :=
  let a := gr t rs1
  let b := gr t rs2
  (resC 1 a ++ resC 1 b ++ plainC a ++ plainC b, pcNext (gwPair t rd (.plain (f a.data b.data)) (.plain (g a.data b.data))))

def b2w (b : Bool) : Word := if b then 1 else 0

/-- The high 64 bits of an unsigned product. -/
def mulHigh (a b : Word) : Word := BitVec.ofNat 64 (a.toNat * b.toNat / 2 ^ 64)

/-- DIVR's quotient and remainder: for a zero divisor 0 and the dividend (R161). -/
def divQ (a b : Word) : Word := if b = 0 then 0 else BitVec.ofNat 64 (a.toNat / b.toNat)
def divRem (a b : Word) : Word := if b = 0 then a else BitVec.ofNat 64 (a.toNat % b.toNat)

/-! ## Branches, jumps, tag instructions (R164, R165) -/

/-- The branch conditions of R164. -/
def condHolds (k : Nat) (a b : Word) : Bool :=
  match k with
  | 0 => a == b
  | 1 => a != b
  | 2 => a.slt b
  | 3 => !(a.slt b)
  | 4 => a.ult b
  | 5 => !(a.ult b)
  | _ => true

def doBr (k : Nat) (rs1 rs2 : BitVec 5) (off : BitVec 13) (t : Thr) : List Trap × Thr :=
  let a := gr t rs1
  let b := gr t rs2
  (resC 1 a ++ resC 1 b ++ plainC a ++ plainC b,
    if condHolds k a.data b.data then { t with pc := t.pc + (off.signExtend 64 <<< 2) } else pcNext t)

def doJump (rd : BitVec 5) (off : BitVec 21) (t : Thr) : List Trap × Thr :=
  ([], { gw t rd (.plain (t.pc + 4)) with pc := t.pc + (off.signExtend 64 <<< 2) })

def doJmpr (rd rs1 : BitVec 5) (t : Thr) : List Trap × Thr :=
  let a := gr t rs1
  (resC 1 a ++ plainC a, { gw t rd (.plain (t.pc + 4)) with pc := a.data &&& ~~~ 3 })

def doMov (rd rs1 : BitVec 5) (t : Thr) : List Trap × Thr :=
  let a := gr t rs1
  (resC 1 a, pcNext (gw t rd a))

def doGlz (rd rs1 : BitVec 5) (t : Thr) : List Trap × Thr :=
  let a := gr t rs1
  (resC 1 a ++ dataC a, pcNext (gw t rd { a with tag := .glazed }))

def doHmake (rd rs1 : BitVec 5) (t : Thr) : List Trap × Thr :=
  let a := gr t rs1
  (resC 1 a ++ plainC a, pcNext (gw t rd { a with tag := .handle }))

/-! ## Tile events (R130, R132, R135, R148, R153) -/

/-- The clearing of an ended thread is over (R135): it may take another command once its requests are back. -/
def Dev.zeroiseDone (d : Dev) (h : Nat) : Dev :=
  if (d.thr h).zeroising then d.modThr h (fun t => { t with g := [], sl := [], zeroising := false }) else d

/-- The run limit of the command on thread `h` passes (R148); a limit of 0 disables the check. -/
def Dev.runLimit (d : Dev) (h : Nat) : Dev :=
  if (d.thr h).cmd.isSome && (d.thr h).limit != 0 then d.trap h .contain else d

/-- A tile's self-test ends (R153): on a pass it returns to service with a new role epoch, on a failure it is retired
for good, which TILE_FAULT records with CAUSE 8; DESIGN CHOICE: with THREAD 0, for no instruction met it (entry 66). -/
def Dev.tileTested (d : Dev) (t : Nat) (pass : Bool) : Dev :=
  if d.rd (Fld.TILE_EPOCH_STATE t) != 1 then d
  else if pass then
    let d := (d.setBit Fld.TILE_SELFTEST_SELFTEST t false).setBit Fld.TILE_AVAIL_AVAIL t true
    (d.wr (Fld.TILE_EPOCH_STATE t) 0).tileEpochUp t
  else
    let d := ((((d.wr Fld.TILE_FAULT_TILE t).wr Fld.TILE_FAULT_THREAD 0).wr Fld.TILE_FAULT_CAUSE 8).wr
      Fld.TILE_FAULT_PERMANENT 1).eventAt Fld.TILE_FAULT_EVSEQ_SEQ
    (d.tileOut t true).noTiles

/-- Thread `h` meets a fill: it waits for its first line, or, ready to issue, has missed or met a parity error on the line of its
next instruction, which is fetched, or fetched again, from the program store (R130, R132). -/
def Dev.fillMeets (d : Dev) (h : Nat) : Bool :=
  (d.thr h).wait == .icache || (d.unheld h && (match (d.thr h).cmd with | some e => d.inCode h e | none => false))

/-- An instruction-cache fill completes (R130, R132): the waiting thread is ready, or, for an uncorrectable line of the
program store, its command ends with ST_FAULT, which is not a fault of the tile. -/
def Dev.icacheFill (d : Dev) (h : Nat) (ok : Bool) : Dev :=
  if !d.fillMeets h then d
  else if ok then d.modThr h (fun t => { t with wait := .none })
  else (d.endCommand h stFault).report 0x40

end Sys2Proof.Machine
end

