-- ==== Sys2Proof/Machine/Nvs.lean ====
section
/-! DEFINITION. The non-volatile store: the arbiter, records, the journal, cell counters, what an interrupted write
leaves, and recovery (R277 to R299, R450). -/

namespace Sys2Proof.Machine

/-! ## Counter blocks (R292 to R296) -/

def Dev.blk (d : Dev) (k : Nat) : Block := tget (fun _ => Block.fresh) d.nvs.blocks k
def Dev.setBlk (d : Dev) (k : Nat) (b : Block) : Dev :=
  { d with nvs := { d.nvs with blocks := tput (fun _ => Block.fresh) d.nvs.blocks k b } }

/-- Slot A wins, slot B wins, or the block is damaged (R296). -/
def Block.winA (b : Block) : Option Bool :=
  match b.a.ok, b.b.ok with
  | true, true => some (b.b.bseq != (b.a.bseq + 1) % 2 ^ 16)
  | true, false => some true
  | false, true => some false
  | false, false => none

def Block.win (b : Block) : BaseSlot := if b.winA = some false then b.b else b.a

/-- Cells valid for the winning slot. -/
def Block.used (b : Block) : Nat := tcount (fun k v => decide (k < 64) && v == b.win.bseq + 1) b.cells

/-- The value of the counter (R294). -/
def Block.value (b : Block) : Nat := b.win.base + b.used

/-- The slot that does not win takes `base`, with BSEQ one more (R294, R295). -/
def Block.flip (b : Block) (base : Nat) : Block :=
  let s : BaseSlot := ⟨base, (b.win.bseq + 1) % 2 ^ 16, true⟩
  if b.winA = some false then { b with a := s } else { b with b := s }

/-- The slot that does not win no longer passes its CHECK: its word 0 is new and its word 1 is not. -/
def Block.tear (b : Block) : Block :=
  if b.winA = some false then { b with a := { b.a with ok := false } } else { b with b := { b.b with ok := false } }

def Block.setCell (b : Block) (k v : Nat) : Block := { b with cells := tput (fun _ => 0) b.cells k v }

/-- Cells 0 to `n - 1` cleared. -/
def Block.clear (b : Block) (n : Nat) : Block := { b with cells := b.cells.filter (fun e => decide (n ≤ e.1)) }

/-- `n` cells from the first free one written for the winning slot. -/
def Block.fill (b : Block) (n : Nat) : Block :=
  (List.range n).foldl (fun x i => x.setCell (b.used + i) (b.win.bseq + 1)) b

/-- A counter that takes no further increment (R298). -/
def Block.full (b : Block) : Bool := decide (2 ^ 48 - 1 ≤ b.value)

/-- The whole of an increment: a roll-over first when all 64 cells are used (R294). -/
def Block.increment (b : Block) : Block :=
  if b.full then b else if b.used = 64 then ((b.flip (b.win.base + 64)).clear 64).fill 1 else b.fill 1

/-- The whole of ADD d (R295). -/
def Block.add (b : Block) (n : Nat) : Block :=
  if b.used + n ≤ 64 then b.fill n else (b.flip (b.value + n)).clear 64

/-- The whole of RAISE v (R295). -/
def Block.raise (b : Block) (v : Nat) : Block := if b.value < v then (b.flip v).clear 64 else b

/-- What recovery leaves of a block: every cell that is not valid for the winning slot is cleared (R296). -/
def Block.settle (b : Block) : Block :=
  match b.winA with
  | none => b
  | some _ => { b with cells := b.cells.filter (fun e => decide (e.1 < 64) && e.2 == b.win.bseq + 1) }

/-! ## Operations and their words -/

/-- Bytes of a record with its header, MAC, CRC and COMMIT (R284). -/
def Rec.length (r : Rec) : Nat := r.payload.length + 48

/-- The words that the operation programs (R284, R294, R295). -/
def Dev.opWords (d : Dev) : NvKind → Nat
  | .record r => r.length / 8
  | .increment k => if (d.blk k).full then 0 else if (d.blk k).used = 64 then 67 else 1
  | .add k n => if (d.blk k).used + n ≤ 64 then n else 66
  | .raise k v => if (d.blk k).value < v then 66 else 0

/-- A roll-over cut after `k` words, the word in progress reading `o`: words 0 and 1 are the base slot, then the 64
cells are cleared in order (R294). -/
def Block.partialFlip (b : Block) (base k : Nat) (o : WordOutcome) : Block :=
  let now := o != WordOutcome.old
  if k = 0 then (if now then b.tear else b)
  else if k = 1 then (if o == .new then b.flip base else b.tear)
  else
    let x := (b.flip base).clear (k - 2)
    if now then x.setCell (k - 2) 0 else x

/-- The block after `k` words of an operation, with the word in progress reading `o` (R281). -/
def Block.partly (b : Block) (kind : NvKind) (k : Nat) (o : WordOutcome) : Block :=
  match kind with
  | .record _ => b
  | .increment _ =>
    if b.full then b
    else if b.used = 64 then
      if k < 66 then b.partialFlip (b.win.base + 64) k o
      else if o == .new then b.increment else (b.flip (b.win.base + 64)).clear 64
    else if o == .new then b.increment else b
  | .add _ n =>
    if b.used + n ≤ 64 then b.fill (if o == .new then k + 1 else k) else b.partialFlip (b.value + n) k o
  | .raise _ v => if b.value < v then b.partialFlip v k o else b

def NvKind.block : NvKind → Option Nat
  | .record _ => none
  | .increment k => some k
  | .add k _ => some k
  | .raise k _ => some k

/-! ## What is kept (R287, R288) -/

/-- Two records of the same identity in one region (R286). -/
def sameIdentity (a b : Rec) : Bool := a.region == b.region && a.type == b.type && a.subject == b.subject

/-- The newest valid record of its identity (R286). -/
def newest (rs : List Rec) (r : Rec) : Bool := r.valid && rs.all (fun x => !x.valid || !sameIdentity x r || decide (x.seq ≤ r.seq))

/-- The newest valid record of a type and subject in a region. -/
def Dev.newestRec (d : Dev) (region type subject : Nat) : Option Rec :=
  d.nvs.recs.find? (fun r => r.region == region && r.type == type && r.subject == subject && newest d.nvs.recs r)

/-- A record still kept under R287. A KEY_IMAGE record is kept until its image has been copied; a LEASE_GRANT while its
lease is active or next. -/
def Dev.recKept (d : Dev) (r : Rec) : Bool :=
  newest d.nvs.recs r && (match r.type with
    | 0x0001 => (tget (fun _ => Copy.none_) d.nvs.copies r.subject).bytes != r.payload
    | 0x0002 =>
      (d.bit Fld.CIPH_LEASE_ACTIVE_VALID && d.rd Fld.CIPH_LEASE_ACTIVE_NUMBER == leAt r.payload 0 8)
        || (d.bit Fld.CIPH_LEASE_NEXT_VALID && d.rd Fld.CIPH_LEASE_NEXT_NUMBER == leAt r.payload 0 8)
    | _ => true)

/-- Bytes of kept records of a journal. -/
def Dev.liveBytes (d : Dev) (region : Nat) : Nat :=
  ((d.nvs.recs.filter (fun r => r.region == region && d.recKept r)).map Rec.length).foldl (· + ·) 0

/-- The sizes of the record regions (R278): journal, program signatures, configuration copies A and B. -/
def regionSize (region : Nat) : Nat := match region with
  | 0 => 0x100000
  | 1 => 0x80000
  | _ => 0x40000

/-- Kept records leave less than 64 KB of a journal free (R288). -/
def Dev.journalFull (d : Dev) (region : Nat) : Bool := decide (regionSize region < d.liveBytes region + 0x10000)

/-- LIVE and JOURNAL_FULL follow the kept records (R288), JOURNAL_FULL those of either journal; its change is an event. -/
def Dev.journalLive (d : Dev) : Dev :=
  let full := d.journalFull 0 || d.journalFull 1
  let d := d.wr Fld.NVS_JOURNAL_LIVE (d.liveBytes 0)
  if d.bit Fld.NVS_STATUS_JOURNAL_FULL == full then d
  else (d.wr Fld.NVS_STATUS_JOURNAL_FULL full.toNat).eventAt Fld.NVS_EVSEQ_SEQ

/-! ## Asking the arbiter (R21, R279, R282, R288) -/

/-- An ALARM_EVENT record, for which 16 KB of the journal stays reserved (R288). -/
def NvKind.isAlarm : NvKind → Bool
  | .record r => r.type == 0x0005 && r.region == 0
  | _ => false

/-- A record the arbiter refuses for its length: in the journals LENGTH is 48 to 4,096, in a configuration copy at most
256 KB (R279, R284). -/
def NvKind.tooLong : NvKind → Bool
  | .record r => if r.region < 2 then decide (4096 < r.length) else decide (0x40000 < r.length)
  | _ => false

/-- The arbiter refuses the operation: during an Erase everything but ALARM_EVENT records; with a journal full every record
of that journal but those. Counter operations are refused only during an Erase. -/
def Dev.nvsRefuses (d : Dev) (k : NvKind) : Bool :=
  (d.tmp.erasing && !k.isAlarm) || k.tooLong
    || (match k with
        | .record r => d.bit Fld.NVS_STATUS_JOURNAL_FULL && decide (r.region < 2) && d.journalFull r.region && !k.isAlarm
        | _ => false)

/-- An operation handed to the arbiter. A refused one is noted as failed; a record too long for its region sets
NVS_STATUS.REFUSED (R279). -/
def Dev.nvsAsk (d : Dev) (prio : Nat) (k : NvKind) (part order : Nat) : Dev :=
  let id := d.nvs.nextOp
  let d := { d with nvs := { d.nvs with nextOp := id + 1 } }
  if k.tooLong then
    ({ d with nvs := { d.nvs with failed := d.nvs.failed ++ [id] } }.wr Fld.NVS_STATUS_REFUSED 1).eventAt Fld.NVS_EVSEQ_SEQ
  else if d.nvsRefuses k then { d with nvs := { d.nvs with failed := d.nvs.failed ++ [id] } }
  else { d with nvs := { d.nvs with waiting := d.nvs.waiting ++ [⟨id, prio, k, part, order⟩] } }

/-- A journal record asked for. -/
def Dev.askRecord (d : Dev) (prio region type subject : Nat) (payload : List Byte) : Dev :=
  d.nvsAsk prio (.record ⟨region, type, subject, payload, 0, 0, true, false⟩) 0 0

/-! ## Granting and programming (R21, R281, R450) -/

/-- The operation can be placed now: a record needs the storage key and the recovered write point (R450). -/
def Dev.nvsCan (d : Dev) (o : NvOp) : Bool := match o.kind with
  | .record _ => d.vlt.roots.storage && d.bit Fld.NVS_STATUS_RECOVERED
  | _ => true

/-- The waiting operation that the arbiter grants next: the first of the highest priority that can be placed (R21). -/
def Dev.nvsNext (d : Dev) : Option NvOp :=
  let c := d.nvs.waiting.filter d.nvsCan
  c.find? (fun o => c.all (fun x => decide (o.prio ≤ x.prio)))

/-- The record's place: at the write point, or at the region start when it would pass the end (R288); a configuration
copy starts at its region's start (R290). -/
def Dev.place (d : Dev) (r : Rec) : Nat :=
  if 2 ≤ r.region then 0
  else
    let w := if r.region = 0 then d.rd Fld.NVS_JOURNAL_WRITE_POINT
      else match (d.nvs.recs.filter (fun x => x.region == 1)).getLast? with | some x => x.pos + x.length | none => 0
    if regionSize r.region < w + r.length then 0 else w

def NvOp.isRecord (o : NvOp) : Bool := match o.kind with | .record _ => true | _ => false
def NvOp.isIncrement (o : NvOp) : Bool := match o.kind with | .increment _ => true | _ => false
def NvOp.isAdd (o : NvOp) : Bool := match o.kind with | .add _ _ => true | _ => false
def NvOp.isRaise (o : NvOp) : Bool := match o.kind with | .raise _ _ => true | _ => false

/-- Programming goes on to `k` words, the operation's last word not yet programmed. -/
def Dev.nvsProgress (d : Dev) (o : NvOp) (done k : Nat) : Dev :=
  { d with nvs := { d.nvs with cur := some (o, max done (min k (d.opWords o.kind - 1))) } }

/-- The arbiter grants the next operation when it is of the kind `sel` and none is being programmed, or programs more
words of the one that is (R21, R281). A rail freeze holds every word (R282). -/
def Dev.nvsRun (d : Dev) (sel : NvOp → Bool) (k : Nat) : Dev :=
  if d.nvs.frozen then d
  else match d.nvs.cur with
    | some (o, done) => if sel o then d.nvsProgress o done k else d
    | none => match d.nvsNext with
      | none => d
      | some o => if sel o then
          { d with nvs := { d.nvs with waiting := d.nvs.waiting.filter (fun x => x.id != o.id) } }.nvsProgress o 0 k
        else d

/-- A record's final word has been programmed: it is valid, the newest of its identity, with the next SEQ (R286); in a
configuration copy it replaces what the copy held (R290). -/
def Dev.recordDone (d : Dev) (r : Rec) : Dev :=
  let seq := d.rd Fld.NVS_RECORD_SEQ_SEQ + 1
  let r := { r with seq := seq, pos := d.place r, valid := true, test := d.bit Fld.VLT_STATUS_TEST_ROOT }
  let keep := if 2 ≤ r.region then d.nvs.recs.filter (fun x => x.region != r.region) else d.nvs.recs
  let al := if r.type = 5 && r.region = 0 then d.nvs.alarmRecs ++ [r.payload.take 16] else d.nvs.alarmRecs
  let d := { d with nvs := { d.nvs with recs := keep ++ [r], alarmRecs := al } }
  let d := (d.wr Fld.NVS_RECORD_SEQ_SEQ seq).inc Fld.NVS_COUNTS_RECORDS 1
  let d := if r.region = 0 then d.wr Fld.NVS_JOURNAL_WRITE_POINT ((r.pos + r.length) % 0x100000) else d
  d.journalLive

/-- A counter operation's last word has been programmed: the block, and the mirror (R294, R296). -/
def Dev.counterDone (d : Dev) (k : Nat) (b : Block) : Dev :=
  let d := d.setBlk k b
  { d with nvs := { d.nvs with mirror := tput (fun _ => 0) d.nvs.mirror k b.value } }

/-- A waiting FENCE_COUNTERS of the partition, later than the command that issued the commit, counts it (R81). -/
def NvOp.countsFor (o : NvOp) (c : Cmd) : Cmd :=
  if c.st == .fence && dFunction c.desc == 0xF003 && c.part == o.part && decide (o.order < c.order) then
    { c with fcount := c.fcount + 1 }
  else c

/-- A counter commit of the thread's command is durable; a CSYNC whose last one it was is over (R178). -/
def Thr.commitDone (t : Thr) (id : Nat) : Thr :=
  let c := t.commits.filter (· != id)
  { t with commits := c, wait := if t.wait == .counters && c.isEmpty then .none else t.wait }

/-- The fences that wait on a counter commit of partition `part` issued by command `order` count it (R81); the command's
thread no longer waits for it. -/
def Dev.commitDurable (d : Dev) (o : NvOp) : Dev :=
  if !o.isCommit then d
  else
    let d := { d with dsp := { d.dsp with cmds := tmap (fun _ => Cmd.reset) (fun _ c => o.countsFor c) d.dsp.cmds } }
    { d with thrs := tmap (fun _ => Thr.reset) (fun _ t => t.commitDone o.id) d.thrs }

/-- The effect of an operation whose last word is programmed. -/
def Dev.nvsFinish (d : Dev) (o : NvOp) : Dev :=
  match o.kind with
  | .record r => d.recordDone r
  | .increment k => (d.counterDone k (d.blk k).increment).commitDurable o
  | .add k n => d.counterDone k ((d.blk k).add n)
  | .raise k v => d.counterDone k ((d.blk k).raise v)

/-- The operation being programmed has its last word programmed and is durable (R294). -/
def Dev.nvsDone (d : Dev) : Dev :=
  match d.nvs.cur with
  | none => d
  | some (o, _) => if d.nvs.frozen then d else { d with nvs := { d.nvs with cur := none } }.nvsFinish o

/-- What the arbiter serves before a request of the Warden's priority that has just come in (R21): the operations waiting at its priority
or above, in the order of granting. The first operand bounds their number. -/
def Dev.nvsDrain : Nat → Dev → Dev
  | 0, d => d
  | n + 1, d => match d.nvsNext with
    | none => d
    | some o =>
      if o.prio ≤ 3 then nvsDrain n ({ d with nvs := { d.nvs with waiting := d.nvs.waiting.filter (fun x => x.id != o.id) } }.nvsFinish o)
      else d

/-- The operation being programmed ends first, whatever its priority: the words of two records never mix (R21). -/
def Dev.nvsAhead (d : Dev) : Dev :=
  let d := match d.nvs.cur with
    | some (o, _) => { d with nvs := { d.nvs with cur := none } }.nvsFinish o
    | none => d
  nvsDrain d.nvs.waiting.length d

/-- An operation the Warden waits for to its end within one request: refused, or handed in, and programmed and durable once what stands
before it has been (DESIGN CHOICE: the arbiter's work meanwhile is part of the same step). -/
def Dev.nvsNow (d : Dev) (k : NvKind) : Dev :=
  if d.nvsRefuses k || d.nvs.frozen then d else d.nvsAhead.nvsFinish ⟨0, 3, k, 0, 0⟩

/-- Operation `id` is durable: neither waiting, nor being programmed, nor failed. -/
def Dev.nvsDurable (d : Dev) (id : Nat) : Bool :=
  decide (id < d.nvs.nextOp) && d.nvs.waiting.all (fun o => o.id != id) && !d.nvs.failed.contains id
    && (match d.nvs.cur with | some (o, _) => o.id != id | none => true)

/-- The arbiter has begun the final word of operation `id`, or has programmed it (R237). -/
def Dev.nvsDecided (d : Dev) (id : Nat) : Bool :=
  d.nvsDurable id || (match d.nvs.cur with
    | some (o, k) => o.id == id && decide (d.opWords o.kind ≤ k + 1)
    | none => false)

/-! ## Interrupted writes (R281, R282) -/

/-- The MRAM byte address of word `k` of an operation. -/
def Dev.wordAddr (d : Dev) (kind : NvKind) (k : Nat) : Nat := match kind with
  | .record r => (match r.region with | 0 => 0 | 1 => 0x680000 | 2 => 0x600000 | _ => 0x640000) + d.place r + 8 * k
  | .increment b => (if b < 4096 then 0x180000 else 0x700000) + 576 * (b % 4096) + 8 * k
  | .add b _ => (if b < 4096 then 0x180000 else 0x700000) + 576 * (b % 4096) + 8 * k
  | .raise b _ => (if b < 4096 then 0x180000 else 0x700000) + 576 * (b % 4096) + 8 * k

/-- An operation cut after `k` words, the word in progress reading `o`: a record is valid exactly when that was its
final word and it reads new (R285), else it is torn and, in a configuration copy, what stood there is gone; a counter
block keeps the words programmed. -/
def Dev.nvsCut (d : Dev) (op : NvOp) (k : Nat) (o : WordOutcome) : Dev :=
  let d := if o == .uncorrectable then
      { d with nvs := { d.nvs with corrupt := d.nvs.corrupt ++ [d.wordAddr op.kind k] } } else d
  match op.kind with
  | .record r =>
    if d.opWords op.kind ≤ k + 1 && o == .new then d.recordDone r
    else if 0 < k || o != .old then
      let keep := if 2 ≤ r.region then d.nvs.recs.filter (fun x => x.region != r.region) else d.nvs.recs
      { d with nvs := { d.nvs with recs := keep ++ [{ r with pos := d.place r, valid := false }] } }
    else d
  | kind => match kind.block with
    | some b => d.setBlk b ((d.blk b).partly kind k o)
    | none => d

/-- The arbiter loses everything that waits. -/
def Dev.nvsClear (d : Dev) : Dev :=
  { d with nvs := { d.nvs with waiting := [], cur := none, failed := [], frozen := false } }

/-- A rail freeze begins: the word in progress is completed, and with it an operation whose final word had begun; what remains of the
others is held (R282, R306). -/
def Dev.nvsFreeze (d : Dev) : Dev :=
  let d := match d.nvs.cur with
    | some (o, k) =>
      if d.opWords o.kind ≤ k + 1 then { d with nvs := { d.nvs with cur := none } }.nvsFinish o
      else { d with nvs := { d.nvs with cur := some (o, k + 1) } }
    | none => d
  { d with nvs := { d.nvs with frozen := true } }

/-- Power is lost: the word in progress reads as `o` says (R281); in a rail freeze none is in progress. -/
def Dev.nvsPowerLoss (d : Dev) (o : WordOutcome) : Dev :=
  match d.nvs.cur with
  | some (op, k) => (d.nvsCut op k (if d.nvs.frozen then .old else o)).nvsClear
  | none => d.nvsClear

/-- A reset with power present: the word in progress completes, with a record whose final word had begun; the rest is
not written (R282). -/
def Dev.nvsReset (d : Dev) : Dev :=
  match d.nvs.cur with
  | some (op, k) => (d.nvsCut op k .new).nvsClear
  | none => d.nvsClear

/-- A KEY_IMAGE record. -/
def NvKind.isImage : NvKind → Bool
  | .record r => r.region == 0 && r.type == 0x0001
  | _ => false

/-- Every operation that `p` selects and whose final word has not begun is abandoned (R282): a record is left torn, a
counter operation keeps the words it programmed. -/
def Dev.nvsAbandon (d : Dev) (p : NvKind → Bool) : Dev :=
  let gone := (d.nvs.waiting.filter (fun o => p o.kind)).map NvOp.id
  let d := { d with nvs := { d.nvs with waiting := d.nvs.waiting.filter (fun o => !p o.kind), failed := d.nvs.failed ++ gone } }
  match d.nvs.cur with
  | some (op, k) =>
    if p op.kind && decide (k + 1 < d.opWords op.kind) then
      let d := d.nvsCut op k .new
      { d with nvs := { d.nvs with cur := none, failed := d.nvs.failed ++ [op.id] } }
    else d
  | none => d

/-! ## Faults of MRAM words (R280, R291) -/

/-- An uncorrectable word is read: UNCORR, NVS_FAULT with its cause and event, the count; one found in operation is
reported for fault clustering (R280). -/
def Dev.nvsUncorr (d : Dev) (addr cause : Nat) : Dev :=
  let d := (d.wr Fld.NVS_STATUS_UNCORR 1).inc Fld.NVS_COUNTS_UNCORRECTABLE 1
  let d := ((d.wr Fld.NVS_FAULT_ADDRESS addr).wr Fld.NVS_FAULT_CAUSE cause).eventAt Fld.NVS_FAULT_EVSEQ_SEQ
  if cause = 2 then d.report 0x101 else d

/-- The tag of an image copy fails (R289): NVS_FAULT records the copy's address. -/
def Dev.nvsTagFail (d : Dev) (slot : Nat) : Dev :=
  ((d.wr Fld.NVS_FAULT_ADDRESS (0x200000 + 64 * slot)).wr Fld.NVS_FAULT_CAUSE 3).eventAt Fld.NVS_FAULT_EVSEQ_SEQ

/-! ## Reclaim (R288, R289) -/

/-- The journal that is reclaimed: the one whose records, not yet retired, take the larger part of it. -/
def Dev.reclaimed (d : Dev) : Nat :=
  let used (region : Nat) := ((d.nvs.recs.filter (fun r => r.region == region)).map Rec.length).foldl (· + ·) 0
  if used 0 < 2 * used 1 then 1 else 0

/-- The oldest 64 KB of a journal: its oldest record and those within 64 KB after it, round the region. -/
def Dev.oldestChunk (d : Dev) (region : Nat) : List Rec :=
  match d.nvs.recs.find? (fun r => r.region == region) with
  | none => []
  | some f => d.nvs.recs.filter (fun r =>
      r.region == region && decide ((r.pos + regionSize region - f.pos) % regionSize region < 0x10000))

/-- The image copy of a slot with its tag under the storage key in force, written from a durable record (R289). -/
def Dev.writeCopy (d : Dev) (slot : Nat) (bytes : List Byte) : Dev :=
  { d with nvs := { d.nvs with copies := tput (fun _ => Copy.none_) d.nvs.copies slot ⟨bytes, true, d.bit Fld.VLT_STATUS_TEST_ROOT⟩ } }

/-- Reclaiming: kept records of the oldest 64 KB are written again, the key images among them copied to their region, and then
every record there is retired (R288). -/
def Dev.reclaim (d : Dev) : Dev :=
  if !d.bit Fld.NVS_STATUS_RECOVERED || d.nvs.frozen || d.tmp.erasing then d
  else
    let d := d.nvsAhead
    let chunk := d.oldestChunk d.reclaimed
    let kept := chunk.filter d.recKept
    let d := kept.foldl (fun x r => x.recordDone r) d
    let d := (kept.filter (fun r => r.type == 1)).foldl (fun x r => x.writeCopy r.subject r.payload) d
    { d with nvs := { d.nvs with recs := d.nvs.recs.filter (fun r => !(chunk.contains r)) } }.journalLive

/-! ## Recovery (R291, R296) -/

/-- One block settled: the mirror takes its value, or it is damaged. -/
def Dev.settleBlock (d : Dev) (k : Nat) : Dev :=
  let b := d.blk k
  match b.winA with
  | none => ({ d with nvs := { d.nvs with damaged := tput (fun _ => false) d.nvs.damaged k true } }).inc Fld.NVS_RECOVERY_DAMAGED 1
  | some _ =>
    let d := if b.settle.cells.length < b.cells.length then d.inc Fld.NVS_RECOVERY_SETTLED 1 else d
    d.counterDone k b.settle

/-- The image that a slot has after the scan (R289): the newest valid KEY_IMAGE record, else the copy if its tag checks.
Answers the image's octets, if any, and whether the copy's tag failed: one written under the other root's storage key fails (R234, R331). -/
def Dev.imageOf (d : Dev) (slot : Nat) : Option (List Byte) × Bool :=
  match d.newestRec 0 1 slot with
  | some r => (some r.payload, false)
  | none =>
    let c := tget (fun _ => Copy.none_) d.nvs.copies slot
    if c.bytes.isEmpty then (none, false) else if c.tagOk && c.test == d.bit Fld.VLT_STATUS_TEST_ROOT then (some c.bytes, false) else (some c.bytes, true)

/-- Step 8: the records whose MAC the present storage key checks are taken (R285, R331); torn records retired, uncorrectable words recorded, key images resolved into their copies, every block that
differs from a fresh one settled, the write point and the next SEQ set, RECOVERED. -/
def Dev.nvsRecover (d : Dev) : Dev :=
  let test := d.bit Fld.VLT_STATUS_TEST_ROOT
  let all := d.nvs.recs ++ d.nvs.hidden
  let here := all.filter (fun r => r.test == test)
  let torn := (here.filter (fun r => !r.valid)).length
  let ok := here.filter Rec.valid
  let d := { d with nvs := { d.nvs with hidden := all.filter (fun r => r.test != test) } }
  let d := d.nvs.corrupt.foldl (fun x a => x.nvsUncorr a 1) d
  let d := { d with nvs := { d.nvs with recs := ok, corrupt := [], mirror := [], damaged := [] } }
  let d := (d.wr Fld.NVS_RECOVERY_VALID (ok.filter (fun r => r.region == 0)).length).wr Fld.NVS_RECOVERY_TORN torn
  let seq := (ok.map Rec.seq).foldl max 0
  let d := d.wr Fld.NVS_RECORD_SEQ_SEQ seq
  let d := match (ok.filter (fun r => r.region == 0)).find? (fun r => ok.all (fun x => x.region != 0 || decide (x.seq ≤ r.seq))) with
    | some r => d.wr Fld.NVS_JOURNAL_WRITE_POINT ((r.pos + r.length) % 0x100000)
    | none => d.wr Fld.NVS_JOURNAL_WRITE_POINT 0
  let d := ((ok.filter (fun r => r.region == 0 && r.type == 1 && newest ok r))).foldl (fun x r => x.writeCopy r.subject r.payload) d
  let d := (d.nvs.blocks.map Prod.fst).foldl (fun x k => x.settleBlock k) d
  (d.wr Fld.NVS_STATUS_RECOVERED 1).journalLive

/-! ## Reading a counter (R296, R298) -/

def Dev.ctrDamaged (d : Dev) (k : Nat) : Bool := tget (fun _ => false) d.nvs.damaged k
def Dev.ctrValue (d : Dev) (k : Nat) : Nat := tget (fun _ => 0) d.nvs.mirror k

/-- Increments of the block issued and not yet durable (R296). -/
def Dev.ctrIssued (d : Dev) (k : Nat) : Nat :=
  ((d.nvs.waiting ++ (d.nvs.cur.map Prod.fst).toList).filter (fun o => o.kind == NvKind.increment k)).length

/-- NVS_CTR_VALUE for the block that NVS_CTR_SELECT names. -/
def Dev.ctrWord (d : Dev) : Word :=
  let i := d.rd Fld.NVS_CTR_SELECT_INDEX
  let r := d.rd Fld.NVS_CTR_SELECT_REGION
  let k := r * 4096 + i
  if !d.bit Fld.NVS_STATUS_RECOVERED || (r = 0 && decide (896 ≤ i)) || (r = 1 && decide (1792 ≤ i)) then 0
  else
    setF (setF (setF (setF 0 0 48 (d.ctrValue k)) 48 7 (d.blk k).used) 62 1 (d.ctrDamaged k).toNat) 63 1 1

end Sys2Proof.Machine
end

