-- ==== Sys2Proof/Machine/Keys.lean ====
section
/-! DEFINITION. Key handles, the attribute word, and the checks that every engine makes of a key (R14, R185, R211, R225 to
R230, R245, R258), with the key derivation form of R231 and the check values of R15 and R226. -/

namespace Sys2Proof.Machine

/-! ## Handles (R14) -/

def hKind (h : Word) : Nat := getF h 60 4
def hGen (h : Word) : Nat := getF h 32 16
def hSlot (h : Word) : Nat := getF h 0 17
def hRec (h : Word) : Nat := getF h 0 27

/-- The index that the handle names, by its KIND. -/
def hIndex (h : Word) : Nat := if hKind h = 2 then hRec h else hSlot h

/-- KIND is assigned and the reserved fields are zero. -/
def hOk (h : Word) : Bool :=
  getF h 48 12 == 0 && ((hKind h == 1 && getF h 17 15 == 0) || (hKind h == 2 && getF h 27 5 == 0))

/-- A handle of the given KIND, index and generation. -/
def mkHandle (kind index gen : Nat) : Word := BitVec.ofNat 64 (kind * 2 ^ 60 + gen % 2 ^ 16 * 2 ^ 32 + index)

/-! ## Attribute words (R225) -/

def aAlg (a : Word) : Nat := getF a 0 8
def aUsage (a : Word) : Nat := getF a 8 2
def aGlaze (a : Word) : Bool := getF a 10 1 != 0
def aExportable (a : Word) : Bool := getF a 11 1 != 0
def aPersistent (a : Word) : Bool := getF a 12 1 != 0
def aLimited (a : Word) : Bool := getF a 13 1 != 0
def aScoped (a : Word) : Bool := getF a 14 1 != 0
def aPresent (a : Word) : Bool := getF a 15 1 != 0
def aPart (a : Word) : Nat := getF a 16 6
def aUses (a : Word) : Nat := getF a 32 32

/-- The usages (R225). -/
def useEnc : Nat := 0
def useDec : Nat := 1
def useWrap : Nat := 2
def useDerive : Nat := 3

def isAes (alg : Nat) : Bool := alg == 1 || alg == 2 || alg == 3
def isTdea (alg : Nat) : Bool := alg == 4 || alg == 5

/-- Key octets of an algorithm (R226); 0 where ALG is not assigned. -/
def algBytes (alg : Nat) : Nat := match alg with
  | 0x01 => 16 | 0x02 => 24 | 0x03 => 32 | 0x04 => 16 | 0x05 => 24 | 0x08 => 32 | 0x09 => 48 | 0x0A => 66
  | 0x0B => 32 | 0x0C => 32 | 0x10 => 64 | 0x11 => 64 | 0x12 => 64 | 0x14 => 32 | 0x15 => 32 | 0x16 => 32
  | 0x18 => 32 | 0x19 => 48 | 0x1A => 66 | _ => 0

/-- The algorithms a vault slot may hold (R226). -/
def algInSlot (alg : Nat) : Bool :=
  isAes alg || isTdea alg || alg == 0x08 || alg == 0x0B || alg == 0x0C

/-- The usages an algorithm permits (R226). -/
def algUsage (alg usage : Nat) : Bool :=
  if isAes alg || isTdea alg then true
  else match alg with
    | 0x08 | 0x09 | 0x0A => usage == useEnc || usage == useDerive
    | 0x0B | 0x14 | 0x15 | 0x16 => usage == useEnc
    | 0x0C | 0x18 | 0x19 | 0x1A => usage == useDerive
    | 0x10 | 0x11 | 0x12 => usage == useDec
    | _ => false

/-- An attribute combination that the vault accepts for a slot (R226, R227, R230). -/
def attrOk (a : Word) : Bool :=
  algInSlot (aAlg a) && algUsage (aAlg a) (aUsage a) && !(aUsage a == useWrap && aGlaze a)
    && !(aLimited a && aPersistent a) && (aLimited a || aUses a == 0)

/-! ## Derivation and check values (R15, R226, R231) -/

def asciiBytes (s : String) : List Byte := s.toList.map (fun c => BitVec.ofNat 8 c.toNat)

/-- Block i of the KDF of R231. -/
def kdfBlock (root label ctx : List Byte) (bits i : Nat) : List Byte :=
  bvBytes 16 (Config.cmac root (beBytes 4 i ++ label ++ [0] ++ ctx ++ beBytes 4 bits))

/-- The KDF of R231: the leftmost `bits` bits (a whole number of octets) of its blocks from i = 1. -/
def kdf (root label ctx : List Byte) (bits : Nat) : List Byte :=
  ((List.range ((bits + 127) / 128)).flatMap (fun i => kdfBlock root label ctx bits (i + 1))).take (bits / 8)

/-- The check value of a key, left-aligned in 8 octets, the first octet low (R15, R226). -/
def keyCheckValue (alg : Nat) (key : List Byte) : Word :=
  let bs :=
    if isTdea alg then (bvBytes 8 (Config.tdeaEnc key 0)).take 3
    else if isAes alg then (bvBytes 16 (Config.cmac key (List.replicate 16 0))).take 5
    else if alg == 0x18 || alg == 0x19 || alg == 0x1A then (bvBytes 16 (Config.cmac (key.take 32) (List.replicate 16 0))).take 5
    else (Config.sha256 (Config.publicOf alg key)).take 5
  bytesBv 64 bs

/-- Odd parity set in the low bit of every octet, as TDEA keys are stored (R226). -/
def oddParity (key : List Byte) : List Byte :=
  key.map (fun b => let u := b.toNat / 2
    let ones := ((List.range 7).filter (fun i => u.testBit i)).length
    BitVec.ofNat 8 (2 * u + (1 - ones % 2)))

/-- A TDEA bundle whose first two 8-octet keys are equal (R226). -/
def tdeaEqual (key : List Byte) : Bool := key.take 8 == (key.drop 8).take 8

/-- A key as the vault stores it. -/
def storedKey (alg : Nat) (key : List Byte) : List Byte := if isTdea alg then oddParity key else key

/-! ## Slots and records -/

def Dev.slot (d : Dev) (k : Nat) : Slot := tget (fun _ => Slot.reset) d.vlt.slots k
def Dev.setSlot (d : Dev) (k : Nat) (x : Slot) : Dev :=
  { d with vlt := { d.vlt with slots := tput (fun _ => Slot.reset) d.vlt.slots k x } }

/-- An uncorrectable word of an SRAM array (R312, R420, R422): the fault is reported, its row remapped to a spare, and the
array's last fault shown; `scrub` when the scrubber found it. -/
def Dev.arrayFault (d : Dev) (unit word : Nat) (scrub : Bool) : Dev :=
  let used := tget (fun _ => 0) d.plt.spares unit + 1
  let d := { d with plt := { d.plt with spares := tput (fun _ => 0) d.plt.spares unit (min used 64) } }
  let d := (((d.wr Fld.PLT_ARRAY_FAULT_UNIT unit).wr Fld.PLT_ARRAY_FAULT_WORD word).wr Fld.PLT_ARRAY_FAULT_SPARES_USED
    (min used 64)).wr Fld.PLT_ARRAY_FAULT_SCRUB scrub.toNat
  let d := d.event.report unit
  if 64 < used then { d with tmp := { d.tmp with raised := d.tmp.raised ++ [unit % 256] } } else d

/-- The key that a request names, as it was found at the check. -/
structure KeyRef where
  kind : Nat
  index : Nat
  key : List Byte
  attr : Word
deriving DecidableEq, Repr

/-- Check 8 of R185: a LIMITED key has a use left. -/
def usesLeft (a : Word) : Bool := !aLimited a || aUses a != 0

/-- One use taken of a LIMITED key (R186, R230). -/
def Dev.takeUse (d : Dev) (k : KeyRef) : Dev :=
  if k.kind = 1 && aLimited k.attr then
    let x := d.slot k.index
    d.setSlot k.index { x with attr := setF x.attr 32 32 (aUses x.attr - 1) }
  else d

/-- The root of every derivation (R231, R234). -/
def Dev.rootKey (d : Dev) : List Byte := if d.bit Fld.VLT_STATUS_TEST_ROOT then Config.testRootKey else Config.deviceRootKey

/-- The storage key (R232). -/
def Dev.storageKey (d : Dev) : List Byte := kdf d.rootKey (asciiBytes "STORKEY") [] 256

/-- The Extended Store key: its 96 octets from XKS_SALT (R232), empty while no salt has been drawn. -/
def Dev.xksKey (d : Dev) : List Byte :=
  match d.vlt.roots.salt with
  | some n => if d.vlt.roots.xks then kdf d.rootKey (asciiBytes "XKSKEY") (Config.freeBytes n 32) 768 else []
  | none => []

/-- The attestation seed and the Mortar identity seed (R232). -/
def Dev.attestSeed (d : Dev) : List Byte := kdf d.rootKey (asciiBytes "ATTEST") [] 256
def Dev.mortarSeed (d : Dev) : List Byte := kdf d.rootKey (asciiBytes "MORTAR") [] 256

/-- The uncompressed public key of the identity key that the attestation seed derives, and DEVICE_ID (R349). -/
def Dev.identityPub (d : Dev) : List Byte := Config.publicOf 0x09 d.attestSeed
def Dev.deviceId (d : Dev) : List Byte := slice (Config.sha384 d.identityPub) 0 16

/-- A vault slot range of a partition (R228). -/
def Dev.ownsSlot (d : Dev) (part slot : Nat) : Bool :=
  decide (d.rd (Fld.VLT_PART_SLOTS_SLOT_BASE part) ≤ slot) && decide (slot < d.rd (Fld.VLT_PART_SLOTS_SLOT_BASE part) + d.rd (Fld.VLT_PART_SLOTS_SLOT_COUNT part))

end Sys2Proof.Machine
end

