-- ==== Sys2Proof/Machine/Records.lean ====
section
/-! DEFINITION. The records of the Extended Key Store as they stand in DRAM: lines, the integrity tree, the tree cache; and the checks
that every engine makes of a key, slot or record (R185, R211, R250 to R261, R420, R421). -/

namespace Sys2Proof.Machine

/-! ## Geometry (R251, R254) -/

/-- The levels of a tree over `lines` lines, by their node counts, level 1 first; the top one has 8 nodes or fewer. -/
def treeLevels : Nat → Nat → List Nat
  | 0, _ => []
  | fuel + 1, lines =>
    let n := (lines + 7) / 8
    if n ≤ 8 then [n] else n :: treeLevels fuel n

/-- Bytes of the record region and its tree. -/
def storeBytes (records : Nat) : Nat := 128 * records + 64 * (treeLevels 12 (2 * records)).foldl (· + ·) 0

/-- The node counts of the store's tree, level 1 first. -/
def Dev.levels (d : Dev) : List Nat := treeLevels 12 (2 * d.xks.fmt)

/-- The DRAM address of node `j` of level `k`: the tree follows the record region, level 1 first (R251). -/
def Dev.nodeAddr (d : Dev) (k j : Nat) : Nat := 128 * d.xks.fmt + 64 * ((d.levels.take (k - 1)).foldl (· + ·) 0 + j)

/-! ## Counters (R254) -/

/-- The number of the counter of line `j` (level 0) or of node `j` of level `k`. -/
def ctrKey (k j : Nat) : Nat := k * 2 ^ 40 + j

def Dev.counter (d : Dev) (k j : Nat) : Nat := tget (fun _ => 0) d.xks.counters (ctrKey k j)

/-- The root: the counters of the top level's nodes, eight of 56 bits (R254). -/
def Dev.root (d : Dev) : List Nat := (List.range 8).map (d.counter d.levels.length)

/-! ## Lines and nodes as DRAM holds them (R252 to R254) -/

/-- The 112 bytes of a record (R252). -/
def recordBytes (i : Nat) (x : XRec) : List Byte :=
  bvBytes 8 x.attr ++ leBytes 2 x.gen ++ [0, 0] ++ leBytes 4 i ++ bvBytes 8 x.kcv ++ slice x.key 0 72 ++ List.replicate 16 0

/-- The division of the Extended Store key (R253). -/
def Dev.kData (d : Dev) : List Byte := slice d.xksKey 0 32
def Dev.kTweak (d : Dev) : List Byte := slice d.xksKey 32 32
def Dev.kMac (d : Dev) : List Byte := slice d.xksKey 64 32

/-- The next tweak of XTS (IEEE 1619): times x in GF(2^128). -/
def xtsNext (t : BitVec 128) : BitVec 128 := (t <<< 1) ^^^ (if t.getLsbD 127 then 0x87 else 0)

/-- One block of XTS under tweak `t`. -/
def xtsBlock (key : List Byte) (t b : BitVec 128) : BitVec 128 := Config.aesEnc key (b ^^^ t) ^^^ t

/-- XTS-AES-256 of 56 octets, with ciphertext stealing (IEEE 1619): the last 8 octets take theirs from the third block. -/
def xts56 (key tweakKey : List Byte) (tweak : BitVec 128) (p : List Byte) : List Byte :=
  let t0 := Config.aesEnc tweakKey tweak
  let t1 := xtsNext t0
  let t2 := xtsNext t1
  let t3 := xtsNext t2
  let cc := bvBytes 16 (xtsBlock key t2 (bytesBv 128 (slice p 32 16)))
  bvBytes 16 (xtsBlock key t0 (bytesBv 128 (slice p 0 16))) ++ bvBytes 16 (xtsBlock key t1 (bytesBv 128 (slice p 16 16)))
    ++ bvBytes 16 (xtsBlock key t3 (bytesBv 128 (slice p 48 8 ++ slice cc 8 8))) ++ slice cc 0 8

/-- The leftmost 8 octets of the CMAC under K_MAC over a DRAM address, a counter and what stands there. -/
def Dev.dramMac (d : Dev) (addr ctr : Nat) (bs : List Byte) : List Byte :=
  slice (bvBytes 16 (Config.cmac d.kMac (leBytes 8 addr ++ leBytes 8 ctr ++ bs))) 0 8

/-- Line `n`: 56 octets of ciphertext of its half of the record, and their MAC (R253). -/
def Dev.lineBytes (d : Dev) (n : Nat) : List Byte :=
  let c := d.counter 0 n
  let ct := xts56 d.kData d.kTweak (bytesBv 128 (leBytes 8 n ++ leBytes 8 c)) (slice (recordBytes (n / 2) (tget (fun _ => XRec.reset) d.xks.recs (n / 2))) (56 * (n % 2)) 56)
  ct ++ d.dramMac (64 * n) c ct

/-- Node `j` of level `k`: the eight counters below it, and their MAC under its parent's counter (R254). -/
def Dev.nodeBytes (d : Dev) (k j : Nat) : List Byte :=
  let cs := (List.range 8).flatMap (fun i => leBytes 7 (d.counter (k - 1) (8 * j + i)))
  cs ++ d.dramMac (d.nodeAddr k j) (d.counter k j) cs

/-! ## The tree cache (R255, R257) -/

/-- Every level of 8,192 nodes or fewer is pinned. -/
def Dev.pinned (d : Dev) (k : Nat) : Bool := decide (d.levels.getD (k - 1) 0 ≤ 8192)

/-- The places of the cache that pinned nodes do not take. -/
def Dev.cacheRoom (d : Dev) : Nat := 65536 - (d.levels.filter (fun n => decide (n ≤ 8192))).foldl (· + ·) 0

/-- A node is held in the tree cache, and so verified. -/
def Dev.nodeHeld (d : Dev) (n : Nat × Nat) : Bool := d.pinned n.1 || d.xks.cache.contains n

/-- The nodes above record `i`, level 1 first. -/
def Dev.path (d : Dev) (i : Nat) : List (Nat × Nat) := (List.range d.levels.length).map (fun k => (k + 1, 2 * i / 8 ^ (k + 1)))

/-- Nodes written to DRAM as they now are. -/
def Dev.writeBack (d : Dev) (ns : List (Nat × Nat)) : Dev :=
  let put (t : Tab (List Byte)) (n : Nat × Nat) : Tab (List Byte) := tput (fun _ => []) t (d.nodeAddr n.1 n.2 / 64) (d.nodeBytes n.1 n.2)
  { d with xks := { d.xks with dram := ns.foldl put d.xks.dram, dirty := d.xks.dirty.filter (fun n => !ns.contains n) } }

/-- Nodes used now take the head of the cache; the least recently used ones beyond its room leave it, dirty ones being written back. -/
def Dev.cacheUse (d : Dev) (ns : List (Nat × Nat)) : Dev :=
  let ns := ns.filter (fun n => !d.pinned n.1)
  let all := ns ++ d.xks.cache.filter (fun n => !ns.contains n)
  let d := d.writeBack ((all.drop d.cacheRoom).filter (fun n => d.xks.dirty.contains n))
  { d with xks := { d.xks with cache := all.take d.cacheRoom } }

/-- The path of a record is verified: from level 1 upward to the first node that is cached; a level-1 node that was not is counted
(R255, R257). -/
def Dev.verifyPath (d : Dev) (i : Nat) : Dev :=
  match (d.path i).takeWhile (fun n => !d.nodeHeld n) with
  | [] => d.cacheUse ((d.path i).take 1)
  | ns => (d.inc Fld.XKS_COUNTS_LEAF_MISS 1).cacheUse ns

/-! ## Records (R252, R256) -/

def Dev.xrec (d : Dev) (k : Nat) : XRec := tget (fun _ => XRec.reset) d.xks.recs k

/-- The counters of a record's two lines and of every node above it are one more (R256). -/
def Dev.countWrite (d : Dev) (i : Nat) : Tab Nat :=
  ([(0, 2 * i), (0, 2 * i + 1)] ++ d.path i).foldl (fun t (n : Nat × Nat) => tmod (fun _ => 0) t (ctrKey n.1 n.2) (· + 1)) d.xks.counters

/-- A record write (R256): the record, the counters up to the root, the path in the cache and dirty, both lines to DRAM; one event. -/
def Dev.setXrec (d : Dev) (i : Nat) (x : XRec) : Dev :=
  let p := d.path i
  let d : Dev := { d with xks := { d.xks with
    recs := tput (fun _ => XRec.reset) d.xks.recs i x, counters := d.countWrite i, dirty := p ++ d.xks.dirty.filter (fun n => !p.contains n) } }
  let d := d.cacheUse p
  let line (t : Tab (List Byte)) (n : Nat) : Tab (List Byte) := tput (fun _ => []) t n (d.lineBytes n)
  { d with xks := { d.xks with dram := line (line d.xks.dram (2 * i)) (2 * i + 1) } }.event

/-! ## Integrity (R260, R261) -/

def Dev.xferBusy (d : Dev) : Bool := d.bit Fld.XKS_XFER_STATUS_BUSY

/-- ERR becomes non-zero: an event, its number in XKS_XFER_EVSEQ. The first error stands. -/
def Dev.xferError (d : Dev) (code : Nat) : Dev :=
  if d.xferBusy && d.rd Fld.XKS_XFER_STATUS_ERR == 0 then (d.wr Fld.XKS_XFER_STATUS_ERR code).eventAt Fld.XKS_XFER_EVSEQ_SEQ
  else d

/-- The Extended Key Store is failed by an integrity failure (R261), which ends a running transfer (R265). -/
def Dev.xksFail (d : Dev) (loc level cause : Nat) : Dev :=
  let d := ((d.wr Fld.XKS_STATUS_FAILED 1).wr Fld.XKS_STATUS_READY 0)
  let d := (((d.wr Fld.XKS_FAULT_LOCATION loc).wr Fld.XKS_FAULT_LEVEL level).wr Fld.XKS_FAULT_CAUSE cause).eventAt Fld.XKS_FAULT_EVSEQ_SEQ
  (d.report 0x100).xferError 6

/-- LOCATION, LEVEL and CAUSE of an integrity failure of record `i` in a tree of `levels` levels (R260, R261); `b` picks the
line or the node on its path, and what did not check: a line's MAC, the INDEX, a node's MAC, or link ECC. -/
def xksFailure (levels i b : Nat) : Nat × Nat × Nat :=
  let k := b / 4 % (levels + 1)
  if k = 0 then (2 * i + b / 4 / (levels + 1) % 2, 0, if b % 4 = 0 then 1 else if b % 4 = 1 then 3 else 4)
  else (2 * i / 8 ^ k, k, if b % 2 = 0 then 2 else 4)

/-- The scoped pool entry belongs to thread `h` (R247). -/
def scopedOwner (slot h : Nat) : Bool := slot / 16 == 0x1C00 + h

/-- Checks 2 to 6 of R185 for a slot handle. -/
def Dev.slotCheck (d : Dev) (h part : Nat) (hd : Word) : Option Nat :=
  let x := d.slot (hSlot hd)
  if !aPresent x.attr || (decide (0x1C000 ≤ hSlot hd) && !scopedOwner (hSlot hd) h) then some stKeyAbsent
  else if aPart x.attr != part then some stPartition
  else if x.gen != hGen hd then some stStaleEpoch
  else none

/-- What R258 asks of the store before a record's lines are read. -/
def Dev.recGate (d : Dev) (i : Nat) : Option Nat :=
  if d.blockHeld 4 then some stUnitReset
  else if d.bit Fld.XKS_STATUS_NO_KEY then some stRngUnavailable
  else if d.bit Fld.XKS_STATUS_FAILED || d.xks.relockFailed then some stFault
  else if d.rd Fld.XKS_GEOMETRY_RECORDS ≤ i then some stKeyAbsent
  else if !d.bit Fld.XKS_STATUS_READY then some stRecordAbsent
  else none

/-- What R258 asks of the record that the read returned. -/
def Dev.recCheck (d : Dev) (part : Nat) (hd : Word) : Option Nat :=
  let x := d.xrec (hRec hd)
  if !aPresent x.attr then some stRecordAbsent
  else if aPart x.attr != part then some stPartition
  else if x.gen != hGen hd then some stStaleEpoch
  else none

/-- A record read from DRAM (R255, R260, R261). `m` says what DRAM returns: 0 what was written there last; 1 other bytes, which do not
check, and on the re-read the ones written; 3 those after a link-ECC correction; 2 and from 4 on bytes that fail twice, where and why
`m / 4` says: no line, no field of it and no node is then used, and the store is failed. -/
def Dev.recRead (d : Dev) (i m : Nat) : Dev × Option Nat :=
  match m with
  | 0 => (d.verifyPath i, none)
  | 1 => ((d.verifyPath i).inc Fld.XKS_COUNTS_REREAD 1, none)
  | 3 => ((d.verifyPath i).inc Fld.XKS_COUNTS_LINK_ECC 1, none)
  | _ =>
    let f := xksFailure d.levels.length i (m / 4)
    (d.xksFail f.1 f.2.1 f.2.2, some stFault)

/-- A slot's word as it is read (R420, R421): `m` 0 reads well, 2 is uncorrectable, any other is corrected. -/
def Dev.slotRead (d : Dev) (hd : Word) (m : Nat) : Dev × Option Nat :=
  if tget (fun _ => false) d.vlt.faulted (hSlot hd) then (d, some stFault)
  else if m = 0 then (d, none)
  else if m != 2 then (d.lifeAdd 272 1, none)
  else
    let d := { d with vlt := { d.vlt with faulted := tput (fun _ => false) d.vlt.faulted (hSlot hd) true } }
    (d.arrayFault 0x140 (8 * hSlot hd) false, some stFault)

/-- A read and then the checks of what it returned. -/
def readThen (r : Dev × Option Nat) (f : Dev → Option Nat) : Dev × Option Nat :=
  match r.2 with
  | some s => (r.1, some s)
  | none => (r.1, f r.1)

/-- The memory of a key that a handle names, read and checked: a record's content is known only once the read has verified it (R255); a
slot's attributes are checked before its key is read. -/
def Dev.keyRead (d : Dev) (h part : Nat) (hd : Word) (m : Nat) : Dev × Option Nat :=
  if hKind hd = 2 then
    match d.recGate (hRec hd) with
    | some s => (d, some s)
    | none => readThen (d.recRead (hRec hd) m) (fun x => x.recCheck part hd)
  else match d.slotCheck h part hd with
    | some s => (d, some s)
    | none => d.slotRead hd m

/-- Checks 2 to 6 of R185 (R211 makes the same): the device after the read, and the key or the status. -/
def Dev.keyFetch (d : Dev) (h part : Nat) (hd : Word) (m : Nat) : Dev × Except Nat KeyRef :=
  if !hOk hd then (d, .error stKeyAbsent)
  else
    let r := d.keyRead h part hd m
    match r.2 with
    | some s => (r.1, .error s)
    | none =>
      if hKind hd = 2 then (r.1, .ok ⟨2, hRec hd, (d.xrec (hRec hd)).key, (d.xrec (hRec hd)).attr⟩)
      else (r.1, .ok ⟨1, hSlot hd, (d.slot (hSlot hd)).key, (d.slot (hSlot hd)).attr⟩)

end Sys2Proof.Machine
end

