-- ==== Sys2Proof/Machine/Rng.lean ====
section
/-! DEFINITION. The noise path and the three DRBG instances (R266 to R276). What an instance delivers is a free value
(Config.freeWord, Config.freeByte) numbered by Dev.nfree: no two deliveries share a number (R275). -/

namespace Sys2Proof.Machine

/-- The states of the RNG (R273). -/
def rngStart : Nat := 0
def rngRunning : Nat := 1
def rngRetest : Nat := 2
def rngFailedSt : Nat := 3

def Dev.rngState (d : Dev) : Nat := d.rd Fld.RNG_HEALTH_STATE

/-- The right-hand column of R274: RETEST or FAILED outside the start-up period. -/
def Dev.rngFailed (d : Dev) : Bool :=
  !d.rng.startup && (d.rngState == rngRetest || d.rngState == rngFailedSt)

/-- An instance is ready: 0 C, 1 D, 2 the host instance (R269). -/
def instReady : Nat → Fld
  | 0 => Fld.RNG_HEALTH_C_READY
  | 1 => Fld.RNG_HEALTH_D_READY
  | _ => Fld.RNG_HEALTH_HOST_READY

def Dev.rngReady (d : Dev) (i : Nat) : Bool := d.bit (instReady i)

def Rng.need (r : Rng) : Nat → Bool
  | 0 => r.needC
  | 1 => r.needD
  | _ => r.needH

/-- Instance `i` delivers: it is ready, no reseed of it is pending, and its 65,536 generate calls are not used up (R269, R274). -/
def Dev.rngServes (d : Dev) (i : Nat) : Bool := d.rngReady i && !d.rng.need i && decide (tget (fun _ => 0) d.rng.calls i < 65536)

/-- Instance `i` delivers `n` octets (R269): C generates on demand; D and the host instance out of a buffer of 4,096 octets, which a
generate call fills. No call gives more than 4,096. -/
def Rng.generate (r : Rng) (i n : Nat) : Rng :=
  let have_ := tget (fun _ => 0) r.buf i
  let k := if i = 0 then (n + 4095) / 4096 else (n - have_ + 4095) / 4096
  { r with calls := tmod (fun _ => 0) r.calls i (· + k), buf := if i = 0 then r.buf else tput (fun _ => 0) r.buf i (have_ + 4096 * k - n) }

def Dev.generate (d : Dev) (i n : Nat) : Dev := { d with rng := d.rng.generate i n }

/-- `k` free values are taken, which are `n` octets of instance `i`. -/
def Dev.draw (d : Dev) (i k n : Nat) : Dev := { d with nfree := d.nfree + k, rng := d.rng.generate i n }

/-- Instances D and host deliver nothing while the device is Locked or an Erase is in progress (R275, R276). -/
def Dev.rngBlocked (d : Dev) : Bool := d.tmp.lock || d.tmp.erasing

/-- The registers RNG_DATA and RNG_STATUS of partition `n` (R39). -/
def rngDataReg (n : Nat) : Nat := if n = 0 then 0x90000 else n * 0x100000 + 0x8000
def rngStatusReg (n : Nat) : Nat := if n = 0 then 0x90008 else n * 0x100000 + 0x8008
def rngData (n : Nat) : Fld := ⟨rngDataReg n, 0, 32⟩
def rngValid (n : Nat) : Fld := ⟨rngDataReg n, 63, 1⟩
def rngEmptyRead (n : Nat) : Fld := ⟨rngStatusReg n, 0, 1⟩

/-- No partition's RNG_DATA holds a value. -/
def Dev.rngDrop (d : Dev) : Dev :=
  (List.range 64).foldl (fun x n => (x.wr (rngData n) 0).wr (rngValid n) 0) d

/-- R272's zeroisation: conditioners, working states, buffers; every instance not ready. -/
def Dev.rngZero (d : Dev) : Dev :=
  let d := (((d.wr Fld.RNG_HEALTH_C_READY 0).wr Fld.RNG_HEALTH_D_READY 0).wr Fld.RNG_HEALTH_HOST_READY 0).rngDrop
  { d with rng := { d.rng with blocks := [], needC := false, needD := false, needH := false, hostWait := [], hostDone := [], lfsr := 0,
                               counted := false, calls := [], buf := [] } }

/-- The instances are to be instantiated afresh. -/
def Dev.rngInstantiate (d : Dev) : Dev := { d with rng := { d.rng with needC := true, needD := true, needH := true } }

/-- A change of RNG_HEALTH.STATE, with its event. -/
def Dev.rngTo (d : Dev) (st : Nat) : Dev := (d.wr Fld.RNG_HEALTH_STATE st).eventAt Fld.RNG_EVSEQ_SEQ

/-- A waiting RAND receives `v` (R176): the register is written and the thread goes on. -/
def Dev.randDeliver (d : Dev) (h : Nat) (v : GWord) : Dev :=
  match (d.thr h).wait with
  | .rand rd => d.modThr h (fun t => { gw t rd v with wait := .none })
  | _ => d

/-- Every RAND that waits receives POISON with cause 0b010, unless the start-up period makes it wait (R274). -/
def Dev.randFail (d : Dev) : Dev :=
  if !d.rngFailed then d
  else ((d.thrs.filter (fun x => match x.2.wait with | .rand _ => true | _ => false)).map Prod.fst).foldl
    (fun x h => x.randDeliver h (.poison 2)) d

/-- The requests of thread `h` that wait for a reseed of the host instance, `ws`, fail with ST_RNG_UNAVAILABLE (R274). -/
def Dev.reseedFail (ws : List Nat) (d : Dev) (h : Nat) : Dev :=
  match (d.thr h).cmd with
  | none => d
  | some e =>
    let o := 16 * (d.cmd e).order
    if ws.contains (o + 15) then d.endCommand h stRngUnavailable
    else d.modThr h (fun t => { t with
      toks := tmap (fun _ => Tok.free) (fun k x => match x with
        | .sent r => if ws.contains (16 * r.order + k) then .done ⟨stRngUnavailable, GWord.zero, GWord.zero⟩ r.epoch .pair else x
        | _ => x) t.toks
      writes := t.writes.filter (fun w => !ws.contains (o + w.1)) })

def Dev.hostFail (d : Dev) (ws : List Nat) : Dev :=
  if !d.rngFailed || ws.isEmpty then d else (d.thrs.map Prod.fst).foldl (fun x h => x.reseedFail ws h) d

/-- A health-test failure (R272, R273): zeroised, recorded, and on to RETEST while a re-run is left, else to FAILED. What waits fails (R274). -/
def Dev.healthFail (d : Dev) (sources test : Nat) : Dev :=
  let ws := d.rng.hostWait
  let d := (((d.rngZero.wr Fld.RNG_HEALTH_FAIL_SOURCE sources).wr Fld.RNG_HEALTH_FAIL_TEST test).inc
    Fld.RNG_COUNTS_HEALTH_FAILS 1)
  let d := { d with rng := { d.rng with testing := false } }
  let k := d.rd Fld.RNG_HEALTH_RERUNS
  (if k < 3 then (d.wr Fld.RNG_HEALTH_RERUNS (k + 1)).rngTo rngRetest else d.rngTo rngFailedSt).randFail.hostFail ws

/-- The start-up test runs: the kiln has begun, step 5 of the release order being done (R273, R404), and the block is not held in
reset (R412). -/
def Dev.kilnRuns (d : Dev) : Bool := decide (5 ≤ d.rd Fld.PLT_RESET_STATUS_STEP) && !d.blockHeld 3

/-- The samples are being tested: in RUNNING, and while a start-up test runs (R271, R273). -/
def Dev.rngTested (d : Dev) : Bool :=
  d.rngState == rngRunning || (d.rngState == rngStart && d.kilnRuns) || (d.rngState == rngRetest && d.rng.testing)

/-- Source `s` (0 or 1) fails its repetition count test (1) or its adaptive proportion test (2). -/
def Dev.sourceFail (d : Dev) (s test : Nat) : Dev := if d.rngTested && decide (s < 2) then d.healthFail (2 ^ s) test else d

/-- The start-up test ends (R271, R273): `test` 0 passes; else the part that failed, with its sources. -/
def Dev.startupDone (d : Dev) (test sources : Nat) : Dev :=
  if !((d.rngState == rngStart && d.kilnRuns) || (d.rngState == rngRetest && d.rng.testing)) then d
  else if test = 0 then
    ({ d with rng := { d.rng with startup := false, testing := false } }.rngTo rngRunning).rngInstantiate
  else d.healthFail sources test

/-- 1 ms after entering RETEST the start-up test runs again (R273). -/
def Dev.retestTimer (d : Dev) : Dev :=
  if d.rngState = rngRetest then { d with rng := { d.rng with testing := true } } else d

/-- An internal demand is pending: the internal conditioner takes the raw bits (R270). -/
def Dev.internalDemand (d : Dev) : Bool := d.rng.needC || d.rng.needD

/-- One raw bit enters the internal conditioner: the register shifts, and the bit is XORed into the feedback of
x^256 + x^254 + x^251 + x^246 + 1 (R268). -/
def lfsrStep (s : BitVec 256) (b : Bool) : BitVec 256 :=
  (s <<< 1) ||| (BitVec.ofBool (((s.getLsbD 255 ^^ s.getLsbD 253) ^^ (s.getLsbD 250 ^^ s.getLsbD 245)) ^^ b)).setWidth 256

/-- The register after `n` raw bits, the first of them bit 0 of `w`. -/
def lfsrRun (s : BitVec 256) (w : BitVec 1024) (n : Nat) : BitVec 256 := (List.range n).foldl (fun s k => lfsrStep s (w.getLsbD k)) s

/-- 1,024 raw bits, a free value, have been absorbed: the register, which is not cleared, is one conditioned block for the internal demand (R268). -/
def Dev.conditioned (d : Dev) : Dev :=
  if d.rngState == rngRunning && d.internalDemand then
    let s := lfsrRun d.rng.lfsr (Config.rawBits d.nfree) 1024
    { d.takeFree with rng := { d.rng with lfsr := s, blocks := (d.rng.blocks ++ [s]).drop (d.rng.blocks.length - 1) } }
  else d

/-- The host conditioner (R268): raw bits in pairs, each XORed into one bit, -/
def xorPairs : List Bool → List Bool
  | a :: b :: l => (a ^^ b) :: xorPairs l
  | _ => []

/-- and those in pairs through the von Neumann debiaser: 01 gives 0, 10 gives 1, 00 and 11 give nothing. -/
def debias : List Bool → List Bool
  | a :: b :: l => if a = b then debias l else a :: debias l
  | _ => []

def Rng.setNeed (r : Rng) (i : Nat) (v : Bool) : Rng := match i with
  | 0 => { r with needC := v }
  | 1 => { r with needD := v }
  | _ => { r with needH := v }

/-- Instance `i` has the entropy it takes, in the fixed priority of R270: C and D two conditioned blocks each, the host
instance, once neither of them has a demand, 512 debiased bits of the raw bits `raw` that its conditioner took (R269). -/
def Dev.entropyIn (d : Dev) (i : Nat) (raw : List Bool) : Bool :=
  d.rngState == rngRunning && d.rng.need i && (match i with
    | 0 => d.rng.blocks.length == 2
    | 1 => d.rng.blocks.length == 2 && !d.rng.needC
    | _ => !d.internalDemand && decide (512 ≤ (debias (xorPairs raw)).length))

/-- The demand of instance `i` is met: its generate calls count afresh, and what its buffer held is gone. -/
def Dev.entropyTake (d : Dev) (i : Nat) : Dev :=
  { d with rng := { d.rng.setNeed i false with blocks := if i < 2 then [] else d.rng.blocks, counted := if i < 2 then d.rng.counted else false,
                                                  calls := tput (fun _ => 0) d.rng.calls i 0, buf := tput (fun _ => 0) d.rng.buf i 0 } }

/-- Instance `i` is instantiated from fresh entropy and becomes ready (R269). -/
def Dev.instantiated (d : Dev) (i : Nat) (raw : List Bool) : Dev :=
  if d.entropyIn i raw && !d.rngReady i then (d.entropyTake i).wr (instReady i) 1 else d

/-- A reseed of the ready host instance that waits behind internal demand is counted, once (R270). -/
def Dev.hostWaits (d : Dev) : Dev :=
  if d.internalDemand && d.rng.needH && d.rngReady 2 && !d.rng.counted then
    { d.inc Fld.RNG_COUNTS_HOST_WAITS 1 with rng := { d.rng with counted := true } }
  else d

/-- A reseed of instance `i` is asked for; one that makes a pending host reseed wait counts it. -/
def Dev.reseedAsk (d : Dev) (i : Nat) : Dev :=
  if !d.rngReady i || d.rng.need i then d else { d with rng := d.rng.setNeed i true }.hostWaits

/-- Instance `i` must reseed: it has made 65,536 generate calls (R269). -/
def Dev.reseedDue (d : Dev) (i : Nat) : Dev := if tget (fun _ => 0) d.rng.calls i < 65536 then d else d.reseedAsk i

/-- The reseed of instance `i` is complete; what waited for it proceeds (R270). -/
def Dev.reseeded (d : Dev) (i : Nat) (raw : List Bool) : Dev :=
  if !(d.entropyIn i raw && d.rngReady i) then d
  else
    let d := d.entropyTake i
    if i < 2 then d else { d with rng := { d.rng with hostDone := d.rng.hostDone ++ d.rng.hostWait, hostWait := [] } }

/-- A request (`who`, a number of its command and token) of the host instance with RESEED: `true` once the reseed it asked for
is done; otherwise it waits for one, the pending one if there is one (R124, R174, R270). -/
def Dev.reseedFor (d : Dev) (who : Nat) : Dev × Bool :=
  if d.rng.hostDone.contains who then ({ d with rng := { d.rng with hostDone := d.rng.hostDone.filter (· != who) } }, true)
  else if d.rng.hostWait.contains who then (d, false)
  else ({ d with rng := { d.rng with hostWait := d.rng.hostWait ++ [who] } }.reseedAsk 2, false)

/-- The next value of the host instance is loaded into partition `n`'s empty RNG_DATA (R275). -/
def Dev.rngLoad (d : Dev) (n : Nat) : Dev :=
  if d.rngState == rngRunning && d.rngServes 2 && !d.rngBlocked && d.serving && d.fnExists n && !d.bit (rngValid n) then
    ((d.wr (rngData n) (Config.freeWord d.nfree).toNat).wr (rngValid n) 1).draw 2 1 4
  else d

/-- A 64-bit read of RNG_DATA of partition `n` (R275): consumes a value, or returns zero and sets EMPTY_READ. ERROR is 1
while the RNG is not RUNNING. -/
def Dev.rngRead (d : Dev) (n : Nat) : Dev :=
  let err := (d.rngState != rngRunning).toNat
  if d.rngBlocked || !d.bit (rngValid n) then
    ((d.wr (rngEmptyRead n) 1).inc Fld.RNG_COUNTS_EMPTY_READS 1).emit (.regData (rngDataReg n) (setF 0 62 1 err))
  else
    ((d.wr (rngData n) 0).wr (rngValid n) 0).emit
      (.regData (rngDataReg n) (setF (setF (setF 0 0 32 (d.rd (rngData n))) 62 1 err) 63 1 1))

/-- An Erase at its delivery (R276). -/
def Dev.rngErase (d : Dev) : Dev := if d.rngState = rngRunning then d.rngZero.rngInstantiate else d.rngZero

/-- A warm reset or a cold reset (R273, R276). FAILED survives a warm reset and starts no start-up period. -/
def Dev.rngReset (d : Dev) (cold : Bool) : Dev :=
  let z := d.rngZero
  if !cold && d.rngState == rngFailedSt then
    { z with rng := { Rng.reset with startup := false } }
  else
    let z := if cold then z.wr Fld.RNG_HEALTH_RERUNS 0 else z
    { z.wr Fld.RNG_HEALTH_STATE rngStart with rng := Rng.reset }

/-- A function-level reset discards the partition's value and EMPTY_READ (R276). -/
def Dev.rngFlr (d : Dev) (n : Nat) : Dev := ((d.wr (rngData n) 0).wr (rngValid n) 0).wr (rngEmptyRead n) 0

/-- RAND (R176): while the device is Locked, or the RNG is held in reset (R411), it ends its command; with the source failed rd takes POISON at once; else
the thread waits for its word. -/
def Dev.doRand (d : Dev) (h : Nat) (rd : BitVec 5) : Dev :=
  d.instr h (fun _ t => ([],
    if d.tmp.lock then d.endCommand h stLocked
    else if d.blockHeld 3 then d.endCommand h stUnitReset
    else if d.rngFailed then d.setThr h (pcNext (gw t rd (.poison 2)))
    else d.setThr h { pcNext t with wait := .rand rd }))

/-- A waiting RAND receives its word once instance D is ready (R176). -/
def Dev.randResult (d : Dev) (h : Nat) : Dev :=
  if !((match (d.thr h).wait with | .rand _ => true | _ => false) && d.rngState == rngRunning && d.rngServes 1 && !d.rngBlocked) then d
  else (d.randDeliver h (.plain (Config.freeWord d.nfree))).draw 1 1 8

end Sys2Proof.Machine
end

