-- ==== Sys2Proof/Machine/Sou.lean ====
section
/-! DEFINITION. The Sealed Operand Unit (R143 to R146, R166). -/

namespace Sys2Proof.Machine

/-- The nibbles of a register, or of a pair when `wide`. -/
def souNibs (t : Thr) (r : BitVec 5) (wide : Bool) : List Nat :=
  if wide then wordNibbles (gr t (evenR r)).data ++ wordNibbles (gr t (oddR r)).data else wordNibbles (gr t r).data

/-- The causes met in a data operand of the unit: PLAIN or GLAZED is taken. -/
def souData (t : Thr) (r : BitVec 5) (wide : Bool) : List Trap :=
  if wide then resC 1 (gr t (evenR r)) ++ resC 1 (gr t (oddR r)) ++ dataC (gr t (evenR r)) ++ dataC (gr t (oddR r))
  else resC 1 (gr t r) ++ dataC (gr t r)

/-- The causes met in an operand that must be PLAIN. -/
def souPlain (t : Thr) (r : BitVec 5) : List Trap := resC 1 (gr t r) ++ plainC (gr t r)

/-- A refusal of R143. -/
def refuseIf (b : Bool) : List Trap := if b then [.contain] else []

def num (t : Thr) (r : BitVec 5) : Nat := (gr t r).data.toNat

/-- A nibble string written to a register, or to a pair when `wide`, with tag `tag` and fresh residues. -/
def souWrite (t : Thr) (rd : BitVec 5) (ns : List Nat) (wide : Bool) (tag : Tag) : Thr :=
  if wide then gwPair t rd (.fresh (nibWord (ns.take 16)) tag) (.fresh (nibWord (ns.drop 16)) tag)
  else gw t rd (.fresh (nibWord ns) tag)

/-- One PLAIN bit. -/
def souBit (t : Thr) (rd : BitVec 5) (b : Bool) : Thr := gw t rd (.plain (b2w b))

def doPanfield (rd rs1 rs2 rs3 : BitVec 5) (t : Thr) : List Trap × Thr :=
  let f := num t rs3
  (souPlain t rs1 ++ souPlain t rs2 ++ souPlain t rs3
    ++ refuseIf (!(f == 0 || f == 3 || f == 4) || !panOk (num t rs1) (num t rs2)),
    pcNext (souWrite t rd (panField f (num t rs1) (num t rs2)) (f == 4) .plain))

def doPinchk (floor : Nat) (rd rs1 rs2 rs3 : BitVec 5) (t : Thr) : List Trap × Thr :=
  let f := num t rs2
  let lens := num t rs3
  let pass := pinFieldOk f (max floor (lens % 16)) (lens / 16 % 16) (souNibs t rs1 (f == 4))
  (souData t rs1 (f == 4) ++ souPlain t rs2 ++ souPlain t rs3 ++ refuseIf (!pinFormatOk f),
    pcNext (souBit t rd (!pass)))

/-- The result of a fill: POISON with cause 0b010 when instance D is failed, else the nibbles, GLAZED (R145). -/
def souFill (failed : Bool) (t : Thr) (rd : BitVec 5) (ns : List Nat) (wide : Bool) : Thr :=
  if !failed then souWrite t rd ns wide .glazed
  else if wide then gwPair t rd (.poison 2) (.poison 2) else gw t rd (.poison 2)

def doPinconv (failed : Bool) (r r2 : Word) (rd rs1 rs2 rs3 : BitVec 5) (t : Thr) : List Trap × Thr :=
  let src := num t rs2
  let dst := num t rs3
  (souData t rs1 (src == 4) ++ souPlain t rs2 ++ souPlain t rs3 ++ refuseIf (!pinFormatOk src || !pinFormatOk dst),
    pcNext (souFill (failed && pinDraws dst) t rd (pinConv dst (souNibs t rs1 (src == 4)) r r2) (dst == 4)))

/-- A digit count that R143 accepts. -/
def countOk (n : Nat) : Bool := decide (4 ≤ n) && decide (n ≤ 12)

def doDecim (rd rs1 rs2 rs3 : BitVec 5) (t : Thr) : List Trap × Thr :=
  (souData t rs1 false ++ souPlain t rs2 ++ souPlain t rs3 ++ refuseIf (!countOk (num t rs3)),
    pcNext (souWrite t rd (decim (souNibs t rs2 false) (souNibs t rs1 false) (num t rs3)) false .glazed))

def doOff (f : List Nat → List Nat → Nat → List Nat) (rd rs1 rs2 rs3 : BitVec 5) (t : Thr) : List Trap × Thr :=
  (souData t rs1 false ++ souData t rs2 false ++ souPlain t rs3 ++ refuseIf (!countOk (num t rs3)),
    pcNext (souWrite t rd (f (souNibs t rs1 false) (souNibs t rs2 false) (num t rs3)) false .glazed))

def doOffpack (failed : Bool) (r r2 : Word) (rd rs1 rs2 rs3 : BitVec 5) (t : Thr) : List Trap × Thr :=
  let w := num t rs3
  (souData t rs1 false ++ souPlain t rs2 ++ souPlain t rs3 ++ refuseIf (!countOk (num t rs2) || !(w == 8 || w == 16)),
    pcNext (souFill failed t rd (offPack (souNibs t rs1 false) (num t rs2) w r r2) (w == 16)))

def doCmpeq (rd rs1 rs2 rs3 : BitVec 5) (t : Thr) : List Trap × Thr :=
  let m := (gr t rs3).data
  (souData t rs1 false ++ souData t rs2 false ++ souPlain t rs3,
    pcNext (souBit t rd ((gr t rs1).data &&& m == (gr t rs2).data &&& m)))

/-- The 16 octets of a pair. -/
def pairBytes (t : Thr) (r : BitVec 5) : List Byte := bvBytes 8 (gr t (evenR r)).data ++ bvBytes 8 (gr t (oddR r)).data

def doMaccmp (rd rs1 rs2 rs3 : BitVec 5) (t : Thr) : List Trap × Thr :=
  let n := num t rs3
  (souData t rs1 true ++ souData t rs2 true ++ souPlain t rs3 ++ refuseIf (!(decide (4 ≤ n) && decide (n ≤ 16))),
    pcNext (souBit t rd ((pairBytes t rs1).take n == (pairBytes t rs2).take n)))

/-- ZEROISE (R166): a register, or `rs2` words of the slice from address `rs1`. -/
def doZeroise (rd rs1 rs2 : BitVec 5) (t : Thr) : List Trap × Thr :=
  if rd != 0 then ([], pcNext (gw t rd GWord.zero))
  else
    let a := num t rs1
    let n := num t rs2
    (souPlain t rs1 ++ souPlain t rs2
      ++ refuseIf (!(a % 8 == 0 && decide (1 ≤ n) && decide (n ≤ 2048) && decide (a / 8 + n ≤ 2048))),
      pcNext { t with sl := t.sl.filter (fun e => !(decide (a / 8 ≤ e.1) && decide (e.1 < a / 8 + n))) })

/-- The floor of R144. -/
def Dev.pinFloor (d : Dev) : Nat := d.rd Fld.TILE_SOU_CFG_PIN_FLOOR

/-- Instance D cannot supply fill yet: the instruction waits (R274). -/
def Dev.fillWaits (d : Dev) : Bool := !d.rngFailed && (!d.rngServes 1 || d.rngBlocked)

/-- Thread `h` can issue and its pc lies in its code section. -/
def Dev.atCode (d : Dev) (h : Nat) : Bool :=
  d.ready h && (match (d.thr h).cmd with | some e => d.inCode h e | none => false)

/-- An operation of the unit that may draw random fill: `draws` says whether this one does. It waits while instance D
cannot supply it; a drawn operation takes two free words. -/
def Dev.souDraw (d : Dev) (h : Nat) (draws : Thr → Bool) (f : Bool → Word → Word → Thr → List Trap × Thr) : Dev :=
  let run (x : Dev) (r r2 : Word) : Dev := x.instrT h (fun _ t => f x.rngFailed r r2 t)
  if !draws (d.thr h) || d.rngFailed || !d.atCode h then run d 0 0
  else
    let causes := (f false 0 0 (d.thr h)).1
    if !causes.isEmpty then run d 0 0
    else if d.fillWaits then d
    else (run d (Config.freeWord d.nfree) (Config.freeWord (d.nfree + 1))).draw 1 2 16

def Dev.pinconv (d : Dev) (h : Nat) (rd rs1 rs2 rs3 : BitVec 5) : Dev :=
  d.souDraw h (fun t => pinDraws (num t rs3)) (fun b r r2 t => doPinconv b r r2 rd rs1 rs2 rs3 t)

def Dev.offpack (d : Dev) (h : Nat) (rd rs1 rs2 rs3 : BitVec 5) : Dev :=
  d.souDraw h (fun _ => true) (fun b r r2 t => doOffpack b r r2 rd rs1 rs2 rs3 t)

end Sys2Proof.Machine
end

