-- ==== Sys2Proof/Machine/Engine.lean ====
section
/-! DEFINITION. Engine requests: tokens, the checks at issue, results and their waits, CINC, CSYNC, RELEASE, and the host
and random engines (R136, R141, R156, R167 to R180, R451). -/

namespace Sys2Proof.Machine

/-! ## Operands of a request (R171) -/

/-- The offsets of R171. -/
def Req.srcOff (r : Req) : Nat := getF r.rx.data 0 32
def Req.dstOff (r : Req) : Nat := getF r.rx.data 32 32
def Req.xinOff (r : Req) : Nat := getF r.rx1.data 0 32
def Req.xoutOff (r : Req) : Nat := getF r.rx1.data 32 32
/-- The register form (R171). -/
def Req.regForm (r : Req) : Bool := r.srck == 0 && r.dstk == 0

/-- The engine uses the key that RK names (R174, R211). -/
def Req.usesKey (r : Req) : Bool :=
  match r.eng with
  | 1 => r.op == 1 || r.op == 2 || r.op == 3
  | 3 => [0x01, 0x03, 0x06, 0x07, 0x09, 0x0C, 0x0D].contains r.op
  | 4 => r.op == 1 || r.op == 2 || r.op == 3
  | _ => false

/-- The pair RB is read at issue as data (R170, R174). -/
def Req.readsRb (r : Req) : Bool :=
  match r.eng with
  | 1 => r.op != 4 && (r.srck == 0 || r.srck == 3)
  | 4 => r.op == 1 || r.op == 2
  | 6 => r.op == 2 && r.srck == 0
  | _ => false

/-- LOOKUP reads the one PLAIN word RB (R174). -/
def Req.readsIndex (r : Req) : Bool := r.eng == 5 && r.op == 1

/-- The pair RX is read at issue as the register XOR pair. -/
def Req.readsXor (r : Req) : Bool := r.eng == 1 && r.regForm && (r.xink == 1 || r.xoutk == 1)

def kindOff (k : Nat) : Bool := k == 1 || k == 2

/-- The words RX and RX+1 are read at issue as offsets. -/
def Req.readsRx (r : Req) : Bool := kindOff r.srck || kindOff r.dstk
def Req.readsRx1 (r : Req) : Bool := decide (2 ≤ r.xink) || decide (2 ≤ r.xoutk)

/-! ## Ranges (R133, R136, R172) -/

/-- The octets of an operand range at issue: for the cipher COUNT blocks of `b` octets, for the hash state 256, for a
result of the PKL engine what R213 gives, else COUNT. -/
def Req.srcLen (r : Req) (b : Nat) : Nat := if r.eng = 1 then r.count * b else r.count
def Req.xLen (r : Req) (b : Nat) : Nat := if r.op = 3 then 16 else r.count * b

/-- Field length in octets of a curve code (R213, R214). -/
def curveLen : Nat → Nat
  | 1 => 32 | 2 => 48 | 3 => 66 | _ => 0

/-- Octets of encapsulation key, ciphertext, public key and signature of a parameter set (FIPS 203, FIPS 204). -/
def ekLen : Nat → Nat
  | 9 => 800 | 10 => 1184 | 11 => 1568 | _ => 0
def ctLen : Nat → Nat
  | 9 => 768 | 10 => 1088 | 11 => 1568 | _ => 0
def pkLen : Nat → Nat
  | 4 => 1312 | 5 => 1952 | 6 => 2592 | _ => 0
def sigLen : Nat → Nat
  | 4 => 2420 | 5 => 3309 | 6 => 4627 | _ => 0

/-- Octets of the result of a PKL operation (R213); `limbs` is for OP 0x10. -/
def pklResLen (op md limbs : Nat) : Nat := match op with
  | 0x01 => 32 * md
  | 0x02 => 32 * md
  | 0x03 => 2 * curveLen md
  | 0x04 => 8
  | 0x05 => 8 + (1 + 2 * curveLen md)
  | 0x06 => 8
  | 0x07 => 64
  | 0x08 => 8
  | 0x09 => 8
  | 0x0A => 8 + ekLen md
  | 0x0B => 8 + ctLen md
  | 0x0C => 8
  | 0x0D => sigLen md
  | 0x0E => 8
  | 0x10 => 8 * limbs
  | 0x11 => 1024
  | 0x12 => 1024
  | _ => 0

/-- The next multiple of 8. -/
def up8 (n : Nat) : Nat := (n + 7) / 8 * 8

/-- Octets at the destination. -/
def Req.dstLen (r : Req) (t : Thr) (b : Nat) : Nat :=
  match r.eng with
  | 1 => r.count * b
  | 2 => 256
  | 3 => pklResLen r.op r.mode (getF (sliceWord t (r.srcOff / 8 + 1)).data 48 8 * 256 + getF (sliceWord t (r.srcOff / 8 + 1)).data 56 8)
  | 6 => if r.dstk = 1 then up8 r.count else r.count
  | _ => r.count

def inSlice (off n : Nat) : Bool := decide (off + n ≤ 16384)

/-- Every slice range of the request lies in the slice. -/
def Req.slicesIn (r : Req) (t : Thr) (b : Nat) : Bool :=
  (r.srck != 1 || inSlice r.srcOff (r.srcLen b)) && (r.dstk != 1 || inSlice r.dstOff (r.dstLen t b))
    && (r.xink != 2 || inSlice r.xinOff (r.xLen b)) && (r.xoutk != 2 || inSlice r.xoutOff (r.xLen b))

/-- Every area range of the request lies in its area. -/
def Req.areasIn (r : Req) (c : Cmd) (t : Thr) (b : Nat) : Bool :=
  (r.srck != 2 || decide (r.srcOff + r.srcLen b ≤ dInLen c.desc))
    && (r.dstk != 2 || decide (r.dstOff + r.dstLen t b ≤ dOutLen c.desc))
    && (r.xink != 3 || decide (r.xinOff + r.xLen b ≤ dInLen c.desc))
    && (r.xoutk != 3 || decide (r.xoutOff + r.xLen b ≤ dInLen c.desc))

/-! ## Issue (R167, R172) -/

def tok (t : Thr) (k : Nat) : Tok := tget (fun _ => Tok.free) t.toks k
def setTok (t : Thr) (k : Nat) (v : Tok) : Thr := { t with toks := tput (fun _ => Tok.free) t.toks k v }

/-- The causes met in words that carry data: POISON traps, HANDLE is contained. -/
def wordsData (ws : List GWord) : List Trap := ws.flatMap (fun w => resC 1 w ++ dataC w)

/-- The causes met in words that must be PLAIN. -/
def wordsPlain (ws : List GWord) : List Trap := ws.flatMap (fun w => resC 1 w ++ plainC w)

/-- The causes met in the key operand: it must be HANDLE (R138, R147). -/
def keyC (w : GWord) : List Trap :=
  resC 1 w ++ (match w.tag with | .handle => [] | .poison => [.poison w.res] | _ => [.contain])

/-- The request as sent: the words read at issue. -/
def mkReq (t : Thr) (c : Cmd) (rk ra rb rx : BitVec 5) : Req :=
  ⟨(gr t ra).data, (gr t rk).data, gr t (evenR rb), gr t (oddR rb), gr t (evenR rx), gr t (oddR rx), t.epoch, c.order, c.part⟩

/-- Every cause that the checks of R172 find, before the device-locked check. -/
def ecallCauses (t : Thr) (c : Cmd) (rk ra rb rx : BitVec 5) : List Trap :=
  let r := mkReq t c rk ra rb rx
  resC 1 (gr t ra) ++ plainC (gr t ra)
    ++ (if r.usesKey then keyC (gr t rk) else [])
    ++ (if r.readsRb then wordsData [r.rb, r.rb1] else [])
    ++ (if r.eng == 6 && r.readsRb then wordsPlain [r.rb, r.rb1] else [])
    ++ (if r.readsIndex then wordsPlain [gr t rb] else [])
    ++ (if r.readsXor then wordsData [r.rx, r.rx1] else [])
    ++ (if r.readsRx then wordsPlain [r.rx] else [])
    ++ (if r.readsRx1 then wordsPlain [r.rx1] else [])
    ++ refuseIf (!r.slicesIn t 8 || !r.areasIn c t 8 || (r.dstk == 2 && t.rel))

/-- The request as the engine holds it: LOOKUP's index word stands where the pair's even word does. -/
def sentReq (t : Thr) (c : Cmd) (rk ra rb rx : BitVec 5) : Req :=
  let r := mkReq t c rk ra rb rx
  if r.readsIndex then { r with rb := gr t rb } else r

/-- ENGINE and OP values that R174 and R175 assign. -/
def Req.assigned (r : Req) : Bool :=
  match r.eng with
  | 1 => decide (1 ≤ r.op) && decide (r.op ≤ 4)
  | 2 => decide (1 ≤ r.op) && decide (r.op ≤ 8)
  | 3 => decide (1 ≤ r.op) && decide (r.op ≤ 18) && r.op != 15
  | 4 => decide (1 ≤ r.op) && decide (r.op ≤ 3)
  | 5 => r.op == 1
  | 6 => r.op == 1 || r.op == 2
  | 7 => r.op == 1
  | _ => false

/-- The thread after its request is sent; one that names no engine or operation comes back with ST_BAD_DESCRIPTOR
(R171). -/
def sendReq (t : Thr) (tk : Nat) (r : Req) : Thr :=
  if !r.assigned then pcNext (setTok t tk (.done ⟨stBadDescriptor, GWord.zero, GWord.zero⟩ r.epoch .pair))
  else
    let t' := pcNext (setTok t tk (.sent r))
    if r.dstk = 2 then { t' with writes := t'.writes ++ [(tk, none)] } else t'

/-- The block that serves an engine's requests is held in reset, so that its wrapper answers them with an error (R411). -/
def Dev.engineHeld (d : Dev) (eng : Nat) : Bool :=
  match eng with
  | 1 => d.blockHeld 1
  | 2 => d.blockHeld 2
  | 3 => d.blockHeld 2
  | 5 => d.blockHeld 4
  | 7 => d.blockHeld 3
  | _ => false

/-- ECALL (R170, R172): a busy token's result is awaited and discarded first (R167); then the request is checked and
sent, or its command ends while the device is Locked (R156). -/
def Dev.doEcall (d : Dev) (h tk : Nat) (ra rk rb rx : BitVec 5) : Dev :=
  d.instr h (fun e t =>
    if (tok t tk).pending then ([], d.setThr h { t with wait := .reuse tk })
    else
      let r := sentReq t (d.cmd e) rk ra rb rx
      (ecallCauses t (d.cmd e) rk ra rb rx,
        if d.tmp.lock then d.endCommand h stLocked
        else if d.engineHeld r.eng then d.setThr h (pcNext (setTok t tk (.done ⟨stUnitReset, GWord.zero, GWord.zero⟩ r.epoch .pair)))
        else if d.queueFull r then d
        else d.setThr h (sendReq t tk r)))

/-! ## Requests at an engine -/

/-- The request on token `tk` of thread `h` if it has been sent and not yet passed an engine's checks. -/
def Dev.sentTok (d : Dev) (h tk : Nat) : Option Req :=
  match tok (d.thr h) tk with
  | .sent r => some r
  | _ => none

/-- The request if it has passed its engine's checks, with the key it was checked against. -/
def Dev.queuedTok (d : Dev) (h tk : Nat) : Option (Req × List Byte × Word) :=
  match tok (d.thr h) tk with
  | .queued r k a _ => some (r, k, a)
  | _ => none

/-- The operation names a receiving record (R212). -/
def pklTargeted (op : Nat) : Bool := [0x05, 0x06, 0x09, 0x0A, 0x0B, 0x0C].contains op

/-- The request concerns a record: a lookup, a key that RK names and the engine uses, or the record that TARGET names. -/
def Req.onRecord (r : Req) (t : Thr) : Bool :=
  r.eng == 5 || (r.usesKey && hKind r.key == 2) || (r.eng == 3 && pklTargeted r.op && hKind (sliceWord t (r.srcOff / 8)).data == 2)

/-- Requests that name a record wait while the DRAM PLL has lost lock (R414), unless a Lock or an Erase refuses them. -/
def Dev.recordWaits (d : Dev) (h : Nat) (r : Req) : Bool := d.xks.waiting && !d.tmp.lock && !d.tmp.erased && r.onRecord (d.thr h)

/-- A request of operation `op` of engine `eng` that has been sent and is not waiting for the DRAM PLL. -/
def Dev.sentTo (d : Dev) (eng op h tk : Nat) : Option Req :=
  match d.sentTok h tk with
  | some r => if r.eng = eng && r.op = op && !d.recordWaits h r then some r else none
  | none => none

/-- Where the request's result goes. -/
def Req.dst (r : Req) (v : Res) : Dst :=
  match r.dstk with
  | 1 => .slice r.dstOff v.even.data.toNat
  | 2 => .output r.dstOff []
  | _ => .pair

/-- The engine's result is on its way back. A host write that will not come is no longer awaited. -/
def Dev.tokDone (d : Dev) (h tk : Nat) (r : Req) (v : Res) : Dev :=
  d.modThr h (fun t => { setTok t tk (.done v r.epoch (r.dst v)) with
    writes := if v.status = stOk then t.writes else t.writes.filter (fun w => w.1 != tk) })

/-- The octets for the output area are on their way to the HIU: they leave when it accepts them, as the result arrives (R173, R451). -/
def Dev.tokOutput (d : Dev) (h tk : Nat) (r : Req) (v : Res) (bs : List Byte) : Dev :=
  d.modThr h (fun t => setTok t tk (.done v r.epoch (.output r.dstOff bs)))

/-- A refusal: the status alone. -/
def Dev.tokFail (d : Dev) (h tk : Nat) (r : Req) (status : Nat) : Dev :=
  d.tokDone h tk r ⟨status, GWord.zero, GWord.zero⟩

/-- A pair returned at TWAIT. -/
def okPair (a b : GWord) : Res := ⟨stOk, a, b⟩

/-- The bytes written, as TWAIT returns them (R168). -/
def okBytes (n : Nat) : Res := ⟨stOk, .plain (BitVec.ofNat 64 n), GWord.zero⟩

/-- The request passed its engine's checks and waits in a queue. -/
def Dev.tokQueue (d : Dev) (h tk : Nat) (r : Req) (key : List Byte) (attr : Word) : Dev :=
  d.modThr h (fun t => setTok t tk (.queued r key attr d.seq.toNat))

/-- The status that the first unusable word of some operand words decides: POISON by its cause, HANDLE as a glaze
violation (R142, R172). -/
def badWord (ws : List GWord) : Option Nat :=
  match ws.find? (fun w => w.tag == .poison) with
  | some w => some (poisonStatus w.res)
  | none => if ws.any (fun w => w.tag == .handle) then some stGlazeViolation else none

def anyGlazed (ws : List GWord) : Bool := ws.any (fun w => w.tag == .glazed)

/-- The words of the slice that hold `n` octets from the 8-aligned offset `off`. -/
def sliceWords (t : Thr) (off n : Nat) : List GWord := (List.range (up8 n / 8)).map (fun i => sliceWord t (off / 8 + i))

/-- The octets of words, in order. -/
def wordsBytes (ws : List GWord) : List Byte := ws.flatMap (fun w => bvBytes 8 w.data)

/-- Octets as words of one tag, the last filled with zeros. -/
def bytesWords (bs : List Byte) (tag : Tag) : List GWord :=
  (List.range (up8 bs.length / 8)).map (fun i => .fresh (bytesBv 64 (slice bs (8 * i) 8)) tag)

/-- Words written into the slice from an 8-aligned offset. -/
def storeWords (t : Thr) (off : Nat) (ws : List GWord) : Thr :=
  (ws.zipIdx).foldl (fun x w => setSlice x (off / 8 + w.2) w.1) t

/-- The words written into the slice of thread `h`, if it still holds its command. -/
def Dev.toSlice (d : Dev) (h off : Nat) (ws : List GWord) : Dev :=
  if (d.thr h).cmd.isSome then d.setThr h (storeWords (d.thr h) off ws) else d

/-- The host writes of thread `h` that are made, up to the first that is not, leave in the order of issue (R173). -/
def Dev.flushWrites (d : Dev) (h : Nat) : Dev :=
  match (d.thr h).cmd with
  | none => d
  | some e =>
    let t := d.thr h
    let ready := t.writes.takeWhile (fun w => w.2.isSome)
    let d := d.setThr h { t with writes := t.writes.dropWhile (fun w => w.2.isSome) }
    let c := d.cmd e
    (ready.filterMap Prod.snd).foldl (fun x w => x.sendOut c.part e (.memWrite c.part (dOutAddr c.desc + w.1) w.2)) d

/-- A host write of token `tk` is made: `n` octets at offset `off` of the output area. -/
def Dev.toOutput (d : Dev) (h tk off : Nat) (bs : List Byte) : Dev :=
  (d.modThr h (fun t => { t with writes := t.writes.map (fun w => if w.1 = tk && w.2.isNone then (tk, some (off, bs)) else w) })).flushWrites h

/-- Results delivered to the slice or the output area, with the token's answer (R168, R173). -/
def Dev.deliver (d : Dev) (h tk : Nat) (r : Req) (ws : List GWord) (n : Nat) : Dev :=
  if r.dstk = 1 then (d.toSlice h r.dstOff ws).tokDone h tk r (okBytes n)
  else match badWord ws with
    | some s => d.tokFail h tk r s
    | none =>
      if anyGlazed ws then d.tokFail h tk r stGlazeViolation
      else d.tokOutput h tk r (okBytes n) ((wordsBytes ws).take n)

/-- The entry of the command that thread `h` runs. -/
def Dev.thrCmd (d : Dev) (h : Nat) : Cmd := match (d.thr h).cmd with | some e => d.cmd e | none => Cmd.reset

/-- Lock and Erase at an engine (check 1 of R185): the status that refuses the request. -/
def Dev.lockStatus (d : Dev) : Option Nat := if d.tmp.erasing then some stErased else if d.tmp.lock then some stLocked else none

/-! ## Results (R150, R167 to R169, R179) -/

/-- No token of the thread waits for a result. -/
def noPending (t : Thr) : Bool := t.toks.all (fun x => !x.2.pending)

/-- A status whose completion carries RESULT (R90). -/
def givesResult (status : Nat) : Bool := status == stOk || status == stVerifyFail

/-- RELEASE hands its status and RESULT over (R179): the command is Released. RESULT is zero for every status but ST_OK and
ST_VERIFY_FAIL (R90). -/
def Dev.doHandOver (d : Dev) (h status : Nat) : Dev :=
  match (d.thr h).cmd with
  | none => d
  | some e =>
    (d.modCmd e (fun c => { c with st := .released, status := status, result := if givesResult status then (d.thr h).result else 0 })).modThr h
      (fun t => { t with rel := true, wait := .none })

/-- Steps 2 and 3 of RELEASE (R179): the status is taken from register `r`, which must be PLAIN. -/
def Dev.giveRelease (d : Dev) (h : Nat) (r : BitVec 5) : Dev :=
  let w := gr (d.thr h) r
  match pickTrap (resC 1 w ++ plainC w) with
  | some t => d.trap h t
  | none => d.doHandOver h (w.data.toNat % 65536)

/-- What waits on the results of thread `h` goes on, if its wait is over. -/
def Dev.wake (d : Dev) (h : Nat) : Dev :=
  let t := d.thr h
  match t.wait with
  | .token tk ra => match tok t tk with
    | .arrived v => d.setThr h { gwToken (setTok t tk .free) ra v.even v.odd with wait := .none }
    | _ => d
  | .reuse tk => if (tok t tk).pending then d else d.setThr h { setTok t tk .free with wait := .none }
  | .all => if noPending t then d.setThr h { t with wait := .none } else d
  | .release r => if noPending t then d.giveRelease h r else d
  | _ => d

/-- The token's result arrives: as the engine returned it, or, `m` 2, as data that the engine found uncorrectable: its words, in the
pair of TWAIT or in the slice, are POISON with cause 0b001 (R141); those for the output area are not sent (R173). -/
def arrive (t : Thr) (tk m : Nat) (v : Res) (dst : Dst) : Thr :=
  if m = 2 then match dst with
    | .pair => setTok t tk (.arrived ⟨stOk, .poison 1, .poison 1⟩)
    | .slice off n => setTok (storeWords t off (List.replicate (up8 n / 8) (.poison 1))) tk (.arrived v)
    | .output _ _ => setTok t tk (.arrived v)
  else setTok t tk (.arrived v)

/-- An engine result arrives on token `tk` of thread `h` (R83, R149, R150, R169): discarded for a thread that holds no
command or a tile whose role has changed; `m` 1 is a residue mismatch, a tile fault with CAUSE 9; a failure ends the
command at once unless it was released; else the token has its result and what waits for it goes on. -/
def Dev.engineResult (d : Dev) (h tk m : Nat) : Dev :=
  match tok (d.thr h) tk with
  | .done v ep dst =>
    let t := d.thr h
    if t.cmd.isNone || ep != d.rd (Fld.TILE_EPOCH_EPOCH (h / 16)) then d.setThr h (setTok t tk .free)
    else if m = 1 then (d.setThr h (setTok t tk .free)).tileFault h 9
    else if v.status = stOk then
      (match dst with
      | .output off bs =>
        if m = 2 then (d.setThr h { setTok t tk .free with writes := t.writes.filter (fun w => w.1 != tk) }).endCommand h stPoison
        else ((d.toOutput h tk off bs).modThr h (fun t => arrive t tk m v dst)).wake h
      | _ => (d.setThr h (arrive t tk m v dst)).wake h)
    else if t.rel then
      let w := Config.freeWord d.nfree
      ((d.setThr h (setTok t tk (.arrived (okPair (.plain w) (.plain (Config.freeWord (d.nfree + 1))))))).takeFree.takeFree).wake h
    else (d.setThr h (setTok t tk .free)).endCommand h v.status
  | _ => d

/-- TWAIT (R168). -/
def Dev.doTwait (d : Dev) (h tk : Nat) (ra : BitVec 5) : Dev :=
  d.instr h (fun _ t => ([],
    match tok t tk with
    | .free => d.setThr h (pcNext (gwToken t ra GWord.zero GWord.zero))
    | .arrived v => d.setThr h (pcNext (gwToken (setTok t tk .free) ra v.even v.odd))
    | _ => d.setThr h { pcNext t with wait := .token tk ra }))

/-- TWALL (R168). -/
def Dev.doTwall (d : Dev) (h : Nat) : Dev :=
  d.instrT h (fun _ t => ([], if noPending t then pcNext t else { pcNext t with wait := .all }))

/-- RELEASE (R179): it waits for the results that are due, then takes the status from rs1; a second one traps (R147). -/
def Dev.doRelease (d : Dev) (h : Nat) (rs1 : BitVec 5) : Dev :=
  d.instr h (fun _ t => (refuseIf t.rel,
    if noPending t then (d.setThr h (pcNext t)).giveRelease h rs1
    else d.setThr h { pcNext t with wait := .release rs1 }))

/-! ## Counters (R177, R178, R298) -/

/-- Partition `n` owns counter `i` (R298). -/
def Dev.ownsCounter (d : Dev) (n i : Nat) : Bool :=
  let b := d.rd (Fld.NVS_PART_COUNTERS_BASE n)
  decide (64 ≤ i) && decide (i ≤ 895) && decide (b ≤ i) && decide (i < b + d.rd (Fld.NVS_PART_COUNTERS_COUNT n))

/-- The value that a further increment would give (R296). -/
def Dev.ctrNext (d : Dev) (i : Nat) : Nat := d.ctrValue i + d.ctrIssued i + 1

/-- The status that refuses a CINC on index word `w` (R177, R296, R298). -/
def Dev.cincStatus (d : Dev) (part : Nat) (w : Word) : Option Nat :=
  let i := w.toNat
  if 65536 ≤ i then some stBadDescriptor
  else if !d.ownsCounter part i then some stPartition
  else if d.ctrDamaged i then some stFault
  else if 2 ^ 48 ≤ d.ctrNext i then some stCounterExhausted
  else none

/-- CINC's request (R177): the commit is issued to the arbiter with its event; the value it will give and the event
number are the result. -/
def Dev.cincIssue (d : Dev) (h tk : Nat) (c : Cmd) (i : Nat) : Dev :=
  let v := d.ctrNext i
  let id := d.nvs.nextOp
  let d := (d.event).nvsAsk 2 (.increment i) c.part c.order
  d.modThr h (fun t => { setTok t tk (.done (okPair (.plain (BitVec.ofNat 64 v)) (.plain d.seq)) t.epoch .pair) with commits := t.commits ++ [id] })

def Dev.doCinc (d : Dev) (h tk : Nat) (rk : BitVec 5) : Dev :=
  d.instr h (fun e t =>
    if (tok t tk).pending then ([], d.setThr h { t with wait := .reuse tk })
    else
      (resC 1 (gr t rk) ++ plainC (gr t rk),
        if d.tmp.lock then d.endCommand h stLocked
        else
          let d := d.setThr h (pcNext t)
          match d.cincStatus (d.cmd e).part (gr t rk).data with
          | some s => d.modThr h (fun t => setTok t tk (.done ⟨s, GWord.zero, GWord.zero⟩ t.epoch .pair))
          | none => d.cincIssue h tk (d.cmd e) (gr t rk).data.toNat))

/-- CSYNC (R178). -/
def Dev.doCsync (d : Dev) (h : Nat) : Dev :=
  d.instrT h (fun _ t => ([], if t.commits.isEmpty then pcNext t else { pcNext t with wait := .counters }))

/-! ## The host engine and HOST_FILL (R136, R173, R174, R270) -/

/-- The kinds and fields of a request that R171 and the engine's row of R174 allow. -/
def Req.formOk (r : Req) (src dst : List Nat) : Bool :=
  src.contains r.srck && dst.contains r.dstk && r.xink == 0 && r.xoutk == 0 && rRsv r.ra == 0

/-- Slice offsets are multiples of 8 (R171). -/
def Req.aligned (r : Req) : Bool :=
  (r.srck != 1 || r.srcOff % 8 == 0) && (r.dstk != 1 || r.dstOff % 8 == 0)
    && (r.xink != 2 || r.xinOff % 8 == 0) && (r.xoutk != 2 || r.xoutOff % 8 == 0)

/-- The status of a host request that its table refuses. DESIGN CHOICE: MOD, to which the table gives no meaning here, is not checked
(entry 65). -/
def Req.hostRefusal (r : Req) : Option Nat :=
  let ok := match r.op with
    | 1 => r.formOk [2] [1]
    | _ => r.formOk [0, 1] [2]
  let hi := if r.op = 2 && r.srck == 0 then 16 else 16384
  if !ok || !r.aligned then some stBadDescriptor
  else if r.count = 0 || decide (hi < r.count) then some stLength
  else none

/-- The slice words that an engine reads for a request with blocks of `b` octets. -/
def Req.sliceIn (r : Req) (t : Thr) (b : Nat) : List GWord :=
  (if r.srck = 1 then sliceWords t r.srcOff (r.srcLen b) else []) ++ (if r.eng = 2 then sliceWords t r.dstOff 256 else [])
    ++ (if r.xink = 2 then sliceWords t r.xinOff (r.xLen b) else []) ++ (if r.xoutk = 2 then sliceWords t r.xoutOff (r.xLen b) else [])

/-- One of them is uncorrectable (R152, R420). -/
def Dev.sliceBad (d : Dev) (h : Nat) (r : Req) (b : Nat) : Bool :=
  (d.thr h).ecc && (r.sliceIn (d.thr h) b).any (fun w => !resOk w)

/-- The engine meets an uncorrectable slice word: a fault of the thread's tile (R152), in which the command ends. -/
def Dev.sliceFault (d : Dev) (h tk : Nat) (r : Req) : Dev := (d.tokFail h tk r stFault).tileFault h 7

/-- HOST_READ (R174): `bs` are the octets the host returns. The last word is filled with zeros; the words are PLAIN. -/
def Dev.hostRead (d : Dev) (h tk : Nat) (bs : List Byte) : Dev :=
  match d.sentTo 6 1 h tk with
  | none => d
  | some r => match r.hostRefusal with
    | some s => d.tokFail h tk r s
    | none =>
      if bs.length != r.count || !d.canSend r.part then d
      else
        let c := d.thrCmd h
        let d := d.emit (.memRead r.part (dInAddr c.desc + r.srcOff) r.count)
        d.deliver h tk r (bytesWords bs .plain) r.count

/-- HOST_WRITE (R136, R173): every word it takes from the slice must be PLAIN before any octet is sent. -/
def Dev.hostWrite (d : Dev) (h tk : Nat) : Dev :=
  match d.sentTo 6 2 h tk with
  | none => d
  | some r => match r.hostRefusal with
    | some s => d.tokFail h tk r s
    | none =>
      if d.sliceBad h r 1 then d.sliceFault h tk r
      else d.deliver h tk r (if r.srck = 0 then [r.rb, r.rb1] else sliceWords (d.thr h) r.srcOff r.count) r.count

/-- The octets of a free string that starts at number `n`. -/
def randomBytes (n len : Nat) : List Byte := Config.freeBytes n len

/-- HOST_FILL (R174, R270, R274): waits while the host instance is not ready or a reseed it asked for is due; fails once
the source has failed. -/
def Dev.hostFill (d : Dev) (h tk : Nat) : Dev :=
  match d.sentTo 7 1 h tk with
  | none => d
  | some r =>
    if !r.formOk [0] [2] || decide (2 ≤ r.mode) then d.tokFail h tk r stBadDescriptor
    else if r.count < 8 || decide (1048576 < r.count) || r.count % 8 != 0 then d.tokFail h tk r stLength
    else if d.rngFailed then d.tokFail h tk r stRngUnavailable
    else match d.lockStatus with
    | some s => d.tokFail h tk r s
    | none =>
      if !d.rngReady 2 then d
      else
      let x := if r.mode = 1 then d.reseedFor (16 * r.order + tk) else (d, d.rngServes 2)
      if !x.2 then x.1
      else (x.1.draw 2 1 r.count).tokOutput h tk r (okBytes r.count) (randomBytes d.nfree r.count)

end Sys2Proof.Machine
end

