-- ==== Sys2Proof/Machine/Derive.lean ====
section
/-! DEFINITION. Block operations under a key, the scoped pool, and derivation requests as the vault carries them to the cipher cores
(R16, R188, R245 to R247). -/

namespace Sys2Proof.Machine

/-! ## Blocks (R188) -/

/-- Octets of a block of an algorithm. -/
def blockLen (alg : Nat) : Nat := if isTdea alg then 8 else 16

/-- One block under the key. -/
def encBlock (alg : Nat) (key bs : List Byte) : List Byte :=
  if isTdea alg then bvBytes 8 (Config.tdeaEnc key (bytesBv 64 bs)) else bvBytes 16 (Config.aesEnc key (bytesBv 128 bs))
def decBlock (alg : Nat) (key bs : List Byte) : List Byte :=
  if isTdea alg then bvBytes 8 (Config.tdeaDec key (bytesBv 64 bs)) else bvBytes 16 (Config.aesDec key (bytesBv 128 bs))

/-- No core takes requests (R199). -/
def Dev.noCore (d : Dev) : Bool := d.rd Fld.CIPH_AVAIL_AVAIL == 0

/-! ## The scoped pool (R247) -/

/-- The first slot of thread `h`'s 16 entries. -/
def scopedBase (h : Nat) : Nat := 0x1C000 + 16 * h

/-- The thread's next free entry. -/
def Dev.scopedFree (d : Dev) (h : Nat) : Option Nat :=
  ((List.range 16).map (fun j => scopedBase h + j)).find? (fun s => !aPresent (d.slot s).attr)

/-- The entries of thread `h` zeroised and freed, their generations kept. -/
def Dev.scopedClear (d : Dev) (h : Nat) : Dev :=
  let slots := tmap (fun _ => Slot.reset)
    (fun k s => if scopedBase h ≤ k && decide (k < scopedBase h + 16) then ⟨[], 0, s.gen, 0⟩ else s) d.vlt.slots
  { d with vlt := { d.vlt with slots := slots } }

/-- A DERIVE_HANDLE of the thread that has passed the checks and has no child yet. -/
def Tok.deriving_ : Tok → Bool
  | .queued r _ _ _ => r.eng == 4 && r.op == 2
  | _ => false

/-- The thread's 16 entries are taken, counting those that children to come will take (R247). -/
def Dev.scopedFull (d : Dev) (h : Nat) : Bool :=
  decide (16 ≤ ((List.range 16).filter (fun j => aPresent (d.slot (scopedBase h + j)).attr)).length
    + ((d.thr h).toks.filter (fun x => x.2.deriving_)).length)

/-- THREAD_ZEROISE_DONE (R135, R247). -/
def Dev.threadCleared (d : Dev) (h : Nat) : Dev :=
  if (d.thr h).zeroising && toksFree (d.thr h) then (d.zeroiseDone h).scopedClear h else d

/-! ## Derivation (R245, R246) -/

/-- Parent algorithms that a method accepts. -/
def methodParent (m alg : Nat) : Bool :=
  match m with
  | 1 => isAes alg || isTdea alg
  | 2 => alg == 4
  | 3 => alg == 4
  | 4 => isAes alg
  | 5 => isAes alg || alg == 4
  | 6 => isAes alg
  | 7 => alg == 4
  | 8 => alg == 4
  | 9 => alg == 4
  | 10 => isAes alg || alg == 0x18 || alg == 0x19 || alg == 0x1A
  | _ => false

/-- COUNT in the method's range. -/
def methodCount (m alg n : Nat) : Bool :=
  match m with
  | 1 => if isTdea alg then n == 8 || n == 16 else n == 16
  | 2 => n == 8
  | 3 => decide (1 ≤ n) && decide (n ≤ 11)
  | 4 => n == 16
  | 5 => n == 2
  | 6 => n == 16
  | 7 => n == 8
  | 8 => n == 8
  | 9 => n == 1
  | _ => decide (1 ≤ n) && decide (n ≤ 16)

/-- The child's algorithm of X9.24-3 derivation data: its algorithm indicator in octets 4 and 5, with the key's length in bits in
octets 6 and 7; 0 where the two do not agree. -/
def dukptAlg (data : List Byte) : Nat :=
  match beAt data 4 2, beAt data 6 2 with
  | 0, 128 => 4 | 1, 192 => 5 | 2, 128 => 1 | 3, 192 => 2 | 4, 256 => 3 | _, _ => 0

/-- The child's algorithm (R245); 0 where the data names none. -/
def childAlg (m alg : Nat) (data : List Byte) : Nat :=
  match m with
  | 1 => if isTdea alg then 4 else 1
  | 4 => alg
  | 5 => alg
  | 6 => dukptAlg data
  | 10 => 3
  | _ => 4

/-- RESULT_GLAZE of the child (R246): derivation data that names PIN encryption, or variant 1. -/
def childGlaze (m : Nat) (data : List Byte) : Bool :=
  (m == 6 && beAt data 2 2 == 0x1000) || (m == 9 && beAt data 0 1 == 1)

/-- What the method computes (R245). -/
def deriveBytes (m alg : Nat) (key data : List Byte) : List Byte :=
  match m with
  | 1 => if isTdea alg then
      (encBlock alg key (data.take 8)) ++ (if data.length ≤ 8 then [] else encBlock alg key (data.drop 8))
    else encBlock alg key data
  | 2 => encBlock alg key data ++ encBlock alg key (data.map (fun b => b ^^^ 0xFF))
  | 10 => kdf (key.take 32) (asciiBytes "DERIVE") data 256
  | _ => Config.deriveStep m alg key data

/-- The requests that a method sends to the cluster one after the other, or under keys of its own that differ (PRESUMED from EMV,
X9.24-3 and SP 800-38B: the spec gives the number for no method but EMV_A): the two-key steps of the TDEA DUKPT methods, the subkey
and then the blocks of AES-CMAC; none for a variant that is a mask alone. -/
def deriveSteps (m : Nat) (data : List Byte) : Nat :=
  match m with
  | 7 => 2
  | 8 => 2
  | 9 => if beAt data 0 1 = 3 then 1 else 0
  | 10 => 2
  | _ => 1

/-- The method checks; `value` for DERIVE_VALUE. DESIGN CHOICE: where several fail, ST_KEY_ATTR comes before ST_BAD_DESCRIPTOR before
ST_LENGTH, and a child that DUKPT_AES's data does not name comes last; R245 orders none of them. -/
def Req.deriveRefusal (r : Req) (alg : Nat) (glaze value full : Bool) : Option Nat :=
  let m := r.mode % 16
  let cu := r.mode / 16
  let data := (wordsBytes [r.rb, r.rb1]).take r.count
  if !methodParent m alg || (!value && (cu == 2 || glaze)) then some stKeyAttr
  else if !r.formOk [0] [0] || (value && (cu != 0 || !(m == 1 || m == 10))) || (!value && full) then some stBadDescriptor
  else if !methodCount m alg r.count || (!value && m == 1 && isTdea alg && r.count == 8) then some stLength
  else if !value && m == 6 && childAlg m alg data == 0 then some stKeyAttr
  else none

/-- The child is installed in the thread's next entry, or refused for its equal halves. -/
def Dev.installChild (d : Dev) (h tk : Nat) (r : Req) (key : List Byte) (attr : Word) (s : Nat) : Dev :=
  let m := r.mode % 16
  let data := (wordsBytes [r.rb, r.rb1]).take r.count
  let alg := childAlg m (aAlg attr) data
  let child := storedKey alg ((deriveBytes m (aAlg attr) key data).take (algBytes alg))
  if alg == 4 && tdeaEqual child then d.tokFail h tk r stKeyAttr
  else
    let a : Word := BitVec.ofNat 64 (alg + r.mode / 16 * 2 ^ 8 + (childGlaze m data).toNat * 2 ^ 10 + 2 ^ 14 + 2 ^ 15 + aPart attr * 2 ^ 16)
    let gen := ((d.slot s).gen + 1) % 2 ^ 16
    (d.setSlot s ⟨child, a, gen, keyCheckValue alg child⟩).tokDone h tk r (okPair (.fresh (mkHandle 1 s gen) .handle) GWord.zero)

/-- Every step of a derivation has returned into the vault: DERIVE_VALUE's value, or DERIVE_HANDLE's child. -/
def Dev.deriveDone (d : Dev) (h tk : Nat) (r : Req) (key : List Byte) (attr : Word) : Dev :=
  if r.op = 1 then
    let out := (deriveBytes (r.mode % 16) (aAlg attr) key ((wordsBytes [r.rb, r.rb1]).take r.count)).take 16
    let ws := bytesWords (slice out 0 16) .glazed
    d.tokDone h tk r (okPair (ws.getD 0 GWord.zero) (if out.length ≤ 8 then .fresh 0 .glazed else ws.getD 1 GWord.zero))
  else match d.scopedFree h with
    | some s => d.installChild h tk r key attr s
    | none => d.tokFail h tk r stBadDescriptor

/-- A derivation that has passed the vault's checks sends its first step to the cluster, on the cipher queue (R16, R245): a held block
answers with ST_UNIT_RESET (R411), and while no core is available the step comes back with ST_FAULT (R199). -/
def Dev.deriveSend (d : Dev) (h tk : Nat) (r : Req) (key : List Byte) (attr : Word) : Dev :=
  let n := deriveSteps (r.mode % 16) ((wordsBytes [r.rb, r.rb1]).take r.count)
  if n = 0 then d.deriveDone h tk r key attr
  else if d.blockHeld 1 then d.tokFail h tk r stUnitReset
  else if d.noCore then d.tokFail h tk r stFault
  else
    let d := d.tokQueue h tk r key attr
    { d with ciph := { d.ciph with queue := d.ciph.queue ++ [(16 * h + tk, 0)], steps := tput (fun _ => 0) d.ciph.steps (16 * h + tk) n } }

/-- A core has run a step of a derivation: the next one joins the queue, or the result returns. -/
def Dev.deriveStepped (d : Dev) (h tk : Nat) (r : Req) (key : List Byte) (attr : Word) : Dev :=
  let n := tget (fun _ => 0) d.ciph.steps (16 * h + tk)
  let d := { d with ciph := { d.ciph with steps := tput (fun _ => 0) d.ciph.steps (16 * h + tk) (n - 1) } }
  if 1 < n then { d with ciph := { d.ciph with queue := d.ciph.queue ++ [(16 * h + tk, 0)] } } else d.deriveDone h tk r key attr

end Sys2Proof.Machine
end

