-- ==== Sys2Proof/Machine/Cipher.lean ====
section
/-! DEFINITION. The symmetric cipher cluster: queue entry, cores, block operations, hardware nonces and leases (R183 to
R203). -/

namespace Sys2Proof.Machine

/-! ## Queue entry (R185, R188 to R190, R199) -/

/-- Two slice ranges meet. -/
def meets (a la b lb : Nat) : Bool := decide (a < b + lb) && decide (b < a + la)

/-- A slice destination that overlaps a slice range of SRC (but for coinciding with it exactly), XIN or XOUT (R188). -/
def Req.overlap (r : Req) (b : Nat) : Bool :=
  let n := r.count * b
  r.dstk == 1
    && ((r.srck == 1 && r.srcOff != r.dstOff && meets r.dstOff n r.srcOff n)
      || (r.xink == 2 && meets r.dstOff n r.xinOff n) || (r.xoutk == 2 && meets r.dstOff n r.xoutOff n))

/-- The operand kinds that R171, R188 and R189 allow. -/
def Req.cipherKinds (r : Req) : Bool :=
  rRsv r.ra == 0 &&
  (if r.op = 3 then
    r.dstk == 0 && r.xoutk == 0 && decide (r.xink ≤ 2) && (r.srck == 0 || r.xink != 1) && (r.srck != 0 || decide (r.xink ≤ 1))
   else
    r.dstk != 3 &&
    (if r.regForm then (r.xink == 0 || r.xoutk == 0) && decide (r.xink ≤ 1) && decide (r.xoutk ≤ 1)
     else r.xink != 1 && r.xoutk != 1))

/-- Check 9 of R185 for ENCRYPT, DECRYPT and GHASH with blocks of `b` octets. -/
def Req.cipherFields (r : Req) (t : Thr) (c : Cmd) (b : Nat) : Option Nat :=
  if !r.cipherKinds || !r.aligned || (r.op != 3 && ((r.dstk == 0 && r.srck != 0 && r.count != 1) || r.overlap b)) then some stBadDescriptor
  else if r.count = 0 || decide (65536 < r.count) || (r.regForm && r.count != 1)
      || (r.srck == 3 && decide (4194305 < t.seqBlocks + r.count)) then some stLength
  else if !r.slicesIn t b || !r.areasIn c t b then some stGlazeViolation
  else none

/-- Usage and algorithm of check 7. -/
def cipherAttrOk (op : Nat) (a : Word) : Bool :=
  match op with
  | 1 => aUsage a == useEnc && (isAes (aAlg a) || isTdea (aAlg a))
  | 2 => aUsage a == useDec && (isAes (aAlg a) || isTdea (aAlg a))
  | _ => aUsage a == useEnc && isAes (aAlg a)

/-- A request of operation `op` enters the queue and is checked (R185): a failure decides its result; a pass takes one use
of the key, counts counter-sequence blocks, and queues it. -/
def Dev.cipherEnter (d : Dev) (op h tk m : Nat) : Dev :=
  match d.sentTo 1 op h tk with
  | none => d
  | some r =>
    match d.lockStatus with
    | some s => d.tokFail h tk r s
    | none =>
      if d.noCore then d.tokFail h tk r stFault
      else if 4096 ≤ d.ciph.queue.length then d
      else
        let x := d.keyFetch h r.part r.key m
        match x.2 with
        | .error s => x.1.tokFail h tk r s
        | .ok k =>
          if !cipherAttrOk op k.attr then x.1.tokFail h tk r stKeyAttr
          else if !usesLeft k.attr then x.1.tokFail h tk r stUseLimit
          else match r.cipherFields (d.thr h) (d.thrCmd h) (blockLen (aAlg k.attr)) with
            | some s => x.1.tokFail h tk r s
            | none =>
              let y := (x.1.takeUse k).tokQueue h tk r k.key k.attr
              let y := y.modThr h (fun t => if r.srck = 3 then { t with seqBlocks := t.seqBlocks + r.count } else t)
              { y with ciph := { y.ciph with queue := y.ciph.queue ++ [(16 * h + tk, 0)] } }

/-! ## Block operations (R188, R189, R141) -/

/-- Counter block `i` of a base block: its last four octets, big-endian, increased by `i` modulo 2^32 (R174). -/
def ctrBlock (base : List Byte) (i : Nat) : List Byte :=
  let k := base.length - 4
  base.take k ++ beBytes 4 ((beAt base k 4 + i) % 2 ^ 32)

/-- The words of block `i` of an operand of `b` octets a block: 0 a pair, 1 the slice, 2 the input area, 3 the counter
sequence. -/
def operand (t : Thr) (area : List Byte) (kind : Nat) (w w1 : GWord) (off b i : Nat) : List GWord :=
  let pair := ([w, w1] : List GWord).take (b / 8)
  match kind with
  | 0 => pair
  | 1 => sliceWords t (off + i * b) b
  | 2 => bytesWords (slice area (off + i * b) b) .plain
  | _ =>
    let bs := ctrBlock (wordsBytes pair) i
    (pair.zipIdx).map (fun p => if p.1.tag == .poison || p.1.tag == .handle then p.1 else .fresh (bytesBv 64 (slice bs (8 * p.2) 8)) p.1.tag)

/-- SRC, XIN and XOUT of block `i`. -/
def Req.src (r : Req) (t : Thr) (area : List Byte) (b i : Nat) : List GWord := operand t area r.srck r.rb r.rb1 r.srcOff b i
def Req.xin (r : Req) (t : Thr) (area : List Byte) (b i : Nat) : List GWord :=
  if r.xink = 0 then [] else operand t area (r.xink - 1) r.rx r.rx1 r.xinOff b i
def Req.xout (r : Req) (t : Thr) (area : List Byte) (b i : Nat) : List GWord :=
  if r.xoutk = 0 then [] else operand t area (r.xoutk - 1) r.rx r.rx1 r.xoutOff b i

/-- `a` xor `b`, an absent operand changing nothing. -/
def xorOpt (a b : List Byte) : List Byte := if b.isEmpty then a else xorBytes a b

/-- The tag of a result (R141). -/
def cipherTag (op : Nat) (attr : Word) (data xin xout : Bool) : Tag :=
  if op = 1 then (if xout then .glazed else if aGlaze attr then .plain else if data || xin then .glazed else .plain)
  else if aGlaze attr || data || xin || xout then .glazed else .plain

/-- One block: its result words, or the status of the operand word that stops the request. -/
def cipherBlock (r : Req) (key : List Byte) (attr : Word) (t : Thr) (area : List Byte) (i : Nat) : Except Nat (List GWord) :=
  let b := blockLen (aAlg attr)
  let s := r.src t area b i
  let x := r.xin t area b i
  let o := r.xout t area b i
  match badWord (s ++ x ++ o) with
  | some st => .error st
  | none =>
    let inp := xorOpt (wordsBytes s) (wordsBytes x)
    let y := if r.op = 1 then encBlock (aAlg attr) key inp else decBlock (aAlg attr) key inp
    .ok (bytesWords (xorOpt y (wordsBytes o)) (cipherTag r.op attr (anyGlazed s) (anyGlazed x) (anyGlazed o)))

/-- Blocks from the first until one stops: the results in order and the stopping status, if any. -/
def runBlocks (f : Nat → Except Nat (List GWord)) : Nat → Nat → List (List GWord) × Option Nat
  | 0, _ => ([], none)
  | n + 1, i => match f i with
    | .error s => ([], some s)
    | .ok ws => let r := runBlocks f n (i + 1); (ws :: r.1, r.2)

/-- GHASH over the blocks from accumulator `acc` (R189): the accumulator, whether it is GLAZED, and a stopping status. -/
def runGhash (r : Req) (hk : BitVec 128) (t : Thr) (area : List Byte) : Nat → Nat → BitVec 128 → Bool → BitVec 128 × Bool × Option Nat
  | 0, _, acc, g => (acc, g, none)
  | n + 1, i, acc, g =>
    let s := r.src t area 16 i
    match badWord s with
    | some st => (acc, g, some st)
    | none => runGhash r hk t area n (i + 1) (Config.gfMul (acc ^^^ bytesBv 128 (wordsBytes s)) hk) (g || anyGlazed s)

/-- GHASH's accumulator operand: zero, the pair RX, or 16 octets of the slice (R189). -/
def Req.accIn (r : Req) (t : Thr) : List GWord :=
  match r.xink with
  | 0 => [GWord.zero, GWord.zero]
  | 1 => [r.rx, r.rx1]
  | _ => sliceWords t r.xinOff 16

/-- The input-area ranges that the request reads (offset, octets). -/
def Req.areaReads (r : Req) (b : Nat) : List (Nat × Nat) :=
  (if r.srck = 2 then [(r.srcOff, r.count * b)] else []) ++ (if r.xink = 3 then [(r.xinOff, r.count * b)] else [])
    ++ (if r.xoutk = 3 then [(r.xoutOff, r.count * b)] else [])

/-- The reads of the input area leave the device. -/
def Dev.readAreas (d : Dev) (h : Nat) (part : Nat) (rs : List (Nat × Nat)) : Dev :=
  rs.foldl (fun x p => x.emit (.memRead part (dInAddr (x.thrCmd h).desc + p.1) p.2)) d

/-! ## Cores (R187, R198, R199) -/

/-- The cache tag that a queued request asks for. -/
def reqTag (r : Req) : CacheTag := ⟨hKind r.key, hIndex r.key, hGen r.key, r.part⟩

/-- The queue entry that a free core with cached tag `c` takes (R187): an entry that 64 dispatches have passed, else the
oldest whose key matches, else the oldest. -/
def Dev.pickEntry (d : Dev) (c : Option CacheTag) : Option Nat :=
  let matchesKey := fun (e : Nat × Nat) => match d.queuedTok (e.1 / 16) (e.1 % 16) with
    | some x => c == some (reqTag x.1)
    | none => false
  match d.ciph.queue.find? (fun e => decide (64 ≤ e.2)) with
  | some e => some e.1
  | none => match d.ciph.queue.find? matchesKey with
    | some e => some e.1
    | none => d.ciph.queue.head?.map Prod.fst

/-- Entry `k` leaves the queue; the older entries it passed count it. -/
def dequeue (q : List (Nat × Nat)) (k : Nat) : List (Nat × Nat) :=
  (q.takeWhile (fun e => e.1 != k)).map (fun e => (e.1, e.2 + 1)) ++ (q.dropWhile (fun e => e.1 != k)).drop 1

def Dev.coreAvailable (d : Dev) (c : Nat) : Bool := (d.rd Fld.CIPH_AVAIL_AVAIL).testBit c

/-- Core `c` faults (R198, R199): recorded, counted, reported; it leaves service with its cached schedule cleared, into
self-test, or for good on its second fault within 10 ms. -/
def Dev.coreFault (d : Dev) (c cause : Nat) : Dev :=
  let good := d.refault (0x80 + c)
  let d := (((d.wr Fld.CIPH_FAULT_CORE c).wr Fld.CIPH_FAULT_CAUSE cause).wr Fld.CIPH_FAULT_PERMANENT good.toNat).eventAt
    Fld.CIPH_FAULT_EVSEQ_SEQ
  let d := (d.inc Fld.CIPH_COUNTS_PARITY 1).noteFault (0x80 + c)
  let d := { d with ciph := { d.ciph with cache := tput (fun _ => none) d.ciph.cache c none } }
  let d := (d.setBit Fld.CIPH_AVAIL_AVAIL c false).setBit (if good then Fld.CIPH_RETIRED_RETIRED else Fld.CIPH_SELFTEST_SELFTEST) c true
  d.report (0x80 + c)

/-- A core's self-test ends (R199). -/
def Dev.coreTested (d : Dev) (c : Nat) (pass : Bool) : Dev :=
  if !(d.rd Fld.CIPH_SELFTEST_SELFTEST).testBit c then d
  else
    let d := d.setBit Fld.CIPH_SELFTEST_SELFTEST c false
    if pass then d.setBit Fld.CIPH_AVAIL_AVAIL c true
    else
      let d := (((d.wr Fld.CIPH_FAULT_CORE c).wr Fld.CIPH_FAULT_CAUSE 3).wr Fld.CIPH_FAULT_PERMANENT 1).eventAt
        Fld.CIPH_FAULT_EVSEQ_SEQ
      d.setBit Fld.CIPH_RETIRED_RETIRED c true

/-- The result of ENCRYPT or DECRYPT once `ws` blocks are done and `st` says what stopped it, if anything: blocks already
done stand, but for the output area, to which nothing is sent when an operand word stops the request (R173); and a failure decides
the request's status. The odd register of an 8-octet result is zero with the result's tag (R168). -/
def Dev.cipherResult (d : Dev) (h tk : Nat) (r : Req) (b : Nat) (ws : List (List GWord)) (st : Option Nat) : Dev :=
  match st with
  | none =>
    if r.dstk = 0 then
      let w := ws.flatten.getD 0 GWord.zero
      d.tokDone h tk r (okPair w (ws.flatten.getD 1 (.fresh 0 w.tag)))
    else d.deliver h tk r ws.flatten (ws.length * b)
  | some s =>
    let d := if r.dstk = 1 then d.toSlice h r.dstOff ws.flatten
      else if r.dstk = 2 && s = stFault && !ws.isEmpty && !anyGlazed ws.flatten then d.toOutput h tk r.dstOff (wordsBytes ws.flatten)
      else d
    d.tokFail h tk r s

/-- A core runs one request. `par` not 0 is a parity error (R198) after `k` blocks, with its cause. -/
def Dev.coreRun (d : Dev) (h tk : Nat) (r : Req) (key : List Byte) (attr : Word) (area : List Byte) (par k : Nat) : Dev :=
  let t := d.thr h
  let b := blockLen (aAlg attr)
  let d := d.readAreas h r.part (r.areaReads b)
  if r.eng = 4 then (if par = 0 then d.deriveStepped h tk r key attr else d.tokFail h tk r stFault)
  else if r.op = 3 then
    let a := r.accIn t
    let x := runGhash r (Config.aesEnc key 0) t area r.count 0 (bytesBv 128 (wordsBytes a)) (anyGlazed a)
    match (if par = 0 then (badWord a).or x.2.2 else some stFault) with
    | some s => d.tokFail h tk r s
    | none =>
      let ws := bytesWords (bvBytes 16 x.1) (if x.2.1 then .glazed else .plain)
      d.tokDone h tk r (okPair (ws.getD 0 GWord.zero) (ws.getD 1 GWord.zero))
  else
    let x := runBlocks (cipherBlock r key attr t area) (if par = 0 then r.count else min k r.count) 0
    d.cipherResult h tk r b x.1 (if par = 0 then x.2 else some stFault)

/-- CORE_DISPATCH (R187): free core `c` takes an entry, loads its schedule unless its cached one matches, and runs it.
`area` is the command's input area as the host returns it; it is needed when the request reads from it. -/
def Dev.coreDispatch (d : Dev) (c : Nat) (area : List Byte) (par k : Nat) : Dev :=
  if !d.coreAvailable c then d
  else match d.pickEntry (tget (fun _ => none) d.ciph.cache c) with
    | none => d
    | some e =>
      let h := e / 16
      let tk := e % 16
      let gone := { d with ciph := { d.ciph with queue := dequeue d.ciph.queue e } }
      match d.queuedTok h tk with
      | none => gone
      | some (r, key, attr) =>
        if (d.thr h).cmd.isNone then gone.tokFail h tk r stOk
        else if !(r.areaReads 8).isEmpty && (area.length != dInLen (d.thrCmd h).desc || !d.canSend r.part) then d
        else if d.sliceBad h r (blockLen (aAlg attr)) then gone.sliceFault h tk r
        else
          let run := { gone with ciph := { gone.ciph with cache := tput (fun _ => none) gone.ciph.cache c (some (reqTag r)) } }
          let x := run.coreRun h tk r key attr area par k
          if par = 0 then x else x.coreFault c par

/-! ## Nonces and leases (R191 to R197) -/

/-- No lease: the lease number of a window commit of the cluster's own need (R193). -/
def noLease : Nat := 2 ^ 64 - 1

def leaseFirst (l : Nat) : Nat := l * 2 ^ 20
def leaseEnd (l : Nat) : Nat := (l + 1) * 2 ^ 20

def Dev.activeValid (d : Dev) : Bool := d.bit Fld.CIPH_LEASE_ACTIVE_VALID
def Dev.activeLease (d : Dev) : Nat := d.rd Fld.CIPH_LEASE_ACTIVE_NUMBER
def Dev.nextValid (d : Dev) : Bool := d.bit Fld.CIPH_LEASE_NEXT_VALID
def Dev.nonceNext (d : Dev) : Nat := d.rd Fld.CIPH_NONCE_NEXT_NEXT
def Dev.mark (d : Dev) : Nat := d.rd Fld.CIPH_JOURNAL_MARK_MARK

/-- Values of the active lease not yet issued. -/
def Dev.valuesLeft (d : Dev) : Nat := if d.activeValid then leaseEnd d.activeLease - d.nonceNext else 0

/-- REFILL_AT in force; 0 is treated as 0x8_0000. -/
def Dev.refillAt (d : Dev) : Nat := if d.eff Fld.CIPH_CFG_REFILL_AT = 0 then 0x80000 else d.eff Fld.CIPH_CFG_REFILL_AT

/-- The flag that the cluster writes in its window commits (R193). -/
def Dev.needLease (d : Dev) : Bool := !d.nextValid && decide (d.valuesLeft < d.refillAt)

/-- CIPH_STATUS.NONCE_READY. -/
def Dev.nonceReady (d : Dev) : Bool :=
  d.activeValid && d.bit Fld.CIPH_NONCE_ID_VALID && decide (d.nonceNext < d.mark) && decide (d.nonceNext < leaseEnd d.activeLease)

/-- The octets of a WINDOW_COMMIT record (R287). -/
def windowPayload (lease mark : Nat) (need : Bool) : List Byte := leBytes 8 lease ++ leBytes 8 mark ++ leBytes 8 need.toNat

/-- A window commit handed to the arbiter (R195). -/
def Dev.askWindow (d : Dev) (lease mark : Nat) (need : Bool) : Dev :=
  let id := d.nvs.nextOp
  let d := d.askRecord 2 0 3 0 (windowPayload lease mark need)
  { d with ciph := { d.ciph with commitOp := some id, commitMark := mark } }

/-- The cluster raises the mark by 4,096 when 1,024 values or fewer lie below it, one commit at a time (R195). -/
def Dev.windowDue (d : Dev) : Dev :=
  if d.activeValid && d.ciph.commitOp.isNone && decide (d.mark ≤ d.nonceNext + 1024) && decide (d.mark < leaseEnd d.activeLease) then
    d.askWindow d.activeLease (d.mark + 4096) d.needLease
  else d

/-- The cluster signals that it has neither a lease with values left nor a next one (R193). -/
def Dev.signalNeed (d : Dev) : Dev :=
  if d.valuesLeft == 0 && !d.nextValid && d.ciph.commitOp.isNone then d.askWindow noLease d.mark true else d

/-- A NONCE that cannot be served (R193, R195). -/
def Dev.nonceExhausted (d : Dev) (h tk : Nat) (r : Req) : Dev :=
  (d.inc Fld.CIPH_COUNTS_EXHAUSTED 1).tokFail h tk r stCounterExhausted

/-- The next lease becomes active at its first value, with no window covered, its NONCE_ID and expiry from its grant
(R192, R193); a pending REFILL_AT takes effect. Without a next lease none is active. -/
def Dev.nextLease (d : Dev) : Dev :=
  if d.nextValid then
    let l := d.rd Fld.CIPH_LEASE_NEXT_NUMBER
    let d := ((d.boundary Fld.CIPH_CFG_REFILL_AT.reg).wr Fld.CIPH_LEASE_ACTIVE_NUMBER l).wr Fld.CIPH_LEASE_ACTIVE_VALID 1
    let d := (d.wr Fld.CIPH_LEASE_NEXT_VALID 0).wr Fld.CIPH_LEASE_NEXT_NUMBER 0
    let d := (d.wr Fld.CIPH_NONCE_NEXT_NEXT (leaseFirst l)).wr Fld.CIPH_JOURNAL_MARK_MARK (leaseFirst l)
    let d := (d.wr Fld.CIPH_LEASE_EXPIRY_SECONDS d.ciph.nextExpiry).wr Fld.CIPH_NONCE_ID_ID d.ciph.nextId
    let d := (d.wr Fld.CIPH_NONCE_ID_VALID 1).eventAt Fld.CIPH_LEASE_EVSEQ_SEQ
    { d with ciph := { d.ciph with activeBond := d.ciph.nextBond, commitOp := none } }.windowDue
  else
    let d := (d.wr Fld.CIPH_LEASE_ACTIVE_VALID 0).wr Fld.CIPH_LEASE_ACTIVE_NUMBER 0
    let d := (d.wr Fld.CIPH_LEASE_EXPIRY_SECONDS 0).eventAt Fld.CIPH_LEASE_EVSEQ_SEQ
    { d with ciph := { d.ciph with commitOp := none } }.signalNeed

/-- The nonce of R191: NONCE_ID and the counter value, big-endian, and four zero octets. -/
def nonceBytes (id v : Nat) : List Byte := beBytes 4 id ++ beBytes 8 v ++ [0, 0, 0, 0]

/-- The next value is issued to a request: the value is past, the next window is asked for, and a lease whose last value it
was gives way to the next. -/
def Dev.issueNonce (d : Dev) (h tk : Nat) (r : Req) : Dev :=
  let ws := bytesWords (nonceBytes (d.rd Fld.CIPH_NONCE_ID_ID) d.nonceNext) .plain
  let d := d.tokDone h tk r (okPair (ws.getD 0 GWord.zero) (ws.getD 1 GWord.zero))
  let d := d.wr Fld.CIPH_NONCE_NEXT_NEXT (d.nonceNext + 1)
  if d.valuesLeft = 0 then d.nextLease else d.windowDue

/-- A NONCE request is served, waits for a window commit, or is refused (R193, R195). -/
def Dev.nonceServe (d : Dev) (h tk : Nat) (r : Req) : Dev :=
  if d.valuesLeft == 0 || !d.bit Fld.CIPH_NONCE_ID_VALID then d.nonceExhausted h tk r
  else if d.nonceNext < d.mark then d.issueNonce h tk r
  else { d with ciph := { d.ciph with waitNonce := d.ciph.waitNonce ++ [16 * h + tk] } }.windowDue

/-- NONCE (R185, R191): checks 1 and 9 only. -/
def Dev.nonce (d : Dev) (h tk : Nat) : Dev :=
  match d.sentTo 1 4 h tk with
  | none => d
  | some r =>
    if d.ciph.waitNonce.contains (16 * h + tk) then d
    else match d.lockStatus with
    | some s => d.tokFail h tk r s
    | none =>
      if !r.formOk [0] [0] then d.tokFail h tk r stBadDescriptor
      else if r.count != 1 then d.tokFail h tk r stLength
      else d.nonceServe h tk r

/-- The place in the list of waiting NONCE requests of the one that a library program of thread `h` makes: its tokens are 0 to 11. -/
def libWait (h : Nat) : Nat := 16 * h + 15

/-- What to do with each NONCE request that waits, oldest first: `f` for a request on a token, `g` for a library program's. -/
def Dev.forWaiting (d : Dev) (f : Dev → Nat → Nat → Req → Dev) (g : Dev → Nat → Dev) : Dev :=
  let ws := d.ciph.waitNonce
  ws.foldl (fun x e => if e % 16 = 15 then g x (e / 16) else match x.sentTok (e / 16) (e % 16) with
    | some r => f x (e / 16) (e % 16) r
    | none => x) { d with ciph := { d.ciph with waitNonce := [] } }

/-- A library program's NONCE that cannot be served ends its command. -/
def Dev.libExhausted (d : Dev) (h : Nat) : Dev := (d.inc Fld.CIPH_COUNTS_EXHAUSTED 1).endCommand h stCounterExhausted

/-- A library program asks for its nonce again. -/
def Dev.libAgain (d : Dev) (_h : Nat) : Dev := d

/-- The window commit under way is durable, which raises the mark and releases what waits for it, or has failed (R195). -/
def Dev.windowDurable (d : Dev) : Dev :=
  match d.ciph.commitOp with
  | none => d
  | some id =>
    if d.nvs.failed.contains id then
      { d with ciph := { d.ciph with commitOp := none } }.forWaiting Dev.nonceExhausted Dev.libExhausted
    else if !d.nvsDurable id then d
    else
      let d := { d with ciph := { d.ciph with commitOp := none } }
      let d := if d.activeValid && d.ciph.commitMark == d.mark + 4096 then d.wr Fld.CIPH_JOURNAL_MARK_MARK d.ciph.commitMark else d
      (d.forWaiting Dev.nonceServe Dev.libAgain).windowDue

/-- Every 1 s without a lease the need is signalled again (R193). -/
def Dev.needRetry (d : Dev) : Dev := d.signalNeed

/-- The octets of a LEASE_GRANT record (R287). -/
def grantPayload (l id bond expiry : Nat) : List Byte :=
  leBytes 8 l ++ leBytes 4 id ++ leBytes 4 bond ++ leBytes 8 expiry ++ List.replicate 8 0

def grantLease (r : Rec) : Nat := leAt r.payload 0 8
def grantId (r : Rec) : Nat := leAt r.payload 8 4
def grantBond (r : Rec) : Nat := leAt r.payload 12 4
def grantExpiry (r : Rec) : Nat := leAt r.payload 16 8

/-- An expiry has passed at second `now`; while the time is not valid every non-zero expiry has (R316). -/
def expired (valid : Bool) (now expiry : Nat) : Bool := expiry != 0 && (!valid || decide (expiry ≤ now))

/-- A lease is burned: counted, with its event, and never granted again. -/
def Dev.burnNote (d : Dev) (l : Nat) : Dev :=
  let d := (d.inc Fld.CIPH_COUNTS_BURNED 1).eventAt Fld.CIPH_LEASE_EVSEQ_SEQ
  { d with ciph := { d.ciph with burned := d.ciph.burned ++ [l] } }

/-- Leases whose expiry has passed are burned: the values left in the active lease, with the next lease taking its place
(R193, R197), and a next lease that has expired. -/
def Dev.leaseExpiry (d : Dev) (valid : Bool) (now : Nat) : Dev :=
  let d := if d.nextValid && expired valid now d.ciph.nextExpiry then
      (d.burnNote (d.rd Fld.CIPH_LEASE_NEXT_NUMBER)).wr Fld.CIPH_LEASE_NEXT_VALID 0 else d
  if d.activeValid && expired valid now (d.rd Fld.CIPH_LEASE_EXPIRY_SECONDS) then
    ((d.burnNote d.activeLease).nextLease).forWaiting Dev.nonceServe Dev.libAgain
  else d

/-- A durable LEASE_GRANT record that is the newest for its lease. -/
def Dev.grantOf (d : Dev) (l : Nat) : Option Rec := d.newestRec 0 2 (l % 2 ^ 32)

/-- The cluster takes lease `l` from its durable grant record (R192, R193): the expiry of a lease it holds follows the
newest record; a new lease becomes active if none is, else next if none is. DESIGN CHOICE: one at or below the active lease, or whose
first value is below the mark, is not taken, as R196 has it of recovery (entry 53). -/
def Dev.leaseTake (d : Dev) (l : Nat) : Dev :=
  match d.grantOf l with
  | none => d
  | some g =>
    if grantLease g != l then d
    else if d.activeValid && d.activeLease == l then d.wr Fld.CIPH_LEASE_EXPIRY_SECONDS (grantExpiry g)
    else if d.nextValid && d.rd Fld.CIPH_LEASE_NEXT_NUMBER == l then { d with ciph := { d.ciph with nextExpiry := grantExpiry g } }
    else if d.nextValid || d.ciph.burned.contains l || grantExpiry g == 1
        || (d.activeValid && decide (l ≤ d.activeLease)) || decide (leaseFirst l < d.mark) then d
    else
      let d := ((d.wr Fld.CIPH_LEASE_NEXT_NUMBER l).wr Fld.CIPH_LEASE_NEXT_VALID 1).eventAt Fld.CIPH_LEASE_EVSEQ_SEQ
      let d := { d with ciph := { d.ciph with nextId := grantId g, nextBond := grantBond g, nextExpiry := grantExpiry g } }
      if d.valuesLeft = 0 then d.nextLease else d

/-- NONCE_ID of a device outside any bond (R379). -/
def Dev.ownNonceId (d : Dev) : Nat := 2 ^ 31 + ofBe (d.deviceId.take 4) % 2 ^ 31

/-- A bond certificate stands in the Warden's state (R378), whether or not a reset's release has yet loaded it. -/
def Dev.enrolled (d : Dev) : Bool := !d.mtr.cert.isEmpty || (match d.newestRec 0 7 0x0100 with | some r => !r.payload.isEmpty | none => false)

/-- Outside a bond the Warden answers the newest durable window commit that carries NEED_LEASE, once (R194): it counts
LEASE_GRANTS and, when that is durable, writes the grant record. A failure grants nothing. -/
def Dev.wardenGrant (d : Dev) : Dev :=
  match d.newestRec 0 3 0 with
  | none => d
  | some w =>
    if leAt w.payload 16 8 % 2 == 0 || decide (w.seq ≤ d.ciph.answered) || d.nextValid || d.rd Fld.MTR_EPOCH_MEMBER_ID != 0 || d.enrolled then d
    else
      let k := NvKind.increment 1
      let d := { d with ciph := { d.ciph with answered := w.seq } }
      if d.nvsRefuses k || d.nvs.frozen || d.ctrDamaged 1 then d
      else
        let d := d.nvsNow k
        let l := d.ctrValue 1
        d.nvsNow (.record ⟨0, 2, l % 2 ^ 32, grantPayload l d.ownNonceId 0 0, 0, 0, true, false⟩)

/-- The grants that recovery may take: at or above the mark, neither expired nor burned, lowest lease first. -/
def Dev.grantsFrom (d : Dev) (valid : Bool) (now mark : Nat) : List Nat :=
  let gs := (d.nvs.recs.filter (fun r => r.region == 0 && r.type == 2 && newest d.nvs.recs r
    && !expired valid now (grantExpiry r) && grantExpiry r != 1 && decide (mark ≤ leaseFirst (grantLease r)))).map grantLease
  gs.mergeSort (fun a b => decide (a ≤ b))

/-- The granted leases above the mark whose expiry has passed and that are not burned yet (R196). -/
def Dev.expiredGrants (d : Dev) (valid : Bool) (now mark : Nat) : List Nat :=
  (d.nvs.recs.filter (fun r => r.region == 0 && r.type == 2 && newest d.nvs.recs r && expired valid now (grantExpiry r)
    && grantExpiry r != 1 && decide (mark ≤ leaseFirst (grantLease r)) && !d.ciph.burned.contains (grantLease r))).map grantLease

/-- The cluster restarts (R196): from the newest window commit, resuming its lease at the recovered mark (the values
before it that were not issued are burned, a lease burned in part), or taking the
leases of the durable grants, those that have expired being burned whole, and signals a need it finds (R193). -/
def Dev.leaseRecover (d : Dev) (valid : Bool) (now : Nat) : Dev :=
  let w := d.newestRec 0 3 0
  let l := match w with | some r => leAt r.payload 0 8 | none => noLease
  let mark := match w with | some r => leAt r.payload 8 8 | none => 0
  let d := (d.wr Fld.CIPH_JOURNAL_MARK_MARK mark).wr Fld.CIPH_NONCE_NEXT_NEXT mark
  let d := ((d.wr Fld.CIPH_LEASE_ACTIVE_VALID 0).wr Fld.CIPH_LEASE_NEXT_VALID 0).wr Fld.CIPH_LEASE_EXPIRY_SECONDS 0
  let d := { d with ciph := { d.ciph with commitOp := none, waitNonce := [] } }
  let d := match (if l = noLease then none else d.grantOf l) with
    | none => d
    | some g =>
      if expired valid now (grantExpiry g) || grantExpiry g == 1 then (if d.ciph.burned.contains l then d else d.burnNote l)
      else if leaseEnd l ≤ mark then d
      else
        let d := if leaseFirst l < mark then d.inc Fld.CIPH_COUNTS_BURNED 1 else d
        let d := (d.wr Fld.CIPH_LEASE_ACTIVE_NUMBER l).wr Fld.CIPH_LEASE_ACTIVE_VALID 1
        let d := (d.wr Fld.CIPH_LEASE_EXPIRY_SECONDS (grantExpiry g)).wr Fld.CIPH_NONCE_ID_ID (grantId g)
        { (d.wr Fld.CIPH_NONCE_ID_VALID 1).eventAt Fld.CIPH_LEASE_EVSEQ_SEQ with ciph := { d.ciph with activeBond := grantBond g } }
  let d := (d.expiredGrants valid now mark).foldl (fun x l => x.burnNote l) d
  let d := ((d.grantsFrom valid now mark).take 2).foldl (fun x g => x.leaseTake g) d
  d.windowDue.signalNeed

/-! ## Lock and Erase (R200, R201) -/

/-- A Lock: every queued request completes with ST_LOCKED, every cached schedule is cleared; leases and mark are kept. -/
def Dev.cipherLock (d : Dev) : Dev :=
  let q := d.ciph.queue.map Prod.fst
  let d := { d with ciph := { d.ciph with queue := [], cache := [] } }
  (q.foldl (fun x e => match x.queuedTok (e / 16) (e % 16) with
    | some (r, _, _) => x.tokFail (e / 16) (e % 16) r stLocked
    | none => x) d).forWaiting (fun x h tk r => x.tokFail h tk r stLocked) (fun x h => x.endCommand h stLocked)

/-- An Erase: queue and schedules are cleared; no result of a queued request is delivered. -/
def Dev.cipherErase (d : Dev) : Dev :=
  let q := d.ciph.queue.map Prod.fst ++ d.ciph.waitNonce
  let d := { d with ciph := { d.ciph with queue := [], cache := [], waitNonce := [] } }
  q.foldl (fun x e => x.modThr (e / 16) (fun t => setTok t (e % 16) .free)) d

end Sys2Proof.Machine
end

