-- ==== Sys2Proof/Machine/Pkl.lean ====
section
/-! DEFINITION. What the public-key and lattice engine computes (R175, R213 to R220): modular arithmetic and its residue checks, the
number-theoretic transforms, the conditions of ST_FORMAT. What the named standards compute beyond that is `Config.pkl`. -/

namespace Sys2Proof.Machine

/-! ## Parameters (R214) -/

/-- Parameters of MOD (R214). -/
def pklModOk (op md : Nat) : Bool :=
  match op with
  | 0x01 => decide (8 ≤ md) && decide (md ≤ 32)
  | 0x02 => decide (8 ≤ md) && decide (md ≤ 32)
  | 0x07 => md == 0
  | 0x08 => md == 0
  | 0x09 => md == 0
  | 0x10 => md == 0
  | 0x0A => decide (9 ≤ md) && decide (md ≤ 11)
  | 0x0B => decide (9 ≤ md) && decide (md ≤ 11)
  | 0x0C => decide (9 ≤ md) && decide (md ≤ 11)
  | 0x0D => decide (4 ≤ md) && decide (md ≤ 6)
  | 0x0E => decide (4 ≤ md) && decide (md ≤ 6)
  | 0x11 => md == 1 || md == 2
  | 0x12 => md == 1 || md == 2
  | _ => decide (1 ≤ md) && decide (md ≤ 3)

def hashLenOf : Nat → Nat
  | 1 => 32 | 2 => 48 | 3 => 64 | _ => 0

/-! ## Modular arithmetic -/

/-- `b ^ e mod n`, by squaring. -/
def powMod (b e n : Nat) : Nat :=
  ((List.range (Nat.log2 e + 1)).reverse).foldl (fun a i => let s := a * a % n; if e.testBit i then s * b % n else s) (1 % n)

/-- The inverse of odd `n` modulo `2 ^ w`, each round doubling the bits that are right. -/
def invPow2 (n w : Nat) : Nat :=
  (List.range (Nat.log2 w + 1)).foldl (fun x _ => x * (2 ^ w + 2 - n * x % 2 ^ w) % 2 ^ w) 1

/-- One reduction of R219: the quotient t and the reduced result R = (a · b + t · N) / 2^(64n). -/
structure Reduction where
  t : Nat
  r : Nat
deriving DecidableEq, Repr

/-- a · b · 2^(−64n) mod N before the final correction. -/
def reduceMul (a b nn limbs : Nat) : Reduction :=
  let w := 64 * limbs
  let t := a * b * (2 ^ w - invPow2 nn w) % 2 ^ w
  ⟨t, (a * b + t * nn) / 2 ^ w⟩

/-- OP 0x10: the reduced result after its final correction. -/
def rawMul (a b nn limbs : Nat) : Nat :=
  let x := reduceMul a b nn limbs
  if nn ≤ x.r then x.r - nn else x.r

/-! ## Residue checks (R219, R220) -/

/-- The sum of the four 16-bit digits modulo 65,535. -/
def r16 (x : Nat) : Nat := (x % 2 ^ 16 + x / 2 ^ 16 % 2 ^ 16 + x / 2 ^ 32 % 2 ^ 16 + x / 2 ^ 48 % 2 ^ 16) % 65535

/-- The check of a limb product with high half `hi` and low half `lo`. -/
def limbCheck (a b hi lo : Nat) : Bool := r16 a * r16 b % 65535 == (r16 hi + r16 lo) % 65535

/-- The sum of the limbs modulo 255. -/
def r8 (x limbs : Nat) : Nat := ((List.range limbs).map (fun i => x / 2 ^ (64 * i) % 2 ^ 64)).sum % 255

/-- The check of a reduced result; R may need one limb more than N until its final correction. -/
def reducedCheck (a b nn limbs : Nat) (x : Reduction) : Bool :=
  (r8 a limbs * r8 b limbs + r8 x.t limbs * r8 nn limbs) % 255 == r8 x.r (limbs + 1)

/-- The check of a butterfly's product modulo `q`: t is the quotient, r the result, by the same residue with N = q. -/
def butterflyCheck (a b q t r : Nat) : Bool := (r8 a 1 * r8 b 1) % 255 == (r8 t 1 * r8 q 1 + r8 r 1) % 255

/-! ## Number-theoretic transforms (R213, R214; the order of FIPS 203 and FIPS 204) -/

/-- A ring: its modulus, the root whose powers the butterflies use, bits of a block index, the lengths of its layers. -/
structure Ring where
  q : Nat
  zeta : Nat
  bits : Nat
  lens : List Nat
deriving DecidableEq, Repr

/-- MOD 1 is the ML-KEM ring, MOD 2 the ML-DSA ring. -/
def ringOf (md : Nat) : Ring :=
  if md = 1 then ⟨3329, 17, 7, [128, 64, 32, 16, 8, 4, 2]⟩ else ⟨8380417, 1753, 8, [128, 64, 32, 16, 8, 4, 2, 1]⟩

/-- The `n` low bits of `x` reversed. -/
def bitRev (n x : Nat) : Nat := ((List.range n).map (fun i => if x.testBit i then 2 ^ (n - 1 - i) else 0)).sum

/-- The factor of block `k`, blocks counted from 1 through the layers. -/
def Ring.factor (g : Ring) (k : Nat) : Nat := powMod g.zeta (bitRev g.bits k) g.q

/-- A forward layer of blocks of `2 * len` coefficients. -/
def Ring.layer (g : Ring) (f : List Nat) (len : Nat) : List Nat :=
  (List.range 256).map (fun j =>
    let z := g.factor (128 / len + j / (2 * len))
    if j % (2 * len) < len then (f.getD j 0 + z * f.getD (j + len) 0) % g.q else (f.getD (j - len) 0 + g.q - z * f.getD j 0 % g.q) % g.q)

/-- An inverse layer. -/
def Ring.unlayer (g : Ring) (f : List Nat) (len : Nat) : List Nat :=
  (List.range 256).map (fun j =>
    let z := g.factor (256 / len - 1 - j / (2 * len))
    if j % (2 * len) < len then (f.getD j 0 + f.getD (j + len) 0) % g.q else z * (f.getD j 0 + g.q - f.getD (j - len) 0) % g.q)

def ntt (md : Nat) (f : List Nat) : List Nat := (ringOf md).lens.foldl (ringOf md).layer f

/-- The inverse, divided by 2 for each layer. -/
def invNtt (md : Nat) (f : List Nat) : List Nat :=
  let g := ringOf md
  let half := powMod ((g.q + 1) / 2) g.lens.length g.q
  (g.lens.reverse.foldl g.unlayer f).map (fun x => x * half % g.q)

/-- The 256 coefficients of 4 octets each. -/
def coeffs (bs : List Byte) : List Nat := (List.range 256).map (fun i => leAt bs (4 * i) 4)

/-! ## Curves (SEC 1 and RFC 8032) -/

/-- The prime and the constant b of a curve code; a is −3 in all three. -/
def curveOf (md : Nat) : Nat × Nat := match md with
  | 1 => (2 ^ 256 - 2 ^ 224 + 2 ^ 192 + 2 ^ 96 - 1, 0x5ac635d8aa3a93e7b3ebbd55769886bc651d06b0cc53b0f63bce3c3e27d2604b)
  | 2 => (2 ^ 384 - 2 ^ 128 - 2 ^ 96 + 2 ^ 32 - 1,
      0xb3312fa7e23ee7e4988e056be3f82d19181d9c6efe8141120314088f5013875ac656398d8a2ed19d2a85c8edd3ec2aef)
  | _ => (2 ^ 521 - 1,
      0x51953eb9618e1c9a1f929a21a0b68540eea2da725b99b315f3b8b489918ef109e156193951ec7e937b1652c0bd3bb1bf073573df883d2c34f1ef451fd46b503f00)

/-- The uncompressed point is on its curve. -/
def onCurve (md : Nat) (pt : List Byte) : Bool :=
  let c := curveLen md
  let p := (curveOf md).1
  let x := beAt pt 1 c
  let y := beAt pt (1 + c) c
  leAt pt 0 1 == 4 && decide (x < p) && decide (y < p) && y * y % p == (x * x * x + (p - 3) * x + (curveOf md).2) % p

/-- The octets decode to a point of Ed25519. -/
def onEd25519 (a : List Byte) : Bool :=
  let p := 2 ^ 255 - 19
  let y := leAt a 0 32 % 2 ^ 255
  let sign := 2 ^ 255 ≤ leAt a 0 32
  let dd := (p - 121665) * powMod 121666 (p - 2) p % p
  let u := (y * y + p - 1) % p
  let v := (dd * (y * y) + 1) % p
  decide (y < p) && (if u = 0 then !sign else powMod (u * v % p) ((p - 1) / 2) p == 1)

/-! ## What an operation gives -/

/-- The modulus check of FIPS 203: every 12-bit coefficient of an encapsulation key of `n` octets is below q. -/
def ekOk (ek : List Byte) (n : Nat) : Bool :=
  let v := leAt ek 0 (n - 32)
  (List.range ((n - 32) * 2 / 3)).all (fun i => decide (v / 2 ^ (12 * i) % 4096 < 3329))

/-- An RSA exponent that R213 accepts for modulus `n`. -/
def rsaExpOk (e n : Nat) : Bool := e % 2 == 1 && decide (3 ≤ e) && decide (e < n)

/-- The RSA key of an operand block of OP 0x01 under its KBPK: modulus, public and private exponent; none where R213 has ST_FORMAT. -/
def rsaBlockKey (md : Nat) (block kbpk : List Byte) : Option (Nat × Nat × Nat) :=
  match Config.rsaKey kbpk (slice block 32 (beAt block 20 4)) with
  | none => none
  | some k => if rsaOctets k.1 = 32 * md && rsaExpOk k.2.1 k.1 then some k else none

/-- The representative x of OP 0x01. -/
def rsaRep (md : Nat) (block : List Byte) : Nat := beAt block (32 + up8 (beAt block 20 4)) (32 * md)

/-- The check of R220: y = s^e mod n is x again. -/
def crtOk (md : Nat) (block kbpk : List Byte) : Bool :=
  match rsaBlockKey md block kbpk with
  | none => true
  | some k => let x := rsaRep md block
    decide (k.1 ≤ x) || powMod (powMod x k.2.2 k.1) k.2.1 k.1 == x

/-- The operand block has a content that R213 refuses with ST_FORMAT, for the operations whose result is the standard's. -/
def pklFormatBad (op md : Nat) (block : List Byte) : Bool :=
  match op with
  | 0x04 => !onCurve md (block.drop (32 + hashLenOf (leAt block 9 1)))
  | 0x06 => !onCurve md (block.drop 32)
  | 0x08 => !onEd25519 (block.drop 32)
  | 0x0B => !ekOk (block.drop 32) (ekLen md)
  | _ => false

/-- What the standard gives, fitted to R213: VERIFY is 0 or 1, and a shared secret that is all zero is ST_FORMAT. -/
def pklFit (op md : Nat) (out : List Byte) : Option (List Byte) :=
  match op with
  | 0x04 => some (leBytes 8 (leAt out 0 1 % 2))
  | 0x08 => some (leBytes 8 (leAt out 0 1 % 2))
  | 0x0E => some (leBytes 8 (leAt out 0 1 % 2))
  | 0x06 => if allZero (slice out 0 (curveLen md)) then none else some out
  | 0x09 => if allZero (slice out 0 32) then none else some out
  | _ => some out

/-- The result octets of an operation on its operand block, the message that follows it, its key and the octets it draws; none is
ST_FORMAT (R213). -/
def pklCompute (op md : Nat) (block key rnd : List Byte) : Option (List Byte) :=
  match op with
  | 0x01 => match rsaBlockKey md block key with
    | none => none
    | some k => let x := rsaRep md block
      if k.1 ≤ x then none else some (beBytes (32 * md) (powMod x k.2.2 k.1))
  | 0x02 =>
    let e := beAt block 32 8
    let n := beAt block 40 (32 * md)
    let x := beAt block (40 + 32 * md) (32 * md)
    if !rsaExpOk e n || n ≤ x then none else some (beBytes (32 * md) (powMod x e n))
  | 0x10 =>
    let l := beAt block 14 2
    let a := leAt block 32 (8 * l)
    let b := leAt block (32 + 8 * l) (8 * l)
    let n := leAt block (32 + 16 * l) (8 * l)
    if n % 2 = 0 || n ≤ a || n ≤ b then none else some (leBytes (8 * l) (rawMul a b n l))
  | 0x11 =>
    let f := coeffs (block.drop 32)
    if f.all (fun x => decide (x < (ringOf md).q)) then some ((ntt md f).flatMap (leBytes 4)) else none
  | 0x12 =>
    let f := coeffs (block.drop 32)
    if f.all (fun x => decide (x < (ringOf md).q)) then some ((invNtt md f).flatMap (leBytes 4)) else none
  | _ => if pklFormatBad op md block then none else pklFit op md (Config.pkl op md block key rnd)

/-- The residue checks that the lane makes of OP 0x10's product and reduction hold (R219). -/
def residuesOk (op : Nat) (block : List Byte) : Bool :=
  if op = 0x10 then
    let l := beAt block 14 2
    let a := leAt block 32 (8 * l)
    let b := leAt block (32 + 8 * l) (8 * l)
    let n := leAt block (32 + 16 * l) (8 * l)
    let prods := (List.range l).all (fun i => (List.range l).all (fun j =>
      let x := a / 2 ^ (64 * i) % 2 ^ 64
      let y := b / 2 ^ (64 * j) % 2 ^ 64
      limbCheck x y (x * y / 2 ^ 64) (x * y % 2 ^ 64)))
    prods && (n % 2 == 0 || reducedCheck a b n l (reduceMul a b n l))
  else true

end Sys2Proof.Machine
end

