-- ==== Sys2Proof/Machine/Hpk.lean ====
section
/-! DEFINITION. The hash engines and the public-key and lattice engine (R204 to R222). -/

namespace Sys2Proof.Machine

/-! ## Units (R204, R221) -/

def Dev.unitAvailable (d : Dev) (u : Nat) : Bool := (d.rd Fld.HPK_AVAIL_AVAIL).testBit u

/-- Some unit from `lo` to `hi` takes requests. -/
def Dev.anyUnit (d : Dev) (lo hi : Nat) : Bool := (List.range 32).any (fun u => decide (lo ≤ u) && decide (u ≤ hi) && d.unitAvailable u)

/-- A unit of the kind that serves a hash or PKL operation is available. -/
def Dev.hpkServes (d : Dev) (r : Req) : Bool :=
  if r.eng = 2 then (if r.op ≤ 3 then d.anyUnit 0 15 else d.anyUnit 16 19)
  else if laneOp r.op then d.anyUnit 20 27 else d.anyUnit 28 31

/-- HPK_COUNTS of a cause (R219 to R221). -/
def Dev.hpkCount (d : Dev) (cause : Nat) : Dev :=
  match cause with
  | 1 => d.inc Fld.HPK_COUNTS_RESIDUE 1
  | 2 => d.inc Fld.HPK_COUNTS_RESIDUE 1
  | 3 => d.inc Fld.HPK_COUNTS_CRT 1
  | 4 => d.inc Fld.HPK_COUNTS_HASH_DUP 1
  | _ => d

def Dev.hpkFaultRec (d : Dev) (u cause : Nat) (good : Bool) : Dev :=
  (((d.wr Fld.HPK_FAULT_UNIT u).wr Fld.HPK_FAULT_CAUSE cause).wr Fld.HPK_FAULT_PERMANENT good.toNat).eventAt Fld.HPK_FAULT_EVSEQ_SEQ

/-- Unit `u` faults (R221): as a cipher core does under R199; an NTT unit's expanded keys are cleared. -/
def Dev.unitFault (d : Dev) (u cause : Nat) : Dev :=
  let good := d.refault (0xC0 + u)
  let d := ((d.hpkFaultRec u cause good).hpkCount cause).noteFault (0xC0 + u)
  let d := { d with hpk := { d.hpk with ntCache := tput (fun _ => []) d.hpk.ntCache u [] } }
  let d := (d.setBit Fld.HPK_AVAIL_AVAIL u false).setBit (if good then Fld.HPK_RETIRED_RETIRED else Fld.HPK_SELFTEST_SELFTEST) u true
  d.report (0xC0 + u)

/-- The modular lane that serves a library program: the lowest in service. -/
def Dev.laneFault (d : Dev) (cause : Nat) : Dev :=
  match (List.range 8).find? (fun i => d.unitAvailable (20 + i)) with
  | some i => d.unitFault (20 + i) cause
  | none => d

/-- A unit's self-test ends (R221). -/
def Dev.unitTested (d : Dev) (u : Nat) (pass : Bool) : Dev :=
  if !(d.rd Fld.HPK_SELFTEST_SELFTEST).testBit u then d
  else
    let d := d.setBit Fld.HPK_SELFTEST_SELFTEST u false
    if pass then d.setBit Fld.HPK_AVAIL_AVAIL u true
    else (d.hpkFaultRec u 6 true).setBit Fld.HPK_RETIRED_RETIRED u true

/-! ## Hashing (R205 to R209) -/

/-- Block size (rate) in octets (R205). -/
def hashRate (op : Nat) : Nat := match op with
  | 1 => 64 | 2 => 128 | 3 => 128 | 4 => 136 | 5 => 104 | 6 => 72 | 7 => 168 | _ => 136

/-- Digest octets. -/
def digestLen (op : Nat) : Nat := match op with
  | 1 => 32 | 2 => 48 | 3 => 64 | 4 => 32 | 5 => 48 | _ => 64

/-- Octets of the chaining state. -/
def chainLen (op : Nat) : Nat := match op with
  | 1 => 32 | 2 => 64 | 3 => 64 | _ => 200

def isShake (op : Nat) : Bool := op == 7 || op == 8

/-- The padding of a message of `total` octets whose last `tail` octets are in hand: FIPS 180-4, or FIPS 202 with its
domain suffix. -/
def hashPad (op total tail : Nat) : List Byte :=
  let r := hashRate op
  if op ≤ 3 then
    let lenB := if op = 1 then 8 else 16
    let z := (r - (tail + 1 + lenB) % r) % r
    0x80 :: (List.replicate z 0 ++ beBytes lenB (8 * total))
  else
    let suffix : Nat := if isShake op then 0x1F else 0x06
    let z := r - tail % r
    if z = 1 then [BitVec.ofNat 8 (suffix + 0x80)]
    else BitVec.ofNat 8 suffix :: (List.replicate (z - 2) 0 ++ [0x80])

/-- `n` blocks of `bs` absorbed, the first at octet `off`. -/
def absorb (op : Nat) (bs : List Byte) : Nat → Nat → List Byte → List Byte
  | 0, _, st => st
  | n + 1, off, st => absorb op bs n (off + hashRate op) (Config.hashStep op st (slice bs off (hashRate op)))

def hashFirst (r : Req) : Bool := r.mode.testBit 0
def hashLast (r : Req) : Bool := r.mode.testBit 1
def hashSqueeze (r : Req) : Bool := r.mode.testBit 2

/-- CTRL of a state area (R206). -/
def stateCtrl (t : Thr) (off : Nat) : Word := (sliceWord t (off / 8)).data
def stateCount (t : Thr) (off : Nat) : Nat := (sliceWord t (off / 8 + 1)).data.toNat

/-- The checks of R207 in order. -/
def Req.hashRefusal (r : Req) (t : Thr) : Option Nat :=
  let c := stateCtrl t r.dstOff
  let final := getF c 9 1 != 0
  let n0 := if hashFirst r then 0 else stateCount t r.dstOff
  if 8 ≤ r.mode || r.dstk != 1 || !(if hashSqueeze r then r.srck == 0 else r.srck == 1 || r.srck == 2)
      || r.xink != 0 || r.xoutk != 0 || rRsv r.ra != 0 || !r.aligned
      || (r.srck == 1 && meets r.dstOff 256 r.srcOff r.count) then some stBadDescriptor
  else if !hashFirst r && (getF c 8 1 == 0 || getF c 0 8 != r.op || (final && !hashSqueeze r)) then some stBadDescriptor
  else if hashSqueeze r && (!isShake r.op || !final || hashFirst r || hashLast r || r.count != 0) then some stBadDescriptor
  else if !hashLast r && !hashSqueeze r && r.count % hashRate r.op != 0 then some stLength
  else if 2 ^ 61 - 1 < n0 + r.count then some stLength
  else none

/-- A hash request is checked and queued: `squeeze` says whether it is a SQUEEZE request. -/
def Dev.hashEnter (d : Dev) (op h tk : Nat) (squeeze : Bool) : Dev :=
  match d.sentTo 2 op h tk with
  | none => d
  | some r =>
    if hashSqueeze r != squeeze then d
    else match d.lockStatus with
      | some s => d.tokFail h tk r s
      | none =>
        if !d.hpkServes r then d.tokFail h tk r stFault
        else if d.queueFull r then d
        else match r.hashRefusal (d.thr h) with
          | some s => d.tokFail h tk r s
          | none =>
            let y := d.tokQueue h tk r [] 0
            let k := 16 * h + tk
            { y with hpk := if op ≤ 3 then { y.hpk with sha2 := y.hpk.sha2 ++ [k] } else { y.hpk with sha3 := y.hpk.sha3 ++ [k] } }

/-- A SQUEEZE of whichever SHAKE the sent request names (R208). -/
def Dev.hashSqueezeEnter (d : Dev) (h tk : Nat) : Dev :=
  match d.sentTok h tk with
  | some r => if r.eng = 2 then d.hashEnter r.op h tk true else d
  | none => d

/-- The state area that a request leaves (R206, R208). -/
def hashState (r : Req) (t : Thr) (msg : List Byte) : List Byte :=
  let op := r.op
  let off := r.dstOff
  let old := wordsBytes (sliceWords t (off + 0x20) 200)
  let n0 := if hashFirst r then 0 else stateCount t off
  let total := n0 + msg.length
  let st0 := if hashFirst r then Config.hashInit op else old.take (chainLen op)
  let full := if hashLast r then msg ++ hashPad op total (msg.length % hashRate op) else msg
  let st := Config.fit (chainLen op) (if hashSqueeze r then Config.keccak (old.take 200) else absorb op full (full.length / hashRate op) 0 st0)
  let final := hashLast r || hashSqueeze r
  let body := if final && !isShake op then st.take (digestLen op) else st
  leBytes 8 (op + 2 ^ 8 + (if final then 2 ^ 9 else 0)) ++ leBytes 8 total ++ List.replicate 16 0
    ++ slice body 0 200 ++ List.replicate 24 0

/-- A hash engine runs a request to its last block, or faults with cause 4 (R221). -/
def Dev.hashRun (d : Dev) (u h tk : Nat) (r : Req) (area : List Byte) (fault : Bool) : Dev :=
  let t := d.thr h
  let d := if r.srck = 2 && r.count != 0 then d.readAreas h r.part [(r.srcOff, r.count)] else d
  let src := if r.srck = 1 then sliceWords t r.srcOff r.count else []
  let st := sliceWords t r.dstOff 256
  let msg := if r.srck = 1 then (wordsBytes src).take r.count else if r.srck = 2 then slice area r.srcOff r.count else []
  if fault then (d.tokFail h tk r stFault).unitFault u 4
  else match badWord (src ++ (if hashFirst r then [] else st)) with
    | some s => d.tokFail h tk r s
    | none =>
      let tag : Tag := if anyGlazed (src ++ st) then .glazed else .plain
      (d.toSlice h r.dstOff (bytesWords (hashState r t msg) tag)).tokDone h tk r (okBytes 256)

/-- HASH_ENGINE_DISPATCH (R205): free engine `u` takes the oldest entry of its queue. -/
def Dev.hashDispatch (d : Dev) (u : Nat) (area : List Byte) (fault : Bool) : Dev :=
  if 20 ≤ u || !d.unitAvailable u then d
  else
    let q := if u ≤ 15 then d.hpk.sha2 else d.hpk.sha3
    match q with
    | [] => d
    | e :: rest =>
      let gone := { d with hpk := if u ≤ 15 then { d.hpk with sha2 := rest } else { d.hpk with sha3 := rest } }
      match d.queuedTok (e / 16) (e % 16) with
      | none => gone
      | some (r, _, _) =>
        if (d.thr (e / 16)).cmd.isNone then gone.tokFail (e / 16) (e % 16) r stOk
        else if r.srck = 2 && (area.length != dInLen (d.thrCmd (e / 16)).desc || !d.canSend r.part) then d
        else if d.sliceBad (e / 16) r 1 then gone.sliceFault (e / 16) (e % 16) r
        else gone.hashRun u (e / 16) (e % 16) r area fault

/-! ## The PKL engine (R210 to R217) -/

/-- Usage and algorithm that the key must have (R211). A MOD that names no parameters names no algorithm either: the request is refused
for its MOD (R214). -/
def pklKeyOk (op md : Nat) (a : Word) : Bool :=
  let alg := aAlg a
  let of (x : Nat) : Bool := alg == x || !pklModOk op md
  match op with
  | 0x01 => aUsage a == useWrap && alg == 3
  | 0x03 => aUsage a == useEnc && of (7 + md)
  | 0x07 => aUsage a == useEnc && alg == 0x0B
  | 0x0D => aUsage a == useEnc && of (0x10 + md)
  | 0x06 => aUsage a == useDerive && of (7 + md)
  | 0x09 => aUsage a == useDerive && alg == 0x0C
  | _ => aUsage a == useDec && of (7 + md)

/-- The header of an operand block (R212). -/
structure PklHdr where
  target : GWord
  flags : Nat
  hash : Nat
  usage : Nat
  ctxLen : Nat
  msgSrc : Nat
  rsv : Nat
  limbs : Nat
  msgOff : Nat
  msgLen : Nat
  rsv2 : Nat
deriving DecidableEq, Repr

def pklHdr (t : Thr) (off : Nat) : PklHdr :=
  let bs := wordsBytes (sliceWords t off 32)
  ⟨sliceWord t (off / 8), beAt bs 8 1, beAt bs 9 1, beAt bs 10 1, beAt bs 11 1, beAt bs 12 1, beAt bs 13 1, beAt bs 14 2,
    beAt bs 16 4, beAt bs 20 4, beAt bs 24 8⟩

/-- The operation takes a message (R212). -/
def pklMessage (op : Nat) : Bool := op == 0x07 || op == 0x08 || op == 0x0D || op == 0x0E

/-- Octets of the fields after the header, each from a multiple of 8 (R212, R213). -/
def pklFields (op md : Nat) (p : PklHdr) : List Nat :=
  let c := curveLen md
  let q := 1 + 2 * c
  let m := if p.msgSrc = 0 then [p.msgLen] else []
  match op with
  | 0x01 => [p.msgLen, 32 * md]
  | 0x02 => [8, 32 * md, 32 * md]
  | 0x03 => [hashLenOf p.hash]
  | 0x04 => [hashLenOf p.hash, q, c, c]
  | 0x06 => [q]
  | 0x07 => m
  | 0x08 => [32, 64] ++ m
  | 0x09 => [32]
  | 0x0B => [ekLen md]
  | 0x0C => [ctLen md]
  | 0x0D => [p.ctxLen] ++ m
  | 0x0E => [pkLen md, sigLen md, p.ctxLen] ++ m
  | 0x10 => [8 * p.limbs, 8 * p.limbs, 8 * p.limbs]
  | 0x11 => [1024]
  | 0x12 => [1024]
  | _ => []

/-- Octets of the whole block: the header and the fields, each padded to a multiple of 8 but the last. -/
def fieldsLen : List Nat → Nat
  | [] => 0
  | [n] => n
  | n :: rest => up8 n + fieldsLen rest

/-- The zero padding between fields (R212): the octets of a block from `off` that no field holds are zero. -/
def padsZero (bs : List Byte) : Nat → List Nat → Bool
  | _, [] => true
  | _, [_] => true
  | off, n :: rest => allZero (slice bs (off + n) (up8 n - n)) && padsZero bs (off + up8 n) rest

/-- Every header field that the operation does not use is zero, and those it uses lie in range (R212). -/
def pklHdrOk (op : Nat) (p : PklHdr) : Bool :=
  let det := op == 0x03 || op == 0x0D
  let pre := op == 0x0D || op == 0x0E
  let prehash := p.flags.testBit 1
  let usesHash := op == 0x03 || op == 0x04 || (pre && prehash)
  decide (p.flags < 4) && (det || !p.flags.testBit 0) && (pre || !prehash)
    && (if usesHash then decide (1 ≤ p.hash) && decide (p.hash ≤ 3) else p.hash == 0)
    && (if op = 0x05 then p.usage == 0 || p.usage == 3 else p.usage == 0)
    && (if pre then decide (p.ctxLen ≤ 63) else p.ctxLen == 0)
    && (if pklMessage op then decide (p.msgSrc ≤ 1) else p.msgSrc == 0)
    && p.rsv == 0 && p.rsv2 == 0
    && (if op = 0x10 then decide (1 ≤ p.limbs) && decide (p.limbs ≤ 128) else p.limbs == 0)
    && (p.msgSrc == 1 || p.msgOff == 0)
    && (pklMessage op || op == 0x01 || p.msgLen == 0)
    && (if pklTargeted op then p.target.tag == .handle else p.target.data == 0 && p.target.tag == .plain)

/-- The status that the operand block decides, but for TARGET's record (R212 to R214). DESIGN CHOICE: after checks 1 to 8, of which
alone R211 gives the order, the fields of request and header come before the length, then the padding, then a POISON or HANDLE word, then
TARGET's record. -/
def Req.pklRefusal (r : Req) (t : Thr) (c : Cmd) : Option Nat :=
  let p := pklHdr t r.srcOff
  let bs := wordsBytes (sliceWords t r.srcOff r.count)
  let area := p.msgSrc == 1
  if !pklModOk r.op r.mode || r.srck != 1 || !(r.dstk == 1 || r.dstk == 2) || r.xink != 0 || r.xoutk != 0 || rRsv r.ra != 0
      || !r.aligned || (pklTargeted r.op && r.dstk != 1) || !pklHdrOk r.op p
      || (area && decide (dInLen c.desc < p.msgOff + p.msgLen)) then some stBadDescriptor
  else if r.count != 32 + fieldsLen (pklFields r.op r.mode p) then some stLength
  else if !padsZero bs 32 (pklFields r.op r.mode p) then some stBadDescriptor
  else none

/-- The record that TARGET names is the partition's and at the generation that TARGET gives. -/
def Dev.targetOk (d : Dev) (part : Nat) (hd : Word) : Option Nat :=
  let i := hRec hd
  let b := d.rd (Fld.XKS_PART_RECORDS_BASE part)
  if !(decide (b ≤ i) && decide (i < b + d.rd (Fld.XKS_PART_RECORDS_COUNT part))) then some stPartition
  else if (d.xrec i).gen != hGen hd then some stStaleEpoch
  else none

/-- TARGET's checks at queue entry and at the end (R215): its record's path is verified as for a read (R256), and the record is the
partition's at its current generation. `m` is what the read meets. -/
def Dev.targetCheck (d : Dev) (part : Nat) (hd : Word) (m : Nat) : Dev × Option Nat :=
  if !hOk hd || hKind hd != 2 then (d, some stKeyAbsent)
  else match d.recGate (hRec hd) with
    | some s => (d, some s)
    | none => readThen (d.recRead (hRec hd) m) (fun x => x.targetOk part hd)

/-- A key that must be held in a record is not in a vault slot (R211). -/
def recordOnly (alg : Nat) : Bool := !(alg == 0x08 || alg == 0x0B || alg == 0x0C || alg == 3)

/-- What a request needs before its operand block is read: the device after the key read, and the key or the status. -/
def Dev.pklKey (d : Dev) (h : Nat) (r : Req) (m : Nat) : Dev × Except Nat KeyRef :=
  if !r.usesKey then (d, .ok ⟨0, 0, [], 0⟩)
  else
    let x := d.keyFetch h r.part r.key m
    match x.2 with
    | .error s => (x.1, .error s)
    | .ok k =>
      if !pklKeyOk r.op r.mode k.attr || (k.kind == 1 && recordOnly (aAlg k.attr)) then (x.1, .error stKeyAttr)
      else if !usesLeft k.attr then (x.1, .error stUseLimit)
      else (x.1, .ok k)

/-- A PKL request of operation `op` is checked and queued; one that finds CD_PKL gated makes it restart (R210, R211). `m` is what the
reads of the key (`m % 512`) and of TARGET's record (`m / 512`) meet. -/
def Dev.pklEnter (d : Dev) (op h tk m : Nat) : Dev :=
  match d.sentTo 3 op h tk with
  | none => d
  | some r =>
    match d.lockStatus with
    | some s => d.tokFail h tk r s
    | none =>
      if !d.hpkServes r then d.tokFail h tk r stFault
      else if d.queueFull r then d
      else
        let x := d.pklKey h r (m % 512)
        match x.2 with
        | .error s => x.1.tokFail h tk r s
        | .ok k =>
          if d.sliceBad h r 1 then x.1.sliceFault h tk r
          else match r.pklRefusal (d.thr h) (d.thrCmd h) with
          | some s => x.1.tokFail h tk r s
          | none =>
            match badWord ((sliceWords (d.thr h) r.srcOff r.count).drop (if pklTargeted op then 1 else 0)) with
            | some s => x.1.tokFail h tk r s
            | none =>
            let z := if pklTargeted op then x.1.targetCheck r.part (pklHdr (d.thr h) r.srcOff).target.data (m / 512) else (x.1, none)
            match z.2 with
            | some s => z.1.tokFail h tk r s
            | none =>
              let y := (z.1.takeUse k).tokQueue h tk r k.key k.attr
              let e := 16 * h + tk
              { y with hpk := if laneOp op then { y.hpk with lane := y.hpk.lane ++ [e], restarting := y.hpk.restarting || y.bit Fld.HPK_STATUS_PKL_GATED }
                  else { y.hpk with ntt := y.hpk.ntt ++ [e], restarting := y.hpk.restarting || y.bit Fld.HPK_STATUS_PKL_GATED } }

/-- The operation draws randomness inside the engine (R216). -/
def pklDraws (op : Nat) (p : PklHdr) : Bool :=
  match op with
  | 0x03 => !p.flags.testBit 0
  | 0x0D => !p.flags.testBit 0
  | 0x05 => true
  | 0x0A => true
  | 0x0B => true
  | _ => false

/-- Octets of the key that an operation with TARGET installs: they come first in what it computes (R215). -/
def secretLen (op md : Nat) : Nat := match op with
  | 0x05 => curveLen md
  | 0x06 => curveLen md
  | 0x09 => 32
  | 0x0A => 64
  | _ => 32

/-- The algorithm and usage of the installed key (R215, R226). -/
def installAttr (op md part usage : Nat) : Word :=
  let alg := match op with
    | 0x05 => 7 + md
    | 0x06 => 0x17 + md
    | 0x09 => 0x18
    | 0x0A => 7 + md
    | _ => 0x18
  let u := match op with
    | 0x05 => usage
    | 0x0A => useDec
    | _ => useDerive
  BitVec.ofNat 64 (alg + u * 2 ^ 8 + 2 ^ 15 + part * 2 ^ 16)

/-- The key is installed in its record: one step, one event, the generation one more (R215, R256). -/
def Dev.install (d : Dev) (i : Nat) (attr : Word) (key : List Byte) : Dev :=
  d.setXrec i ⟨key, attr, ((d.xrec i).gen + 1) % 2 ^ 16, keyCheckValue (aAlg attr) key⟩

/-- The tag of a result (R141, R213). -/
def pklTag (op : Nat) (ws : List GWord) : Tag :=
  if op == 0x04 || op == 0x08 || op == 0x0E then .plain else if anyGlazed ws then .glazed else .plain

/-- What the operand block decides once more when the unit reads it: the program may have changed it since the check. -/
def Req.pklReread (r : Req) (t : Thr) (c : Cmd) : Option Nat :=
  (r.pklRefusal t c).or (badWord ((sliceWords t r.srcOff r.count).drop (if pklTargeted r.op then 1 else 0)))

/-- A unit runs the operation to its end: `msg` is the message of the input area when the header names one, `m` what the read of
TARGET's record meets. -/
def Dev.pklRun (d : Dev) (h tk : Nat) (r : Req) (key : List Byte) (msg : List Byte) (m : Nat) : Dev :=
  let t := d.thr h
  let p := pklHdr t r.srcOff
  let ws := sliceWords t r.srcOff r.count
  let block := (wordsBytes ws).take r.count
  let draws := pklDraws r.op p
  match r.pklReread t (d.thrCmd h) with
  | some s => d.tokFail h tk r s
  | none =>
  let d := if draws then d.draw 1 1 66 else d
  match pklCompute r.op r.mode (block ++ msg) key (if draws then Config.freeBytes (d.nfree - 1) 66 else []) with
  | none => d.tokFail h tk r stFormat
  | some out =>
    if !pklTargeted r.op then
      let n := pklResLen r.op r.mode p.limbs
      d.deliver h tk r (bytesWords (slice out 0 n) (pklTag r.op ws)) n
    else
      let z := d.targetCheck r.part p.target.data m
      let d := z.1
      match z.2 with
      | some s => d.tokFail h tk r s
      | none =>
        let i := hRec p.target.data
        let sl := secretLen r.op r.mode
        let d := d.install i (installAttr r.op r.mode r.part p.usage) (slice out 0 sl)
        let n := pklResLen r.op r.mode p.limbs
        let hw : GWord := .fresh (mkHandle 2 i (d.xrec i).gen) .handle
        (d.toSlice h r.dstOff (hw :: bytesWords (slice out sl (n - 8)) (pklTag r.op ws))).tokDone h tk r (okBytes n)

/-- The cause of the fault that the unit finds: `cause` as it comes, where a CRT mismatch (3) is one of OP 0x01 alone; a residue that
does not check; an RSA result that its public exponent does not bring back (R219, R220). -/
def Req.pklFaults (r : Req) (t : Thr) (key : List Byte) (cause : Nat) : Nat :=
  let block := (wordsBytes (sliceWords t r.srcOff r.count)).take r.count
  if cause != 0 && (cause != 3 || r.op == 1) then cause
  else if !residuesOk r.op block then 1
  else if r.op = 1 && !crtOk r.mode block key then 3
  else 0

/-- The NTT unit's cache of expanded keys after the operation (R217): the 8 most recently used. -/
def Dev.expandKey (d : Dev) (u : Nat) (r : Req) : Dev :=
  if r.op == 0x0C || r.op == 0x0D then
    let c := tget (fun _ => []) d.hpk.ntCache u
    { d with hpk := { d.hpk with ntCache := tput (fun _ => []) d.hpk.ntCache u ((reqTag r :: c.filter (· != reqTag r)).take 8) } }
  else d

/-- PKL_UNIT_DISPATCH (R210): free unit `u` takes the oldest entry of its queue and runs it; `cause % 4` not 0 is a fault of
the unit (R221), `cause / 4` what the read of TARGET's record meets. An operation that needs instance D waits while it is not ready, and fails once it has failed (R216, R274). -/
def Dev.pklDispatch (d : Dev) (u : Nat) (area : List Byte) (cause : Nat) : Dev :=
  if u < 20 || 32 ≤ u || !d.unitAvailable u || d.bit Fld.HPK_STATUS_PKL_GATED then d
  else match (if u ≤ 27 then d.hpk.lane else d.hpk.ntt) with
    | [] => d
    | e :: rest =>
      let h := e / 16
      let tk := e % 16
      let gone := { d with hpk := if u ≤ 27 then { d.hpk with lane := rest } else { d.hpk with ntt := rest } }
      let gone := if gone.hpk.lane.isEmpty && gone.hpk.ntt.isEmpty then gone.boundary Fld.HPK_CFG_GATE_IDLE.reg else gone
      match d.queuedTok h tk with
      | none => gone
      | some (r, key, _) =>
        let p := pklHdr (d.thr h) r.srcOff
        let reads := p.msgSrc == 1 && pklMessage r.op && (d.thr h).cmd.isSome
        if reads && (area.length != dInLen (d.thrCmd h).desc || !d.canSend r.part) then d
        else if pklTargeted r.op && d.xks.waiting then d
        else if (d.thr h).cmd.isNone && !pklTargeted r.op then gone.tokFail h tk r stOk
        else if d.sliceBad h r 1 then gone.sliceFault h tk r
        else
          let gone := if reads then gone.readAreas h r.part [(p.msgOff, p.msgLen)] else gone
          let found := r.pklFaults (d.thr h) key (cause % 4)
          if found != 0 then (gone.tokFail h tk r stFault).unitFault u found
          else if pklDraws r.op p && d.rngFailed then gone.tokFail h tk r stRngUnavailable
          else if pklDraws r.op p && d.fillWaits then d
          else (gone.pklRun h tk r key (if reads then slice area p.msgOff p.msgLen else []) (cause / 4)).expandKey u r

/-- CD_PKL is gated off after the idle time of GATE_IDLE, which 0 never lets pass (R210). -/
def Dev.pklGate (d : Dev) : Dev :=
  if d.hpk.lane.isEmpty && d.hpk.ntt.isEmpty && d.eff Fld.HPK_CFG_GATE_IDLE != 0 then d.wr Fld.HPK_STATUS_PKL_GATED 1 else d

/-- CD_PKL has restarted for the request that waits (R210). -/
def Dev.pklRestart (d : Dev) : Dev :=
  if d.hpk.restarting then { d.wr Fld.HPK_STATUS_PKL_GATED 0 with hpk := { d.hpk with restarting := false } } else d

/-! ## Lock and Erase (R222) -/

def Dev.hpkEntries (d : Dev) : List Nat := d.hpk.sha2 ++ d.hpk.sha3 ++ d.hpk.lane ++ d.hpk.ntt

def Dev.hpkClear (d : Dev) : Dev :=
  { d with hpk := { d.hpk with sha2 := [], sha3 := [], lane := [], ntt := [], ntCache := [], restarting := false } }

/-- A Lock: every queued request completes with ST_LOCKED. -/
def Dev.hpkLock (d : Dev) : Dev :=
  d.hpkEntries.foldl (fun x e => match x.queuedTok (e / 16) (e % 16) with
    | some (r, _, _) => x.tokFail (e / 16) (e % 16) r stLocked
    | none => x) d.hpkClear

/-- An Erase clears the same; the requests end with their commands. -/
def Dev.hpkErase (d : Dev) : Dev :=
  d.hpkEntries.foldl (fun x e => x.modThr (e / 16) (fun t => setTok t (e % 16) .free)) d.hpkClear

end Sys2Proof.Machine
end

