-- ==== Sys2Proof/Machine/Vault.lean ====
section
/-! DEFINITION. The key vault: derived root keys, derivation requests, INFO, changes of slots through staging, persistent
images (R224 to R249). -/

namespace Sys2Proof.Machine

/-! ## Root derivation (R231 to R234) -/

/-- The Backup Key drawn as free value `n`. -/
def bkBytes (n : Nat) : List Byte := Config.freeBytes n 32

/-- The storage KEK. -/
def Dev.kek (d : Dev) : List Byte := kdf d.rootKey (asciiBytes "STORKEK") (bkBytes d.vlt.roots.bk) 512

/-- Partition master key `n`. -/
def Dev.partMk (d : Dev) (n : Nat) : List Byte :=
  kdf d.rootKey (asciiBytes "PARTMK") (BitVec.ofNat 8 n :: bkBytes d.vlt.roots.bk) 256

/-- The key of partition `n`'s record images (R263). -/
def Dev.imageKey (d : Dev) (n : Nat) : List Byte := kdf (d.partMk n) (asciiBytes "XKSIMG") [] 512

/-- The outputs that depend on the Backup Key are derived under it (R233, R340). -/
def Dev.deriveBk (d : Dev) (bk : Nat) : Dev :=
  { d with vlt := { d.vlt with roots := { d.vlt.roots with kek := true, partmk := true, bk := bk } } }.wr Fld.VLT_STATUS_BK_PRESENT 1

/-- The outputs that do not depend on the Backup Key. -/
def Dev.deriveFree (d : Dev) : Dev :=
  { d with vlt := { d.vlt with roots := { d.vlt.roots with storage := true, attest := true, mortar := true } } }

/-- Step 7 (R232): derivation from the root in force. `test` says whether the Test Root Key is; `bk` is the Backup Key, if the
backup domain holds one; `cold` whether XKS_SALT is drawn afresh, which needs instance C. -/
def Dev.vaultDerive (d : Dev) (test : Bool) (bk : Option Nat) (cold : Bool) : Dev :=
  let d := (d.wr Fld.VLT_STATUS_TEST_ROOT test.toNat).deriveFree
  let d := match bk with
    | some n => d.deriveBk n
    | none => d.wr Fld.VLT_STATUS_BK_PRESENT 0
  let d := if !cold then d
    else if d.rngState = rngFailedSt then
      { d with vlt := { d.vlt with roots := { d.vlt.roots with xks := false, salt := none } } }.wr Fld.VLT_STATUS_NO_XKS_KEY 1
    else
      ({ d with vlt := { d.vlt with roots := { d.vlt.roots with xks := true, salt := some d.nfree } } }.wr
        Fld.VLT_STATUS_NO_XKS_KEY 0).draw 0 1 32
  d.wr Fld.VLT_STATUS_DERIVED 1

/-- The octets of a record as the arbiter programs them (R284): header, payload, the MAC under the storage key, CRC and COMMIT. -/
def Dev.recBytes (d : Dev) (r : Rec) : List Byte :=
  let head := leBytes 2 r.type ++ [0, 0] ++ leBytes 4 r.length ++ leBytes 8 r.seq ++ leBytes 4 r.subject ++ [0, 0, 0, 0] ++ r.payload
  let body := head ++ bvBytes 16 (Config.cmac d.storageKey head)
  body ++ bvBytes 4 (Config.crc32c body) ++ leBytes 4 0x5AC30F96

/-! ## Persistent images (R239, R240) -/

/-- The attribute word as an image holds it. -/
def imageAttr (a : Word) : Word := setF (setF (setF a 14 2 0) 16 6 0) 32 32 0

/-- The header of an image. -/
def imageHead (slot : Nat) (deleted : Bool) (gen : Nat) (attr : Word) : List Byte :=
  leBytes 4 (slot + (if deleted then 2 ^ 31 else 0)) ++ leBytes 2 gen ++ [0, 0] ++ bvBytes 8 (imageAttr attr)

/-- The 64-byte image. -/
def Dev.imageBytes (d : Dev) (slot : Nat) (deleted : Bool) (gen : Nat) (attr : Word) (key : List Byte) : List Byte :=
  let h := imageHead slot deleted gen attr
  h ++ Config.sivSeal d.kek h (slice (if deleted then [] else key) 0 32)

/-- The partition whose slot range holds a slot. -/
def Dev.slotOwner (d : Dev) (slot : Nat) : Nat := ((List.range 64).find? (fun n => d.ownsSlot n slot)).getD 0

/-- One persistent slot loaded from its image (R240, R289). The ranges are known from step 9 on, which gives every slot its owner. -/
def Dev.loadImage (d : Dev) (slot : Nat) : Dev :=
  match d.imageOf slot with
  | (none, _) => d
  | (some bs, bad) =>
    let gen := leAt bs 4 2
    let attr := bytesBv 64 (slice bs 8 8)
    let empty : Slot := ⟨[], 0, gen, 0⟩
    if bad then ((d.setSlot slot empty).inc Fld.VLT_IMAGES_UNREADABLE 1).nvsTagFail slot
    else if (leAt bs 0 4).testBit 31 then d.setSlot slot empty
    else match (if d.vlt.roots.kek then Config.sivOpen d.kek (slice bs 0 16) (slice bs 16 48) else none) with
      | none => (d.setSlot slot empty).inc Fld.VLT_IMAGES_UNREADABLE 1
      | some k =>
        let key := k.take (algBytes (aAlg attr))
        let a := setF (setF attr 15 1 1) 16 6 (d.slotOwner slot)
        (d.setSlot slot ⟨key, a, gen, keyCheckValue (aAlg attr) key⟩).inc Fld.VLT_IMAGES_LOADED 1

/-- The slots that have an image after recovery. -/
def Dev.imaged (d : Dev) : List Nat := (d.nvs.copies.map Prod.fst).filter (fun s => decide (s < 0x10000))

/-- IMAGE_LOADING (R240): in a cold reset every slot is as its image says; a warm reset leaves the slots as they are. -/
def Dev.loadImages (d : Dev) (cold : Bool) : Dev :=
  let d := if cold then
      let d := { d with vlt := { d.vlt with slots := [] } }
      let d := (d.wr Fld.VLT_IMAGES_LOADED 0).wr Fld.VLT_IMAGES_UNREADABLE 0
      d.imaged.foldl (fun x s => x.loadImage s) d
    else d
  d.wr Fld.VLT_STATUS_IMAGES_DONE 1

/-! ## Changes (R236 to R238) -/

def Dev.vstage (d : Dev) (e : Nat) : VStage := tget (fun _ => VStage.reset) d.vlt.staging e
def Dev.setVstage (d : Dev) (e : Nat) (v : VStage) : Dev :=
  { d with vlt := { d.vlt with staging := tput (fun _ => VStage.reset) d.vlt.staging e v } }

/-- Staging entry `e` is in use. -/
def Dev.vstageUsed (d : Dev) (e : Nat) : Bool := d.vlt.staging.any (fun x => x.1 == e)

/-- A change of slot `slot` to `key`, `attr` with its check value (R226). -/
def mkChange (slot part : Nat) (key : List Byte) (attr : Word) (bump persist : Bool) (origin : Nat) : VStage :=
  let k := if aPresent attr then storedKey (aAlg attr) key else []
  ⟨slot, part, ⟨k, attr, 0, if aPresent attr then keyCheckValue (aAlg attr) k else 0⟩, bump, persist, .staged, 0, Slot.reset, 0, origin, none⟩

/-- A change asked for: it waits for a staging entry (R236). -/
def Dev.changeAsk (d : Dev) (v : VStage) : Dev := { d with vlt := { d.vlt with waiting := d.vlt.waiting ++ [v] } }

/-- A change is abandoned. -/
def Dev.changeDrop (d : Dev) (e : Nat) : Dev := (d.setVstage e VStage.reset).inc Fld.VLT_CHANGES_ABANDONED 1

/-- The generation that the slot will have: incremented, unless the change alters neither KEY nor persistence (R236), or set
(R387). -/
def Dev.changeGen (d : Dev) (v : VStage) : Nat :=
  match v.gen with
  | some g => g
  | none => if v.bump then ((d.slot v.slot).gen + 1) % 2 ^ 16 else (d.slot v.slot).gen

/-- Step 3 of R236 for a persistent change (R237): its image record goes to the arbiter. The generation that the image holds
is the one the slot will have. -/
def Dev.changeRecord (d : Dev) (e : Nat) (v : VStage) : Dev :=
  let id := d.nvs.nextOp
  let deleted := !(aPresent v.new.attr && aPersistent v.new.attr)
  let d := d.askRecord 3 0 1 v.slot (d.imageBytes v.slot deleted (d.changeGen v) v.new.attr v.new.key)
  d.setVstage e { v with phase := .record, op := id }

/-- The change in entry `e` goes on from its staging: to its image record when it is persistent. `fail` answers the source of a
change that cannot go on: ST_ERASED without a storage KEK, ST_QUOTA for a record refused (R237). -/
def Dev.changeGo (d : Dev) (fail : Dev → VStage → Nat → Dev) (e : Nat) (v : VStage) : Dev :=
  if !v.persist then d.setVstage e { v with phase := .staged }
  else if !d.vlt.roots.kek then fail (d.changeDrop e) v stErased
  else
    let x := d.changeRecord e v
    if x.nvs.failed.contains (x.vstage e).op then fail (x.changeDrop e) v stQuota else x

/-- VAULT_STAGING: the oldest waiting change takes free entry `e`. One of a bond's transaction is `hold`-ed there until that
commits (R389); any other goes on. -/
def Dev.vaultStaging (d : Dev) (fail : Dev → VStage → Nat → Dev) (hold : VStage → Bool) (e : Nat) : Dev :=
  match d.vlt.waiting with
  | [] => d
  | v :: rest =>
    if 4096 ≤ e || d.vstageUsed e then d
    else
      let d := { d with vlt := { d.vlt with waiting := rest } }
      if hold v then d.setVstage e { v with phase := .bond } else d.changeGo fail e v

/-- The change may become visible: volatile and staged, or its record durable. -/
def Dev.changeReady (d : Dev) (v : VStage) : Bool :=
  (v.phase == .staged && !v.persist) || (v.phase == .record && d.nvsDurable v.op)

/-- The slot takes the staged key, attributes and check value in one step; the generation increments unless the change
alters neither KEY nor persistence; the old material is the retiring copy (R236). -/
def Dev.changeCommit (d : Dev) (e : Nat) (v : VStage) : Dev :=
  let o := d.slot v.slot
  let d := d.setSlot v.slot { v.new with gen := d.changeGen v }
  let d := { d with vlt := { d.vlt with faulted := tput (fun _ => false) d.vlt.faulted v.slot false } }
  let d := (d.eventAt Fld.VLT_EVSEQ_SEQ).inc Fld.VLT_CHANGES_COMMITTED 1
  d.setVstage e { v with phase := .retiring, old := o, commitSeq := d.seq.toNat }

/-- VAULT_COMMIT_VISIBLE. A change whose record the arbiter abandoned is abandoned: `lock` is the status its source gets
(ST_LOCKED, R238; ST_ERASED when an Erase ended it; ST_QUOTA else). -/
def Dev.vaultCommit (d : Dev) (done : Dev → VStage → Nat → Dev) (e : Nat) : Dev :=
  let v := d.vstage e
  if !d.vstageUsed e then d
  else if d.changeReady v then done (d.changeCommit e v) v stOk
  else if v.phase == .record && d.nvs.failed.contains v.op then
    done (d.changeDrop e) v (if d.tmp.erasing || d.tmp.erased then stErased else if d.tmp.lock then stLocked else stQuota)
  else d

/-- A request checked against generation `gen` of slot `slot` before event `seq` is outstanding: a change that keeps the generation
is told from its predecessor by that (R236). -/
def Tok.holdsSlot (slot gen seq : Nat) : Tok → Bool
  | .queued r _ _ n => hKind r.key == 1 && hSlot r.key == slot && hGen r.key == gen && decide (n < seq)
  | _ => false

def Dev.slotInUse (d : Dev) (slot gen seq : Nat) : Bool :=
  d.thrs.any (fun t => t.2.toks.any (fun k => k.2.holdsSlot slot gen seq))

/-- A cache tag of generation `gen` of slot `slot`. -/
def CacheTag.ofSlot (slot gen : Nat) (c : CacheTag) : Bool := c.kind == 1 && c.index == slot && c.gen == gen

/-- RETIRING_COPY_DRAIN: no request checked against the old material is outstanding; the entry is zeroised and freed, and
what the cores and NTT units cached of the old generation is cleared (R236). -/
def Dev.vaultDrain (d : Dev) (e : Nat) : Dev :=
  let v := d.vstage e
  if v.phase != .retiring || d.slotInUse v.slot v.old.gen v.commitSeq then d
  else
    let d := d.setVstage e VStage.reset
    { d with ciph := { d.ciph with cache := d.ciph.cache.filter (fun x => match x.2 with | some c => !c.ofSlot v.slot v.old.gen | none => true) },
             hpk := { d.hpk with ntCache := tmap (fun _ => []) (fun _ l => l.filter (fun c => !c.ofSlot v.slot v.old.gen)) d.hpk.ntCache } }

/-- FAULTED_SLOT_CLEAR (R421): the Warden clears a faulted slot through R236: a persistent slot is reloaded from its image, a
volatile one emptied; its generation increments either way. One whose image does not open is emptied, which is a change of a
persistent slot and writes its record (R237). -/
def Dev.faultedClear (d : Dev) (slot : Nat) : Dev :=
  if !tget (fun _ => false) d.vlt.faulted slot || (d.vlt.waiting ++ d.vlt.staging.map Prod.snd).any (fun v => v.slot == slot && v.phase != .retiring) then d
  else
    let x := d.slot slot
    if aPersistent x.attr then
      match d.imageOf slot with
      | (some bs, false) =>
        let attr := bytesBv 64 (slice bs 8 8)
        match (if d.vlt.roots.kek then Config.sivOpen d.kek (slice bs 0 16) (slice bs 16 48) else none) with
        | some k => d.changeAsk (mkChange slot (aPart x.attr) (k.take (algBytes (aAlg attr))) x.attr true true 0)
        | none => d.changeAsk (mkChange slot (aPart x.attr) [] 0 true true 0)
      | _ => d.changeAsk (mkChange slot (aPart x.attr) [] 0 true true 0)
    else d.changeAsk (mkChange slot (aPart x.attr) [] 0 true false 0)

/-- Uncommitted changes are abandoned at a Lock (R238): those with no record, or whose record's final word has not begun, for
which the arbiter programs no further word. -/
def Dev.vaultLock (d : Dev) (fail : Dev → VStage → Nat → Dev) (status : Nat) : Dev :=
  let d := d.nvsAbandon NvKind.isImage
  let es := (d.vlt.staging.filter (fun x => x.2.phase == .staged || x.2.phase == .bond || (x.2.phase == .record && !d.nvsDecided x.2.op))).map Prod.fst
  let d := es.foldl (fun x e => fail (x.changeDrop e) (x.vstage e) status) d
  let ws := d.vlt.waiting
  ws.foldl (fun x v => fail (x.inc Fld.VLT_CHANGES_ABANDONED 1) v status) { d with vlt := { d.vlt with waiting := [] } }

/-- An Erase at the vault (R249): every byte but GENERATION, every staging entry, the scoped pool, the derived root keys and
XKS_SALT are zeroised. A commit already decided keeps its increment (R238). DESIGN CHOICE: the staging entries cleared do not count in
VLT_CHANGES.ABANDONED, of which R238 says nothing here. -/
def Dev.vaultErase (d : Dev) : Dev :=
  let decided := d.vlt.staging.filter (fun x => x.2.phase == .record && d.nvsDecided x.2.op)
  let d := decided.foldl (fun x v => x.setSlot v.2.slot { x.slot v.2.slot with gen := x.changeGen v.2 }) d
  { d with vlt := { d.vlt with slots := tmap (fun _ => Slot.reset) (fun _ s => ⟨[], 0, s.gen, 0⟩) d.vlt.slots, staging := [],
                               waiting := [], faulted := [], roots := Roots.reset } }.wr Fld.VLT_STATUS_DERIVED 0

/-- ROOT_REDERIVATION (R249): the keys that need no Backup Key are derived again. -/
def Dev.rederive (d : Dev) : Dev :=
  if d.vlt.roots.storage then d else (d.deriveFree.wr Fld.VLT_STATUS_DERIVED 1).wr Fld.VLT_STATUS_BK_PRESENT 0

/-- Key changes of a reset: staging is abandoned and zeroised; the scoped pool is zeroised, its generations kept (R249). -/
def Dev.vaultReset (d : Dev) : Dev :=
  let slots := tmap (fun _ => Slot.reset) (fun k s => if k < 0x1C000 then s else ⟨[], 0, s.gen, 0⟩) d.vlt.slots
  { d with vlt := { d.vlt with staging := [], waiting := [], slots := slots } }

/-! ## Derivation requests (R245, R246) -/

/-- DERIVE_VALUE and DERIVE_HANDLE (R245): checks 1 to 7 of R185, the method's checks, check 8, then the derivation's first step; while
the cipher queue is full the request waits (R184). -/
def Dev.derive (d : Dev) (value : Bool) (h tk m : Nat) : Dev :=
  match d.sentTo 4 (if value then 1 else 2) h tk with
  | none => d
  | some r =>
    match d.lockStatus with
    | some s => d.tokFail h tk r s
    | none =>
      if 4096 ≤ d.ciph.queue.length then d
      else
      let x := d.keyFetch h r.part r.key m
      match x.2 with
      | .error s => x.1.tokFail h tk r s
      | .ok k =>
        if aUsage k.attr != useDerive then x.1.tokFail h tk r stKeyAttr
        else match r.deriveRefusal (aAlg k.attr) (aGlaze k.attr) value (x.1.scopedFull h) with
          | some s => x.1.tokFail h tk r s
          | none =>
            if !usesLeft k.attr then x.1.tokFail h tk r stUseLimit
            else (x.1.takeUse k).deriveSend h tk r k.key k.attr

/-- The check value of a key that a request names. -/
def Dev.kcvOf (d : Dev) (k : KeyRef) : Word := if k.kind = 2 then (d.xrec k.index).kcv else (d.slot k.index).kcv

/-- INFO (R248): the attribute word and the check value, PLAIN; no use is taken. -/
def Dev.info (d : Dev) (h tk m : Nat) : Dev :=
  match d.sentTo 4 3 h tk with
  | none => d
  | some r =>
    match d.lockStatus with
    | some s => d.tokFail h tk r s
    | none =>
      let x := d.keyFetch h r.part r.key m
      match x.2 with
      | .error s => x.1.tokFail h tk r s
      | .ok k =>
        if !r.formOk [0] [0] || r.mode != 0 then x.1.tokFail h tk r stBadDescriptor
        else if r.count != 0 then x.1.tokFail h tk r stLength
        else x.1.tokDone h tk r (okPair (.plain k.attr) (.plain (x.1.kcvOf k)))

/-- LOOKUP (R174, R258): the record named by index and generation is checked, and its handle returned. A store without a key refuses
it before the index word's own fields are judged. -/
def Dev.lookup (d : Dev) (h tk m : Nat) : Dev :=
  match d.sentTo 5 1 h tk with
  | none => d
  | some r =>
    match d.lockStatus with
    | some s => d.tokFail h tk r s
    | none =>
      let w := r.rb.data
      let hd := mkHandle 2 (getF w 0 27) (getF w 32 16)
      if !r.formOk [0] [0] || r.mode != 0 then d.tokFail h tk r stBadDescriptor
      else if r.count != 0 then d.tokFail h tk r stLength
      else if d.bit Fld.XKS_STATUS_NO_KEY then d.tokFail h tk r stRngUnavailable
      else if getF w 27 5 != 0 || getF w 48 16 != 0 then d.tokFail h tk r stKeyAbsent
      else
        let x := d.keyFetch h r.part hd m
        match x.2 with
        | .error s => x.1.tokFail h tk r s
        | .ok _ => x.1.tokDone h tk r (okPair (.fresh hd .handle) GWord.zero)

end Sys2Proof.Machine
end

