-- ==== Sys2Proof/Machine/Xks.lean ====
section
/-! DEFINITION. The Extended Key Store beyond its use by engines: geometry, format and opening, the transfer engine, loss of
the DRAM PLL's lock (R250 to R265, R414). -/

namespace Sys2Proof.Machine

/-! ## Opening (R262) -/

/-- The store is formatted: every counter 0 and so every node MAC that of zero counters, the root 0, pinned levels loaded, every record
absent at generation 0. -/
def Dev.xksFormat (d : Dev) (capacity records : Nat) : Dev :=
  let d := { d with xks := { d.xks with recs := [], counters := [], cache := [], dirty := [], dram := [], waiting := false, relockFailed := false } }
  let d := ((d.wr Fld.XKS_GEOMETRY_CAPACITY capacity).wr Fld.XKS_GEOMETRY_RECORDS records).wr
    Fld.XKS_GEOMETRY_LEVELS (treeLevels 12 (2 * records)).length
  ((d.wr Fld.XKS_STATUS_FORMATTING 0).wr Fld.XKS_STATUS_FAILED 0).wr Fld.XKS_STATUS_READY 1

/-- The pinned levels are read again and verified against the root (R262, R414): serving resumes, or the store fails. `m` is what DRAM
returns, as for Dev.recRead; of a failure `m / 4` gives the node of the top level that differs (DESIGN CHOICE: XKS_FAULT names a node of the top level). -/
def Dev.xksVerify (d : Dev) (m : Nat) : Dev :=
  if d.bit Fld.XKS_STATUS_NO_KEY || d.bit Fld.XKS_STATUS_ERASED || d.bit Fld.XKS_STATUS_FAILED || d.blockHeld 4 then d
  else match m with
    | 0 => d.wr Fld.XKS_STATUS_READY 1
    | 1 => (d.inc Fld.XKS_COUNTS_REREAD 1).wr Fld.XKS_STATUS_READY 1
    | 3 => (d.inc Fld.XKS_COUNTS_LINK_ECC 1).wr Fld.XKS_STATUS_READY 1
    | _ => d.xksFail (m / 4 % 8) d.levels.length 5

/-- A warm reset: dirty nodes are written back, and the cache loses what is not pinned (R262). -/
def Dev.xksRest (d : Dev) : Dev :=
  let d := d.writeBack d.xks.dirty
  { d with xks := { d.xks with cache := [], waiting := false, relockFailed := false, xfer := 0, wrote := 0, held := false } }

/-! ## Loss of the DRAM PLL's lock (R414) -/

/-- DRAM_PLL_UNLOCK: the DRAM is kept in self-refresh and record requests wait. -/
def Dev.dramUnlock (d : Dev) : Dev :=
  if !d.bit Fld.PLT_CLOCKS_DRAM_LOCK then d
  else
    let d := (d.wr Fld.PLT_CLOCKS_DRAM_LOCK 0).inc Fld.PLT_CLOCKS_DRAM_UNLOCKS 1
    { d.wr Fld.XKS_STATUS_READY 0 with xks := { d.xks with waiting := true } }

/-- DRAM_PLL_RELOCK: the pinned levels are verified and serving resumes. -/
def Dev.dramRelock (d : Dev) (m : Nat) : Dev :=
  if d.bit Fld.PLT_CLOCKS_DRAM_LOCK || !(d.xks.waiting || d.xks.relockFailed) then d
  else { d.wr Fld.PLT_CLOCKS_DRAM_LOCK 1 with xks := { d.xks with waiting := false, relockFailed := false } }.xksVerify m

/-- DRAM_RELOCK_TIMEOUT: requests fail from now on. -/
def Dev.dramTimeout (d : Dev) : Dev :=
  if d.xks.waiting then { d with xks := { d.xks with waiting := false, relockFailed := true } } else d

/-! ## The transfer engine (R265) -/

/-- The registers name an operation and a range of the partition that R265 admits. -/
def Dev.xferOk (d : Dev) : Bool :=
  let op := d.rd Fld.XKS_XFER_CTRL_OP
  let n := d.rd Fld.XKS_XFER_CTRL_PARTITION
  let f := d.rd Fld.XKS_XFER_RANGE_FIRST
  let k := d.rd Fld.XKS_XFER_COUNT_COUNT
  let b := d.rd (Fld.XKS_PART_RECORDS_BASE n)
  decide (1 ≤ op) && decide (op ≤ 4) && decide (1 ≤ k) && (decide (op ≤ 2) || k == 1) && decide (b ≤ f)
    && decide (f + k ≤ b + d.rd (Fld.XKS_PART_RECORDS_COUNT n))

/-- The store serves: else the ERR value that says why not. -/
def Dev.xferStop (d : Dev) : Option Nat :=
  if d.tmp.lock || d.tmp.erased then some 5
  else if !d.bit Fld.XKS_STATUS_READY && !d.xks.waiting then some 6
  else none

/-- GO: the operation starts, unless one is running (CFG_REJECT). -/
def Dev.xferGo (d : Dev) : Dev :=
  if d.xferBusy then d.wr Fld.XKS_STATUS_CFG_REJECT 1
  else
    let d := { d with xks := { d.xks with xfer := 0, wrote := 0 } }
    let d := (d.setReg Fld.XKS_XFER_STATUS_BUSY.reg 0).wr Fld.XKS_XFER_STATUS_BUSY 1
    if !d.xferOk then d.xferError 1 else match d.xferStop with
      | some e => d.xferError e
      | none => d

/-- The transfer can deal with its next record: operation `op` runs, no error, records left, the store serving. -/
def Dev.xferRuns (d : Dev) (op : Nat) : Bool :=
  d.xferBusy && d.rd Fld.XKS_XFER_STATUS_ERR == 0 && d.rd Fld.XKS_XFER_CTRL_OP == op
    && decide (d.xks.xfer < d.rd Fld.XKS_XFER_COUNT_COUNT) && d.xferStop.isNone && !d.xks.waiting

/-- One record dealt with; `w` of them written or imaged. -/
def Dev.xferNext (d : Dev) (w : Nat) : Dev :=
  let d := { d with xks := { d.xks with xfer := d.xks.xfer + 1, wrote := d.xks.wrote + w } }
  d.wr Fld.XKS_XFER_STATUS_DONE_COUNT (d.xks.wrote / 16)

/-- The next record of the transfer. -/
def Dev.xferIndex (d : Dev) : Nat := d.rd Fld.XKS_XFER_RANGE_FIRST + d.xks.xfer

/-- The read of a record for the transfer (R255, R260, R261). Answers whether it checks. -/
def Dev.xferRead (d : Dev) (i m : Nat) : Dev × Bool :=
  let r := d.recRead i m
  (r.1, r.2.isNone)

/-- The head of an image (R263). -/
def imageHeader (i gen part epoch : Nat) : List Byte :=
  leBytes 4 i ++ leBytes 2 gen ++ [BitVec.ofNat 8 part, 1] ++ leBytes 4 epoch ++ [0, 0, 0, 0]

/-- The image of record `i` of partition `n` (R263, R264): PARTITION is the owner's also where nothing has been written (R252). -/
def Dev.recordImage (d : Dev) (n i : Nat) : List Byte :=
  let x := { d.xrec i with attr := setF (d.xrec i).attr 16 6 n }
  let h := imageHeader i x.gen n (d.rd (Fld.XKS_IMAGE_EPOCH_EPOCH n))
  h ++ Config.sivSeal (d.imageKey n) h (recordBytes i x)

/-- A record is written (R256): its lines' counters advance, one event; KEY, ATTR and GENERATION as given, PARTITION always
the owner, PERSISTENT, LIMITED and SCOPED always 0 (R252). -/
def Dev.xksWrite (d : Dev) (i part : Nat) (key : List Byte) (attr kcv : Word) (gen : Nat) : Dev :=
  let a := setF (setF (setF attr 12 3 0) 14 1 0) 16 6 part
  d.setXrec i ⟨key, setF a 32 32 0, gen % 2 ^ 16, kcv⟩

/-- XKS_SAVE: the image of the next record is written to host memory. `m` is what the read of the record meets. -/
def Dev.xksSave (d : Dev) (m : Nat) : Dev :=
  if !d.xferRuns 1 then d
  else
    let n := d.rd Fld.XKS_XFER_CTRL_PARTITION
    let i := d.xferIndex
    let r := d.xferRead i m
    if !r.2 then r.1
    else if !d.vlt.roots.partmk then d.xferError 6
    else
      (r.1.send 0 (.memWrite 0 (16 * d.rd Fld.XKS_XFER_ADDR_ADDR + 144 * d.xks.xfer) (d.recordImage n i))).xferNext 1

/-- What LOAD does with an image (R265): rejected, or the record's plaintext, generation and the header's index. -/
def Dev.openImage (d : Dev) (n i : Nat) (img : List Byte) : Option (List Byte) :=
  if leAt img 0 4 != i || leAt img 6 1 != n || leAt img 7 1 != 1 || leAt img 12 4 != 0
      || decide (leAt img 8 4 < d.rd (Fld.XKS_IMAGE_EPOCH_FLOOR n)) || !d.vlt.roots.partmk then none
  else Config.sivOpen (d.imageKey n) (slice img 0 16) (slice img 16 128)

/-- XKS_LOAD: the next image has been read from host memory, by the physical function (`none`: the read failed). -/
def Dev.xksLoad (d : Dev) (img : Option (List Byte)) (m : Nat) : Dev :=
  if !d.xferRuns 2 || !d.canSend 0 then d
  else
    let d := d.emit (.memRead 0 (16 * d.rd Fld.XKS_XFER_ADDR_ADDR + 144 * d.xks.xfer) 144)
    match img with
    | none => (d.emit (.aer 0)).xferError 4
    | some bs =>
      let n := d.rd Fld.XKS_XFER_CTRL_PARTITION
      let i := d.xferIndex
      match d.openImage n i bs with
      | none => (d.inc Fld.XKS_XFER_STATUS_REJECTED 1).xferNext 0
      | some p =>
        let r := d.xferRead i m
        if !r.2 then r.1
        else
          let x := r.1.xrec i
          if aPresent x.attr then (r.1.inc Fld.XKS_XFER_STATUS_SKIPPED 1).xferNext 0
          else
            let attr := bytesBv 64 (slice p 0 8)
            let gen := leAt bs 4 2
            let key := (slice p 0x18 72).take (algBytes (aAlg attr))
            (r.1.xksWrite i n key attr (bytesBv 64 (slice p 0x10 8)) (if x.gen < gen then gen else x.gen + 1)).xferNext 1

/-- The slot that COPY may take (R265): present, current, of the partition, neither LIMITED nor SCOPED. -/
def Dev.copySource (d : Dev) (n : Nat) (hd : Word) : Option Slot :=
  let x := d.slot (hSlot hd)
  if hOk hd && hKind hd == 1 && aPresent x.attr && x.gen == hGen hd && aPart x.attr == n && !aLimited x.attr && !aScoped x.attr
  then some x else none

/-- XKS_COPY: a vault slot is copied into the record. `m` and `r` are what the reads of the slot and the record meet. -/
def Dev.xksCopy (d : Dev) (m r : Nat) : Dev :=
  if !d.xferRuns 3 then d
  else
    let n := d.rd Fld.XKS_XFER_CTRL_PARTITION
    let hd := d.reg Fld.XKS_XFER_SLOT_HANDLE.reg
    let i := d.xferIndex
    match d.copySource n hd with
    | none => d.xferError 3
    | some x =>
      let k := d.slotRead hd m
      match k.2 with
      | some _ => k.1.xferError 3
      | none =>
        let q := k.1.xferRead i r
        if !q.2 then q.1
        else if (q.1.xrec i).gen != d.rd Fld.XKS_XFER_RANGE_GEN then q.1.xferError 2
        else (q.1.xksWrite i n x.key x.attr x.kcv ((q.1.xrec i).gen + 1)).xferNext 1

/-- XKS_DELETE: the record becomes absent and its generation increments. -/
def Dev.xksDelete (d : Dev) (m : Nat) : Dev :=
  if !d.xferRuns 4 then d
  else
    let n := d.rd Fld.XKS_XFER_CTRL_PARTITION
    let i := d.xferIndex
    let q := d.xferRead i m
    if !q.2 then q.1
    else if (q.1.xrec i).gen != d.rd Fld.XKS_XFER_RANGE_GEN then q.1.xferError 2
    else (q.1.xksWrite i n [] 0 0 ((q.1.xrec i).gen + 1)).xferNext 1

/-- XKS_TRANSFER_END: the operation has dealt with every record, or met an error: BUSY clears, with its event. -/
def Dev.xferEnd (d : Dev) : Dev :=
  let ended := d.rd Fld.XKS_XFER_STATUS_ERR != 0 || decide (d.rd Fld.XKS_XFER_COUNT_COUNT ≤ d.xks.xfer)
  if d.xferBusy && ended then (d.wr Fld.XKS_XFER_STATUS_BUSY 0).eventAt Fld.XKS_XFER_EVSEQ_SEQ else d

/-! ## Lock, Erase and resets (R262) -/

/-- A Lock or an Erase ends the running transfer. -/
def Dev.xksLock (d : Dev) : Dev := d.xferError 5

/-- A function-level reset of partition `n` ends its transfer. -/
def Dev.xksFlr (d : Dev) (n : Nat) : Dev :=
  if d.rd Fld.XKS_XFER_CTRL_PARTITION = n then d.xferError 7 else d

/-- An Erase: keys, root and tree cache are zeroised, so that no record can be read again until the next cold reset; what DRAM holds
stays there. -/
def Dev.xksErase (d : Dev) : Dev :=
  let d := d.xferError 5
  let d := { d with xks := { d.xks with recs := [], counters := [], cache := [], dirty := [], waiting := false, relockFailed := false } }
  ((d.wr Fld.XKS_STATUS_READY 0).wr Fld.XKS_STATUS_FORMATTING 0).wr Fld.XKS_STATUS_ERASED 1

end Sys2Proof.Machine
end

