-- ==== Sys2Proof/Machine/Mortar.lean ====
section
/-! DEFINITION. The bond as the rest of the device sees it: role, state and epoch, the records that keep it, sending a message,
leases held and burned, leaving a role (R378 to R396). -/

namespace Sys2Proof.Machine

/-! ## Warden records (R347) -/

/-- A WARDEN_STATE record (R347), durable at once. -/
def Dev.wardenState (d : Dev) (subject : Nat) (payload : List Byte) : Dev :=
  d.nvsNow (.record ⟨0, 7, subject, payload, 0, 0, true, false⟩)

/-- The newest WARDEN_STATE record of a subject; an empty payload means that its content is gone. -/
def Dev.stateOf (d : Dev) (subject : Nat) : Option (List Byte) :=
  match d.newestRec 0 7 subject with
  | some r => if r.payload.isEmpty then none else some r.payload
  | none => none

/-! ## Identities, role and state -/

def Dev.ownMember (d : Dev) : Nat := d.rd Fld.MTR_EPOCH_MEMBER_ID
def Dev.managerId (d : Dev) : Nat := d.rd Fld.MTR_EPOCH_MANAGER_ID
def Dev.standbyId (d : Dev) : Nat := d.rd Fld.MTR_EPOCH_STANDBY_ID
def Dev.bondRole (d : Dev) : Nat := d.rd Fld.MTR_STATUS_ROLE
def Dev.bondState (d : Dev) : Nat := d.rd Fld.MTR_STATUS_STATE
def Dev.canCommit (d : Dev) : Bool := d.bit Fld.MTR_STATUS_CAN_COMMIT

/-- The device is in a bond. -/
def Dev.bonded (d : Dev) : Bool := d.ownMember != 0

/-- The bond epoch, 0 outside a bond. -/
def Dev.bondEpoch (d : Dev) : Nat := if d.bonded then d.rd Fld.MTR_EPOCH_EPOCH else 0

/-- The roles (MTR_STATUS.ROLE) and the states (MTR_STATUS.STATE). -/
def roleNone : Nat := 0
def roleManager : Nat := 1
def roleStandby : Nat := 2
def roleWorker : Nat := 3
def bsJoining : Nat := 1
def bsSyncing : Nat := 2
def bsMember : Nat := 3
def bsCutOff : Nat := 4
def bsDown : Nat := 5

/-- ROLE and STATE take new values; a change of either is an event. -/
def Dev.mtrSet (d : Dev) (role state : Nat) : Dev :=
  if d.bondRole = role && d.bondState = state then d
  else ((d.wr Fld.MTR_STATUS_ROLE role).wr Fld.MTR_STATUS_STATE state).eventAt Fld.MTR_EVSEQ_SEQ

/-- Every FENCE_BOND that waits ends with ST_FENCE_ABORT, under the number of the event just recorded; `was` is the device that knew the
workers (R81, R82). -/
def Dev.abortBond (d was : Dev) : Dev := d.abortFencesOf was (fun c => dFunction c.desc == 0xF004)

/-- A new bond epoch: an event; a FENCE_BOND that waits aborts (R82). -/
def Dev.mtrEpochOf (d was : Dev) (e : Nat) : Dev :=
  if d.rd Fld.MTR_EPOCH_EPOCH = e then d else ((d.wr Fld.MTR_EPOCH_EPOCH e).eventAt Fld.MTR_EVSEQ_SEQ).abortBond was

def Dev.mtrEpoch (d : Dev) (e : Nat) : Dev := d.mtrEpochOf d e

/-- The bond record (SUBJECT 0x0101): EPOCH, MANAGER_ID, HIGH_WATER, HIGHEST_LEASE, then the lease table. -/
def Dev.bondBytes (d : Dev) : List Byte :=
  leBytes 4 (d.rd Fld.MTR_EPOCH_EPOCH) ++ leBytes 4 d.managerId ++ leBytes 8 (d.rd Fld.MTR_LEASE_HIGH_WATER) ++ leBytes 8 d.mtr.highest
    ++ (d.mtr.table.map (fun h => leBytes 4 h.member ++ leBytes 4 h.ev ++ leBytes 8 h.lease)).flatten

def Dev.bondRecord (d : Dev) : Dev := d.wardenState 0x0101 d.bondBytes

/-! ## Sending (R380, R381, R383, R385) -/

def Dev.sess (d : Dev) (k : Nat) : Sess := tget (fun _ => Sess.reset) d.mtr.sess k
def Dev.setSess (d : Dev) (k : Nat) (s : Sess) : Dev :=
  { d with mtr := { d.mtr with sess := tput (fun _ => Sess.reset) d.mtr.sess k s } }

/-- The session with member `m` over the relay. -/
def relaySess (m : Nat) : Nat := 16 + m

/-- How member `m` was last heard: 0 not yet, 1 on the ring, 2 through the relay. -/
def Dev.viaOf (d : Dev) (m : Nat) : Nat := tget (fun _ => 0) d.mtr.via m

/-- Outbound ring entries, and whether none is free (R381). -/
def Dev.relaySize (d : Dev) : Nat := 2 ^ d.rd Fld.MTR_RELAY_CFG_OUT_SIZE_LOG2
def Dev.relayOn (d : Dev) : Bool :=
  d.bit Fld.MTR_RELAY_CFG_ENABLE && d.rd Fld.MTR_RELAY_STATE_ERR == 0 && !d.held && !d.tmp.erased && !d.tmp.erasing
def Dev.relayFull (d : Dev) : Bool := (d.rd Fld.MTR_RELAY_STATE_OUT_TAIL + 1) % d.relaySize == d.mtr.relayOut % d.relaySize

/-- FULL shows that frames wait for ring space. -/
def Dev.relayShow (d : Dev) : Dev := d.wr Fld.MTR_RELAY_STATE_FULL (d.relayFull && !d.mtr.relay.isEmpty).toNat

/-- A frame joins those that wait for the outbound ring; with 256 waiting, heartbeats and their answers are discarded. -/
def Dev.relayPut (d : Dev) (s : Sent) : Dev :=
  if !d.relayOn || (decide (256 ≤ d.mtr.relay.length) && (s.kind == 0x20 || s.kind == 0x21)) then d
  else { d with mtr := { d.mtr with relay := d.mtr.relay ++ [s] } }.relayShow

/-- Numbers two by two. -/
def pairsOf : List Nat → List (Nat × Nat)
  | a :: b :: l => (a, b) :: pairsOf l
  | _ => []

/-- The two lease fields of each member, 1 to 64 in order (STANDBY_DESIGNATE, R384). -/
def holdingBytes (t : List (Nat × Nat)) : List Byte :=
  (List.range 64).flatMap (fun i =>
    let ls := (t.filter (fun h => h.1 == i + 1)).map (fun h => h.2 + 2 ^ 63)
    leBytes 8 (ls.getD 0 0) ++ leBytes 8 (ls.getD 1 0))

/-- The octets of the fields of a message (R384). -/
def fieldBytes (kind : Nat) (fs : List Nat) : List Byte :=
  let f (k n : Nat) : List Byte := leBytes n (fs.getD k 0)
  let z (n : Nat) : List Byte := List.replicate n 0
  match kind with
  | 0x10 => f 0 8 ++ f 1 8 ++ f 2 8 ++ f 3 8
  | 0x11 => f 0 1 ++ z 7 ++ f 1 8 ++ f 2 8 ++ f 3 8
      ++ slice ((pairsOf (fs.drop 4)).flatMap (fun e => leBytes 1 e.1 ++ z 7 ++ leBytes 16 e.2)) 0 1536
  | 0x12 => f 0 4 ++ z 4 ++ (pairsOf (fs.drop 1)).flatMap (fun e => leBytes 4 e.1 ++ z 4 ++ leBytes 64 e.2)
  | 0x13 => f 0 8 ++ f 1 4 ++ z 4
  | 0x20 => f 0 1 ++ f 1 1 ++ z 6 ++ f 2 8
  | 0x21 => f 0 1 ++ z 7 ++ f 1 8 ++ f 2 8 ++ f 3 8
  | 0x30 => f 0 8 ++ f 1 4 ++ f 2 2 ++ z 2 ++ f 3 64
  | 0x31 => f 0 8 ++ f 1 2 ++ z 6
  | 0x33 => f 0 8 ++ f 1 2 ++ z 6
  | 0x43 => f 0 8 ++ f 1 1 ++ f 2 1 ++ z 6 ++ f 3 8
  | 0x50 => f 0 8 ++ f 1 8 ++ holdingBytes (pairsOf (fs.drop 2))
  | 0x52 => f 0 8 ++ f 1 4 ++ z 4 ++ (fs.drop 2).flatMap (leBytes 8)
  | 0x60 => f 0 1 ++ f 1 1 ++ f 2 1 ++ z 5 ++ f 3 8
  | 0x62 => f 0 2 ++ z 6
  | 0x70 => []
  | _ => f 0 8

/-- The payload of a message: EPOCH, MSG_ID and its fields (R383). -/
def payloadBytes (kind : Nat) (fs : List Nat) : List Byte :=
  leBytes 4 (fs.getD 0 0) ++ [0, 0, 0, 0] ++ leBytes 8 (fs.getD 1 0) ++ fieldBytes kind (fs.drop 2)

/-- The first 16 octets of a wire frame (R383). -/
def frameHead (kind hops dst src len counter : Nat) : List Byte :=
  [BitVec.ofNat 8 kind, BitVec.ofNat 8 hops, BitVec.ofNat 8 dst, BitVec.ofNat 8 src] ++ leBytes 4 len ++ leBytes 8 counter

/-- The key of a session for the frames that this device sends on it (R382). -/
def Sess.sendKey (s : Sess) : List Byte := slice s.keys (if s.init then 0 else 32) 32

/-- A payload as a session sends it next: the header, then AES-256-GCM under the session key, its nonce from COUNTER, the header as
AAD (R16, R383). -/
def Sess.seal (s : Sess) (kind hops dst src : Nat) (payload : List Byte) : List Byte :=
  let h := frameHead kind hops dst src payload.length (s.tx + 1)
  h ++ Config.gcmSeal s.sendKey ([0, 0, 0, 0] ++ beBytes 8 (s.tx + 1)) h payload

/-- The wire frame of a message; the HELLO family travels in clear with COUNTER 0. -/
def Dev.wireFrame (d : Dev) (s : Sess) (dst kind : Nat) (fs : List Nat) : List Byte :=
  if kind ≤ 3 then frameHead kind 0 dst d.ownMember fs.length 0 ++ fs.map (BitVec.ofNat 8)
  else s.seal kind 0 dst d.ownMember (payloadBytes kind fs)

/-- A frame goes out of direct port `p`, if its session is established. -/
def Dev.portSend (d : Dev) (p dst kind : Nat) (fields : List Nat) : Dev :=
  let s := d.sess p
  if s.st = 3 then (d.setSess p { s with tx := s.tx + 1 }).emit (.frame p (d.wireFrame s dst kind fields)) else d

/-- A handshake frame leaves in clear, an event as every message is (R75, R383). -/
def Dev.clearSend (d : Dev) (k dst kind : Nat) (fs : List Nat) : Dev :=
  let d := d.event
  if k < 2 then d.emit (.frame k (d.wireFrame Sess.reset dst kind fs)) else d.relayPut ⟨dst, kind, fs⟩

/-- The payload of a HELLO: the payload header, the certificate, the ephemeral and encapsulation keys and the nonce, all fresh. -/
def Dev.helloBytes (d : Dev) (n : Nat) : List Byte :=
  leBytes 4 (d.rd Fld.MTR_EPOCH_EPOCH) ++ [0, 0, 0, 0] ++ leBytes 8 (d.mtr.msgId + 1) ++ d.mtr.cert
    ++ slice (Config.publicOf 0x09 (Config.freeBytes n 48)) 0 97 ++ slice (Config.kemKey (Config.freeBytes (n + 1) 64)) 0 1568
    ++ Config.freeBytes (n + 2) 16

/-- HELLO goes out for session `k`, to `dst` on the relay (R382). Its keys and nonce come from instance C (R17): without it the attempt
fails, and while it is not ready there is none yet (R274). -/
def Dev.helloStart (d : Dev) (k dst : Nat) : Dev :=
  if d.rngFailed then d.inc Fld.MTR_COUNTS_DROPPED 1
  else if !d.rngServes 0 then d
  else
  let bs := d.helloBytes d.nfree
  let d := { d.draw 0 3 128 with mtr := { d.mtr with msgId := d.mtr.msgId + 1 } }
  let d := d.setSess k { Sess.reset with st := 1, peer := dst, hello := bs, eph := d.nfree - 3, init := true }
  d.clearSend k dst 1 (bs.map BitVec.toNat)

/-- A frame joins the relay under the session with `dst`, or starts that session's handshake. -/
def Dev.relaySend (d : Dev) (dst kind : Nat) (fs : List Nat) : Dev :=
  let k := relaySess dst
  if !d.relayOn then d
  else if (d.sess k).st = 3 then d.relayPut ⟨dst, kind, fs⟩
  else if (d.sess k).st = 0 then d.helloStart k dst
  else d

/-- A message to member `dst`: EPOCH, the sender's next MSG_ID and its fields, out of both ring ports, through the relay to a
member last heard there, or both ways to one not heard yet. One that leaves is an event (R75). -/
def Dev.mtrSend (d : Dev) (dst kind : Nat) (fields : List Nat) : Dev :=
  let id := d.mtr.msgId + 1
  let direct := d.viaOf dst != 2 && ((d.sess 0).st == 3 || (d.sess 1).st == 3)
  let relayed := d.viaOf dst != 1 && d.relayOn && (d.sess (relaySess dst)).st == 3
  let d := if direct || relayed then d.event else d
  let d := { d with mtr := { d.mtr with msgId := id } }
  let fs := d.rd Fld.MTR_EPOCH_EPOCH :: id :: fields
  let d := if d.viaOf dst = 2 then d else (d.portSend 0 dst kind fs).portSend 1 dst kind fs
  if d.viaOf dst = 1 then d else d.relaySend dst kind fs

/-- A message that is sent again every 1 ms until it is answered (R385). -/
def Dev.mtrAsk (d : Dev) (dst kind : Nat) (fields : List Nat) : Dev :=
  let s : Sent := ⟨dst, kind, fields⟩
  let d := if d.mtr.outstanding.contains s then d else { d with mtr := { d.mtr with outstanding := d.mtr.outstanding ++ [s] } }
  d.mtrSend dst kind fields

/-- What awaits an answer from `dst` and satisfies `p` has had it. -/
def Dev.mtrDone (d : Dev) (dst : Nat) (p : Sent → Bool) : Dev :=
  { d with mtr := { d.mtr with outstanding := d.mtr.outstanding.filter (fun s => !(s.dst == dst && p s)) } }

/-- Messages of a type to `dst` whose first field is `x` have been answered. -/
def Dev.mtrDone1 (d : Dev) (dst kind x : Nat) : Dev := d.mtrDone dst (fun s => s.kind == kind && s.fields.head? == some x)

/-- RETRANSMIT_TIMER: every unanswered message is sent again. -/
def Dev.retransmit (d : Dev) : Dev :=
  if d.tmp.lock || d.tmp.erasing || d.held then d else d.mtr.outstanding.foldl (fun x s => x.mtrSend s.dst s.kind s.fields) d

/-- A NAK, which is counted (R386). -/
def Dev.mtrNak (d : Dev) (dst refused cause msgId : Nat) : Dev :=
  (d.inc Fld.MTR_COUNTS_NAKS 1).mtrSend dst 0x60 [refused, cause, d.managerId, msgId]

/-! ## Leases (R390 to R392) -/

/-- The lease fields HELD0 and HELD1: number, and bit 63 when valid. -/
def Dev.heldFields (d : Dev) : List Nat :=
  [(if d.activeValid then d.activeLease + 2 ^ 63 else 0), (if d.nextValid then d.rd Fld.CIPH_LEASE_NEXT_NUMBER + 2 ^ 63 else 0)]

/-- The leases held. -/
def Dev.heldLeases (d : Dev) : List Nat := (d.heldFields.filter (fun x => decide (2 ^ 63 ≤ x))).map (fun x => x - 2 ^ 63)

/-- A LEASE_GRANT record for lease `l` with the given expiry, which the cluster follows. -/
def Dev.grantRecord (d : Dev) (l expiry : Nat) : Dev :=
  let id := if d.bonded then d.ownMember else d.ownNonceId
  d.nvsNow (.record ⟨0, 2, l % 2 ^ 32, grantPayload l id d.bondEpoch expiry, 0, 0, true, false⟩)

/-- A lease is burned on this device: a grant record with expiry 1. -/
def Dev.burnLease (d : Dev) (l : Nat) : Dev := (d.grantRecord l 1).leaseTake l

/-! ## Transactions and roles (R387, R389) -/

/-- The source of a held change gets `status`. -/
def Dev.bondDrop (d : Dev) (fail : Dev → VStage → Nat → Dev) (e status : Nat) : Dev :=
  if (d.vstage e).phase = .bond && d.vstageUsed e then fail (d.changeDrop e) (d.vstage e) status else d

/-- Members live, by LIVE. -/
def Dev.liveMembers (d : Dev) : List Nat := (List.range 64).filterMap (fun i => if (d.rd Fld.MTR_LIVE_LIVE).testBit i then some (i + 1) else none)

/-- Live members other than the manager and the standby. -/
def Dev.liveWorkers (d : Dev) : List Nat := d.liveMembers.filter (fun m => m != d.ownMember && m != d.standbyId)

/-- The FENCE_BOND set follows LIVE. -/
def Dev.liveShow (d : Dev) : Dev := { d with mtr := { d.mtr with liveWorkers := if d.bondRole = roleManager then d.liveWorkers.length else 0 } }

def Dev.setLive (d : Dev) (m : Nat) (v : Bool) : Dev := if m = 0 then d else (d.setBit Fld.MTR_LIVE_LIVE (m - 1) v).liveShow

/-- The manager abandons the open transaction before it is committed: ABORT to every member of it. -/
def Dev.txAbort (d : Dev) (fail : Dev → VStage → Nat → Dev) (status : Nat) : Dev :=
  match d.mtr.tx with
  | none => d
  | some t =>
    let ws := (if d.standbyId = 0 then [] else [d.standbyId]) ++ d.liveWorkers
    let d := { d with mtr := { d.mtr with tx := none } }
    let d := ws.foldl (fun x m => (x.mtrDone m (fun s => s.kind == 0x30 || s.kind == 0x32)).mtrAsk m 0x34 [t.txn]) d
    d.bondDrop fail t.entry status

/-- Every change held for the bond is abandoned with `status`. -/
def Dev.heldDrop (d : Dev) (fail : Dev → VStage → Nat → Dev) (status : Nat) : Dev :=
  let d := d.txAbort fail status
  ((d.vlt.staging.filter (fun x => x.2.phase == .bond && x.2.origin == 1)).map Prod.fst).foldl (fun x e => x.bondDrop fail e status) d

/-- The manager or standby role is given up: its transaction aborts, its tables go (R387, R389). -/
def Dev.leaveRole (d : Dev) (fail : Dev → VStage → Nat → Dev) (status : Nat) : Dev :=
  let d := if d.bondRole = roleManager then d.heldDrop fail status else d
  if d.bondRole = roleManager || d.bondRole = roleStandby then
    let m := { d.mtr with table := [], requests := [], granting := none, burning := [], tx := none, unapplied := [], hist := [], liveWorkers := 0, outstanding := [], lost := [], want := 0 }
    ({ d with mtr := m }.wr Fld.MTR_LIVE_LIVE 0).wr Fld.MTR_STATUS_CAN_COMMIT 0
  else d

/-- The device enters JOINING (R387): the role is given up, and a FENCE_BOND that waits aborts. -/
def Dev.enterJoining (d : Dev) (fail : Dev → VStage → Nat → Dev) (byReset : Bool) : Dev :=
  let was := d
  let d := d.leaveRole fail stStaleEpoch
  let m := { d.mtr with byReset := byReset, joining := 0, outstanding := d.mtr.outstanding.filter (fun s => s.kind == 0x61) }
  ({ d with mtr := m }.mtrSet (if was.bondRole = roleWorker then roleWorker else roleNone) bsJoining).abortBond was

end Sys2Proof.Machine
end

