-- ==== Sys2Proof/Machine/Chip.lean ====
section
/-! DEFINITION. The whole chip: the device, the backup domain and the fuses; lifecycle, latches in force, the passage of time
(R301, R315, R316, R328). -/

namespace Sys2Proof.Machine

/-- The chip: what a cold reset reaches, what only the loss of both supplies reaches, and what nothing resets. -/
structure Chip where
  dev : Dev
  bd : Backup
  fz : Fuses
deriving DecidableEq, Repr

/-- A command that concerns the device alone. -/
def Chip.onDev (c : Chip) (f : Dev → Dev) : Chip := { c with dev := f c.dev }

/-! ## Lifecycle (R328) -/

/-- The lifecycle state: the first row of R328 that applies. -/
def Chip.lifecycle (c : Chip) : Nat :=
  if c.fz.decommission then 5
  else if c.fz.debug % 2 = 1 then 4
  else if !c.fz.provision then 0
  else if c.bd.locked then 3
  else if c.dev.wdn.setN = 0 then 1
  else 2

/-- In MANUFACTURE the latches are not device states (R330). -/
def Chip.latchesAct (c : Chip) : Bool := c.lifecycle != 0

/-! ## Latches in force (R301) -/

/-- ALARM_N is driven low: LOCKED or a rail freeze in force, or an Erase in progress. -/
def Dev.alarmLow (d : Dev) : Bool := d.tmp.lock || d.tmp.erasing

/-- The latches and the freeze come into force: what the device does under them, ALARM_N, DEVICE_STATE and the lifecycle STATE
with their events. `was` is the device before. -/
def Chip.sync (c : Chip) (was : Dev) : Chip :=
  let d := c.dev
  let tmp := { d.tmp with lock := (c.bd.locked && c.latchesAct) || d.tmp.frozen, erased := c.bd.erased && c.latchesAct }
  let d := { d with tmp := tmp }
  let d := if d.alarmLow == was.alarmLow then d else d.emit (.pin "ALARM_N" (!d.alarmLow))
  let d := d.stateChanged was.deviceState
  let d := if d.rd Fld.WDN_LIFECYCLE_STATE == c.lifecycle then d
    else (d.wr Fld.WDN_LIFECYCLE_STATE c.lifecycle).eventAt Fld.WDN_EVSEQ_SEQ
  { c with dev := d }

/-- `f` applied, then what changed of the latches brought into force. -/
def Chip.watch (c : Chip) (f : Chip → Chip) : Chip := (f c).sync c.dev

/-! ## Time (R304, R312, R316) -/

/-- `n` CD_MGMT cycles pass: the monitor's count, and the time-stamp in 1/32,768 s. -/
def Chip.advance (c : Chip) (n : Nat) : Chip :=
  let p := c.bd.phase + 32768 * n
  let d := { c.dev with tmp := { c.dev.tmp with now := c.dev.tmp.now + n } }
  { c with dev := d, bd := { c.bd with time := (c.bd.time + p / 10 ^ 8) % 2 ^ 63, phase := p % 10 ^ 8 } }

/-- The seconds of the time-stamp. -/
def Chip.seconds (c : Chip) : Nat := c.bd.time / 32768

/-- The TIME word (R320). -/
def timeWord (time : Nat) (backupOnly : Bool) : Word := BitVec.ofNat 64 (time % 2 ^ 63 + (if backupOnly then 2 ^ 63 else 0))

def Chip.timeWord (c : Chip) : Word := Machine.timeWord c.bd.time false

/-! ## Alarms (R304, R305, R313, R320) -/

/-- The fixed class of a source is Erase (R304); a TAMP_IN pin's is by its fuse, and Erase while the bank is unblown (R308). -/
def Chip.eraseClass (c : Chip) (s : Nat) : Bool :=
  if 9 ≤ s && decide (s ≤ 16) then !c.fz.programmed || c.fz.tampClass.testBit (s - 9)
  else s == 0 || s == 3 || s == 4 || s == 6 || s == 8 || s == 17 || s == 21

/-- The source is armed (R304, R307, R311). -/
def Chip.armed (c : Chip) (s : Nat) : Bool :=
  (decide (8 ≤ s) && decide (s ≤ 16)) || s == 21
    || (c.dev.tmp.armed.contains s && !(decide (s < 4) && (c.dev.plt.rstIn || c.dev.plt.perst)) && !(s == 17 && c.lifecycle == 4))

/-- The INFO word (R320). -/
def infoWord (det detail cls src entry : Nat) : Word :=
  BitVec.ofNat 64 (entry % 2 ^ 16 + src % 32 * 2 ^ 16 + cls % 4 * 2 ^ 22 + detail % 256 * 2 ^ 24 + det % 4 * 2 ^ 32)

/-- A ring entry with the next number of the entry count (R320), and the source's sticky flag (R319). -/
def Backup.enter (b : Backup) (a : Alarm) (cls : Nat) (backupOnly : Bool) : Backup :=
  let n := (b.newest + 1) % 2 ^ 16
  let e := (timeWord a.time backupOnly, infoWord a.det a.detail cls a.src n)
  { b with newest := n, ring := tput (fun _ => (0, 0)) b.ring (n % 16) e, flags := b.flags ||| BitVec.ofNat 64 (2 ^ a.src) }

/-- The ring entry that the entry count names. -/
def Backup.entry (b : Backup) (n : Nat) : Word × Word := tget (fun _ => (0, 0)) b.ring (n % 16)

/-- One alarm recorded with the response of its cycle: flag, event number, ring entry, ALARM_EVENT record, lifetime count
(R313, R320, R432). -/
def Chip.record (c : Chip) (cls : Nat) (a : Alarm) : Chip :=
  let bd := c.bd.enter a cls false
  let d := c.dev.eventAt Fld.TMP_EVSEQ_SEQ
  let e := bd.entry bd.newest
  let d := d.askRecord 1 0 5 a.src (bvBytes 8 e.1 ++ bvBytes 8 e.2 ++ bvBytes 8 d.seq)
  let d := d.lifeAdd (510 + a.src) 1
  { c with bd := bd, dev := { d with wdn := { d.wdn with alarms := d.wdn.alarms + 1 } } }

/-- The Backup Key has been zeroised: what was derived from it goes with it (R233, R237, R313). -/
def Dev.dropBk (d : Dev) : Dev :=
  { d with vlt := { d.vlt with roots := { d.vlt.roots with kek := false, partmk := false } } }.wr Fld.VLT_STATUS_BK_PRESENT 0

/-- The arbiter resumes when a freeze has resolved (R282, R306). -/
def Dev.unfreeze (d : Dev) : Dev :=
  if d.tmp.frozen && d.tmp.crossed.isEmpty then
    { d with tmp := { d.tmp with frozen := false }, nvs := { d.nvs with frozen := false } }
  else d

/-- The alarms that entered in one CD_FABRIC cycle are judged together (R313): the response is made due, every alarm is
recorded with it. A judgement that only records ends a freeze that resolved with it. -/
def Chip.judge (c : Chip) : Chip :=
  let b := c.dev.tmp.batch
  let erase := b.any (fun a => c.eraseClass a.src)
  let lockedNow := c.bd.locked && c.latchesAct
  let act := if c.dev.tmp.erasing || (lockedNow && c.bd.erased) then 0
    else if lockedNow then (if erase then 2 else 0)
    else if erase then 2 else 1
  let again := erase && act == 0 && !c.dev.tmp.erasing
  let c := { c with dev := { c.dev with tmp := { c.dev.tmp with batch := [] } } }
  let c := b.foldl (fun x a => x.record act a) c
  let c := if again then { c with bd := { c.bd with bk := none }, dev := c.dev.dropBk } else c
  if act = 2 then c.onDev (fun d => { d with tmp := { d.tmp with eraseDue := true } })
  else if act = 1 then c.onDev (fun d => { d with tmp := { d.tmp with lockDue := true } })
  else c.onDev Dev.unfreeze

/-- With only backup power MESH and TAMP_IN are alive (R317): flag, ring entry with SEQ 0, the Backup Key zeroised, both
latches, whatever the pin's fuse. -/
def Chip.backupAlarm (c : Chip) (a : Alarm) : Chip :=
  let b := c.bd.enter a 2 true
  { c with bd := { b with bk := none, locked := true, erased := true } }

/-- An alarm enters the network. `same` says that another enters in the same CD_FABRIC cycle, to be judged with it. -/
def Chip.alarm (c : Chip) (src det detail : Nat) (same : Bool) : Chip :=
  let a : Alarm := ⟨src, det, detail, c.bd.time, false⟩
  if !c.dev.plt.mainOn then (if decide (8 ≤ src) && decide (src ≤ 16) then c.backupAlarm a else c)
  else if !c.armed src then (if same || c.dev.tmp.batch.isEmpty then c else c.watch Chip.judge)
  else
    let c := { c with dev := { c.dev with tmp := { c.dev.tmp with batch := c.dev.tmp.batch ++ [a] } } }
    if same then c else c.watch Chip.judge

end Sys2Proof.Machine
end

