-- ==== Sys2Proof/Machine/Warden.lean ====
section
/-! DEFINITION. The Warden: its mailbox from every origin, state refusals, quorum authorisation, the audit log, and the
answers to key changes (R322 to R327, R333 to R335, R351). -/

namespace Sys2Proof.Machine

/-! ## Requests (R324) -/

def WReq.code (r : WReq) : Nat := leAt r.bytes 0 2
def WReq.requester (r : WReq) : Nat := leAt r.bytes 2 1
def WReq.paramLen (r : WReq) : Nat := leAt r.bytes 4 2
def WReq.authLen (r : WReq) : Nat := leAt r.bytes 6 2
def WReq.tag (r : WReq) : List Byte := slice r.bytes 8 8
def WReq.bulkAddr (r : WReq) : Nat := leAt r.bytes 0x10 8
def WReq.bulkLen (r : WReq) : Nat := leAt r.bytes 0x18 4
def WReq.epoch (r : WReq) : Nat := leAt r.bytes 0x1C 4
def WReq.params (r : WReq) : List Byte := slice r.bytes 32 r.paramLen
def WReq.auth (r : WReq) : List Byte := slice r.bytes (32 + r.paramLen) r.authLen

/-- Parameters as numbers. -/
def WReq.par (r : WReq) (off n : Nat) : Nat := leAt r.params off n

/-- Header, parameters and authorisation together: what a DIGEST of the audit log covers (R351). -/
def WReq.whole (r : WReq) : List Byte := slice r.bytes 0 (32 + r.paramLen + r.authLen)

/-- A key request, a TR-34 credential request or XKS_IMAGE_ADVANCE, which act for a partition. -/
def isKeyCode (c : Nat) : Bool := c / 256 == 3

/-- A bond request. -/
def isBondCode (c : Nat) : Bool := c / 256 == 6

/-- The header is as R324 lays it out. -/
def WReq.headOk (r : WReq) : Bool :=
  leAt r.bytes 3 1 == 0 && r.paramLen % 8 == 0 && decide (32 + r.paramLen + r.authLen ≤ 4096) && r.bulkAddr % 8 == 0
    && decide (r.bulkLen ≤ 4194304) && (isKeyCode r.code || r.origin == 1 || r.requester == 0) && decide (r.requester < 64)
    && (isBondCode r.code || r.epoch == 0)

/-! ## Responses (R324, R430) -/

/-- The response: header and body. -/
def responseBytes (r : WReq) (status seq : Nat) (body : List Byte) : List Byte :=
  leBytes 2 r.code ++ leBytes 2 status ++ leBytes 4 body.length ++ r.tag ++ leBytes 8 seq ++ List.replicate 8 0 ++ body

/-- 512 words written to a buffer of registers. -/
def Dev.wrWords (d : Dev) (f : Nat → Fld) (bs : List Byte) : Dev :=
  (List.range 512).foldl (fun x w => x.wr (f w) (leAt bs (8 * w) 8)) d

/-- The 64-bit words of an octet string, by number. -/
def wordTab (bs : List Byte) : Tab Word :=
  (List.range 512).foldl (fun t w => tput (fun _ => 0) t w (bytesBv 64 (slice bs (8 * w) 8))) []

/-- The outcome is an event, whose number the response carries; it goes back where the request came from: WDN_RESP with DONE
and vector 1, the output area of the WARDEN_REQUEST command, the I3C mailbox with an in-band interrupt, or the Mortar peer. -/
def Dev.deliverResp (d : Dev) (r : WReq) (status : Nat) (body : List Byte) : Dev :=
  let d := d.eventAt Fld.WDN_EVSEQ_SEQ
  let bs := responseBytes r status d.seq.toNat body
  match r.origin with
  | 0 =>
    let was := d.bit Fld.WDN_MBOX_STATUS_DONE
    let d := ((d.wrWords Fld.WDN_RESP_WORD bs).wr Fld.WDN_MBOX_STATUS_BUSY 0).wr Fld.WDN_MBOX_STATUS_DONE 1
    if was then d else d.fire 0 1
  | 1 =>
    let c := d.cmd r.entry
    if c.st == .free then d
    else (d.sendOut c.part r.entry (.memWrite c.part (dOutAddr c.desc) bs)).finish r.entry status (BitVec.ofNat 128 d.seq.toNat)
  | 2 => { d with plt := { d.plt with i3cResp := wordTab bs, i3cBusy := false, i3cDone := true } }.ibi 2
  | _ => d.mtrSend r.entry 0x62 [status]

/-- The front request is answered and leaves the queue (R325). -/
def Dev.respond (d : Dev) (r : WReq) (status : Nat) (body : List Byte) : Dev :=
  { d with wdn := { d.wdn with queue := d.wdn.queue.drop 1, job := none } }.deliverResp r status body

/-! ## What is accepted when (R326, R397) -/

/-- For each code: accepted in Held, running, Locked, erased. -/
def acceptTable (c : Nat) : Option (Bool × Bool × Bool × Bool) :=
  match c with
  | 0x0101 => some (true, true, true, true)
  | 0x0102 => some (true, true, false, false)
  | 0x0103 => some (true, true, true, true)
  | 0x0104 => some (true, true, true, true)
  | 0x0105 => some (true, true, true, true)
  | 0x0201 => some (true, true, true, true)
  | 0x0202 => some (false, true, false, false)
  | 0x0203 => some (false, true, false, false)
  | 0x0204 => some (true, true, false, false)
  | 0x0205 => some (true, true, false, false)
  | 0x0206 => some (true, true, true, true)
  | 0x0301 => some (false, true, false, false)
  | 0x0302 => some (false, true, false, false)
  | 0x0303 => some (false, true, false, false)
  | 0x0304 => some (true, true, true, true)
  | 0x0305 => some (false, true, false, false)
  | 0x0306 => some (false, true, false, false)
  | 0x0307 => some (false, true, false, false)
  | 0x0308 => some (false, true, false, false)
  | 0x0401 => some (true, true, true, true)
  | 0x0402 => some (true, true, true, true)
  | 0x0403 => some (false, false, true, false)
  | 0x0404 => some (false, false, false, true)
  | 0x0405 => some (false, false, false, true)
  | 0x0406 => some (true, true, true, true)
  | 0x0407 => some (true, true, true, true)
  | 0x0408 => some (false, true, false, false)
  | 0x0409 => some (false, true, false, false)
  | 0x0501 => some (true, true, true, true)
  | 0x0601 => some (false, true, false, false)
  | 0x0602 => some (false, true, false, false)
  | 0x0603 => some (false, true, false, false)
  | 0x0604 => some (true, true, true, true)
  | 0x0605 => some (true, true, true, true)
  | _ => none

/-- A code that is in neither table, or that the I3C port does not carry (R326, R430); a course-bound function has a form of its own
(R325). -/
def WReq.unknown (r : WReq) : Bool :=
  ((acceptTable r.code).isNone && !r.isKm) || (r.origin == 2 && !(r.code == 0x0105 || r.code == 0x0501))

/-- The refusal by the device's state: the first state that applies of H, E, L; else the device is running. The lifecycle
conditions that rows name come first. -/
def Chip.stateRefusal (c : Chip) (code : Nat) : Option Nat :=
  let life := c.lifecycle
  if life = 5 && !(code == 0x0105 || code == 0x0501) then some stBadDescriptor
  else if code = 0x0101 && life != 0 then some stBadDescriptor
  else if code = 0x0103 && life != 4 then some stBadDescriptor
  else match acceptTable code with
    | none => some stUnknownFunction
    | some (h, r, l, e) =>
      if c.dev.held then (if h then none else some stHeld)
      else if c.dev.tmp.erased || c.dev.tmp.erasing then (if e then none else some stErased)
      else if c.dev.tmp.lock then (if l then none else some stLocked)
      else if r then none else some stBadDescriptor

/-! ## The queue (R325) -/

/-- Nothing keeps the Warden from its next request. -/
def Dev.wdnFree (d : Dev) : Bool :=
  d.wdn.running && d.wdn.job.isNone && d.wdn.arch.isNone && d.wdn.backup.isNone
    && (match d.wdn.restore with | some x => x.req.isNone | none => true)

/-- Requests at the front whose code no table gives complete with ST_UNKNOWN_FUNCTION. -/
def Dev.settle : Nat → Dev → Dev
  | 0, d => d
  | n + 1, d => match d.wdn.queue with
    | r :: _ => if d.wdnFree && r.unknown then settle n (d.respond r stUnknownFunction []) else d
    | [] => d

/-- The front request is answered, and those behind it that no table names. -/
def Dev.reply (d : Dev) (r : WReq) (status : Nat) (body : List Byte) : Dev :=
  let d := d.respond r status body
  d.settle d.wdn.queue.length

def Chip.reply (c : Chip) (r : WReq) (status : Nat) (body : List Byte := []) : Chip := { c with dev := c.dev.reply r status body }

/-- A request arrives. -/
def Dev.enqueue (d : Dev) (r : WReq) : Dev :=
  let d := { d with wdn := { d.wdn with queue := d.wdn.queue ++ [{ r with s0 := d.wdn.alarms }] } }
  d.settle d.wdn.queue.length

/-- After something that ends commands: their forms leave the mailbox, and the front is settled. -/
def Dev.wdnTidy (d : Dev) : Dev :=
  let d := d.kmDrop
  d.settle d.wdn.queue.length

/-- The Warden takes a course-bound function: its form is at the front, its command is admitted, and the Warden is free (R325). -/
def Dev.kmTurn (d : Dev) (e f : Nat) : Bool :=
  (d.cmd e).st == .admitted && dFunction (d.cmd e).desc == f && d.wdnFree
    && (match d.wdn.queue with | r :: _ => r.isKm && r.entry == e && r.code == f | [] => false)
    && !d.nvs.frozen && !d.tmp.lock && d.canSend (d.cmd e).part

/-- The course-bound function at the front has been dealt with: its command ends with `status`. -/
def Dev.kmDone (d : Dev) (e status result : Nat) : Dev :=
  let d := { d with wdn := { d.wdn with queue := d.wdn.queue.drop 1, job := none } }.finish e status (BitVec.ofNat 128 result)
  d.settle d.wdn.queue.length

def Chip.finishCmd (c : Chip) (e status : Nat) (result : Nat := 0) : Chip := c.onDev (fun d => d.kmDone e status result)

/-- A write of WDN_MBOX_CTRL.SUBMIT: the request in WDN_REQ joins the queue; ignored, with CFG_REJECT, while BUSY. -/
def Dev.mboxSubmit (d : Dev) : Dev :=
  if d.bit Fld.WDN_MBOX_STATUS_BUSY then d.wr Fld.WDN_MBOX_STATUS_CFG_REJECT 1
  else
    let bs := (List.range 512).flatMap (fun w => bvBytes 8 (d.reg (Fld.WDN_REQ_WORD w).reg))
    (d.wr Fld.WDN_MBOX_STATUS_BUSY 1).enqueue ⟨0, 0, bs, 0⟩

/-- A write of the I3C mailbox's SUBMIT (R430). -/
def Dev.i3cSubmit (d : Dev) : Dev :=
  if d.plt.i3cBusy then d
  else
    let bs := (List.range 512).flatMap (fun w => bvBytes 8 (tget (fun _ => 0) d.plt.i3cReq w))
    { d with plt := { d.plt with i3cBusy := true } }.enqueue ⟨2, 0, bs, 0⟩

/-- The front request has code `code` and the Warden is free for it: `f` serves it, unless its header is malformed or the
device's state refuses it. A rail freeze holds every request that writes to the store (R282, R306); `dry` ones write
nothing. -/
def Chip.serve (c : Chip) (code : Nat) (dry : Bool) (f : Chip → WReq → Chip) : Chip :=
  match c.dev.wdn.queue with
  | [] => c
  | r :: _ =>
    if !c.dev.wdnFree || r.code != code || (c.dev.nvs.frozen && !dry) then c
    else match c.stateRefusal code with
      | some s => c.reply r s
      | none => if r.headOk then f c r else c.reply r stBadDescriptor

/-- No authorisation and no bulk area, and PARAM_LEN as given. -/
def WReq.plain (r : WReq) (plen : Nat) : Bool := r.paramLen == plen && r.authLen == 0 && r.bulkLen == 0

/-! ## The audit log (R351) -/

/-- The retained entries. -/
def Dev.auditRecs (d : Dev) : List Rec := d.nvs.recs.filter (fun r => r.region == 0 && r.type == 6 && newest d.nvs.recs r)

/-- ENTRY of an AUDIT record. -/
def Rec.entryNo (r : Rec) : Nat := leAt r.payload 0 8

/-- The retained entry before number `n`. -/
def Dev.auditBefore (d : Dev) (n : Nat) : Option Rec :=
  let rs := d.auditRecs.filter (fun r => decide (r.entryNo < n))
  rs.find? (fun r => rs.all (fun x => decide (x.entryNo ≤ r.entryNo)))

/-- The newest AUDIT record's CHAIN, or what the first entry chains from. -/
def Dev.auditChain (d : Dev) : List Byte :=
  match d.auditBefore (2 ^ 64) with
  | some r => slice r.payload 0x50 48
  | none => Config.sha384 d.deviceId

/-- A link among the retained entries does not hold (R351). -/
def Dev.auditBroken (d : Dev) : Bool :=
  d.auditRecs.any (fun r => match d.auditBefore r.entryNo with
    | none => false
    | some p => slice r.payload 0x50 48 != slice (Config.sha384 (slice p.payload 0x50 48 ++ slice r.payload 0 0x50)) 0 48)

/-- An AUDIT entry can be made durable. -/
def Dev.canAudit (d : Dev) : Bool :=
  d.bit Fld.NVS_STATUS_RECOVERED && d.vlt.roots.storage && !d.nvs.frozen && !d.nvsRefuses (.record ⟨0, 6, 0, [], 0, 0, true, false⟩)

/-- The program-signature journal takes no record (R278, R288). -/
def Dev.signFull (d : Dev) : Bool := d.nvsRefuses (.record ⟨1, 0x20, 0, [], 0, 0, true, false⟩)

/-- An entry of the audit log, durable: its number from counter 3, a sequence number, the TIME word, CODE, STATUS, REQUESTER,
ORIGIN, DIGEST and CHAIN. -/
def Chip.audit (c : Chip) (code status requester origin : Nat) (digest : List Byte) : Chip :=
  if !c.dev.canAudit then c
  else
    let prev := c.dev.auditChain
    let d := (c.dev.nvsNow (.increment 3)).event
    let n := d.ctrValue 3
    let head := leBytes 8 n ++ bvBytes 8 d.seq ++ bvBytes 8 c.timeWord ++ leBytes 2 code ++ leBytes 2 status
      ++ [BitVec.ofNat 8 requester, BitVec.ofNat 8 origin, 0, 0] ++ slice digest 0 48
    { c with dev := d.nvsNow (.record ⟨0, 6, n % 4096, head ++ Config.sha384 (prev ++ head), 0, 0, true, false⟩) }

/-- The entry of a request, before its effect. -/
def Chip.auditReq (c : Chip) (r : WReq) (status : Nat) : Chip := c.audit r.code status r.requester r.origin (Config.sha384 r.whole)

/-- A request that changes state: its entry first, then `f`; a request whose entry cannot be durable has no effect. -/
def Chip.audited (c : Chip) (r : WReq) (f : Chip → Chip) : Chip :=
  if c.dev.canAudit then f (c.auditReq r stOk) else c.reply r stQuota

/-- The entry of an event that is no request: R351 gives its ORIGIN alone, and what its CODE, STATUS, REQUESTER and DIGEST hold is left
open (a free value; notes/assumptions/44). -/
def Chip.auditEvent (c : Chip) (origin : Nat) : Chip :=
  let n := c.dev.nfree
  let w := (Config.freeWord n).toNat
  (c.onDev Dev.takeFree).audit (w % 2 ^ 16) (w / 2 ^ 16 % 2 ^ 16) (w / 2 ^ 32 % 2 ^ 8) origin (Config.freeBytes n 48)

/-- What the Warden observes of the alarm network (ORIGIN 5). -/
def Chip.auditAlarm (c : Chip) : Chip := if c.dev.wdn.running then c.auditEvent 5 else c

/-! ## Quorum authorisation (R333 to R335) -/

/-- KEY_ID of a public key. -/
def keyId (pub : List Byte) : List Byte := slice (Config.sha384 pub) 0 8

/-- Entry `k` of an authorisation: KEY_ID and signature. -/
def authEntry (a : List Byte) (k : Nat) : List Byte × List Byte := (slice a (0x50 + 104 * k) 8, slice a (0x58 + 104 * k) 96)

def authCount (a : List Byte) : Nat := leAt a 2 1

/-- The entries of an authorisation. -/
def authEntries (a : List Byte) : List (List Byte × List Byte) := (List.range (authCount a)).map (authEntry a)

/-- Check 4 of R334: every entry of a member of the set has a valid signature. -/
def authSigned (keys : List (List Byte)) (a : List Byte) : Bool :=
  (authEntries a).all (fun e => keys.all (fun k => keyId k != e.1 || Config.verify 0 k (slice a 0 0x50) e.2))

/-- Check 5: how many distinct members have a valid signature. -/
def authMembers (keys : List (List Byte)) (a : List Byte) : Nat :=
  (keys.filter (fun k => (authEntries a).any (fun e => keyId k == e.1 && Config.verify 0 k (slice a 0 0x50) e.2))).length

/-- Check 1: the layout. -/
def authLaid (a : List Byte) : Bool :=
  decide (1 ≤ authCount a) && decide (authCount a ≤ 16) && a.length == 0x50 + 104 * authCount a && leAt a 3 5 == 0

/-- Check 2: CODE, DEVICE_ID and REQ_DIGEST. -/
def Dev.authNames (d : Dev) (code : Nat) (content a : List Byte) : Bool :=
  leAt a 0 2 == code && slice a 8 16 == d.deviceId && slice a 0x20 48 == slice (Config.sha384 content) 0 48

/-- The checks of R334 in order; `m` of `keys` must have signed, `ctr` is the counter block. None when all pass. -/
def Dev.authCheck (d : Dev) (r : WReq) (bulk : List Byte) (ctr : Nat) (sets : List (Nat × List (List Byte))) : Option Nat :=
  let a := r.auth
  if !authLaid a then some stBadDescriptor
  else if !d.authNames r.code (r.params ++ bulk) a then some stAuthFail
  else if leAt a 0x18 8 != d.ctrValue ctr then some stStaleEpoch
  else if !sets.all (fun s => authSigned s.2 a) then some stAuthFail
  else if !sets.all (fun s => decide (1 ≤ s.1) && decide (s.1 ≤ authMembers s.2 a)) then some stAuthFail
  else none

/-- The recorded custodian set as the authority. -/
def Dev.authority (d : Dev) : List (Nat × List (List Byte)) := [(d.wdn.setM, d.wdn.keys)]

/-- A request under quorum: the checks, then its audit entry, then the counter (R335), then `f`. -/
def Chip.quorumed (c : Chip) (r : WReq) (bulk : List Byte) (ctr : Nat) (f : Chip → Chip) : Chip :=
  match c.dev.authCheck r bulk ctr c.dev.authority with
  | some s => c.reply r s
  | none => c.audited r (fun x => f (x.onDev (fun d => d.nvsNow (.increment ctr))))

/-- A vendor authorisation (R332): the 80 bytes, then both signatures. -/
def Dev.vendorCheck (d : Dev) (r : WReq) (bulk : List Byte) (counter : Nat) : Option Nat :=
  if bulk.length != 80 + 96 + 4627 || leAt bulk 3 5 != 0 then some stBadDescriptor
  else if !d.authNames r.code r.params bulk then some stAuthFail
  else if leAt bulk 0x18 8 != counter then some stStaleEpoch
  else if Config.verify 0 Config.vendorKey (slice bulk 0 80) (slice bulk 80 96)
      && Config.verify 1 Config.vendorKey (slice bulk 0 80) (slice bulk 176 4627) then none
  else some stAuthFail

/-- The read of a bulk area (R324): with the physical function's requester ID. -/
def Dev.bulkRead (d : Dev) (r : WReq) : Dev := if r.bulkLen = 0 then d else d.emit (.memRead 0 r.bulkAddr r.bulkLen)

/-! ## Vault changes asked for by the Warden's current request -/

/-- The change is asked for, and the request waits for its end (R236). -/
def Chip.change (c : Chip) (r : WReq) (v : VStage) : Chip :=
  c.onDev (fun d => { d.changeAsk v with wdn := { d.wdn with job := some r } })

/-- The callback with which the vault reports the end of a change: noted, answered by the Warden. -/
def Dev.noteAnswer (d : Dev) (v : VStage) (status : Nat) : Dev :=
  { d with wdn := { d.wdn with answers := d.wdn.answers ++ [(v, status)] } }

/-- The response body of a key request (R242): handle with the slot's generation, attribute word, KCV. -/
def Dev.keyResponse (d : Dev) (slot : Nat) : List Byte :=
  let x := d.slot slot
  bvBytes 8 (mkHandle 1 slot x.gen) ++ bvBytes 8 x.attr ++ bvBytes 8 x.kcv

/-! ## STATUS_QUERY (R327) -/

/-- The configuration version in force, 0 if none. -/
def Dev.configVersion (d : Dev) : Nat := if d.wdn.config.isEmpty then 0 else leAt d.wdn.config 4 4

/-- TMP_STATE as it reads. -/
def Chip.tmpState (c : Chip) : Word :=
  setF (setF (setF (setF (setF 0 0 1 c.bd.locked.toNat) 1 1 c.bd.erased.toNat) 2 1 c.dev.tmp.erasing.toNat) 3 1 c.dev.tmp.frozen.toNat)
    4 1 c.bd.bk.isSome.toNat

/-- The 96-byte status block. -/
def Chip.statusBlock (c : Chip) : List Byte :=
  let d := c.dev
  d.deviceId ++ [BitVec.ofNat 8 c.lifecycle, BitVec.ofNat 8 c.fz.debug, BitVec.ofNat 8 d.wdn.setM, BitVec.ofNat 8 d.wdn.setN]
    ++ leBytes 4 d.configVersion ++ leBytes 8 (d.ctrValue 0) ++ leBytes 8 (d.ctrValue 2) ++ bvBytes 8 c.tmpState ++ bvBytes 8 c.bd.flags
    ++ bvBytes 8 c.timeWord ++ leBytes 8 (d.ctrValue 3) ++ leBytes 4 (d.rd Fld.WDN_LIFECYCLE_PATCH_VERSION) ++ leBytes 4 d.bondEpoch
    ++ List.replicate 16 0

def Chip.statusQuery (c : Chip) : Chip :=
  c.serve 0x0105 true (fun c r => if r.plain 0 then c.reply r stOk c.statusBlock else c.reply r stBadDescriptor)

/-! ## AUDIT_READ (R352, R430) -/

/-- The entries `first` to `first + n - 1` that the log retains. -/
def Dev.auditEntries (d : Dev) (first n : Nat) : List Byte :=
  ((List.range n).map (fun k => match d.newestRec 0 6 ((first + k) % 4096) with
    | some r => if leAt r.payload 0 8 = first + k then r.payload else []
    | none => [])).flatten

/-- The response: entries written, newest ENTRY, and the identity key's signature over its CHAIN and number. -/
def Dev.auditSig (d : Dev) (written : Nat) : List Byte :=
  let n := d.ctrValue 3
  leBytes 8 written ++ leBytes 8 n ++ slice (Config.sign 0 d.attestSeed (d.auditChain ++ leBytes 8 n)) 0 96

def Chip.auditRead (c : Chip) : Chip :=
  c.serve 0x0501 true (fun c r =>
    if r.paramLen != 16 || r.authLen != 0 || (r.origin == 2 && r.bulkAddr != 0) then c.reply r stBadDescriptor
    else
      let room := if r.origin = 2 then 30 else r.bulkLen / 128
      let bs := c.dev.auditEntries (r.par 0 8) (min (r.par 8 8) (min room 4096))
      let body := c.dev.auditSig (bs.length / 128)
      if r.origin = 2 then c.reply r stOk (body ++ bs)
      else (c.onDev (fun d => if bs.isEmpty then d else d.send 0 (.memWrite 0 r.bulkAddr bs))).reply r stOk body)

/-! ## Key requests (R241 to R244) -/

/-- TARGET of a key request names a loadable slot of the requester's range. -/
def Dev.ownTarget (d : Dev) (n : Nat) (hd : Word) : Bool := decide (hSlot hd < 0x1C000) && d.ownsSlot n (hSlot hd)

/-- A standby or a worker of a bond changes no slot (R388). -/
def Dev.slaved (d : Dev) : Bool := d.rd Fld.MTR_STATUS_ROLE == 2 || d.rd Fld.MTR_STATUS_ROLE == 3
  || (d.rd Fld.MTR_EPOCH_MEMBER_ID != 0 && d.rd Fld.MTR_STATUS_ROLE == 0)

/-- KEY_DELETE issued by partition 0 may name any loadable slot (R228). -/
def WReq.anySlot (r : WReq) (hd : Word) : Bool := r.code == 0x0302 && r.requester == 0 && decide (hSlot hd < 0x1C000)

/-- The first three checks of R242 after the state: layout, range, generation. `gen` says whether the generation matters. -/
def Dev.keyReqCheck (d : Dev) (r : WReq) (gen attr : Bool) : Option Nat :=
  let hd := bytesBv 64 (slice r.params 0 8)
  let a := bytesBv 64 (slice r.params 8 8)
  if !r.plain 32 || r.par 0x10 8 != 0 || r.par 0x18 8 != 0 || hKind hd != 1 || getF hd 17 15 != 0 || getF hd 48 12 != 0
      || (if attr then aScoped a || aPresent a || aPart a != 0 || getF a 22 10 != 0 else a != 0) then some stBadDescriptor
  else if !(d.ownTarget r.requester hd || r.anySlot hd) || (gen && d.slaved) then some stPartition
  else if gen && (d.slot (hSlot hd)).gen != hGen hd then some stStaleEpoch
  else none

/-- The attribute word a request for partition `n` gives a slot: PRESENT set, PARTITION its owner. -/
def ownAttr (n : Nat) (a : Word) : Word := setF (setF a 15 1 1) 16 6 n

/-- A generated key: AES and TDEA keys whole from instance C, private keys by the crypto assist (R243). Free value `n`: of a TDEA key
the draw that the repetitions end with, whose halves differ; where the free octets do not show two that differ, one bit of them is
turned, so that what is stored is any draw that R243 lets stand. -/
def newKey (alg n : Nat) : List Byte :=
  let k := storedKey alg (Config.freeBytes n (algBytes alg))
  if isTdea alg && tdeaEqual k then storedKey alg (k.set 8 ((k.getD 8 0) ^^^ 2)) else k

/-- The attribute refusals of a load (R242). -/
def loadAttrOk (slot : Nat) (a : Word) : Bool := attrOk a && !(aPersistent a && decide (0x10000 ≤ slot))

def Chip.keyGenerate (c : Chip) : Chip :=
  c.serve 0x0301 false (fun c r =>
    match c.dev.keyReqCheck r true true with
    | some s => c.reply r s
    | none =>
      let slot := hSlot (bytesBv 64 (slice r.params 0 8))
      let a := ownAttr r.requester (bytesBv 64 (slice r.params 8 8))
      if !loadAttrOk slot a then c.reply r stKeyAttr
      else if c.dev.rngFailed then c.reply r stRngUnavailable
      else if !c.dev.rngServes 0 then c
      else c.audited r (fun c =>
        let old := (c.dev.slot slot).attr
        (c.change r (mkChange slot r.requester (newKey (aAlg a) c.dev.nfree) a true (aPersistent old || aPersistent a) 1)).onDev
          (fun d => d.draw 0 2 (algBytes (aAlg a)))))

def Chip.keyDelete (c : Chip) : Chip :=
  c.serve 0x0302 false (fun c r =>
    match c.dev.keyReqCheck r true false with
    | some s => c.reply r s
    | none =>
      let slot := hSlot (bytesBv 64 (slice r.params 0 8))
      let old := (c.dev.slot slot).attr
      if !aPresent old then c.reply r stKeyAbsent
      else c.audited r (fun c => c.change r (mkChange slot (aPart old) [] 0 true (aPersistent old) 1)))

/-- The changes that R244 permits, of the present word `o` to `a`, in slot `slot`. -/
def setAttrOk (slot : Nat) (o a : Word) : Bool :=
  getF o 0 8 == getF a 0 8 && aUsage o == aUsage a && aGlaze o == aGlaze a
    && (aExportable o || !aExportable a)
    && (if aLimited o then aLimited a && decide (aUses a ≤ aUses o)
        else (!aLimited a && aUses a == 0) || (aLimited a && !aPersistent o && !aPersistent a))
    && (aPersistent o == aPersistent a || decide (slot < 0x10000))

def Chip.keySetAttr (c : Chip) : Chip :=
  c.serve 0x0303 false (fun c r =>
    match c.dev.keyReqCheck r true true with
    | some s => c.reply r s
    | none =>
      let slot := hSlot (bytesBv 64 (slice r.params 0 8))
      let x := c.dev.slot slot
      let a := ownAttr r.requester (bytesBv 64 (slice r.params 8 8))
      if !aPresent x.attr then c.reply r stKeyAbsent
      else if !loadAttrOk slot a || !setAttrOk slot x.attr a then c.reply r stKeyAttr
      else c.audited r (fun c =>
        c.change r (mkChange slot r.requester x.key a (aPersistent x.attr != aPersistent a) (aPersistent x.attr || aPersistent a) 1)))

def Chip.keyQuery (c : Chip) : Chip :=
  c.serve 0x0304 true (fun c r =>
    match c.dev.keyReqCheck r false false with
    | some s => c.reply r s
    | none => c.reply r stOk (c.dev.keyResponse (hSlot (bytesBv 64 (slice r.params 0 8)))))

/-! ## XKS_IMAGE_ADVANCE (R264) -/

def Chip.imageAdvance (c : Chip) : Chip :=
  c.serve 0x0305 false (fun c r =>
    let n := r.par 0 1
    if !r.plain 8 || r.par 1 7 != 0 || 64 ≤ n || (r.origin == 1 && n != r.requester) then c.reply r stBadDescriptor
    else c.audited r (fun c =>
      let e := c.dev.rd (Fld.XKS_IMAGE_EPOCH_EPOCH n)
      let e' := (e + 1) % 2 ^ 32
      (c.onDev (fun d =>
        ((d.nvsNow (.record ⟨0, 4, n, leBytes 4 e' ++ leBytes 4 e, 0, 0, true, false⟩)).wr (Fld.XKS_IMAGE_EPOCH_EPOCH n) e').wr
          (Fld.XKS_IMAGE_EPOCH_FLOOR n) e)).reply r stOk (leBytes 4 e' ++ leBytes 4 e)))

/-! ## WARDEN_REQUEST (R93) -/

/-- The largest response of a code that a key-management course carries, 0 for any other code. -/
def kmRoom (code : Nat) : Nat := match code with
  | 0x0301 => 56 | 0x0302 => 56 | 0x0303 => 56 | 0x0304 => 56 | 0x0305 => 40 | 0x0306 => 464 | 0x0307 => 32 | 0x0308 => 80
  | 0x0105 => 128 | _ => 0

/-- What a WARDEN_REQUEST is refused for before its input area is read: reserved fields, then its length (R93, R97). -/
def wardenRequestDesc (c : Cmd) : Option Nat :=
  if dFuncFlags c.desc != 0 || !allZero (dParams c.desc) then some stBadDescriptor
  else if dInLen c.desc < 32 || 4096 < dInLen c.desc then some stLength
  else none

/-- The refusals of R93 that the request itself brings, in its order. -/
def wardenRequestRefusal (c : Cmd) (r : WReq) : Option Nat :=
  let n := dInLen c.desc
  if kmRoom r.code = 0 then some stUnknownFunction
  else if dOutLen c.desc < kmRoom r.code then some stLength
  else if r.requester != c.part then some stBadDescriptor
  else if r.bulkAddr != 0 || r.bulkLen != 0 then some stBadDescriptor
  else if n != 32 + r.paramLen + r.authLen then some stBadDescriptor
  else none

/-- An admitted Warden function of the given identifier on entry `e` that nothing has begun. -/
def Dev.wardenCmd (d : Dev) (e f : Nat) : Bool := (d.cmd e).st == .admitted && dFunction (d.cmd e).desc == f

/-- The command in entry `e` is refused by the Warden. -/
def Dev.refuseCmd (d : Dev) (e status : Nat) : Dev := (d.finish e status 0)

/-- WARDEN_REQUEST: the request in the input area `bs` joins the Warden's queue for its partition. -/
def Dev.wardenRequest (d : Dev) (e : Nat) (bs : List Byte) : Dev :=
  let c := d.cmd e
  if !d.wardenCmd e 0x7F || !d.wdn.running then d
  else match wardenRequestDesc c with
  | some s => d.refuseCmd e s
  | none =>
    if bs.length != dInLen c.desc || !d.canSend c.part then d
    else
    let r : WReq := ⟨1, e, bs, 0⟩
    let d := (d.emit (.memRead c.part (dInAddr c.desc) (dInLen c.desc))).setCmd e { c with st := .running }
    match wardenRequestRefusal c r with
    | some s => d.refuseCmd e s
    | none => d.enqueue r

end Sys2Proof.Machine
end

