-- ==== Sys2Proof/Machine/Kmf.lean ====
section
/-! DEFINITION. The Warden functions of the key-management course: key blocks and TR-34 (R117 to R120, R348). -/

namespace Sys2Proof.Machine

/-! ## Shared checks (R95, R96) -/

/-- The key positions from `k` on, OPTIONS above bit `o` and DATA from octet `n` of the context are zero (R95). -/
def ctxRestZero (w : BitVec 1024) (k o n : Nat) : Bool :=
  (List.range 4).all (fun j => decide (j < k) || cKey w j == 0) && cOptions w / 2 ^ o == 0 && allZero ((cData w).drop n)

/-- An area is "none" (R95). -/
def noInput (w : BitVec 512) : Bool := dInAddr w == 0 && dInLen w == 0
def noOutput (w : BitVec 512) : Bool := dOutAddr w == 0 && dOutLen w == 0

/-- A key of the context as the Warden reads it (R96): absent, partition, generation, integrity. `m` is what the read meets. -/
def Dev.wardenKey (d : Dev) (part : Nat) (hd : Word) (m : Nat) : Dev × Except Nat KeyRef :=
  if hd = 0 then (d, .error stKeyAbsent) else d.keyFetch 4096 part hd m

/-! ## X9.143 headers (R117, R118) -/

def chr (c : Char) : Nat := c.toNat

/-- Decimal digits as a number, none when an octet is no digit. -/
def decOf : List Byte → Option Nat
  | bs => bs.foldl (fun a b => match a with
      | none => none
      | some v => if decide (48 ≤ b.toNat) && decide (b.toNat ≤ 57) then some (10 * v + (b.toNat - 48)) else none) (some 0)

/-- Check 1 of R117: header syntax and version, D under an AES KBPK, B under a TDEA one; well-formed optional blocks. -/
def kbHeaderOk (aesKbpk : Bool) (bs : List Byte) : Bool :=
  leAt bs 0 1 == (if aesKbpk then chr 'D' else chr 'B') && decOf (slice bs 1 4) == some bs.length && (decOf (slice bs 12 2)).isSome
    && (leAt bs 11 1 == chr 'E' || leAt bs 11 1 == chr 'N' || leAt bs 11 1 == chr 'S') && slice bs 14 2 == [0x30, 0x30]
    && Config.keyBlockOptional bs

/-- The slot usage and result-glaze of R118 for key usage `u0 u1` and mode `md`; `want` is USAGE. None for every other
combination. -/
def kbMap (u0 u1 md want : Nat) : Option (Nat × Bool) :=
  let digit := if 48 ≤ u1 then u1 - 48 else 99
  let pick (glaze : Bool) : Option (Nat × Bool) :=
    if md = chr 'E' then some (useEnc, glaze)
    else if md = chr 'D' then some (useDec, glaze)
    else if md = chr 'B' && (want == useEnc || want == useDec) then some (want, glaze) else none
  if u0 = chr 'P' && digit = 0 then pick true
  else if u0 = chr 'V' && digit ≤ 2 then
    (if md = chr 'N' || md = chr 'C' || md = chr 'V' then some (useDerive, true) else none)
  else if (u0 = chr 'B' && digit = 0) || (u0 = chr 'E' && digit ≤ 6) then (if md = chr 'X' then some (useDerive, false) else none)
  else if (u0 = chr 'M' && digit ≤ 8) || (u0 = chr 'C' && digit = 0) then
    (if md = chr 'C' || md = chr 'G' then some (useEnc, false) else none)
  else if u0 = chr 'D' && digit = 0 then pick false
  else if u0 = chr 'K' && digit ≤ 1 then
    (if md = chr 'E' || md = chr 'D' || md = chr 'B' then some (useWrap, false) else none)
  else none

/-- ALG of a key block's algorithm letter and key length. -/
def kbAlg (a len : Nat) : Option Nat :=
  if a = chr 'A' then (match len with | 16 => some 1 | 24 => some 2 | 32 => some 3 | _ => none)
  else if a = chr 'T' then (match len with | 16 => some 4 | 24 => some 5 | _ => none)
  else none

/-- Check 3 of R117: the attribute word of the slot, or none (ST_KEY_ATTR), a TDEA bundle whose first two keys are equal among them
(R226). `hdr` is the block's 16-octet header. -/
def kbAttr (part slot : Nat) (hdr key : List Byte) (usage : Nat) (persistent : Bool) : Option Word :=
  match kbAlg (leAt hdr 7 1) key.length, kbMap (leAt hdr 5 1) (leAt hdr 6 1) (leAt hdr 8 1) usage with
  | some alg, some (u, glaze) =>
    let a := setF (setF (setF (setF (setF 0 0 8 alg) 8 2 u) 10 1 glaze.toNat) 11 1 (leAt hdr 11 1 == chr 'E').toNat) 12 1 persistent.toNat
    let a := ownAttr part a
    if u = usage && loadAttrOk slot a && !(isTdea alg && tdeaEqual (storedKey alg key)) then some a else none
  | _, _ => none

/-- The reserved fields of an import's descriptor (R95, R117): PARAMS beyond ATTR bit 0, function flags, TARGET's form. DESIGN CHOICE: a
TARGET that is malformed or of a KIND other than 1 is one of them; R117 names no status for it, R242 gives this one to key requests. -/
def importDescOk (w : BitVec 512) : Bool :=
  let p := dParams w
  let hd := bytesBv 64 (slice p 0 8)
  dFuncFlags w == 0 && decide (leAt p 8 1 ≤ 3) && decide (leAt p 9 1 ≤ 1) && allZero (p.drop 10) && hKind hd == 1 && getF hd 17 15 == 0
    && getF hd 48 12 == 0 && noOutput w

/-- Check 5: TARGET's partition and generation; a bond's standby or worker changes no slot (R388). -/
def Dev.importTarget (d : Dev) (part : Nat) (hd : Word) : Option Nat :=
  if !d.ownTarget part hd || d.slaved then some stPartition
  else if (d.slot (hSlot hd)).gen != hGen hd then some stStaleEpoch
  else none

/-- The input area has been read. -/
def Dev.readIn (d : Dev) (e : Nat) : Dev :=
  let c := d.cmd e
  (d.setCmd e { c with st := .running }).emit (.memRead c.part (dInAddr c.desc) (dInLen c.desc))

/-- The key goes to the vault and the command waits for the change; its audit entry comes first. -/
def Chip.install (c : Chip) (e code : Nat) (input key : List Byte) (attr : Word) (slot : Nat) : Chip :=
  let part := (c.dev.cmd e).part
  match c.dev.wdn.queue with
  | [] => c
  | r :: _ =>
    if !c.dev.canAudit then c.finishCmd e stQuota
    else
    let old := (c.dev.slot slot).attr
    (c.audit code stOk part 1 (Config.sha384 input)).change r (mkChange slot part key attr true (aPersistent old || aPersistent attr) 1)

/-- KEYBLOCK_IMPORT (R117, R230): `bs` is the input area, `m` what the read of the KBPK meets. A check value that differs abandons the
change after its staging (R236), all within this step. -/
def Chip.keyblockImport (c : Chip) (e : Nat) (bs : List Byte) (m : Nat) : Chip :=
  let x := c.dev.cmd e
  let p := dParams x.desc
  if !c.dev.kmTurn e 0x70 || bs.length != dInLen x.desc then c
  else if !importDescOk x.desc || !ctxRestZero x.ctx 1 0 0 then c.finishCmd e stBadDescriptor
  else if dInLen x.desc < 16 || 4096 < dInLen x.desc then c.finishCmd e stLength
  else
    let k := c.dev.wardenKey x.part (cKey x.ctx 0) m
    let c := { c with dev := k.1.readIn e }
    match k.2 with
    | .error s => c.finishCmd e s
    | .ok k =>
      if aUsage k.attr != useWrap || !(isAes (aAlg k.attr) || isTdea (aAlg k.attr)) then c.finishCmd e stKeyAttr
      else if !usesLeft k.attr then c.finishCmd e stUseLimit
      else if !kbHeaderOk (isAes (aAlg k.attr)) bs then c.finishCmd e stFormat
      else match Config.keyBlockOpen k.key bs with
        | none => c.finishCmd e stAuthFail
        | some key =>
          let hd := bytesBv 64 (slice p 0 8)
          match kbAttr x.part (hSlot hd) (slice bs 0 16) key (leAt p 8 1) (leAt p 9 1 == 1) with
          | none => c.finishCmd e stKeyAttr
          | some a =>
            let kcv := bvBytes 8 (keyCheckValue (aAlg a) (storedKey (aAlg a) key))
            if (match Config.keyBlockKc bs with | some v => slice kcv 0 v.length != v | none => false) then
              (c.onDev (fun d => d.inc Fld.VLT_CHANGES_ABANDONED 1)).finishCmd e stAuthFail
            else match c.dev.importTarget x.part hd with
              | some s => c.finishCmd e s
              | none => (c.onDev (fun d => d.takeUse k)).install e 0x70 bs key a (hSlot hd)

/-- The strength order of R119: bits of security of a KBPK and of a key. -/
def keyStrength (alg : Nat) : Nat := match alg with
  | 3 => 256 | 2 => 192 | 1 => 128 | 5 => 112 | 4 => 80 | _ => 0

/-- KEYBLOCK_EXPORT (R119, R230): KEY1 wrapped under KEY0. `m`, `m1` are what the reads of the two keys meet. -/
def Chip.keyblockExport (c : Chip) (e m m1 : Nat) : Chip :=
  let x := c.dev.cmd e
  let p := dParams x.desc
  if !c.dev.kmTurn e 0x71 then c
  else if dFuncFlags x.desc != 0 || !allZero (p.drop 5) || !noInput x.desc || !ctxRestZero x.ctx 2 0 0 then c.finishCmd e stBadDescriptor
  else
    let k := c.dev.wardenKey x.part (cKey x.ctx 0) m
    let s := k.1.wardenKey x.part (cKey x.ctx 1) m1
    let c := { c with dev := s.1.modCmd e (fun y => { y with st := .running }) }
    match k.2, s.2 with
    | .error st, _ => c.finishCmd e st
    | _, .error st => c.finishCmd e st
    | .ok k, .ok s =>
      let alg := aAlg s.attr
      if aUsage k.attr != useWrap || !(isAes (aAlg k.attr) || isTdea (aAlg k.attr)) || !(isAes alg || isTdea alg) || !aExportable s.attr
          || decide (keyStrength (aAlg k.attr) < keyStrength alg)
          || kbMap (leAt p 0 1) (leAt p 1 1) (leAt p 2 1) (aUsage s.attr) != some (aUsage s.attr, aGlaze s.attr) then c.finishCmd e stKeyAttr
      else if !usesLeft k.attr || !usesLeft s.attr then c.finishCmd e stUseLimit
      else
        let ver := if isAes (aAlg k.attr) then chr 'D' else chr 'B'
        let hdr := [BitVec.ofNat 8 ver] ++ slice p 0 2 ++ [BitVec.ofNat 8 (if isAes alg then chr 'A' else chr 'T')] ++ slice p 2 3
          ++ asciiBytes "N" ++ asciiBytes "KC"
        let blk := Config.keyBlockWrap k.key hdr s.key
        if dOutLen x.desc < blk.length then c.finishCmd e stLength
        else (c.onDev (fun d => ((d.takeUse k).takeUse s).sendOut x.part e (.memWrite x.part (dOutAddr x.desc) blk))).finishCmd e stOk blk.length

/-! ## TR-34 (R120, R348) -/

/-- TR34_NONCE: 16 octets from instance C replace any earlier number of the partition. -/
def Chip.tr34Nonce (c : Chip) (e : Nat) : Chip :=
  let x := c.dev.cmd e
  if !c.dev.kmTurn e 0x78 then c
  else if dFuncFlags x.desc != 0 || !allZero (dParams x.desc) || !noInput x.desc || !noOutput x.desc then c.finishCmd e stBadDescriptor
  else if c.dev.rngFailed then c.finishCmd e stRngUnavailable
  else if !c.dev.rngServes 0 then c
  else if !c.dev.canAudit then c.finishCmd e stQuota
  else
    let n := c.dev.nfree
    let c := c.audit 0x78 stOk x.part 1 (Config.sha384 (bvBytes 64 x.desc))
    (c.onDev (fun d => { d.draw 0 1 16 with wdn := { d.wdn with nonces := tput (fun _ => none) d.wdn.nonces x.part (some n) } })).finishCmd e stOk
      (ofLe (Config.freeBytes n 16))

/-- 600 s have passed since partition `n`'s number was issued (R120). -/
def Dev.tr34Expiry (d : Dev) (n : Nat) : Dev :=
  { d with wdn := { d.wdn with nonces := tput (fun _ => none) d.wdn.nonces n none } }

/-- The key under which a partition's KRD private keys are kept (R348). -/
def Dev.krdWrap (d : Dev) (n : Nat) : List Byte := kdf (d.partMk n) (asciiBytes "TR34KRD") [] 512

/-- The KRD private key at an index, if its record can be opened. -/
def Dev.krdKey (d : Dev) (n i : Nat) : Option (List Byte) :=
  match d.stateOf (0x200 + 16 * n + i) with
  | some p => if d.vlt.roots.partmk then Config.sivOpen (d.krdWrap n) [] p else none
  | none => none

/-- TR34_IMPORT: `bs` is the token. -/
def Chip.tr34Import (c : Chip) (e : Nat) (bs : List Byte) : Chip :=
  let x := c.dev.cmd e
  let p := dParams x.desc
  let n := x.part
  if !c.dev.kmTurn e 0x79 || bs.length != dInLen x.desc then c
  else if !importDescOk x.desc || !ctxRestZero x.ctx 0 4 0 then c.finishCmd e stBadDescriptor
  else if dInLen x.desc < 64 || 8192 < dInLen x.desc then c.finishCmd e stLength
  else match c.dev.krdKey n (cOptions x.ctx % 16), c.dev.stateOf (0x600 + n) with
    | some priv, some ca =>
      let two := Config.tr34TwoPass bs
      let held := tget (fun _ => none) c.dev.wdn.nonces n
      let c := c.onDev (fun d => if two then (d.readIn e).tr34Expiry n else d.readIn e)
      (match Config.tr34Open priv (ca.drop 8) bs with
      | none => c.finishCmd e stAuthFail
      | some t =>
        let fresh := if two then (match held with | some k => slice t 8 16 == Config.freeBytes k 16 | none => false)
          else decide (leAt ca 0 8 < leAt t 0 8)
        if !fresh then c.finishCmd e stAuthFail
        else
          let hd := bytesBv 64 (slice p 0 8)
          let key := t.drop 40
          match kbAttr n (hSlot hd) (slice t 24 16) key (leAt p 8 1) (leAt p 9 1 == 1) with
          | none => c.finishCmd e stKeyAttr
          | some a => match c.dev.importTarget n hd with
            | some s => c.finishCmd e s
            | none =>
              let c := if two then c else c.onDev (fun d => d.wardenState (0x600 + n) (slice t 0 8 ++ ca.drop 8))
              c.install e 0x79 bs key a (hSlot hd))
    | _, _ => c.finishCmd e stKeyAbsent

/-- TR34_KRD_CREATE: an RSA key pair from instance C; the private key sealed under a key of the partition's master key. -/
def Chip.krdCreate (c : Chip) : Chip :=
  c.serve 0x0306 false (fun c r =>
    let i := r.par 0 1
    let bits := r.par 2 2
    if !r.plain 8 || 16 ≤ i || r.par 1 1 != 0 || r.par 4 4 != 0 || !(bits == 2048 || bits == 3072) then c.reply r stBadDescriptor
    else if c.dev.rngFailed then c.reply r stRngUnavailable
    else if !c.dev.rngServes 0 then c
    else c.audited r (fun c =>
      let seed := Config.freeBytes c.dev.nfree 64
      let pub := Config.rsaPublic bits seed
      (c.onDev (fun d => (d.wardenState (0x200 + 16 * r.requester + i)
        (Config.sivSeal (d.krdWrap r.requester) [] (Config.rsaPrivate bits seed))).draw 0 1 64)).reply r stOk
          (leBytes 2 bits ++ List.replicate 6 0 ++ pub)))

/-- TR34_KRD_DELETE: the record is zeroised. -/
def Chip.krdDelete (c : Chip) : Chip :=
  c.serve 0x0307 false (fun c r =>
    if !r.plain 8 || 16 ≤ r.par 0 1 || r.par 1 7 != 0 then c.reply r stBadDescriptor
    else c.audited r (fun c => (c.onDev (fun d => d.wardenState (0x200 + 16 * r.requester + r.par 0 1) [])).reply r stOk))

/-- TR34_KDH_CA: the partition's KDH CA certificate under quorum; the newest signing time goes back to zero. -/
def Chip.kdhCa (c : Chip) : Chip :=
  c.serve 0x0308 false (fun c r =>
    let n := r.par 0 4
    let cert := slice r.params 8 n
    if r.bulkLen != 0 || 3000 < n || r.paramLen != 8 + (n + 7) / 8 * 8 || r.par 4 4 != 0 || !allZero (r.params.drop (8 + n)) then
      c.reply r stBadDescriptor
    else if !Config.certOk cert then c.reply r stFormat
    else c.quorumed r [] 2 (fun c =>
      (c.onDev (fun d => d.wardenState (0x600 + r.requester) (List.replicate 8 0 ++ cert))).reply r stOk (Config.sha384 cert)))

end Sys2Proof.Machine
end

