-- ==== Sys2Proof/Machine/Cards.lean ====
section
/-! DEFINITION. Custodian card ports: activation, ATR and PPS, T=1 with its recovery, the card application and how the Warden
uses it in ceremonies, archive-key windows and restores (R353 to R368). -/

namespace Sys2Proof.Machine

def Dev.cc (d : Dev) (p : Nat) : CcPort := tget (fun _ => CcPort.reset) d.crd.ports p
def Dev.setCc (d : Dev) (p : Nat) (x : CcPort) : Dev := { d with crd := { d.crd with ports := tput (fun _ => CcPort.reset) d.crd.ports p x } }
def Dev.modCc (d : Dev) (p : Nat) (f : CcPort → CcPort) : Dev := d.setCc p (f (d.cc p))

/-- The port's STATE (R360). -/
def Dev.ccState (d : Dev) (p : Nat) : Nat := d.rd (Fld.CRD_CC_STATUS_STATE p)

/-- STATE changes, with its event. -/
def Dev.setCcState (d : Dev) (p s : Nat) : Dev :=
  if d.ccState p = s then d else (d.wr (Fld.CRD_CC_STATUS_STATE p) s).eventAt (Fld.CRD_CC_EVSEQ_SEQ p)

/-- The port is held in block reset (R411). -/
def Dev.ccHeld (d : Dev) (p : Nat) : Bool := (d.rd Fld.PLT_BLOCK_RESET_HOLD).testBit (5 + p)

def ccPinName (p : Nat) : String := if p = 0 then "CC_A_VSEL" else "CC_B_VSEL"

/-- What the exchange in progress held is gone. -/
def CcPort.idle (x : CcPort) : CcPort :=
  { x with parts := [], out := [], last := [], sends := 0, resynchs := 0, ins := 0, got := [], ready := false, waited := 1 }

/-- Deactivation within 100 µs in the order of ISO/IEC 7816-3 (R360): the session ends and its keys are zeroised, the APDU in
progress has no result. `state` 0 EMPTY or 5 REFUSED. -/
def Dev.ccOff (d : Dev) (p state cause : Nat) : Dev :=
  let x := d.cc p
  let d := d.setCc p { CcPort.reset with present := x.present, tries := x.tries, refused := x.refused }
  let d := ((d.wr (Fld.CRD_CC_STATUS_CLASS p) 0).wr (Fld.CRD_CC_STATUS_SESSION p) 0).emit (.pin (ccPinName p) false)
  let d := if cause = 0 then d else d.wr (Fld.CRD_CC_STATUS_CAUSE p) cause
  (if state = 5 then d.inc (Fld.CRD_CC_COUNTS_REFUSED p) 1 else d).setCcState p state

/-- A card is refused: deactivated until it is removed. -/
def Dev.ccRefuse (d : Dev) (p cause : Nat) : Dev := d.ccOff p 5 cause

/-- Activation at class `cls` (1 C, 2 B, 3 A), steps 1 to 3 of R356, with the card clock at 4 MHz. -/
def Dev.ccOn (d : Dev) (p cls : Nat) : Dev :=
  let d := ((d.inc (Fld.CRD_CC_COUNTS_ACTIVATIONS p) 1).wr (Fld.CRD_CC_STATUS_CLASS p) cls).emit (.pin (ccPinName p) true)
  let d := (((d.wr (Fld.CRD_CC_LINK_FI p) 372).wr (Fld.CRD_CC_LINK_DI p) 1).wr (Fld.CRD_CC_LINK_DIVIDER p) 25)
  (d.modCc p (fun x => { x.idle with atr := [], keys := [], info := [] })).setCcState p 1

/-- CARD_ACTIVATION: presence has lasted 10 ms. Held serves ceremonies only (R342, R353), which the ports' state does not
distinguish: the card is activated in every state. -/
def Dev.cardActivation (d : Dev) (p : Nat) : Dev :=
  if 2 ≤ p || d.ccState p != 0 || d.ccHeld p then d
  else (d.modCc p (fun x => { x with present := true, tries := 0, refused := false })).ccOn p 1

/-- CARD_REMOVAL. -/
def Dev.cardRemoval (d : Dev) (p : Nat) : Dev :=
  if 2 ≤ p || !(d.cc p).present then d else (d.modCc p (fun x => { x with present := false, refused := false })).ccOff p 0 8

/-! ## The ATR (R355, R357, R358; the bytes as ISO/IEC 7816-3 lays them out) -/

/-- The ATR's interface bytes: TA, TB, TC, TD of each group, `none` where absent; and T of each TD. -/
structure AtrGroup where
  ta : Option Nat
  tb : Option Nat
  tc : Option Nat
  td : Option Nat
deriving DecidableEq, Repr

/-- One interface byte taken if its Y bit is set. -/
def takeIf (y : Bool) (bs : List Byte) : Option (Option Nat × List Byte) :=
  if y then (match bs with | b :: r => some (some b.toNat, r) | [] => none) else some (none, bs)

/-- The interface groups that follow T0 or a TD byte whose Y nibble is `y`. -/
def atrGroups : Nat → Nat → List Byte → Option (List AtrGroup × List Byte)
  | 0, _, _ => none
  | fuel + 1, y, bs => do
    let (ta, bs) ← takeIf (y.testBit 0) bs
    let (tb, bs) ← takeIf (y.testBit 1) bs
    let (tc, bs) ← takeIf (y.testBit 2) bs
    let (td, bs) ← takeIf (y.testBit 3) bs
    match td with
    | none => some ([⟨ta, tb, tc, td⟩], bs)
    | some t => do
      let (gs, r) ← atrGroups fuel (t / 16) bs
      some (⟨ta, tb, tc, td⟩ :: gs, r)

/-- The groups of an ATR whose structure and TCK check: TS, T0, groups, historical bytes, TCK when a protocol other than T=0 is
named. -/
def atrParse (bs : List Byte) : Option (List AtrGroup) :=
  match bs with
  | ts :: t0 :: rest =>
    if !(ts == 0x3B || ts == 0x3F) then none
    else match atrGroups 8 (t0.toNat / 16) rest with
      | none => none
      | some (gs, r) =>
        let ts := gs.filterMap (fun g => g.td.map (· % 16))
        let tck := ts.any (· != 0)
        if r.length != t0.toNat % 16 + tck.toNat then none
        else if tck && (bs.drop 1).foldl (fun a b => a ^^^ b) 0 != 0 then none
        else some gs
  | _ => none

/-- The protocols offered, in order. -/
def atrProtocols (gs : List AtrGroup) : List Nat := gs.filterMap (fun g => g.td.map (· % 16))

/-- The group that follows the first TD naming T = `t`. -/
def atrAfter (t : Nat) : List AtrGroup → Option AtrGroup
  | g :: h :: r => if g.td.map (· % 16) = some t then some h else atrAfter t (h :: r)
  | _ => none

/-- Fi and Di by their codes in TA1, with fmax in kHz; none where R354 does not support the value. -/
def fiOf (k : Nat) : Option (Nat × Nat) := match k with
  | 0 => some (372, 4000) | 1 => some (372, 5000) | 2 => some (558, 6000) | 3 => some (744, 8000) | 4 => some (1116, 12000)
  | 5 => some (1488, 16000) | 6 => some (1860, 20000) | 9 => some (512, 5000) | 10 => some (768, 7500) | 11 => some (1024, 10000)
  | 12 => some (1536, 15000) | 13 => some (2048, 20000) | _ => none
def diOf (k : Nat) : Option Nat := match k with
  | 1 => some 1 | 2 => some 2 | 3 => some 4 | 4 => some 8 | 5 => some 16 | 6 => some 32 | _ => none

/-- The divider of the highest 100 MHz ÷ n that exceeds neither 20 MHz nor fmax (R357). -/
def dividerOf (fmax : Nat) : Nat := max 5 ((100000 + min fmax 20000 - 1) / min fmax 20000)

/-- The class that the class indicator asks for (R355): 1 C, 2 B, 3 A, none when it is absent or empty. -/
def atrClass (gs : List AtrGroup) : Option Nat :=
  match (atrAfter 15 gs).bind AtrGroup.ta with
  | none => none
  | some b => if b.testBit 2 then some 1 else if b.testBit 1 then some 2 else if b.testBit 0 then some 3 else none

/-- TA1 (0x11 when absent). -/
def atrTa1 (gs : List AtrGroup) : Nat := ((gs.head?.bind AtrGroup.ta).getD 0x11)

/-- TA2: specific mode. -/
def atrTa2 (gs : List AtrGroup) : Option Nat := (gs.drop 1).head?.bind AtrGroup.ta

/-- The group of T=1 parameters: TA3, TB3, TC3. -/
def atrT1 (gs : List AtrGroup) : AtrGroup := (atrAfter 1 (gs.drop 1)).getD ⟨none, none, none, none⟩

/-- T=1 parameters are taken (R358): refused for a bad TA3 or a BWI above 9. -/
def Dev.ccParams (d : Dev) (p : Nat) (gs : List AtrGroup) (ta1 : Nat) : Dev :=
  let t := atrT1 gs
  let ifsc := t.ta.getD 32
  let bwi := t.tb.getD 0x4D / 16
  if ifsc = 0 || ifsc = 255 || 9 < bwi then d.ccRefuse p 5
  else match fiOf (ta1 / 16), diOf (ta1 % 16) with
    | some (fi, fmax), some di =>
      let d := ((d.wr (Fld.CRD_CC_LINK_FI p) fi).wr (Fld.CRD_CC_LINK_DI p) di).wr (Fld.CRD_CC_LINK_DIVIDER p) (dividerOf fmax)
      let d := ((d.wr (Fld.CRD_CC_LINK_IFSC p) ifsc).wr (Fld.CRD_CC_LINK_BWI p) bwi).wr (Fld.CRD_CC_LINK_CWI p) (t.tb.getD 0x4D % 16)
      d.wr (Fld.CRD_CC_LINK_CRC p) (t.tc.getD 0 % 2)
    | _, _ => d.ccRefuse p 5

/-- The error detection code of a block. -/
def Dev.edc (d : Dev) (p : Nat) (bs : List Byte) : List Byte :=
  if d.bit (Fld.CRD_CC_LINK_CRC p) then Config.crc16 bs else [bs.foldl (fun a b => a ^^^ b) 0]

/-- A block sent: NAD 0x00, PCB, LEN, INF, EDC (R354). -/
def Dev.ccSend (d : Dev) (p pcb : Nat) (inf : List Byte) : Dev :=
  let b : List Byte := [0, BitVec.ofNat 8 pcb, BitVec.ofNat 8 inf.length] ++ inf
  let b := b ++ d.edc p b
  (d.modCc p (fun x => { x with last := b })).emit (.card p b)

/-- After PPS, or at once in specific mode: the clock of R357, then S(IFS request) with IFSD 254. -/
def Dev.ccIfs (d : Dev) (p : Nat) (gs : List AtrGroup) (ta1 : Nat) : Dev :=
  let d := d.ccParams p gs ta1
  if d.ccState p = 5 then d else (d.modCc p (fun x => { x with sends := 1 })).ccSend p 0xC1 [254]

/-- TA1 as PPS1 requests it: as the ATR gives it on a first try where R354 supports it, else 0x11. -/
def Dev.ccTa1 (d : Dev) (p : Nat) (gs : List AtrGroup) : Nat :=
  let t := atrTa1 gs
  if 0 < (d.cc p).tries || (fiOf (t / 16)).isNone || (diOf (t % 16)).isNone then 0x11 else t

/-- The PPS request: PPSS, PPS0 selecting T=1, PPS1 unless TA1 is absent, PCK. -/
def Dev.ppsRequest (d : Dev) (p : Nat) (gs : List AtrGroup) : List Byte :=
  let one := (gs.head?.bind AtrGroup.ta).isSome || decide (0 < (d.cc p).tries)
  let b : List Byte := if one then [0xFF, 0x11, BitVec.ofNat 8 (d.ccTa1 p gs)] else [0xFF, 0x01]
  b ++ [b.foldl (fun a x => a ^^^ x) 0]

/-- ATR_RECEIVE: at class C the port stays, changes class, or refuses the card; the ATR at another class is used (R355); then specific or negotiable mode (R357). -/
def Dev.atrReceive (d : Dev) (p : Nat) (bs : List Byte) : Dev :=
  if 2 ≤ p || d.ccState p != 1 then d
  else match atrParse bs with
    | none => d.ccRefuse p 1
    | some gs =>
      let c := d.rd (Fld.CRD_CC_STATUS_CLASS p)
      match (if c = 1 then atrClass gs else some c) with
      | none => d.ccRefuse p 2
      | some cls =>
        if c < cls then d.ccOn p cls
        else if !(atrProtocols gs).contains 1 then d.ccRefuse p 3
        else
          let d := (d.modCc p (fun x => { x with atr := bs })).setCcState p 2
          match atrTa2 gs with
          | some ta2 =>
            if ta2 % 16 != 1 || (fiOf (atrTa1 gs / 16)).isNone || (diOf (atrTa1 gs % 16)).isNone then d.ccRefuse p 5
            else d.ccIfs p gs (atrTa1 gs)
          | none => d.emit (.card p (d.ppsRequest p gs))

/-- ATR_TIMEOUT. -/
def Dev.atrTimeout (d : Dev) (p : Nat) : Dev := if 2 ≤ p || d.ccState p != 1 then d else d.ccRefuse p 1

/-- A PPS failure: deactivation and one new activation; a second one refuses the card. -/
def Dev.ppsFail (d : Dev) (p : Nat) : Dev :=
  if (d.cc p).tries = 0 then
    let cls := d.rd (Fld.CRD_CC_STATUS_CLASS p)
    (d.modCc p (fun x => { x with tries := 1 })).ccOn p cls
  else d.ccRefuse p 4

/-- The port waits for a PPS response. -/
def Dev.ppsWaits (d : Dev) (p : Nat) : Bool := decide (p < 2) && d.ccState p == 2 && (d.cc p).sends == 0

/-- PPS_RESPONSE. -/
def Dev.ppsResponse (d : Dev) (p : Nat) (bs : List Byte) : Dev :=
  if !d.ppsWaits p then d
  else match atrParse (d.cc p).atr with
    | none => d
    | some gs => if bs = d.ppsRequest p gs then d.ccIfs p gs (d.ccTa1 p gs) else d.ppsFail p

/-- PPS_TIMEOUT. -/
def Dev.ppsTimeout (d : Dev) (p : Nat) : Dev := if d.ppsWaits p then d.ppsFail p else d

/-! ## Commands to the card (R361, R364) -/

/-- The information fields of an APDU at most IFSC long each (chaining by the M bit). -/
def chunks (n : Nat) : Nat → List Byte → List (List Byte)
  | 0, _ => []
  | fuel + 1, bs => if bs.length ≤ n then [bs] else bs.take n :: chunks n fuel (bs.drop n)

/-- One APDU, short form. -/
def apdu (cla ins p1 p2 : Nat) (data : List Byte) : List Byte :=
  [BitVec.ofNat 8 cla, BitVec.ofNat 8 ins, BitVec.ofNat 8 p1, BitVec.ofNat 8 p2]
    ++ (if data.isEmpty then [] else BitVec.ofNat 8 data.length :: data) ++ [0]

/-- The information field in flight sent as an I-block: N(S) in bit 6, M in bit 5. -/
def Dev.ccSendI (d : Dev) (p : Nat) : Dev :=
  let x := d.cc p
  match x.out with
  | [] => d
  | i :: rest => (d.modCc p (fun y => { y with sends := y.sends + 1 })).ccSend p (x.ns % 2 * 64 + (if rest.isEmpty then 0 else 32)) i

/-- A command goes to the card: STATE BUSY. A command longer than 255 data bytes is chained at APDU level (R361): every part but
the last has CLA bit 4 set and is answered before the next is sent. -/
def Dev.ccCommand (d : Dev) (p ins : Nat) (apdus : List (List Byte)) : Dev :=
  let out := chunks (max 1 (d.rd (Fld.CRD_CC_LINK_IFSC p))) 64 (apdus.headD [])
  ((d.modCc p (fun x => { x.idle with parts := apdus.drop 1, out := out, ins := ins })).setCcState p 4).ccSendI p

/-- SELECT of the custodian application (R362). -/
def custAid : List Byte := [0xF0, 0x7A, 0x57, 0x43, 0x55, 0x53, 0x54, 0x01]
def Dev.ccSelect (d : Dev) (p : Nat) : Dev := d.ccCommand p 0xA4 [apdu 0 0xA4 4 0 custAid]

/-- The port has something to ask of a card: a ceremony, an archive-key window or an open restore whose shares are still
collected (R367, R368). -/
def Dev.cardWork (d : Dev) : Bool :=
  d.wdn.ceremony.isSome || d.wdn.arch.isSome || (match d.wdn.restore with | some x => !x.header.isEmpty && x.key.isEmpty | none => false)

/-- A port that has reached READY begins the sequence for its card. -/
def Dev.ccStart (d : Dev) (p : Nat) : Dev :=
  if d.ccState p = 3 && d.cardWork && !(d.cc p).refused then d.ccSelect p else d

/-- Both ports begin. -/
def Dev.cardsStart (d : Dev) : Dev := (d.ccStart 0).ccStart 1

/-! ## T=1 (R358, R359) -/

/-- The exchange has failed for good: S(RESYNCH request) at most three times, then deactivation with LINK. -/
def Dev.ccResynch (d : Dev) (p : Nat) : Dev :=
  if (d.cc p).resynchs < 3 then
    ((d.modCc p (fun x => { x with resynchs := x.resynchs + 1, ns := 0, nr := 0 })).inc (Fld.CRD_CC_COUNTS_RESYNCH p) 1).ccSend p 0xC0 []
  else d.ccRefuse p 6

/-- An invalid block: an R-block that signals the error; the port counts it among the three sends (R359). -/
def Dev.ccInvalid (d : Dev) (p : Nat) : Dev :=
  let x := d.cc p
  if x.sends < 3 then
    ((d.modCc p (fun y => { y with sends := y.sends + 1 })).inc (Fld.CRD_CC_COUNTS_RETRANSMIT p) 1).ccSend p (0x81 + x.nr % 2 * 16) []
  else d.ccResynch p

/-- A response is complete: the next part of a chained command follows one answered 90 00. -/
def Dev.ccDone (d : Dev) (p : Nat) : Dev :=
  let x := d.cc p
  let d := d.modCc p (fun y => { y with ns := y.ns + 1 })
  match x.parts with
  | a :: rest =>
    if x.got = [0x90, 0x00] then
      let out := chunks (max 1 (d.rd (Fld.CRD_CC_LINK_IFSC p))) 64 a
      (d.modCc p (fun y => { y with parts := rest, out := out, got := [] })).ccSendI p
    else d.modCc p (fun y => { y with ready := true })
  | [] => d.modCc p (fun y => { y with ready := true })

/-- The response data of an I-block is taken; the last block completes the response. -/
def Dev.ccInf (d : Dev) (p : Nat) (inf : List Byte) (more : Bool) : Dev :=
  let d := d.modCc p (fun x => { x with got := x.got ++ inf, nr := x.nr + 1, sends := 0, resynchs := 0, waited := 1, out := [] })
  if more then d.ccSend p (0x80 + (d.cc p).nr % 2 * 16) [] else d.ccDone p

/-- The information field in flight is acknowledged: the next one is sent. -/
def Dev.ccAcked (d : Dev) (p : Nat) : Dev :=
  (d.modCc p (fun x => { x with out := x.out.drop 1, ns := x.ns + 1, sends := 0 })).ccSendI p

/-- T1_BLOCK_RECEIVE: NAD, PCB, LEN and INF of a block, and whether its EDC, its parity and its timing are right. -/
def Dev.t1Block (d : Dev) (p nad pcb : Nat) (inf : List Byte) (ok : Bool) : Dev :=
  let x := d.cc p
  if 2 ≤ p || !(d.ccState p == 4 || (d.ccState p == 2 && x.sends != 0)) || x.ready then d
  else if !ok || nad != 0 || 254 < inf.length then d.ccInvalid p
  else if pcb < 128 then
    if d.ccState p != 4 || pcb % 32 != 0 || decide (1 < x.out.length) then d.ccInvalid p
    else if pcb / 64 % 2 != x.nr % 2 then d.ccInvalid p
    else d.ccInf p inf (pcb / 32 % 2 == 1)
  else if pcb / 64 = 2 then
    if !inf.isEmpty || pcb / 32 % 2 != 0 || d.ccState p != 4 then d.ccInvalid p
    else if pcb % 16 = 0 && pcb / 16 % 2 != x.ns % 2 && decide (1 < x.out.length) then d.ccAcked p
    else if x.sends < 3 then (d.inc (Fld.CRD_CC_COUNTS_RETRANSMIT p) 1).ccSendI p
    else d.ccResynch p
  else if pcb = 0xE1 then
    (if d.ccState p = 2 && inf = [254] then ((d.modCc p CcPort.idle).setCcState p 3).ccStart p else d.ccInvalid p)
  else if pcb = 0xE0 then
    if d.ccState p = 4 then (d.modCc p (fun y => { y with sends := 0, got := [] })).ccSendI p
    else (d.modCc p (fun y => { y with sends := 1 })).ccSend p 0xC1 [254]
  else d.ccInvalid p

/-- T1_BLOCK_TIMEOUT: CWT or BWT expires. -/
def Dev.t1Timeout (d : Dev) (p : Nat) : Dev :=
  if 2 ≤ p || !(d.ccState p == 4 || (d.ccState p == 2 && (d.cc p).sends != 0)) || (d.cc p).ready then d else d.ccInvalid p

/-- S_WTX_REQUEST: BWT is multiplied for the next block; S(WTX response). -/
def Dev.sWtx (d : Dev) (p k : Nat) : Dev :=
  if 2 ≤ p || d.ccState p != 4 || (d.cc p).ready then d else (d.modCc p (fun x => { x with waited := k })).ccSend p 0xE3 [BitVec.ofNat 8 k]

/-- S_IFS_REQUEST with 1 to 254: IFSC. -/
def Dev.sIfs (d : Dev) (p k : Nat) : Dev :=
  if 2 ≤ p || !(d.ccState p == 4 || d.ccState p == 2) then d
  else if k = 0 || 255 ≤ k then d.ccInvalid p
  else (d.wr (Fld.CRD_CC_LINK_IFSC p) k).ccSend p 0xE1 [BitVec.ofNat 8 k]

/-- The card is back at READY, nothing in progress. -/
def Dev.ccReady (d : Dev) (p : Nat) : Dev := (d.modCc p CcPort.idle).setCcState p 3

/-- This card contributes nothing more to what is in progress (R363). -/
def Dev.ccGiveUp (d : Dev) (p : Nat) : Dev := (d.ccReady p).modCc p (fun x => { x with refused := true })

/-- S_ABORT_REQUEST: S(ABORT response), and the APDU in progress fails. -/
def Dev.sAbort (d : Dev) (p : Nat) : Dev := if 2 ≤ p || d.ccState p != 4 then d else (d.ccSend p 0xE2 []).ccGiveUp p

/-- CARD_RESPONSE_TIMEOUT: 120 s without a response. -/
def Dev.cardTimeout (d : Dev) (p : Nat) : Dev := if 2 ≤ p || d.ccState p != 4 then d else d.ccRefuse p 7

/-! ## The card application (R362 to R368) -/

/-- The response to command `ins` is complete: its data and SW. -/
def Dev.ccResponse (d : Dev) (p ins : Nat) : Option (List Byte × Nat) :=
  let x := d.cc p
  if p < 2 && d.ccState p == 4 && x.ready && x.ins == ins then
    (if x.got.length < 2 then some ([], 0) else some (x.got.take (x.got.length - 2), beAt x.got (x.got.length - 2) 2))
  else none

/-- GET_RESPONSE: the data announced by SW 61 xx is collected. -/
def Dev.getResponse (d : Dev) (p : Nat) : Dev :=
  let x := d.cc p
  match d.ccResponse p x.ins with
  | some (data, sw) =>
    if sw / 256 = 0x61 then
      ((d.modCc p (fun y => { y with out := [[0, 0xC0, 0, 0, BitVec.ofNat 8 (sw % 256)]], got := data, ready := false, sends := 0 }))).ccSendI p
    else d
  | none => d

/-- SW 61 xx: more is to be collected first. -/
def moreData (sw : Nat) : Bool := sw / 256 == 0x61

/-- SELECT: the application is there, or the card is of no use. -/
def Dev.select (d : Dev) (p : Nat) : Dev :=
  match d.ccResponse p 0xA4 with
  | none => d
  | some (_, sw) =>
    if moreData sw then d else if sw = 0x9000 then d.ccCommand p 0x10 [apdu 0x80 0x10 0 0 []] else d.ccGiveUp p

/-- What GET_INFO returned. -/
def infoKeyId (i : List Byte) : List Byte := slice i 10 8
def infoPub (i : List Byte) : List Byte := slice i 18 97
def infoSlots (i : List Byte) : Nat := leAt i 115 1
def infoSlotDev (i : List Byte) (s : Nat) : List Byte := slice i (120 + 16 * s) 16

/-- A protected data field (R364): AES-256-GCM, the nonce four zero bytes and the message counter, AAD CLA INS P1 P2. -/
def sessNonce (n : Nat) : List Byte := [0, 0, 0, 0] ++ beBytes 8 n
def CcPort.protect (x : CcPort) (ins p1 : Nat) (data : List Byte) : List Byte :=
  Config.gcmSeal (x.keys.take 32) (sessNonce x.cmdCount) [0x84, BitVec.ofNat 8 ins, BitVec.ofNat 8 p1, 0] data
def CcPort.unprotect (x : CcPort) (ins p1 : Nat) (data : List Byte) : Option (List Byte) :=
  Config.gcmOpen (x.keys.drop 32) (sessNonce x.rspCount) [0x84, BitVec.ofNat 8 ins, BitVec.ofNat 8 p1, 0] data

/-- The device's ephemeral key pair, nonce and signature of a session (R364), all from free value `n`. -/
def devEph (n : Nat) : List Byte := Config.publicOf 0x09 (Config.freeBytes n 48)
def devNonce (n : Nat) : List Byte := Config.freeBytes (n + 1) 16
def Dev.devSig (d : Dev) (n : Nat) : List Byte := slice (Config.sign 0 d.attestSeed (asciiBytes "CCS1" ++ devEph n ++ devNonce n)) 0 96

/-- OPEN_SESSION is sent, chained in two parts, with an ephemeral key and a nonce of instance C (R17); without it the card contributes
nothing (R274). -/
def Dev.ccOpen (d : Dev) (p : Nat) : Dev :=
  if d.rngFailed then d.ccGiveUp p
  else
  let n := d.nfree
  let data := devEph n ++ d.identityPub ++ devNonce n ++ d.devSig n
  ((d.draw 0 2 64).modCc p (fun x => { x with eph := n })).ccCommand p 0x20
    [apdu 0x90 0x20 0 0 (data.take 255), apdu 0x80 0x20 0 0 (data.drop 255)]

/-- The share record of custodian `x` (R366). -/
def shareRecord (dev : List Byte) (gen m n x : Nat) (y : List Byte) : List Byte :=
  dev ++ leBytes 4 gen ++ [BitVec.ofNat 8 m, BitVec.ofNat 8 n, BitVec.ofNat 8 x, 0] ++ slice y 0 32

/-- The slot that PUT_SHARE uses: the one that holds this DEVICE_ID, else the lowest unused one (R368). -/
def shareSlot (dev info : List Byte) : Option Nat :=
  match (List.range 4).find? (fun s => (infoSlots info).testBit s && infoSlotDev info s == dev) with
  | some s => some s
  | none => (List.range 4).find? (fun s => !(infoSlots info).testBit s)

/-- The custodian's number in the recorded set, from 1. -/
def Dev.custodian (d : Dev) (kid : List Byte) : Option Nat :=
  ((List.range d.wdn.keys.length).find? (fun i => keyId (d.wdn.keys.getD i []) == kid)).map (· + 1)

/-- PUT_SHARE is sent for the archive key of the open window. -/
def Dev.ccPut (d : Dev) (p : Nat) (w : ArchWin) : Dev :=
  let x := d.cc p
  match d.custodian (infoKeyId x.info), shareSlot d.deviceId x.info with
  | some n, some s =>
    let y := Config.shareOf d.wdn.setM (Config.freeBytes w.key 32) (Config.freeBytes (w.key + 1) (32 * d.wdn.setM)) n
    let rec' := shareRecord d.deviceId w.gen d.wdn.setM d.wdn.setN n y
    let ap := apdu 0x84 0x40 s 0 (x.protect 0x40 s rec')
    (d.modCc p (fun x => { x with slot := s, cmdCount := x.cmdCount + 1 })).ccCommand p 0x40 [ap]
  | _, _ => d.ccGiveUp p

/-- GET_SHARE of slot `s` is sent. -/
def Dev.ccGet (d : Dev) (p s : Nat) : Dev :=
  let x := d.cc p
  let ap := apdu 0x84 0x42 s 0 (x.protect 0x42 s [])
  (d.modCc p (fun x => { x with slot := s, cmdCount := x.cmdCount + 1 })).ccCommand p 0x42 [ap]

/-- After GET_INFO: SIGN_AUTH for a ceremony unless this KEY_ID has signed; a session for a custodian of the recorded set whose
share is to be written or read. -/
def Dev.ccNext (d : Dev) (p : Nat) : Dev :=
  let kid := infoKeyId (d.cc p).info
  match d.wdn.ceremony, d.wdn.arch with
  | some c, _ => if c.sigs.any (fun s => s.1 == kid) then d.ccGiveUp p else d.ccCommand p 0x30 [apdu 0x80 0x30 0 0 c.head]
  | none, some w => if (d.custodian kid).isSome && !w.written.contains kid then d.ccOpen p else d.ccGiveUp p
  | none, none => if (d.custodian kid).isSome && d.cardWork then d.ccOpen p else d.ccGiveUp p

/-- What follows may be OPEN_SESSION, for which instance C is not ready: the Warden waits (R274). -/
def Dev.ccWaits (d : Dev) : Bool := d.wdn.ceremony.isNone && !d.rngFailed && !d.rngServes 0

/-- GET_INFO: 184 bytes with a KEY_ID that is its public key's. -/
def Dev.getInfo (d : Dev) (p : Nat) : Dev :=
  if d.ccWaits then d else
  match d.ccResponse p 0x10 with
  | none => d
  | some (data, sw) =>
    if moreData sw then d
    else if sw != 0x9000 || data.length != 184 || infoKeyId data != keyId (infoPub data) then d.ccGiveUp p
    else ((d.modCc p (fun x => { x with info := data })).ccReady p).ccNext p

/-- OPEN_SESSION: the card's signature checks; both sides derive K_CMD and K_RSP (R364). -/
def Dev.openSession (d : Dev) (p : Nat) : Dev :=
  match d.ccResponse p 0x20 with
  | none => d
  | some (data, sw) =>
    let x := d.cc p
    let eph := slice data 0 97
    let nonce := slice data 97 16
    let msg := asciiBytes "CCS2" ++ devEph x.eph ++ eph ++ devNonce x.eph ++ nonce ++ d.deviceId
    if moreData sw then d
    else if sw != 0x9000 || data.length != 209 || !Config.verify 0 (infoPub x.info) msg (slice data 113 96) then d.ccGiveUp p
    else
      let z := slice (Config.agree (Config.freeBytes x.eph 48) eph) 0 32
      let k := kdf z (asciiBytes "CARDSES") (devNonce x.eph ++ nonce) 512
      let d := ((d.modCc p (fun y => { y with keys := k, cmdCount := 1, rspCount := 1 })).wr (Fld.CRD_CC_STATUS_SESSION p) 1).ccReady p
      match d.wdn.arch with
      | some w => d.ccPut p w
      | none => d.ccGet p 0

/-- CLOSE_SESSION is sent. -/
def Dev.ccClose (d : Dev) (p : Nat) : Dev := d.ccCommand p 0x50 [apdu 0x80 0x50 0 0 []]

/-- The session is over: Z and its keys are zeroised, and the card contributes nothing more. -/
def Dev.ccSessOver (d : Dev) (p : Nat) : Dev :=
  ((d.modCc p (fun x => { x with keys := [], cmdCount := 0, rspCount := 0, eph := 0 })).wr (Fld.CRD_CC_STATUS_SESSION p) 0).ccGiveUp p

/-- CLOSE_SESSION: the session ends and its keys are zeroised. -/
def Dev.closeSession (d : Dev) (p : Nat) : Dev :=
  match d.ccResponse p 0x50 with
  | none => d
  | some (_, sw) => if moreData sw then d else d.ccSessOver p

/-- SIGN_AUTH: a signature that verifies under PUBKEY, on 90 00, is entered and added to the ceremony (R367). -/
def Chip.signAuth (c : Chip) (p : Nat) : Chip :=
  match c.dev.ccResponse p 0x30, c.dev.wdn.ceremony with
  | some (data, sw), some w =>
    let i := (c.dev.cc p).info
    if moreData sw || c.dev.nvs.frozen then c
    else if sw != 0x9000 || data.length != 96 || !Config.verify 0 (infoPub i) w.head data || !c.dev.canAudit then c.onDev (fun d => d.ccGiveUp p)
    else
      let c := c.auditEvent 4
      c.onDev (fun d => { d with wdn := { d.wdn with ceremony := some { w with sigs := w.sigs ++ [(infoKeyId i, data)] } } }.ccGiveUp p)
  | some _, none => c.onDev (fun d => d.ccGiveUp p)
  | none, _ => c

/-- The data of a protected response: none when its tag fails, which deactivates the card (R364). -/
def Dev.ccUnprotect (d : Dev) (p ins : Nat) (data : List Byte) : Option (List Byte) := (d.cc p).unprotect ins (d.cc p).slot data

/-- PUT_SHARE: a share counts as written only on 90 00 with a valid response tag (R368). -/
def Dev.putShare (d : Dev) (p : Nat) : Dev :=
  match d.ccResponse p 0x40 with
  | none => d
  | some (data, sw) =>
    if moreData sw then d
    else if sw = 0x6988 then d.ccSessOver p
    else if sw != 0x9000 then d.ccClose p
    else match d.ccUnprotect p 0x40 data with
      | none => d.ccRefuse p 6
      | some _ =>
        let d := (d.modCc p (fun x => { x with rspCount := x.rspCount + 1 })).ccReady p
        (match d.wdn.arch with
          | some w => { d with wdn := { d.wdn with arch := some { w with written := w.written ++ [infoKeyId (d.cc p).info] } } }
          | none => d).ccClose p

/-! ### Shares of a restore (R368, R374) -/

/-- K_ARC (R374). -/
def archiveKey (key archiveId dev : List Byte) : List Byte := kdf key (asciiBytes "ARCHIVE") (archiveId ++ dev) 256

/-- The key of a subset of shares rebuilds the archive: its K_ARC has the header's ARC_KCV. -/
def Dev.sharesMatch (d : Dev) (r : Restore) (k : List Byte) : Bool :=
  slice (bvBytes 8 (keyCheckValue 3 (archiveKey k (slice r.header 8 16) d.deviceId))) 0 5 == slice r.header (0x28 + 32) 5

/-- The sublists of length `m`, in order. -/
def subsetsOf {α : Type} : Nat → List α → List (List α)
  | 0, _ => [[]]
  | _ + 1, [] => []
  | m + 1, x :: xs => (subsetsOf m xs).map (x :: ·) ++ subsetsOf (m + 1) xs

/-- The archive key that the shares rebuild, if some M-subset with distinct X values does. -/
def Dev.rebuild (d : Dev) (r : Restore) : Option (List Byte) :=
  (((subsetsOf d.wdn.setM r.shares).filter (fun l => (l.map Prod.fst).eraseDups.length == l.length)).map Config.shareJoin).find? (fun k => d.sharesMatch r k)

/-- A share record that the restore keeps: this DEVICE_ID, the header's GENERATION, not yet held. -/
def Dev.keepShare (d : Dev) (r : Restore) (s : List Byte) : Bool :=
  slice s 0 16 == d.deviceId && leAt s 16 4 == beAt r.header 0x20 4 && !r.shares.contains (leAt s 22 1, slice s 24 32)

/-- A share is accepted, with its audit entry; and the archive key once M distinct ones match. -/
def Chip.takeShare (c : Chip) (s : List Byte) : Chip :=
  match c.dev.wdn.restore with
  | none => c
  | some r =>
    if !c.dev.keepShare r s || !c.dev.canAudit then c
    else
      let c := c.auditEvent 4
      let r := { r with shares := r.shares ++ [(leAt s 22 1, slice s 24 32)] }
      match c.dev.rebuild r with
      | none => c.onDev (fun d => { d with wdn := { d.wdn with restore := some r } })
      | some k =>
        let c := c.auditEvent 4
        c.onDev (fun d => { d with wdn := { d.wdn with restore := some { r with key := k, nextSeq := 0, copy := 0 } } })

/-- GET_SHARE: a stored share, then the next slot; after slot 3 the session is closed. -/
def Chip.getShare (c : Chip) (p : Nat) : Chip :=
  match c.dev.ccResponse p 0x42 with
  | none => c
  | some (data, sw) =>
    let s := (c.dev.cc p).slot
    let next (c : Chip) : Chip := c.onDev (fun d => if s < 3 && d.cardWork then (d.ccReady p).ccGet p (s + 1) else (d.ccReady p).ccClose p)
    if moreData sw || c.dev.nvs.frozen then c
    else if sw = 0x6988 then c.onDev (fun d => d.ccSessOver p)
    else if sw != 0x9000 then next c
    else match c.dev.ccUnprotect p 0x42 data with
      | none => c.onDev (fun d => d.ccRefuse p 6)
      | some x => next ((c.onDev (fun d => d.modCc p (fun y => { y with rspCount := y.rspCount + 1 }))).takeShare x)

/-! ## Lock, Erase, resets (R353) -/

/-- An Erase ends every session and deactivates the cards; inserted cards are activated again, at no lower voltage (R355). -/
def Dev.cardsErase (d : Dev) : Dev :=
  [0, 1].foldl (fun x p => if x.ccState p = 0 || x.ccState p = 5 then x else (x.ccOff p 0 0).ccOn p (max 1 (x.rd (Fld.CRD_CC_STATUS_CLASS p)))) d

/-- A reset deactivates the cards at once. A card still inserted is activated again once the port's own wait is over. -/
def Dev.cardsReset (d : Dev) : Dev := { d with crd := { Crd.reset with ports := [] } }

end Sys2Proof.Machine
end

