-- ==== Sys2Proof/Machine/Wreq.lean ====
section
/-! DEFINITION. Warden requests on latches, time, ceremonies, code-signing keys, archives and restores, and the backup card port
that serves them (R316, R319, R336 to R340, R345, R368 to R377). -/

namespace Sys2Proof.Machine

/-! ## Ceremonies (R336) -/

def Dev.closeCeremony (d : Dev) : Dev := { d.wr Fld.WDN_MBOX_STATUS_CEREMONY 0 with wdn := { d.wdn with ceremony := none } }

/-- CEREMONY_OPEN: at most one is open. The cards in ports A and B are asked to sign. -/
def Chip.ceremonyOpen (c : Chip) : Chip :=
  c.serve 0x0401 false (fun c r =>
    if !r.plain 80 then c.reply r stBadDescriptor
    else if c.dev.wdn.ceremony.isSome then c.reply r stQuota
    else c.audited r (fun c =>
      (c.onDev (fun d =>
        let d := { d.wr Fld.WDN_MBOX_STATUS_CEREMONY 1 with wdn := { d.wdn with ceremony := some ⟨r.params, []⟩ } }
        ((d.modCc 0 (fun x => { x with refused := false })).modCc 1 (fun x => { x with refused := false })).cardsStart)).reply r stOk))

/-- The authorisation gathered: the bytes that were signed, then an entry for every signature. -/
def Ceremony.bytes (w : Ceremony) : List Byte := w.head ++ (w.sigs.map (fun s => s.1 ++ s.2)).flatten

/-- CEREMONY_COLLECT returns it whether or not its entries reach any M, and closes the ceremony. -/
def Chip.ceremonyCollect (c : Chip) : Chip :=
  c.serve 0x0402 false (fun c r =>
    if !r.plain 0 then c.reply r stBadDescriptor
    else match c.dev.wdn.ceremony with
      | none => c.reply r stBadDescriptor
      | some w => c.audited r (fun c => (c.onDev Dev.closeCeremony).reply r stOk w.bytes))

/-- CEREMONY_TIMEOUT: 600 s after it opened. -/
def Dev.ceremonyTimeout (d : Dev) : Dev := if d.wdn.ceremony.isSome then d.closeCeremony else d

/-! ## UNLOCK (R338) -/

/-- LOCKED clears. In a bond the device goes on to JOINING (R396). -/
def Chip.clearLocked (c : Chip) : Chip := c.watch (fun c => { c with bd := { c.bd with locked := false } })

def Chip.unlock (c : Chip) : Chip :=
  c.serve 0x0403 false (fun c r =>
    if r.paramLen != 0 || r.bulkLen != 0 || !c.bd.locked then c.reply r stBadDescriptor
    else match c.dev.authCheck r [] 0 c.dev.authority with
      | some s => c.reply r s
      | none => c.audited r (fun c =>
        let c := c.onDev (fun d => d.nvsNow (.increment 0))
        if c.dev.wdn.alarms != r.s0 then c.reply r stLocked
        else c.clearLocked.reply r stOk (leBytes 8 (c.dev.ctrValue 0))))

/-! ## FLAG_CLEAR and TIME_SET (R316, R319) -/

/-- A ring entry of source `s` is newer than number `n`. -/
def Backup.newerEntry (b : Backup) (s n : Nat) : Bool :=
  b.ring.any (fun e => getF e.2.2 16 5 == s && decide (0 < (getF e.2.2 0 16 + 2 ^ 16 - n) % 2 ^ 16)
    && decide ((getF e.2.2 0 16 + 2 ^ 16 - n) % 2 ^ 16 < 2 ^ 15))

/-- The flags among `named` that clear. -/
def Backup.clearable (b : Backup) (named n : Nat) : Word :=
  (List.range 22).foldl (fun w s => if named.testBit s && b.flags.getLsbD s && !b.newerEntry s n then w ||| BitVec.ofNat 64 (2 ^ s) else w) 0

def Chip.flagClear (c : Chip) : Chip :=
  c.serve 0x0406 false (fun c r =>
    let named := r.par 0 8
    if r.paramLen != 16 || r.bulkLen != 0 || 2 ^ 22 ≤ named || r.par 10 6 != 0 then c.reply r stBadDescriptor
    else c.quorumed r [] 2 (fun c =>
      let w := c.bd.clearable named (r.par 8 2)
      let kept := c.bd.flags &&& BitVec.ofNat 64 named &&& ~~~ w
      { c with bd := { c.bd with flags := c.bd.flags &&& ~~~ w, reviewed := r.par 8 2 } }.reply r stOk (bvBytes 8 w ++ bvBytes 8 kept)))

def Chip.timeSet (c : Chip) : Chip :=
  c.serve 0x0407 false (fun c r =>
    if r.paramLen != 8 || r.bulkLen != 0 || 2 ^ 48 ≤ r.par 0 8 then c.reply r stBadDescriptor
    else c.quorumed r [] 2 (fun c =>
      let was := c.timeWord
      { c with bd := { c.bd with time := r.par 0 8 * 32768, phase := 0, timeValid := true } }.reply r stOk (bvBytes 8 was)))

/-! ## Code-signing keys (R345, R347) -/

/-- The CODESIGN_KEY record of an index: 1 installed, 2 revoked; 0 without one. -/
def Dev.codesign (d : Dev) (i : Nat) : Nat × List Byte :=
  match d.newestRec 1 0x21 i with
  | some r => (leAt r.payload 0 8, r.payload)
  | none => (0, [])

/-- CODESIGN_INSTALL. An index that has been revoked is refused (R345): with ST_KEY_ABSENT. -/
def Chip.codesignInstall (c : Chip) : Chip :=
  c.serve 0x0205 false (fun c r =>
    let i := r.par 0 1
    if r.bulkLen != 0 || r.paramLen != 2704 || i = 0 || 15 < i || r.par 1 7 != 0 || r.par 105 7 != 0 then c.reply r stBadDescriptor
    else if (c.dev.codesign i).1 = 2 then c.reply r stKeyAbsent
    else if c.dev.signFull then c.reply r stQuota
    else c.quorumed r [] 2 (fun c =>
      let p := leBytes 8 1 ++ slice r.params 8 104 ++ slice r.params 112 2592
      (c.onDev (fun d => d.nvsNow (.record ⟨1, 0x21, i, p, 0, 0, true, false⟩))).reply r stOk (keyId (slice r.params 8 97))))

/-- Every function-table entry of image number `k` is removed in one step. -/
def Dev.retireImage (d : Dev) (k : Nat) : Dev :=
  let keep (e : Option (Nat × Nat)) := match e with
    | some x => if x.1 = k then none else some x
    | none => none
  { d with prog := { d.prog with funcs := tmap (fun _ => none) (fun _ e => keep e) d.prog.funcs } }

/-- The images in service: numbers that the function table names. -/
def Dev.inService (d : Dev) (k : Nat) : Bool := d.prog.funcs.any (fun e => match e.2 with | some x => x.1 == k | none => false)

/-- Table entries of image number `k`. -/
def Dev.entriesOf (d : Dev) (k : Nat) : Nat := tcount (fun _ e => match e with | some x => x.1 == k | none => false) d.prog.funcs

/-- CODESIGN_REVOKE: every image signed under the key is retired at once. -/
def Chip.codesignRevoke (c : Chip) : Chip :=
  c.serve 0x0206 false (fun c r =>
    let i := r.par 0 1
    if r.bulkLen != 0 || r.paramLen != 8 || i = 0 || 15 < i || r.par 1 7 != 0 then c.reply r stBadDescriptor
    else if (c.dev.codesign i).1 = 0 then c.reply r stKeyAbsent
    else if c.dev.signFull then c.reply r stQuota
    else c.quorumed r [] 2 (fun c =>
      let p := leBytes 8 2 ++ ((c.dev.codesign i).2.drop 8)
      let gone := (c.dev.prog.images.filter (fun x => x.2.signer == i && c.dev.inService x.1)).map Prod.fst
      (c.onDev (fun d => gone.foldl (fun x k => x.retireImage k) (d.nvsNow (.record ⟨1, 0x21, i, p, 0, 0, true, false⟩)))).reply r stOk
        (leBytes 2 gone.length ++ List.replicate 6 0)))

/-- IMAGE_RETIRE (R344): commands already admitted run to their end. -/
def Chip.imageRetire (c : Chip) : Chip :=
  c.serve 0x0203 false (fun c r =>
    if !r.plain 8 then c.reply r stBadDescriptor
    else
      let ks := (c.dev.prog.images.filter (fun x => x.2.id.toNat == r.par 0 8)).map Prod.fst
      if ks.all (fun k => !c.dev.inService k) then c.reply r stOk (List.replicate 8 0)
      else c.audited r (fun c =>
        let n := (ks.map c.dev.entriesOf).foldl (· + ·) 0
        (c.onDev (fun d => ks.foldl (fun x k => x.retireImage k) d)).reply r stOk (leBytes 2 n ++ List.replicate 6 0)))

/-- PATCH_INSTALL (R346): both vendor signatures, a VERSION above the active patch's and a quorum; written into the inactive
bank. `bulk` is the patch image. -/
def patchCode (b : List Byte) : List Byte := slice b 64 (leAt b 8 4)

def patchOk (b : List Byte) : Bool :=
  slice b 0 4 == [0x57, 0x44, 0x4E, 0x50] && decide (leAt b 8 4 ≤ 196608) && leAt b 12 4 == 0
    && b.length == 64 + leAt b 8 4 + 96 + 4627 && slice b 16 48 == Config.sha384 (patchCode b)

/-- The bank that PATCH_INSTALL writes: bank 1 while bank 0 is active, else bank 0. -/
def Dev.inactiveBank (d : Dev) : Nat := if d.rd Fld.WDN_LIFECYCLE_PATCH = 1 then 1 else 0

/-- The patch records: header and chunks of 4,048 bytes. -/
def Dev.writePatch (d : Dev) (bank : Nat) (b : List Byte) : Dev :=
  let code := patchCode b
  let d := (List.range ((code.length + 4047) / 4048)).foldl (fun x k =>
    x.nvsNow (.record ⟨1, 0x23, bank * 65536 + k, (code.drop (4048 * k)).take 4048, 0, 0, true, false⟩)) d
  d.nvsNow (.record ⟨1, 0x22, bank, slice b 0 64, 0, 0, true, false⟩)

/-- The header has been written: no record of the patch was refused (R288). -/
def Dev.patchWritten (d : Dev) (bank : Nat) (b : List Byte) : Bool :=
  (d.newestRec 1 0x22 bank).map Rec.payload == some (slice b 0 64)

def Chip.patchInstall (c : Chip) (bulk : Option (List Byte)) : Chip :=
  c.serve 0x0204 false (fun c r =>
    match bulk with
    | none => c.reply r stBadDescriptor
    | some b =>
      let c := c.onDev (fun d => d.bulkRead r)
      let n := 64 + leAt b 8 4
      if r.paramLen != 0 || b.length != r.bulkLen then c.reply r stBadDescriptor
      else if !patchOk b then c.reply r stFormat
      else if !(Config.verify 0 Config.vendorKey (slice b 0 n) (slice b n 96)
          && Config.verify 1 Config.vendorKey (slice b 0 n) (slice b (n + 96) 4627)) then c.reply r stAuthFail
      else if leAt b 4 4 ≤ c.dev.rd Fld.WDN_LIFECYCLE_PATCH_VERSION then c.reply r stStaleEpoch
      else if c.dev.signFull then c.reply r stQuota
      else c.quorumed r b 2 (fun c =>
        let bank := c.dev.inactiveBank
        let c := c.onDev (fun d => d.writePatch bank b)
        if !c.dev.patchWritten bank b then c.reply r stQuota else c.reply r stOk ([BitVec.ofNat 8 bank, 0, 0, 0] ++ leBytes 4 (leAt b 4 4))))

/-! ## Archive key (R339, R368) -/

/-- The archive key's record: GENERATION, then the key sealed under the storage KEK. -/
def Dev.archRecord (d : Dev) (gen : Nat) (key : List Byte) : Dev := d.wardenState 3 (leBytes 4 gen ++ Config.sivSeal d.kek [] key)

def Dev.archGen (d : Dev) : Nat := match d.stateOf 3 with | some p => leAt p 0 4 | none => 0

def Dev.archKey (d : Dev) : Option (List Byte) :=
  match d.stateOf 3 with
  | some p => if d.vlt.roots.kek then Config.sivOpen d.kek [] (p.drop 4) else none
  | none => none

/-- ARCHIVE_KEY_CREATE: a window of 600 s opens; the response is posted when it ends. -/
def Chip.archiveKeyCreate (c : Chip) : Chip :=
  c.serve 0x0408 false (fun c r =>
    if r.paramLen != 0 || r.bulkLen != 0 then c.reply r stBadDescriptor
    else if c.dev.wdn.ceremony.isSome then c.reply r stQuota
    else if c.dev.rngFailed then c.reply r stRngUnavailable
    else if !c.dev.rngServes 0 then c
    else c.quorumed r [] 2 (fun c => c.onDev (fun d =>
      let w : ArchWin := ⟨r, d.nfree, d.archGen + 1, []⟩
      let d := { d.draw 0 2 32 with wdn := { d.wdn with arch := some w } }.wr Fld.WDN_MBOX_STATUS_CEREMONY 1
      ((d.modCc 0 (fun x => { x with refused := false })).modCc 1 (fun x => { x with refused := false })).cardsStart)))

/-- ARCHIVE_WINDOW_END: the key is adopted if every custodian holds a written share, else discarded. -/
def Chip.archiveWindowEnd (c : Chip) : Chip :=
  match c.dev.wdn.arch with
  | none => c
  | some w =>
    if c.dev.nvs.frozen then c
    else
      let all := decide (0 < c.dev.wdn.setN) && c.dev.wdn.keys.all (fun k => w.written.contains (keyId k)) && c.dev.vlt.roots.kek
      let c := c.onDev (fun d => { d.wr Fld.WDN_MBOX_STATUS_CEREMONY 0 with wdn := { d.wdn with arch := none } })
      if all && c.dev.canAudit then
        let c := c.auditReq w.req stOk
        (c.onDev (fun d => d.archRecord w.gen (Config.freeBytes w.key 32))).reply w.req stOk
          (leBytes 4 w.gen ++ [BitVec.ofNat 8 w.written.length, 0, 0, 0])
      else (c.auditReq w.req stKeyAbsent).reply w.req stKeyAbsent

/-! ## The Vault Archive (R374, R375) -/

/-- The entry of a slot. -/
def archEntry (slot : Nat) (x : Slot) : List Byte :=
  beBytes 4 (2 ^ 31 + slot) ++ beBytes 2 x.gen ++ [0, 0] ++ (bvBytes 8 x.attr).reverse ++ bvBytes 8 x.kcv ++ slice x.key 0 32
    ++ List.replicate 8 0

/-- A snapshot of every present persistent slot, in ascending order. -/
def Dev.archEntries (d : Dev) : List (List Byte) :=
  (d.vlt.slots.filter (fun e => decide (e.1 < 0x10000) && aPresent e.2.attr && aPersistent e.2.attr)).map (fun e => archEntry e.1 e.2)

/-- The first 40 bytes of an archive block. -/
def archHead (type : Nat) (id : List Byte) (seq count gen copy copies : Nat) : List Byte :=
  [0x56, 0x41, 0x52, 0x43] ++ beBytes 2 1 ++ beBytes 2 type ++ id ++ beBytes 4 seq ++ beBytes 4 count ++ beBytes 4 gen
    ++ [BitVec.ofNat 8 copy, BitVec.ofNat 8 copies, 0, 0]

def archNonce (seq gen copy : Nat) : List Byte := beBytes 4 seq ++ beBytes 4 gen ++ [BitVec.ofNat 8 copy, 0, 0, 0]

/-- The type of the block at position `seq` of `count`. -/
def archType (seq count : Nat) : Nat := if seq = 0 then 1 else if seq + 1 = count then 3 else 2

/-- Block `seq` of a copy. -/
def Chip.archBlock (c : Chip) (b : Backup1) (key : List Byte) : List Byte :=
  let d := c.dev
  let id := Config.freeBytes b.archive 16
  let gen := d.archGen
  let k := archiveKey key id d.deviceId
  let head := archHead (archType b.seq b.count) id b.seq b.count gen b.copy b.copies
  let non := archNonce b.seq gen b.copy
  if b.seq = 0 then
    let pay := d.deviceId ++ beBytes 4 b.entries.length ++ beBytes 4 d.configVersion ++ (bvBytes 8 c.timeWord).reverse
      ++ slice (bvBytes 8 (keyCheckValue 3 k)) 0 5 ++ [0, 0, 0] ++ [BitVec.ofNat 8 d.wdn.setM, BitVec.ofNat 8 d.wdn.setN]
    let body := head ++ slice pay 0 456
    body ++ Config.gcmSeal k non body []
  else
    let pay := if b.seq + 1 = b.count then beBytes 4 b.entries.length else ((b.entries.drop (7 * (b.seq - 1))).take 7).flatten
    head ++ Config.gcmSeal k non head (slice pay 0 456)

/-! ## The backup port (R369 to R373) -/

def Dev.sdState (d : Dev) : Nat := d.rd Fld.CRD_SD_STATUS_STATE

/-- STATE changes, with its event. -/
def Dev.setSd (d : Dev) (s : Nat) : Dev :=
  if d.sdState = s then d else (d.wr Fld.CRD_SD_STATUS_STATE s).eventAt Fld.CRD_SD_EVSEQ_SEQ

/-- The highest mode that the card and MAX_MODE allow. -/
def Dev.sdMode (d : Dev) (v18 : Bool) (top : Nat) : Nat :=
  let m := min top (d.rd Fld.CRD_SD_CFG_MAX_MODE)
  if v18 then max 2 (min m 5) else min m 1

/-- SD_CARD_INIT, after SD_CD_N has been low 10 ms: whether CMD8 is answered, the card is ready within 1 s, CCS and S18A are
set, the voltage switch succeeds; capacity, SDXC, and the card's highest mode (R370). -/
def Dev.sdInit (d : Dev) (cmd8 ready ccs s18a sw : Bool) (blocks : Nat) (sdxc : Bool) (top : Nat) : Dev :=
  if d.sdState != 0 || (d.rd Fld.PLT_BLOCK_RESET_HOLD).testBit 7 then d
  else
    let d := { d.emit (.pin "SD_PWR_EN" true) with crd := { d.crd with sdPresent := true, sdTuned := false } }.setSd 1
    if !cmd8 || !ready || !ccs then d.setSd 7
    else
      let tries := s18a && !d.crd.sdLimit && decide (2 ≤ d.rd Fld.CRD_SD_CFG_MAX_MODE)
      let v18 := tries && sw
      let d := { d with crd := { d.crd with sdLimit := d.crd.sdLimit || (tries && !sw) } }
      let d := ((d.wr Fld.CRD_SD_CARD_BLOCKS blocks).wr Fld.CRD_SD_CARD_SDXC sdxc.toNat).wr Fld.CRD_SD_STATUS_V18 v18.toNat
      let m := d.sdMode v18 top
      (d.wr Fld.CRD_SD_STATUS_MODE m).setSd (if 4 ≤ m then 2 else 3)

/-- SD_TUNING: a tap passes, or the port moves down to the next mode and tunes again where that needs it (R371). -/
def Dev.sdTuning (d : Dev) (ok : Bool) : Dev :=
  if d.sdState != 2 then d
  else
    let d := if d.crd.sdTuned then d.inc Fld.CRD_SD_COUNTS_RETUNE 1 else d
    let d := { d with crd := { d.crd with sdTuned := true } }
    if ok then d.setSd 3
    else
      let m := d.rd Fld.CRD_SD_STATUS_MODE - 1
      (d.wr Fld.CRD_SD_STATUS_MODE m).setSd (if 4 ≤ m then 2 else 3)

/-- `n` CRC errors met by a transfer: retries, and one retuning in a tuned mode (R371, R372). -/
def Dev.sdCrc (d : Dev) (n : Nat) : Dev :=
  let d := d.inc Fld.CRD_SD_COUNTS_CRC_RETRY (min n 3)
  if n != 0 && decide (4 ≤ d.rd Fld.CRD_SD_STATUS_MODE) then d.inc Fld.CRD_SD_COUNTS_RETUNE 1 else d

/-- The backup request in progress ends. -/
def Chip.backupEnd (c : Chip) (b : Backup1) (status : Nat) (body : List Byte) : Chip :=
  let c := c.onDev (fun d => { d with wdn := { d.wdn with backup := none }, crd := { d.crd with sdBusy := false, sdStop := none } })
  let c := if status = stOk then c else c.auditReq b.req status
  c.reply b.req status body

/-- BACKUP_WRITE (R339, R376): checks, then the archive is written block by block. -/
def Chip.backupWrite (c : Chip) : Chip :=
  c.serve 0x0409 false (fun c r =>
    let copies := r.par 8 1
    let es := c.dev.archEntries
    let count := 2 + (es.length + 6) / 7
    if !r.plain 16 || !(copies == 1 || copies == 2) || r.par 9 7 != 0 then c.reply r stBadDescriptor
    else if (c.dev.stateOf 3).isNone then c.reply r stKeyAbsent [1]
    else if c.dev.archKey.isNone then c.reply r stKeyAbsent [2]
    else if c.dev.rngFailed then c.reply r stRngUnavailable
    else if !c.dev.rngServes 0 then c
    else if c.dev.sdState != 3 then c.reply r stUnitReset
    else if c.dev.rd Fld.CRD_SD_CARD_BLOCKS < r.par 0 8 + copies * count then c.reply r stLength
    else c.audited r (fun c => c.onDev (fun d =>
      { d.draw 0 1 16 with wdn := { d.wdn with backup := some ⟨r, r.par 0 8, copies, count, d.nfree, es, 0, 0⟩ } }.setSd 4)))

/-- The LBA of the next block. -/
def Backup1.lba (b : Backup1) : Nat := b.start + b.copy * b.count + b.seq

/-- SD_BLOCK_WRITE: the next block goes out with CMD24, after `crcs` transfers with a CRC error; a fourth puts the port into
ERROR and fails the request. -/
def Chip.sdBlockWrite (c : Chip) (crcs : Nat) : Chip :=
  match c.dev.wdn.backup, c.dev.archKey with
  | some b, some k =>
    if c.dev.sdState != 4 || c.dev.crd.sdBusy then c
    else if 4 ≤ crcs then (c.onDev (fun d => (d.sdCrc crcs).setSd 6)).backupEnd b stUnitReset (leBytes 8 b.lba)
    else c.onDev (fun d =>
      { (d.sdCrc crcs).emit (.sd 24 b.lba (c.archBlock b k)) with crd := { d.crd with sdBusy := true, sdLba := b.lba } })
  | _, _ => c

/-- SD_BUSY_END: the block is written. A Lock or an Erase ends the request here (R353); the last block of the last copy
completes it. -/
def Chip.sdBusyEnd (c : Chip) : Chip :=
  match c.dev.wdn.backup with
  | none => c.onDev (fun d => { d with crd := { d.crd with sdBusy := false } })
  | some b =>
    if !c.dev.crd.sdBusy then c
    else
      let c := c.onDev (fun d => { d with crd := { d.crd with sdBusy := false } })
      match c.dev.crd.sdStop with
      | some s => (c.onDev (fun d => d.setSd 3)).backupEnd b s []
      | none =>
        if b.seq + 1 < b.count then c.onDev (fun d => { d with wdn := { d.wdn with backup := some { b with seq := b.seq + 1 } } })
        else if b.copy + 1 < b.copies then c.onDev (fun d => { d with wdn := { d.wdn with backup := some { b with seq := 0, copy := b.copy + 1 } } })
        else (c.onDev (fun d => d.setSd 3)).backupEnd b stOk (Config.freeBytes b.archive 16 ++ leBytes 4 b.count)

/-- SD_BUSY_TIMEOUT: a busy phase longer than 500 ms is a card error (R372). -/
def Chip.sdBusyTimeout (c : Chip) : Chip :=
  if !c.dev.crd.sdBusy then c
  else
    let c := c.onDev (fun d => ({ d with crd := { d.crd with sdBusy := false } }.inc Fld.CRD_SD_COUNTS_BUSY_TIMEOUT 1).setSd 6)
    match c.dev.wdn.backup with
    | some b => c.backupEnd b stUnitReset (leBytes 8 b.lba)
    | none => c

/-- A removal flag sets, with the LBA of the block in progress and its event (R373). -/
def Dev.sdRemoved (d : Dev) (f : Fld) (lba : Nat) : Dev := ((d.wr f 1).wr Fld.CRD_SD_BLOCK_LBA lba).eventAt Fld.CRD_SD_EVSEQ_SEQ

/-- The card's power is removed and the port is EMPTY. -/
def Dev.sdEmpty (d : Dev) : Dev :=
  let d := { d.emit (.pin "SD_PWR_EN" false) with crd := { d.crd with sdPresent := false, sdLimit := false, sdBusy := false, sdTuned := false } }
  ((((d.wr Fld.CRD_SD_STATUS_MODE 0).wr Fld.CRD_SD_STATUS_V18 0).wr Fld.CRD_SD_CARD_BLOCKS 0).wr Fld.CRD_SD_CARD_SDXC 0).setSd 0

/-- The restore in progress ends; its request, if it waits, is answered. -/
def Chip.restoreEnd (c : Chip) (status : Nat) (body : List Byte) : Chip :=
  match c.dev.wdn.restore with
  | none => c
  | some x =>
    let c := c.onDev (fun d => { d.wr Fld.WDN_LIFECYCLE_RESTORING 0 with wdn := { d.wdn with restore := none } })
    match x.req with
    | some r => c.reply r status body
    | none => c

/-- SD_CARD_REMOVAL. `data` says whether the data phase of the next block had begun. -/
def Chip.sdRemoval (c : Chip) (data : Bool) : Chip :=
  if c.dev.sdState = 0 || !c.dev.crd.sdPresent then c
  else
    let busy := c.dev.crd.sdBusy
    match c.dev.wdn.backup with
    | some b =>
      let c := c.onDev (fun d => (if busy then d.sdRemoved Fld.CRD_SD_STATUS_REMOVED_IN_BUSY d.crd.sdLba
        else if data then d.sdRemoved Fld.CRD_SD_STATUS_REMOVED_IN_DATA b.lba
        else (d.wr Fld.CRD_SD_STATUS_REMOVED 1).eventAt Fld.CRD_SD_EVSEQ_SEQ).sdEmpty)
      c.backupEnd b stUnitReset (leBytes 8 b.lba)
    | none =>
      let c := c.onDev (fun d => ((d.wr Fld.CRD_SD_STATUS_REMOVED 1).eventAt Fld.CRD_SD_EVSEQ_SEQ).sdEmpty)
      match c.dev.wdn.restore with
      | some x => if x.req.isSome then c.restoreEnd stUnitReset (leBytes 8 (x.start + x.copy * x.count)) else c
      | none => c

/-! ## Restore (R340, R377) -/

/-- RESTORE_BEGIN: a new Backup Key; the vault derives from it; the archive's header is read next. -/
def Chip.restoreBegin (c : Chip) : Chip :=
  c.serve 0x0404 false (fun c r =>
    let copies := r.par 12 1
    if r.paramLen != 16 || r.bulkLen != 0 || !(copies == 1 || copies == 2) || r.par 13 3 != 0 || r.par 8 4 < 2 then c.reply r stBadDescriptor
    else if c.dev.rngFailed then c.reply r stRngUnavailable
    else if !c.dev.rngServes 0 then c
    else c.quorumed r [] 2 (fun c =>
      let n := c.dev.nfree
      let x : Restore := ⟨some r, r.par 0 8, r.par 8 4, copies, c.dev.wdn.alarms, [], 0, [], [], 0, 0, [], none, 0, 0⟩
      let c := { c with bd := { c.bd with bk := some n } }
      let c := c.onDev (fun d => { ((d.draw 0 1 32).deriveBk n).wr Fld.WDN_LIFECYCLE_RESTORING 1 with wdn := { d.wdn with restore := some x } })
      if c.dev.sdState != 3 then c.restoreEnd stUnitReset (leBytes 8 x.start) else c.onDev (fun d => d.setSd 5)))

/-- A well-formed HEADER block for copy `copy`. -/
def headerFormed (x : Restore) (copy : Nat) (b : List Byte) : Bool :=
  b.length == 512 && slice b 0 4 == [0x56, 0x41, 0x52, 0x43] && beAt b 4 2 == 1 && beAt b 6 2 == 1 && beAt b 0x18 4 == 0
    && beAt b 0x1C 4 == x.count && leAt b 0x24 1 == copy

/-- A block's plaintext payload when it is valid (R377 step 3), under K_ARC. -/
def Dev.archValid (d : Dev) (x : Restore) (copy : Nat) (b : List Byte) : Option (List Byte) :=
  let id := slice x.header 8 16
  let gen := beAt x.header 0x20 4
  let k := archiveKey x.key id d.deviceId
  let head := slice b 0 40
  if b.length != 512 || slice head 0 36 != slice (archHead (archType x.nextSeq x.count) id x.nextSeq x.count gen copy 0) 0 36
      || leAt b 0x24 1 != copy then none
  else if x.nextSeq = 0 then
    (match Config.gcmOpen k (archNonce 0 gen copy) (slice b 0 496) (slice b 496 16) with
      | some _ => some (slice b 40 456)
      | none => none)
  else Config.gcmOpen k (archNonce x.nextSeq gen copy) head (slice b 40 472)

/-- The archived keys of a KEYS payload: slot, attributes, key, check value. -/
def archKeys (pay : List Byte) : List (Nat × Word × List Byte × List Byte) :=
  (List.range 7).filterMap (fun i =>
    let e := slice pay (64 * i) 64
    if (beAt e 0 4).testBit 31 then some (beAt e 0 4 % 2 ^ 17, BitVec.ofNat 64 (beAt e 8 8), slice e 24 32, slice e 16 8) else none)

/-- An archived key as a change of its slot. -/
def archChange (k : Nat × Word × List Byte × List Byte) : VStage :=
  mkChange k.1 (aPart k.2.1) (k.2.2.1.take (algBytes (aAlg k.2.1))) k.2.1 true true 3

/-- Every entry goes to the vault (R236, R340 step 3); one whose check value differs from the archived one is abandoned (R236). -/
def Dev.loadArchive (d : Dev) (x : Restore) : Dev :=
  let all := ((x.blocks.drop 1).map archKeys).flatten
  let ks := all.filter (fun k => bvBytes 8 (archChange k).new.kcv == k.2.2.2)
  let d := (d.inc Fld.VLT_CHANGES_ABANDONED (all.length - ks.length))
  let d := ks.foldl (fun y k => y.changeAsk (archChange k)) d
  { d with wdn := { d.wdn with restore := some { x with loading := ks.length } } }

/-- SD_BLOCK_READ: the block that the restore reads next: its header until one is accepted, then, once the archive key is
rebuilt, each sequence number of copy 0, and of copy 1 where copy 0's block is not valid. `crcs` as for a write. -/
def Chip.sdBlockRead (c : Chip) (b : List Byte) (crcs : Nat) : Chip :=
  match c.dev.wdn.restore with
  | none => c
  | some x =>
    if c.dev.sdState != 5 then c
    else if 4 ≤ crcs then
      (c.onDev (fun d => (d.sdCrc crcs).setSd 6)).restoreEnd stUnitReset (leBytes 8 (x.start + x.copy * x.count + x.nextSeq))
    else
      let c := c.onDev (fun d => (d.sdCrc crcs).emit (.sd 17 (x.start + x.copy * x.count + x.nextSeq) []))
      let put (c : Chip) (y : Restore) : Chip := c.onDev (fun d => { d with wdn := { d.wdn with restore := some y } })
      if x.header.isEmpty then
        if headerFormed x x.copy b then
          if slice b 40 16 != c.dev.deviceId then (c.onDev (fun d => d.setSd 3)).restoreEnd stFormat []
          else match x.req with
            | some r => (put c { x with header := b, headCopy := x.copy, req := none, copy := 0 }).onDev
                (fun d => (d.reply r stOk (slice b 8 16 ++ leBytes 4 (beAt b 56 4) ++ [0, 0, 0, 0])).cardsStart)
            | none => c
        else if x.copy + 1 < x.copies then put c { x with copy := 1 }
        else (c.onDev (fun d => d.setSd 3)).restoreEnd stFormat []
      else if x.key.isEmpty || x.bad.isSome || x.count ≤ x.nextSeq then c
      else match c.dev.archValid x x.copy b with
        | some p =>
          let y := { x with blocks := x.blocks ++ [p], nextSeq := x.nextSeq + 1, copy := 0 }
          if y.nextSeq < y.count then put c y else c.onDev (fun d => (d.loadArchive y).setSd 3)
        | none =>
          if x.copy + 1 < x.copies then put c { x with copy := 1 }
          else (put c { x with bad := some x.nextSeq }).onDev (fun d => d.setSd 3)

/-- RESTORE_END: the rebuilt archive key into a new record; ERASED and LOCKED clear; LOCK_EVENTS. -/
def Chip.restoreFinish (c : Chip) : Chip :=
  c.serve 0x0405 false (fun c r =>
    match c.dev.wdn.restore with
    | none => c.reply r stBadDescriptor
    | some x =>
      if !r.plain 0 then c.reply r stBadDescriptor
      else if c.dev.wdn.alarms != x.s0 then (c.restoreEnd stErased []).reply r stErased
      else match x.bad with
        | some n => (c.restoreEnd stFormat []).reply r stFormat (leBytes 4 n)
        | none =>
          if x.key.isEmpty || x.nextSeq < x.count || x.loading != 0 then c.reply r stKeyAbsent
          else c.audited r (fun c =>
            let c := c.onDev (fun d => d.archRecord (beAt x.header 0x20 4) x.key)
            let c := c.watch (fun c => { c with bd := { c.bd with erased := false, locked := false } })
            let c := (c.onDev (fun d => d.nvsNow (.increment 0))).restoreEnd stOk []
            c.reply r stOk (leBytes 4 x.loaded ++ [0, 0, 0, 0] ++ leBytes 8 (c.dev.ctrValue 0))))

/-! ## A Lock or an Erase during a backup (R353) -/

/-- A running BACKUP_WRITE ends after the busy phase of the block in progress. -/
def Chip.backupStop (c : Chip) (status : Nat) : Chip :=
  match c.dev.wdn.backup with
  | none => c
  | some b =>
    if c.dev.crd.sdBusy then c.onDev (fun d => { d with crd := { d.crd with sdStop := some status } })
    else (c.onDev (fun d => d.setSd 3)).backupEnd b status []

end Sys2Proof.Machine
end

