-- ==== Sys2Proof/Machine/Standing.lean ====
section
/-! DEFINITION. The standing configuration: its layout and validity, what it gives the device, its two copies, the custodian set,
and CONFIG_SUBMIT (R44, R228, R251, R290, R298, R341 to R343, R405). -/

namespace Sys2Proof.Machine

/-! ## Layout (R341) -/

def cfgVersion (p : List Byte) : Nat := leAt p 4 4
def cfgM (p : List Byte) : Nat := leAt p 0x18 1
def cfgN (p : List Byte) : Nat := leAt p 0x19 1
def cfgRecords (p : List Byte) : Nat := leAt p 0x20 8

/-- The entry of partition `n`. -/
def cfgPart (p : List Byte) (n : Nat) : List Byte := slice p (0x30 + 64 * n) 64

/-- Custodian entry `k`, and the recorded public keys. -/
def cfgCustodian (p : List Byte) (k : Nat) : List Byte := slice p (0x1030 + 104 * k) 104
def cfgKeys (p : List Byte) : List (List Byte) := (List.range (cfgN p)).map (fun k => (cfgCustodian p k).take 97)

/-- A range of a partition entry: base and count at the given offsets. -/
def cfgRange (p : List Byte) (n bo bn co cn : Nat) : Nat × Nat := (leAt (cfgPart p n) bo bn, leAt (cfgPart p n) co cn)

def cfgSq (p : List Byte) (n : Nat) : Nat × Nat := cfgRange p n 0 2 2 2
def cfgCq (p : List Byte) (n : Nat) : Nat × Nat := cfgRange p n 4 2 6 2
def cfgCtx (p : List Byte) (n : Nat) : Nat × Nat := cfgRange p n 8 2 0x0C 4
def cfgInflight (p : List Byte) (n : Nat) : Nat := leAt (cfgPart p n) 0x10 2
def cfgStaging (p : List Byte) (n : Nat) : Nat := leAt (cfgPart p n) 0x12 2
def cfgKm (p : List Byte) (n : Nat) : Nat := leAt (cfgPart p n) 0x14 2
def cfgIde (p : List Byte) (n : Nat) : Nat := leAt (cfgPart p n) 0x16 1
def cfgSlots (p : List Byte) (n : Nat) : Nat × Nat := cfgRange p n 0x18 4 0x1C 4
def cfgRecs (p : List Byte) (n : Nat) : Nat × Nat := cfgRange p n 0x20 4 0x24 4
def cfgCtrs (p : List Byte) (n : Nat) : Nat × Nat := cfgRange p n 0x28 2 0x2A 2

/-! ## Validity (R342) -/

/-- No two of the ranges share a number. -/
def rangesApart : List (Nat × Nat) → Bool
  | [] => true
  | r :: rs => rs.all (fun q => !overlaps r.1 r.2 q.1 q.2) && rangesApart rs

/-- A range that is not empty lies within `lo` to `hi - 1`. -/
def rangeIn (lo hi : Nat) (r : Nat × Nat) : Bool := r.2 == 0 || (decide (lo ≤ r.1) && decide (r.1 + r.2 ≤ hi))

/-- Reserved bytes are zero. -/
def cfgReservedOk (p : List Byte) : Bool :=
  allZero (slice p 0x1C 4) && allZero (slice p 0x28 8)
    && (List.range 64).all (fun n => let e := cfgPart p n
        allZero (slice e 0x0A 2) && leAt e 0x16 1 < 8 && allZero (slice e 0x17 1) && allZero (slice e 0x2C 20))
    && (List.range 16).all (fun k => if k < cfgN p then allZero (slice (cfgCustodian p k) 97 7) else allZero (cfgCustodian p k))

/-- The ranges of every partition: apart, and within what there is (R44, R228, R251, R298). -/
def cfgRangesOk (p : List Byte) : Bool :=
  let all (f : Nat → Nat × Nat) (lo hi : Nat) := let l := (List.range 64).map f
    rangesApart l && l.all (rangeIn lo hi)
  all (cfgSq p) 0 1024 && all (cfgCq p) 0 1024 && all (cfgCtx p) 0 65536 && all (cfgSlots p) 0 0x1C000
    && all (cfgRecs p) 0 (cfgRecords p) && all (cfgCtrs p) 64 896

/-- The quotas and the key-management course of partition `n` (R44, R342). -/
def cfgQuotaOk (p : List Byte) (n : Nat) : Bool :=
  decide ((cfgSq p n).2 ≤ 256) && decide ((cfgCq p n).2 ≤ 256) && ((cfgSq p n).2 == 0 || decide (64 ≤ cfgStaging p n))
    && decide (cfgInflight p n ≤ cfgStaging p n) && (cfgKm p n == 0xFFFF || decide (cfgKm p n < (cfgSq p n).2))

/-- RECORDS is a multiple of 2^20 from 2^20 to 2^27 (R251). -/
def cfgRecordsOk (p : List Byte) : Bool :=
  cfgRecords p % 2 ^ 20 == 0 && decide (2 ^ 20 ≤ cfgRecords p) && decide (cfgRecords p ≤ 2 ^ 27)

/-- The set's size and threshold, and no two keys equal. -/
def cfgSetOk (p : List Byte) : Bool :=
  decide (2 ≤ cfgN p) && decide (cfgN p ≤ 16) && decide (2 ≤ cfgM p) && decide (cfgM p ≤ cfgN p) && (cfgKeys p).eraseDups.length == cfgN p

/-- The record region and its tree fit in the capacity found at training; before training there is none to compare with. -/
def Dev.cfgFits (d : Dev) (p : List Byte) : Bool := d.xks.cap == 0 || decide (storeBytes (cfgRecords p) ≤ d.xks.cap * 2 ^ 30)

/-- The payload is a valid configuration for this device. -/
def Dev.cfgOk (d : Dev) (p : List Byte) : Bool :=
  p.length == 5808 && leAt p 0 4 == 1 && slice p 8 16 == d.deviceId && decide (1 ≤ leAt p 0x1A 2) && decide (leAt p 0x1A 2 ≤ 600)
    && cfgReservedOk p && cfgSetOk p && cfgRecordsOk p && cfgRangesOk p && (List.range 64).all (cfgQuotaOk p)
    && decide (((List.range 64).map (cfgStaging p)).foldl (· + ·) 0 ≤ 8192) && d.cfgFits p

/-! ## The copies (R290) -/

/-- The valid copies: region, SEQ and payload. -/
def Dev.cfgCopies (d : Dev) : List (Nat × Nat × List Byte) :=
  [2, 3].filterMap (fun g => match d.newestRec g 0x0010 0 with
    | some r => if d.cfgOk r.payload then some (g, r.seq, r.payload) else none
    | none => none)

/-- The copy in force: the valid one with the higher SEQ. -/
def Dev.cfgNewest (d : Dev) : Option (Nat × Nat × List Byte) :=
  d.cfgCopies.find? (fun x => d.cfgCopies.all (fun y => decide (y.2.1 ≤ x.2.1)))

/-- The copy to be written: the one that does not hold the newest valid one, copy A when neither is valid. -/
def Dev.cfgTarget (d : Dev) : Nat := match d.cfgNewest with
  | some (2, _, _) => 3
  | _ => 2

/-! ## The custodian set (R329, R343, R347) -/

/-- The WARDEN_STATE record of the custodian set: M, N and the keys. -/
def setPayload (p : List Byte) : List Byte := [BitVec.ofNat 8 (cfgM p), BitVec.ofNat 8 (cfgN p), 0, 0, 0, 0, 0, 0] ++ slice p 0x1030 1664

/-- The set in force is the given one. -/
def Dev.takeSet (d : Dev) (m n : Nat) (keys : List (List Byte)) : Dev := { d with wdn := { d.wdn with setM := m, setN := n, keys := keys } }

/-- The recorded set: of the newest valid configuration, else of the WARDEN_STATE record, else none. -/
def Dev.loadSet (d : Dev) : Dev :=
  match d.cfgNewest with
  | some (_, _, p) => d.takeSet (cfgM p) (cfgN p) (cfgKeys p)
  | none => match d.stateOf 1 with
    | some s => d.takeSet (leAt s 0 1) (leAt s 1 1) ((List.range (leAt s 1 1)).map (fun k => slice s (8 + 104 * k) 97))
    | none => d.takeSet 0 0 []

/-! ## What it gives the device (R44) -/

/-- The resources of partition `n`. -/
def Dev.cfgLoadPart (d : Dev) (p : List Byte) (n : Nat) : Dev :=
  let d := ((d.wr (Fld.PART_COURSES_SQ_BASE n) (cfgSq p n).1).wr (Fld.PART_COURSES_SQ_COUNT n) (cfgSq p n).2)
  let d := ((d.wr (Fld.PART_COURSES_CQ_BASE n) (cfgCq p n).1).wr (Fld.PART_COURSES_CQ_COUNT n) (cfgCq p n).2)
  let d := ((d.wr (Fld.PART_CONTEXTS_CTX_BASE n) (cfgCtx p n).1).wr (Fld.PART_CONTEXTS_CTX_COUNT n) (cfgCtx p n).2)
  let d := ((d.wr (Fld.PART_QUOTA_INFLIGHT n) (cfgInflight p n)).wr (Fld.PART_QUOTA_STAGING n) (cfgStaging p n))
  let d := ((d.wr (Fld.PART_STATUS_IDE_REQUIRED n) (cfgIde p n % 2)).wr (Fld.PART_STATUS_IDE_STREAM n) (cfgIde p n / 2))
  let d := ((d.wr (Fld.VLT_PART_SLOTS_SLOT_BASE n) (cfgSlots p n).1).wr (Fld.VLT_PART_SLOTS_SLOT_COUNT n) (cfgSlots p n).2)
  let d := ((d.wr (Fld.NVS_PART_COUNTERS_BASE n) (cfgCtrs p n).1).wr (Fld.NVS_PART_COUNTERS_COUNT n) (cfgCtrs p n).2)
  let km := if cfgKm p n = 0xFFFF then none else some (cfgKm p n)
  { d with wdn := { d.wdn with km := tput (fun _ => none) d.wdn.km n km } }

/-- The PARTITION of every present loadable slot is the owner of its range (R228). -/
def Dev.ownSlots (d : Dev) : Dev :=
  let own (k : Nat) (s : Slot) : Slot :=
    if k < 0x1C000 && aPresent s.attr then { s with attr := setF s.attr 16 6 (d.slotOwner k) } else s
  { d with vlt := { d.vlt with slots := tmap (fun _ => Slot.reset) own d.vlt.slots } }

/-- The configuration in force is `p`. RECORDS and the record ranges take effect only when the store is formatted (R251). -/
def Dev.cfgLoad (d : Dev) (p : List Byte) : Dev :=
  let d := { d with wdn := { d.wdn with config := p } }
  ((List.range 64).foldl (fun x n => x.cfgLoadPart p n) d).ownSlots

/-- The record ranges and RECORDS that the store was formatted for (R251, R259). -/
def Dev.recordRanges (d : Dev) : Dev :=
  (List.range 64).foldl (fun x n => let r := x.xks.ranges.getD n (0, 0)
    (x.wr (Fld.XKS_PART_RECORDS_BASE n) r.1).wr (Fld.XKS_PART_RECORDS_COUNT n) r.2) d

/-! ## Step 9 (R342, R405) -/

/-- The custodian set is loaded, and the configuration in force validated and loaded, or the device is Held. -/
def Dev.cfgValidate (d : Dev) : Dev :=
  let d := (d.loadSet).wr Fld.WDN_LIFECYCLE_CONFIG_PENDING 0
  match d.cfgNewest with
  | some (_, _, p) => ((d.cfgLoad p).wr Fld.PLT_RESET_STATUS_HELD 0)
  | none => ({ d with wdn := { d.wdn with config := [], km := [] }, xks := { d.xks with held := true } }).wr Fld.PLT_RESET_STATUS_HELD 1

/-! ## CONFIG_SUBMIT (R343) -/

/-- The sets whose quorum is needed: the recorded set, and the new one where it differs; only the new one with none recorded. -/
def Dev.cfgAuthority (d : Dev) (p : List Byte) : List (Nat × List (List Byte)) :=
  let new := (cfgM p, cfgKeys p)
  if d.wdn.setN = 0 then [new] else if d.wdn.setM == cfgM p && d.wdn.keys == cfgKeys p then d.authority else d.authority ++ [new]

/-- Both records are written; in Held the release order resumes at step 9, else the configuration waits for the next reset. -/
def Chip.cfgTake (c : Chip) (p : List Byte) : Chip :=
  let d := c.dev.nvsNow (.record ⟨c.dev.cfgTarget, 0x0010, 0, p, 0, 0, true, false⟩)
  let d := (d.wardenState 1 (setPayload p)).takeSet (cfgM p) (cfgN p) (cfgKeys p)
  let d := if d.held then d.wr Fld.PLT_RESET_STATUS_STEP 8 else d.wr Fld.WDN_LIFECYCLE_CONFIG_PENDING 1
  { c with dev := d }

/-- The content: the parameters, or the bulk area. -/
def WReq.content (r : WReq) (bulk : Option (List Byte)) : Option (List Byte) :=
  if r.bulkLen = 0 then some r.params
  else match bulk with
    | some b => if r.paramLen = 0 && b.length == r.bulkLen then some b else none
    | none => none

def Chip.configSubmit (c : Chip) (bulk : Option (List Byte)) : Chip :=
  c.serve 0x0201 false (fun c r =>
    let c := c.onDev (fun d => d.bulkRead r)
    match r.content bulk with
    | none => c.reply r stBadDescriptor
    | some p =>
      if !c.dev.cfgOk p then c.reply r stFormat
      else if (match c.dev.cfgNewest with | some (_, _, q) => decide (cfgVersion p ≤ cfgVersion q) | none => false) then c.reply r stStaleEpoch
      else match c.dev.authCheck r (if r.bulkLen = 0 then [] else p) 2 (c.dev.cfgAuthority p) with
        | some s => c.reply r s
        | none => c.audited r (fun c =>
          let pending : Byte := if c.dev.held then 0 else 1
          (c.watch (fun c => (c.onDev (fun d => d.nvsNow (.increment 2))).cfgTake p)).reply r stOk (leBytes 4 (cfgVersion p) ++ [pending, 0, 0, 0])))

end Sys2Proof.Machine
end

