-- ==== Sys2Proof/Machine/Bond.lean ====
section
/-! DEFINITION. The bond: sessions, frames received, forwarding, joining, replication of key changes, counter leases, heartbeats,
loss and promotion, relay rings and ports (R378 to R396). -/

namespace Sys2Proof.Machine

/-! ## Frames received (R380, R383) -/

/-- The session that protects a frame. -/
def frameSess (fr : Frame) : Nat := if fr.port < 2 then fr.port else relaySess fr.src

/-- Frames can pass: enrolled, the data plane enabled, neither Held nor erased. -/
def Dev.mtrUp (d : Dev) : Bool := !d.mtr.cert.isEmpty && d.serving && !d.tmp.erased && !d.tmp.erasing

/-- Direct port `p` is held in reset (R412). -/
def Dev.portHeld (d : Dev) (p : Nat) : Bool := (d.rd Fld.PLT_BLOCK_RESET_HOLD).testBit (8 + p)

/-- A frame dropped, and counted. -/
def Dev.mtrDrop (d : Dev) : Dev := d.inc Fld.MTR_COUNTS_DROPPED 1

/-- Session `k` ends. -/
def Dev.sessEnd (d : Dev) (k : Nat) : Dev :=
  let d := d.setSess k Sess.reset
  if k < 2 && d.rd (Fld.MTR_PORT_LINK k) == 3 then d.wr (Fld.MTR_PORT_LINK k) 2 else d

/-- A frame fails its tag or its COUNTER: the third drop in a row ends the session. -/
def Dev.frameBad (d : Dev) (k : Nat) : Dev :=
  let s := d.sess k
  let d := d.mtrDrop
  if s.drops = 2 then d.sessEnd k else d.setSess k { s with drops := s.drops + 1 }

/-- Whether the frame arrives where frames can: an open port, or an accepted entry of the relay. -/
def Dev.frameArrives (d : Dev) (fr : Frame) : Bool :=
  d.mtrUp && (if fr.port < 2 then !d.portHeld fr.port && decide (2 ≤ d.rd (Fld.MTR_PORT_LINK fr.port))
    else fr.port == 2 && d.mtr.relayGot.head? == some fr.src)

/-- The accepted relay entry is used up. -/
def Dev.relayTaken (d : Dev) (fr : Frame) : Dev :=
  if fr.port = 2 then { d with mtr := { d.mtr with relayGot := d.mtr.relayGot.drop 1 } } else d

/-- The frame passes its session: the device after, and whether it does. -/
def Dev.framePasses (d : Dev) (fr : Frame) : Dev × Bool :=
  let k := frameSess fr
  let s := d.sess k
  if !fr.crc || s.st != 3 then (d.mtrDrop, false)
  else if !fr.tag || fr.counter ≤ s.rx then (d.frameBad k, false)
  else (d.setSess k { s with rx := fr.counter, drops := 0 }, true)

/-- A frame for this device is accepted: it passes its session, its reserved fields are zero, and it is the first copy of its SRC
and MSG_ID. A message received is an event (R75). -/
def Dev.frameIn (d : Dev) (fr : Frame) : Dev × Bool :=
  if !d.frameArrives fr || fr.dst != d.ownMember then (d, false)
  else
    let x := (d.relayTaken fr).framePasses fr
    if !x.2 then x
    else if !fr.clean || x.1.mtr.seen.contains (fr.src, fr.msgId) then (x.1.mtrDrop, false)
    else
      let m := { x.1.mtr with seen := ((fr.src, fr.msgId) :: x.1.mtr.seen).take 64, via := tput (fun _ => 0) x.1.mtr.via fr.src (if fr.port < 2 then 1 else 2) }
      ({ x.1 with mtr := m }.event, true)

/-- FRAME_FORWARD (R380): a ring frame for another device, as its session opened it, leaves by the opposite port with one more hop,
under that port's session; one that arrives with HOPS 7 is dropped. A Lock does not stop it. -/
def Dev.frameForward (d : Dev) (fr : Frame) (bytes : List Byte) : Dev :=
  if !d.frameArrives fr || fr.dst == d.ownMember || 2 ≤ fr.port then d
  else
    let x := d.framePasses fr
    if !x.2 then x.1
    else if 7 ≤ fr.hops then x.1.mtrDrop
    else
      let q := 1 - fr.port
      let s := x.1.sess q
      if s.st = 3 then (x.1.setSess q { s with tx := s.tx + 1 }).emit (.frame q (s.seal (leAt bytes 0 1) (fr.hops + 1) fr.dst fr.src (bytes.drop 16))) else x.1

/-! ## What a message requires (R386, R387, R396) -/

/-- The roster entry of a member. -/
def Dev.rosterId (d : Dev) (m : Nat) : Option (List Byte) := (d.mtr.roster.find? (fun e => e.1 == m)).map Prod.snd

/-- The certificate that a session has shown for member `m`. -/
def Dev.certOf (d : Dev) (m : Nat) : Option (List Byte) :=
  (d.mtr.sess.find? (fun s => s.2.st == 3 && s.2.peer == m)).map (fun s => s.2.cert)

/-- Member `m` is manager-eligible: by its certificate, else as certified. -/
def Dev.eligibleMember (d : Dev) (m : Nat) : Bool :=
  match d.certOf m with
  | some c => (leAt c 0x21 1).testBit 0
  | none => Config.eligible (slice d.mtr.cert 0 16) ((d.rosterId m).getD [])

/-- A manager-eligible roster member; a device that has no roster yet cannot compare. -/
def Dev.mayLead (d : Dev) (m : Nat) : Bool := d.mtr.roster.isEmpty || ((d.rosterId m).isSome && d.eligibleMember m)

/-- The frame's sender is this device's manager. -/
def Dev.fromManager (d : Dev) (fr : Frame) : Bool := fr.src == d.managerId && d.bondRole != roleManager

/-- What R386 does with an accepted frame of the right-hand column: whether it is applied. `role` says that sender and receiver
hold the roles the type requires. -/
def Dev.mtrJudge (d : Dev) (kind : Nat) (fr : Frame) (role : Bool) : Dev × Bool :=
  let e := d.rd Fld.MTR_EPOCH_EPOCH
  if fr.epoch < e then (d.mtrNak fr.src kind 1 fr.msgId, false)
  else if e < fr.epoch then (if d.bondState = bsJoining then d else d.enterJoining Dev.noteAnswer false, false)
  else if role then (d, true)
  else (d.mtrNak fr.src kind 2 fr.msgId, false)

/-- A message of the right-hand column: accepted, judged, and applied by `f`. A Locked device answers none of them (R396). -/
def Chip.mtrApply (c : Chip) (kind : Nat) (fr : Frame) (role : Dev → Bool) (f : Chip → Chip) : Chip :=
  let x := c.dev.frameIn fr
  if !x.2 || x.1.tmp.lock then { c with dev := x.1 }
  else
    let y := x.1.mtrJudge kind fr (role x.1)
    if y.2 then f { c with dev := y.1 } else { c with dev := y.1 }

def Dev.mtrApply (d : Dev) (kind : Nat) (fr : Frame) (role : Dev → Bool) (f : Dev → Dev) : Dev :=
  let x := d.frameIn fr
  if !x.2 || x.1.tmp.lock then x.1
  else
    let y := x.1.mtrJudge kind fr (role x.1)
    if y.2 then f y.1 else y.1

/-! ## Certificates and sessions (R378, R382) -/

/-- The bytes of a certificate with its authorisation. -/
def certLength (bs : List Byte) : Nat := 2784 + 0x50 + 104 * leAt bs (2784 + 2) 1

/-- PROFILE_DIGEST of the configuration in force. -/
def Dev.profileDigest (d : Dev) : List Byte :=
  let p := d.wdn.config
  slice (Config.sha384 (((List.range 64).map (fun n => slice (cfgPart p n) 0x18 8)).flatten ++ slice p 0x18 2 ++ slice p 0x1A 2 ++ slice p 0x1030 1664)) 0 48

/-- The device's Mortar public keys (R232, R378). -/
def Dev.mortarPub (d : Dev) (alg : Nat) : List Byte := slice (Config.signPublic alg d.mortarSeed) 0 (if alg = 0 then 97 else 2592)

/-- The other side's certificate is acceptable. -/
def Dev.certAccept (d : Dev) (c : List Byte) : Bool :=
  let a := c.drop 2784
  c.length == certLength c && slice c 0 16 == slice d.mtr.cert 0 16 && slice c 0x28 48 == slice d.mtr.cert 0x28 48
    && leAt c 0x20 1 != d.ownMember && authLaid a && authSigned d.wdn.keys a && decide (1 ≤ d.wdn.setM)
    && decide (d.wdn.setM ≤ authMembers d.wdn.keys a)

/-- Both signatures over a label and T verify under a certificate's keys. -/
def bothVerify (cert label t sigs : List Byte) : Bool :=
  Config.verify 0 (slice cert 0x58 97) (label ++ t) (slice sigs 0 96) && Config.verify 1 (slice cert 0xC0 2592) (label ++ t) (slice sigs 96 4627)

/-- Both signatures of this device. -/
def Dev.bothSign (d : Dev) (label t : List Byte) : List Byte :=
  slice (Config.sign 0 d.mortarSeed (label ++ t)) 0 96 ++ slice (Config.sign 1 d.mortarSeed (label ++ t)) 0 4627

/-- A handshake fails: the attempt ends, and is counted. -/
def Dev.sessFail (d : Dev) (k : Nat) : Dev := (d.setSess k Sess.reset).mtrDrop

/-- A handshake frame arrives in clear for session `k`; a rail freeze or a Lock does not stop it. -/
def Dev.helloIn (d : Dev) (fr : Frame) : Bool := d.frameArrives fr && fr.crc && fr.clean && fr.counter == 0

/-- A handshake frame leaves in clear. -/
def Dev.helloOut (d : Dev) (k dst kind : Nat) (payload : List Byte) : Dev :=
  { d with mtr := { d.mtr with msgId := d.mtr.msgId + 1 } }.clearSend k dst kind (payload.map BitVec.toNat)

/-- The two session keys, initiator to responder first: the KDF under K0, from Z_EC, Z_KEM, T and both nonces. -/
def sessKeys (zEc zKem t nonces : List Byte) : List Byte :=
  kdf ((Config.sha384 (slice zEc 0 48 ++ slice zKem 0 32 ++ t)).take 32) (asciiBytes "MORTAR") nonces 512

/-- Session `k` is established with member `m` under its keys. -/
def Dev.sessOpen (d : Dev) (k m : Nat) (cert keys : List Byte) (init : Bool) : Dev :=
  let d := d.setSess k { Sess.reset with st := 3, peer := m, cert := cert, keys := keys, init := init }
  if k < 2 then (d.wr (Fld.MTR_PORT_LINK k) 3).wr (Fld.MTR_PORT_PEER_ID k) m else d

/-- A handshake frame is taken: an event, as every message is (R75). -/
def Dev.helloTaken (d : Dev) (fr : Frame) : Dev := (d.relayTaken fr).event

/-- HELLO: the responder accepts the initiator's certificate and answers; on a direct port only from a lower MEMBER_ID. Its own keys and
nonce come from instance C (R17): the frame waits while that is not ready, and without it the attempt fails (R274). -/
def Dev.hello (d : Dev) (fr : Frame) (p : List Byte) : Dev :=
  if !d.helloIn fr then (if d.frameArrives fr then (d.relayTaken fr).mtrDrop else d)
  else if !d.rngFailed && !d.rngServes 0 then d
  else
    let d := d.helloTaken fr
    let k := frameSess fr
    let cert := slice p 16 (certLength (p.drop 16))
    let n := certLength (p.drop 16)
    if p.length != 16 + n + 97 + 1568 + 16 || leAt p 4 4 != 0 || leAt cert 0x20 1 != fr.src || (fr.port < 2 && d.ownMember < fr.src)
        || !d.certAccept cert || d.rngFailed then d.sessFail k
    else
      let f := d.nfree
      let pre := leBytes 4 (d.rd Fld.MTR_EPOCH_EPOCH) ++ [0, 0, 0, 0] ++ leBytes 8 (d.mtr.msgId + 1) ++ d.mtr.cert
        ++ slice (Config.publicOf 0x09 (Config.freeBytes f 48)) 0 97
        ++ slice (Config.kemEncaps (slice p (16 + n + 97) 1568) (Config.freeBytes (f + 1) 32)) 0 1568 ++ Config.freeBytes (f + 2) 16
      let t := Config.sha384 (p ++ pre)
      let keys := sessKeys (Config.agree (Config.freeBytes f 48) (slice p (16 + n) 97)) (Config.kemShared (slice p (16 + n + 97) 1568) (Config.freeBytes (f + 1) 32))
        t (slice p (16 + n + 97 + 1568) 16 ++ Config.freeBytes (f + 2) 16)
      let d := (d.draw 0 3 96).setSess k { Sess.reset with st := 2, peer := fr.src, cert := cert, hello := t, keys := keys }
      d.helloOut k fr.src 2 (pre ++ d.bothSign (asciiBytes "MTR2") t)

/-- HELLO_REPLY: the initiator accepts the responder and finishes; the session is established on its side. -/
def Dev.helloReply (d : Dev) (fr : Frame) (p : List Byte) : Dev :=
  if !d.helloIn fr then (if d.frameArrives fr then (d.relayTaken fr).mtrDrop else d)
  else
    let d := d.helloTaken fr
    let k := frameSess fr
    let s := d.sess k
    if s.st != 1 then d.mtrDrop
    else
      let n := certLength (p.drop 16)
      let cert := slice p 16 n
      let m := 16 + n + 97 + 1568 + 16
      let t := Config.sha384 (s.hello ++ p.take m)
      if p.length != m + 96 + 4627 || leAt p 4 4 != 0 || leAt cert 0x20 1 != fr.src || !d.certAccept cert
          || !bothVerify cert (asciiBytes "MTR2") t (p.drop m) then d.sessFail k
      else
        let keys := sessKeys (Config.agree (Config.freeBytes s.eph 48) (slice p (16 + n) 97)) (Config.kemDecaps (Config.freeBytes (s.eph + 1) 64) (slice p (16 + n + 97) 1568))
          t (Config.freeBytes (s.eph + 2) 16 ++ slice p (16 + n + 97 + 1568) 16)
        let d := d.sessOpen k fr.src cert keys true
        d.helloOut k fr.src 3 (leBytes 4 (d.rd Fld.MTR_EPOCH_EPOCH) ++ [0, 0, 0, 0] ++ leBytes 8 (d.mtr.msgId + 1) ++ d.bothSign (asciiBytes "MTR3") t)

/-- FINISH: the responder's side of the session is established. -/
def Dev.finishFrame (d : Dev) (fr : Frame) (p : List Byte) : Dev :=
  if !d.helloIn fr then (if d.frameArrives fr then (d.relayTaken fr).mtrDrop else d)
  else
    let d := d.helloTaken fr
    let k := frameSess fr
    let s := d.sess k
    if s.st != 2 || s.peer != fr.src then d.mtrDrop
    else if p.length != 16 + 96 + 4627 || !bothVerify s.cert (asciiBytes "MTR3") s.hello (p.drop 16) then d.sessFail k
    else d.sessOpen k fr.src s.cert s.keys false

/-- SESSION_RETRY: 1 s after a failed attempt the initiator tries again. Session `k`, with `peer` on the relay. -/
def Dev.sessRetry (d : Dev) (k peer : Nat) : Dev :=
  if !d.mtrUp || (d.sess k).st != 0 then d
  else if k < 2 then
    (if d.rd (Fld.MTR_PORT_LINK k) = 2 && d.ownMember < d.rd (Fld.MTR_PORT_PEER_ID k) && !d.portHeld k then d.helloStart k (d.rd (Fld.MTR_PORT_PEER_ID k)) else d)
  else if k = relaySess peer && d.relayOn then d.helloStart k peer
  else d

/-- MORTAR_LINK_UP: port `p` has trained `lanes` lanes to the neighbour with MEMBER_ID `peer`; the lower MEMBER_ID begins the
session. -/
def Dev.mortarUp (d : Dev) (p lanes peer : Nat) : Dev :=
  if 2 ≤ p || d.portHeld p || d.held || 2 ≤ d.rd (Fld.MTR_PORT_LINK p) then d
  else
    let d := ((d.wr (Fld.MTR_PORT_LINK p) 2).wr (Fld.MTR_PORT_LANES p) (min lanes 4)).wr (Fld.MTR_PORT_PEER_ID p) peer
    let d := d.lifeAdd (543 + p) 1
    if d.mtrUp && d.ownMember < peer then d.helloStart p peer else d

/-- The link of port `p` is down. -/
def Dev.portDown (d : Dev) (p : Nat) : Dev :=
  (((d.setSess p Sess.reset).wr (Fld.MTR_PORT_LINK p) 0).wr (Fld.MTR_PORT_LANES p) 0).wr (Fld.MTR_PORT_PEER_ID p) 0

/-- MORTAR_LINK_DOWN. -/
def Dev.mortarDown (d : Dev) (p : Nat) : Dev := if 2 ≤ p then d else d.portDown p

/-- Sessions end; `links` whether the links drop too. -/
def Dev.sessionsEnd (d : Dev) (links : Bool) : Dev :=
  let d := if links then (d.portDown 0).portDown 1 else (d.sessEnd 0).sessEnd 1
  { d with mtr := { d.mtr with sess := [], relay := [], relayGot := [] } }

/-! ## Slot images (R224, R384) -/

/-- The 64 bytes of a slot. -/
def slotBytes (x : Slot) (gen : Nat) : List Byte :=
  slice x.key 0 32 ++ bvBytes 8 x.attr ++ leBytes 2 gen ++ List.replicate 6 0 ++ bvBytes 8 x.kcv ++ List.replicate 8 0

/-- The change that a slot image asks for. -/
def imageChange (d : Dev) (slot : Nat) (img : List Byte) (gen : Option Nat) (origin : Nat) : VStage :=
  let a := bytesBv 64 (slice img 0x20 8)
  let old := d.slot slot
  let key := if aPresent a then (slice img 0 32).take (algBytes (aAlg a)) else []
  let v := mkChange slot (aPart a) key a (old.key != key || aPersistent old.attr != aPersistent a || aPresent old.attr != aPresent a)
    (aPersistent old.attr || aPersistent a) origin
  { v with gen := gen }

/-! ## Replication: the manager (R389) -/

/-- The next change held for the bond opens a transaction: PREPARE to the standby and every live worker. Without an accepted
standby it is abandoned. -/
def Dev.txNext (d : Dev) : Dev :=
  if d.bondRole != roleManager || d.mtr.tx.isSome then d
  else if !d.canCommit then d.heldDrop Dev.noteAnswer stStaleEpoch
  else match d.vlt.staging.find? (fun x => x.2.phase == .bond && x.2.origin == 1) with
    | none => d
    | some (e, v) =>
      let txn := d.rd Fld.MTR_TXN_TXN + 1
      let before := (d.slot v.slot).gen
      let img := slotBytes v.new ((before + 1) % 2 ^ 16)
      let ws := d.liveWorkers
      let d := { d with mtr := { d.mtr with tx := some ⟨txn, e, img, v.slot, before, 0, ws, 0⟩ } }
      (d.standbyId :: ws).foldl (fun x m => x.mtrAsk m 0x30 [txn, v.slot, before, ofLe img]) d

/-- A member is brought up to date (R387): the transactions after `last`, while they are all kept, else every present loadable
slot. -/
def Dev.resync (d : Dev) (m last : Nat) : Dev :=
  let now := d.rd Fld.MTR_TXN_TXN
  let newer := d.mtr.hist.filter (fun t => decide (last < t.txn))
  if now ≤ last then d
  else if newer.length = now - last then newer.foldl (fun x t => x.mtrAsk m 0x30 [t.txn, t.slot, t.before, ofLe t.image]) d
  else
    let ss := d.vlt.slots.filter (fun x => decide (x.1 < 0x1C000) && aPresent x.2.attr)
    let d := (chunksOf 200 ss.length ss).foldl (fun x c =>
      x.mtrSend m 0x12 (c.length :: c.flatMap (fun y => [y.1, ofLe (slotBytes y.2 y.2.gen)]))) d
    d.mtrSend m 0x13 [now, ss.length]
where
  /-- Lists of at most `n`, in order. -/
  chunksOf (n : Nat) : Nat → List (Nat × Slot) → List (List (Nat × Slot))
    | 0, _ => []
    | f + 1, l => if l.isEmpty then [] else l.take n :: chunksOf n f (l.drop n)

/-- PREPARED: the manager records the answer; a committed transaction that is sent again is committed at once (R387); the
standby's consent is followed by its COMMIT, its refusal by ABORT; a worker that is behind is dropped and brought up to date. -/
def Dev.prepared (d : Dev) (fr : Frame) (txn status : Nat) : Dev :=
  d.mtrApply 0x31 fr (fun x => x.bondRole == roleManager) (fun d =>
    let d := d.mtrDone1 fr.src 0x30 txn
    if txn ≤ d.rd Fld.MTR_TXN_TXN then (if status = stOk then d.mtrAsk fr.src 0x32 [txn] else d)
    else match d.mtr.tx with
      | none => d
      | some t =>
        if t.txn != txn then d
        else if fr.src == d.standbyId then
          (if status = stOk then (if t.phase = 0 then { d with mtr := { d.mtr with tx := some { t with phase := 1 } } }.mtrAsk fr.src 0x32 [txn] else d)
           else d.txAbort Dev.noteAnswer stStaleEpoch)
        else if status = stOk then d
        else { d with mtr := { d.mtr with tx := some { t with waiting := t.waiting.filter (· != fr.src) } } }.resync fr.src 0)

/-- The open transaction is committed: the manager completes its own change and tells the workers. -/
def Dev.txCommit (d : Dev) (t : MtrTx) : Dev :=
  let d := (d.wr Fld.MTR_TXN_TXN t.txn).event
  let ws := t.waiting.filter (fun m => d.liveWorkers.contains m)
  let t := { t with phase := 2, waiting := ws, seq := d.seq.toNat }
  let hist := (d.mtr.hist ++ [t]).drop (d.mtr.hist.length + 1 - 4096)
  let m := { d.mtr with tx := none, hist := hist, unapplied := if ws.isEmpty then d.mtr.unapplied else d.mtr.unapplied ++ [t] }
  let d := ws.foldl (fun x w => x.mtrAsk w 0x32 [t.txn]) { d with mtr := m }
  d.changeGo Dev.noteAnswer t.entry (d.vstage t.entry)

/-- Worker `m` has applied transaction `txn`, or no longer counts. -/
def Dev.txApplied (d : Dev) (m : Nat) (p : MtrTx → Bool) : Dev :=
  let un := d.mtr.unapplied.map (fun t => if p t then { t with waiting := t.waiting.filter (· != m) } else t)
  { d with mtr := { d.mtr with unapplied := un.filter (fun t => !t.waiting.isEmpty) } }

/-- APPLIED: the standby's commits the transaction; a worker's counts for FENCE_BOND. -/
def Dev.applied (d : Dev) (fr : Frame) (txn status : Nat) : Dev :=
  d.mtrApply 0x33 fr (fun x => x.bondRole == roleManager) (fun d =>
    let d := d.mtrDone1 fr.src 0x32 txn
    match d.mtr.tx with
    | some t =>
      if t.txn = txn && fr.src == d.standbyId && t.phase == 1 then
        (if status = stOk then (d.txCommit t).txNext else d.txAbort Dev.noteAnswer stStaleEpoch)
      else if status = stOk then d.txApplied fr.src (fun t => t.txn == txn) else d
    | none => if status = stOk then d.txApplied fr.src (fun t => t.txn == txn) else d)

/-! ## Replication: a standby or a worker (R387, R389) -/

/-- A change for the bond is under way on this member. -/
def Dev.applying (d : Dev) : Bool :=
  d.mtr.prepared.isSome || (d.vlt.waiting ++ d.vlt.staging.map Prod.snd).any (fun v => v.origin == 2 && v.phase != .retiring)

/-- The lowest transaction that is prepared and not staged goes to the vault; one whose GEN_BEFORE does not match is refused. -/
def Dev.prepareNext : Nat → Dev → Dev
  | 0, d => d
  | f + 1, d =>
    match d.mtr.pendingImages with
    | [] => d
    | (txn, p) :: _ =>
      if d.applying then d
      else
        let slot := leAt p 0 4
        if (d.slot slot).gen = leAt p 4 2 then d.changeAsk (imageChange d slot (p.drop 8) none 2)
        else
          let d := { d with mtr := { d.mtr with pendingImages := tput (fun _ => []) d.mtr.pendingImages txn [] } }
          prepareNext f (d.mtrSend d.managerId 0x31 [txn, stStaleEpoch])

/-- PREPARE. A repeat receives the answer already given. -/
def Dev.prepare (d : Dev) (fr : Frame) (txn slot before : Nat) (img : List Byte) : Dev :=
  d.mtrApply 0x30 fr (fun x => x.fromManager fr && (x.bondRole == roleStandby || x.bondRole == roleWorker)) (fun d =>
    if txn ≤ d.rd Fld.MTR_TXN_TXN || d.mtr.prepared.map Prod.fst == some txn then d.mtrSend fr.src 0x31 [txn, stOk]
    else if 0x1C000 ≤ slot || !(tget (fun _ => []) d.mtr.pendingImages txn).isEmpty then d
    else
      let p := leBytes 4 slot ++ leBytes 2 before ++ [0, 0] ++ slice img 0 64
      let d := { d with mtr := { d.mtr with pendingImages := tput (fun _ => []) d.mtr.pendingImages txn p } }
      d.prepareNext d.mtr.pendingImages.length)

/-- A staged change of a member answers PREPARE. -/
def Dev.preparedHere (d : Dev) (e : Nat) : Dev :=
  match d.mtr.pendingImages with
  | [] => d
  | (txn, _) :: _ => { d with mtr := { d.mtr with prepared := some (txn, e) } }.mtrSend d.managerId 0x31 [txn, stOk]

/-- COMMIT: the prepared change goes on; when it is visible, APPLIED. -/
def Dev.commit (d : Dev) (fr : Frame) (txn : Nat) : Dev :=
  d.mtrApply 0x32 fr (fun x => x.fromManager fr && (x.bondRole == roleStandby || x.bondRole == roleWorker)) (fun d =>
    if txn ≤ d.rd Fld.MTR_TXN_TXN then d.mtrSend fr.src 0x33 [txn, stOk]
    else match d.mtr.prepared with
      | some (t, e) =>
        if t = txn && (d.vstage e).phase == .bond then
          let d := d.event
          let t : MtrTx := ⟨txn, e, [], 0, 0, d.seq.toNat, [d.ownMember], 2⟩
          { d with mtr := { d.mtr with unapplied := d.mtr.unapplied ++ [t] } }.changeGo Dev.noteAnswer e (d.vstage e)
        else d
      | none => d)

/-- ABORT: the prepared transaction is abandoned. -/
def Dev.dropPrepared (d : Dev) (p : Nat → Bool) : Dev :=
  let d := { d with mtr := { d.mtr with pendingImages := d.mtr.pendingImages.filter (fun x => !p x.1 || d.mtr.prepared.map Prod.fst == some x.1) } }
  match d.mtr.prepared with
  | some (t, e) =>
    if p t && (d.vstage e).phase == .bond then
      let d := d.changeDrop e
      { d with mtr := { d.mtr with prepared := none, pendingImages := tput (fun _ => []) d.mtr.pendingImages t [] } }
    else d
  | none => { d with vlt := { d.vlt with waiting := d.vlt.waiting.filter (fun v => !(v.origin == 2 && d.mtr.pendingImages.isEmpty)) } }

def Dev.abortTx (d : Dev) (fr : Frame) (txn : Nat) : Dev :=
  d.mtrApply 0x34 fr (fun x => x.fromManager fr) (fun d => (d.dropPrepared (· == txn)).prepareNext d.mtr.pendingImages.length)

/-- The SYNC in progress has been applied: MTR_TXN and STATE 3, and its answer. -/
def Dev.syncCheck (d : Dev) : Dev :=
  if d.bondState != bsSyncing then d
  else if d.mtr.syncLast = d.rd Fld.MTR_TXN_TXN then (d.mtrSet d.bondRole bsMember).bondRecord
  else d

/-- A change of this member for the bond has ended: `v` with its status. -/
def Dev.bondAnswer (d : Dev) (v : VStage) (status : Nat) : Dev :=
  if v.origin = 4 then
    let left := (d.vlt.waiting ++ d.vlt.staging.map Prod.snd).any (fun x => x.origin == 4 && x.phase != .retiring)
    if left || d.bondState != bsSyncing || d.mtr.named.contains 0xFFFFFFFF == false then d
    else
      let d := { d.wr Fld.MTR_TXN_TXN d.mtr.syncLast with mtr := { d.mtr with named := [] } }
      (d.syncCheck).mtrSend d.managerId 0x33 [d.mtr.syncLast, stOk]
  else match d.mtr.prepared with
    | none => d
    | some (txn, e) =>
      let p := tget (fun _ => []) d.mtr.pendingImages txn
      let t : MtrTx := ⟨txn, e, p.drop 8, v.slot, leAt p 4 2, 0, [], 2⟩
      let m := { d.mtr with prepared := none, pendingImages := tput (fun _ => []) d.mtr.pendingImages txn [],
                            hist := if status = stOk then (d.mtr.hist ++ [t]).drop (d.mtr.hist.length + 1 - 4096) else d.mtr.hist }
      let d := ({ d with mtr := m }.txApplied d.ownMember (fun x => x.txn == txn))
      let d := (if status = stOk then d.wr Fld.MTR_TXN_TXN txn else d).mtrSend d.managerId 0x33 [txn, status]
      (d.syncCheck).prepareNext d.mtr.pendingImages.length

/-! ## Joining (R379, R387) -/

/-- The roster as the fields of JOIN_ACCEPT. -/
def Dev.rosterFields (d : Dev) : List Nat := d.mtr.roster.flatMap (fun e => [e.1, ofLe e.2])

/-- JOIN at the manager. -/
def Dev.join (d : Dev) (fr : Frame) (last highest held0 held1 : Nat) : Dev :=
  let x := d.frameIn fr
  if !x.2 || x.1.tmp.lock then x.1
  else
    let d := x.1
    let e := d.rd Fld.MTR_EPOCH_EPOCH
    if e < fr.epoch then (if d.bondState = bsJoining then d else d.enterJoining Dev.noteAnswer false)
    else if d.bondRole != roleManager then d.mtrNak fr.src 0x10 (if fr.epoch < e then 1 else 2) fr.msgId
    else
      let ok := match d.rosterId fr.src, d.certOf fr.src with
        | some r, some c => r == slice c 0x10 16
        | some _, none => true
        | none, _ => false
      if !ok then d.mtrNak fr.src 0x10 3 fr.msgId
      else
        let bad (h : Nat) : Bool := decide (2 ^ 63 ≤ h) && !d.mtr.table.any (fun t => t.member == fr.src && t.lease == h - 2 ^ 63)
        let burns := [held0, held1].map (fun h => if bad h then h else 0)
        let d := if fr.src = d.standbyId then
            ((d.txAbort Dev.noteAnswer stStaleEpoch).wr Fld.MTR_EPOCH_STANDBY_ID 0).wr Fld.MTR_STATUS_CAN_COMMIT 0 else d
        let d := { d with mtr := { d.mtr with lost := d.mtr.lost.filter (· != fr.src), highest := d.mtr.highest } }
        let d := if d.rd Fld.MTR_LEASE_HIGH_WATER < highest then d.wr Fld.MTR_LEASE_HIGH_WATER highest else d
        let d := (d.setLive fr.src true).mtrSend fr.src 0x11 ([roleWorker, d.rd Fld.MTR_TXN_TXN] ++ burns ++ d.rosterFields)
        d.resync fr.src last

/-- JOIN_ACCEPT: the role, the burns and the roster are taken; the device is a member once its keys are up to date. -/
def Dev.joinAccept (d : Dev) (fr : Frame) (role last burn0 burn1 : Nat) (roster : List (Nat × List Byte)) : Dev :=
  d.mtrApply 0x11 fr (fun x => x.fromManager fr) (fun d =>
    if d.bondState != bsJoining || d.mtr.joining != fr.src || !(role == roleStandby || role == roleWorker) then d
    else
      let d := d.mtrDone fr.src (fun s => s.kind == 0x10)
      let d := [burn0, burn1].foldl (fun x b => if 2 ^ 63 ≤ b then x.burnLease (b - 2 ^ 63) else x) d
      let m := { d.mtr with roster := roster.filter (fun e => e.1 != 0), joining := 0, byReset := false, syncLast := last, named := [] }
      (({ d with mtr := m }.mtrSet role bsSyncing).bondRecord).syncCheck)

/-- SYNC: slot images are installed with their generations. -/
def Dev.sync (d : Dev) (fr : Frame) (images : List (Nat × List Byte)) : Dev :=
  d.mtrApply 0x12 fr (fun x => x.fromManager fr) (fun d =>
    if images.isEmpty || decide (200 < images.length) then d.mtrDrop
    else if d.bondState != bsSyncing then d
    else
      let d := images.foldl (fun x i => if i.1 < 0x1C000 then x.changeAsk (imageChange x i.1 i.2 (some (leAt i.2 0x28 2)) 4) else x) d
      { d with mtr := { d.mtr with named := d.mtr.named ++ images.map Prod.fst } })

/-- SYNC_END: slots that the SYNC did not name are emptied. One that named fewer slots than it says has lost a frame: the device
joins again. The number 2^32 - 1 in `named` marks that SYNC_END has come. -/
def Dev.syncEnd (d : Dev) (fr : Frame) (last slots : Nat) : Dev :=
  d.mtrApply 0x13 fr (fun x => x.fromManager fr) (fun d =>
    if d.bondState != bsSyncing || d.mtr.named.contains 0xFFFFFFFF then d
    else if d.mtr.named.eraseDups.length != slots then
      ({ d with mtr := { d.mtr with joining := fr.src, named := [] } }.mtrSet d.bondRole bsJoining).mtrAsk fr.src 0x10
        ([d.rd Fld.MTR_TXN_TXN, d.mtr.highest] ++ d.heldFields)
    else
      let gone := d.vlt.slots.filter (fun x => decide (x.1 < 0x1C000) && aPresent x.2.attr && !d.mtr.named.contains x.1)
      let d := gone.foldl (fun x s => x.changeAsk (mkChange s.1 (aPart s.2.attr) [] 0 true (aPersistent s.2.attr) 4)) d
      let d := { d with mtr := { d.mtr with named := d.mtr.named ++ [0xFFFFFFFF], syncLast := last } }
      d.bondAnswer { VStage.reset with origin := 4 } stOk)

/-! ## Standby designation and counter leases (R390, R391, R395) -/

/-- The roster's members that answer, this device included, are more than half. -/
def Dev.majority (d : Dev) : Bool := decide (d.mtr.roster.length < 2 * (d.liveMembers.filter (fun m => (d.rosterId m).isSome)).length)

/-- A manager without an accepted standby designates one: the member that BOND_START named, or the live, manager-eligible member
with the lowest MEMBER_ID, while a majority answers. -/
def Dev.designate (d : Dev) : Dev :=
  if d.bondRole != roleManager || d.canCommit || d.mtr.outstanding.any (fun s => s.kind == 0x50) then d
  else
    let fields := [d.rd Fld.MTR_LEASE_HIGH_WATER, d.rd Fld.MTR_TXN_TXN] ++ d.mtr.table.flatMap (fun h => [h.member, h.lease])
    let c := if d.mtr.want != 0 then (if d.liveMembers.contains d.mtr.want then some d.mtr.want else none)
      else if d.majority then d.liveMembers.find? (fun m => m != d.ownMember && (d.rosterId m).isSome && d.eligibleMember m) else none
    match c with
    | some m => d.mtrAsk m 0x50 fields
    | none => d

/-- The oldest waiting LEASE_REQUEST is served: HIGH_WATER rises, and the standby is told first. -/
def Dev.leaseServe (d : Dev) : Dev :=
  if d.bondRole != roleManager || !d.canCommit || d.mtr.granting.isSome then d
  else match d.mtr.requests with
    | [] => d
    | (m, h) :: rest =>
      let l := max (d.rd Fld.MTR_LEASE_HIGH_WATER) h + 1
      let d := d.wr Fld.MTR_LEASE_HIGH_WATER l
      let d := { d with mtr := { d.mtr with requests := rest, granting := some (m, l) } }.bondRecord
      d.mtrAsk d.standbyId 0x43 [l, m, 1, l]

/-- A request for a lease joins those that wait. -/
def Dev.leaseWant (d : Dev) (m highest : Nat) : Dev :=
  if d.mtr.requests.any (fun r => r.1 == m) || d.mtr.granting.map Prod.fst == some m then d
  else { d with mtr := { d.mtr with requests := d.mtr.requests ++ [(m, highest)] } }.leaseServe

/-- LEASE_REQUEST at the manager. -/
def Dev.leaseRequest (d : Dev) (fr : Frame) (highest : Nat) : Dev :=
  d.mtrApply 0x40 fr (fun x => x.bondRole == roleManager && (x.rosterId fr.src).isSome) (fun d => d.leaseWant fr.src highest)

/-- The newest window commit asks for a lease: a member requests one from the manager, the manager from itself (R391). -/
def Dev.leaseNeed (d : Dev) : Dev :=
  let asks := match d.newestRec 0 3 0 with | some w => leAt w.payload 16 8 % 2 == 1 | none => false
  if !d.bonded || !asks || d.nextValid || d.tmp.lock || d.tmp.erasing then d
  else if d.bondRole = roleManager then d.leaseWant d.ownMember d.mtr.highest
  else if d.bondState = bsMember && !d.mtr.outstanding.any (fun s => s.kind == 0x40) then d.mtrAsk d.managerId 0x40 [d.mtr.highest]
  else d

/-- The expiry of a lease granted or renewed now. -/
def Chip.leaseExpiryNow (c : Chip) : Nat := c.seconds + leAt c.dev.wdn.config 0x1A 2

/-- A grant is accepted (R391): above HIGHEST_LEASE, no next lease held; HIGHEST_LEASE and the grant record, durable. -/
def Chip.leaseAccept (c : Chip) (l : Nat) : Chip × Bool :=
  let d := c.dev
  if l ≤ d.mtr.highest || d.nextValid || !d.canAudit then (c, false)
  else
    let d := { d with mtr := { d.mtr with highest := l } }
    let d := if d.bondRole = roleWorker || d.bondRole = roleNone then d.wr Fld.MTR_LEASE_HIGH_WATER l else d
    let d := ((d.bondRecord).grantRecord l c.leaseExpiryNow).mtrDone d.managerId (fun s => s.kind == 0x40)
    ({ c with dev := d }, true)

/-- LEASE_GRANT at a member. A repeat of a lease it holds is answered again. -/
def Chip.leaseGrant (c : Chip) (fr : Frame) (l : Nat) : Chip :=
  c.mtrApply 0x41 fr (fun x => x.fromManager fr) (fun c =>
    let held := c.dev.heldLeases.contains l || (c.dev.mtr.highest == l && (c.dev.grantOf l).isSome)
    if held then c.onDev (fun d => d.mtrSend fr.src 0x42 [l])
    else
      let y := c.leaseAccept l
      if y.2 then y.1.onDev (fun d => d.mtrSend fr.src 0x42 [l]) else y.1)

/-- A lease enters the table as granted: at most two per member, the older one leaving. -/
def Dev.tableAdd (d : Dev) (m l ev : Nat) : Dev :=
  let mine := d.mtr.table.filter (fun t => t.member == m && t.lease != l)
  let rest := d.mtr.table.filter (fun t => t.member != m)
  { d with mtr := { d.mtr with table := rest ++ mine.drop (mine.length - 1) ++ [⟨m, l, ev⟩] } }

/-- LEASE_HELD: recorded, and the standby told. -/
def Dev.leaseHeld (d : Dev) (fr : Frame) (l : Nat) : Dev :=
  d.mtrApply 0x42 fr (fun x => x.bondRole == roleManager) (fun d =>
    let d := d.mtrDone1 fr.src 0x41 l
    if d.mtr.table.any (fun t => t.member == fr.src && t.lease == l) then
      let d := d.tableAdd fr.src l 2
      if d.canCommit then d.mtrAsk d.standbyId 0x43 [d.rd Fld.MTR_LEASE_HIGH_WATER, fr.src, 2, l] else d
    else d)

/-- LEASE_STATE at the standby: durable in its bond record, then acknowledged. -/
def Dev.leaseState (d : Dev) (fr : Frame) (hw holder ev l : Nat) : Dev :=
  d.mtrApply 0x43 fr (fun x => x.fromManager fr && x.bondRole == roleStandby) (fun d =>
    if !d.canAudit then d
    else
      let d := d.wr Fld.MTR_LEASE_HIGH_WATER (max (d.rd Fld.MTR_LEASE_HIGH_WATER) hw)
      let d := if ev = 3 then { d with mtr := { d.mtr with table := d.mtr.table.filter (fun t => !(t.member == holder && t.lease == l)) } }
        else d.tableAdd holder l ev
      (d.bondRecord).mtrSend fr.src 0x44 [hw])

/-- LEASE_STATE_ACK: the grant it waited for goes out, and burns are done. -/
def Chip.leaseStateAck (c : Chip) (fr : Frame) (hw : Nat) : Chip :=
  c.mtrApply 0x44 fr (fun x => x.bondRole == roleManager && fr.src == x.standbyId) (fun c =>
    let c := c.onDev (fun d => d.mtrDone fr.src (fun s => s.kind == 0x43 && (match s.fields with | h :: _ => decide (h ≤ hw) | [] => false)))
    let c := c.onDev (fun d => if d.mtr.outstanding.any (fun s => s.kind == 0x43) then d else { d with mtr := { d.mtr with burning := [] } })
    match c.dev.mtr.granting with
    | some (m, l) =>
      if l ≤ hw then
        let c := c.onDev (fun d => { d with mtr := { d.mtr with granting := none } }.tableAdd m l 1)
        let c := if m = c.dev.ownMember then (c.leaseAccept l).1 else c.onDev (fun d => d.mtrAsk m 0x41 [l])
        c.onDev Dev.leaseServe
      else c
    | none => c)

/-- STANDBY_DESIGNATE: the table is made durable and the role accepted. `table` lists member and lease. -/
def Dev.standbyDesignate (d : Dev) (fr : Frame) (hw last : Nat) (table : List (Nat × Nat)) : Dev :=
  d.mtrApply 0x50 fr (fun x => x.fromManager fr) (fun d =>
    if d.bondState != bsMember || !d.canAudit || d.rd Fld.MTR_TXN_TXN < last then d
    else
      let holds : List Holding := table.map (fun t => Holding.mk t.1 t.2 1)
      let d := { d.wr Fld.MTR_LEASE_HIGH_WATER (max (d.rd Fld.MTR_LEASE_HIGH_WATER) hw) with mtr := { d.mtr with table := holds } }
      let d := ((d.mtrSet roleStandby bsMember).wr Fld.MTR_EPOCH_STANDBY_ID d.ownMember).bondRecord
      let live := d.mtr.roster.foldl (fun x e => x.setLive e.1 true) d
      live.mtrSend fr.src 0x51 [hw])

/-- STANDBY_ACCEPT: the manager may commit and grant. -/
def Dev.standbyAccept (d : Dev) (fr : Frame) (_hw : Nat) : Dev :=
  d.mtrApply 0x51 fr (fun x => x.bondRole == roleManager) (fun d =>
    if d.canCommit || !d.mtr.outstanding.any (fun s => s.dst == fr.src && s.kind == 0x50) then d
    else
      let d := (d.mtrDone fr.src (fun s => s.kind == 0x50)).wr Fld.MTR_EPOCH_STANDBY_ID fr.src
      let d := { d.wr Fld.MTR_STATUS_CAN_COMMIT 1 with mtr := { d.mtr with want := 0 } }
      (d.liveShow.leaseServe).txNext)

/-! ## Heartbeats (R392 to R394) -/

/-- The leases held are renewed: a new record each, with expiry from now. -/
def Chip.renewLeases (c : Chip) : Chip :=
  c.onDev (fun d => d.heldLeases.foldl (fun x l => (x.grantRecord l c.leaseExpiryNow).leaseTake l) d)

/-- The device joins the manager `m` at epoch `e`. -/
def Dev.adopt (d : Dev) (m e : Nat) : Dev :=
  let d := (d.mtrEpoch e).wr Fld.MTR_EPOCH_MANAGER_ID m
  let d := { d with mtr := { d.mtr with joining := m } }.bondRecord
  d.mtrAsk m 0x10 ([d.rd Fld.MTR_TXN_TXN, d.mtr.highest] ++ d.heldFields)

/-- A HEARTBEAT or PROMOTED from which a device in JOINING adopts an epoch. -/
def Dev.mayAdopt (d : Dev) (fr : Frame) : Bool :=
  d.bondState == bsJoining && d.mayLead fr.src && (decide (d.rd Fld.MTR_EPOCH_EPOCH < fr.epoch) || (d.mtr.byReset && fr.epoch == d.rd Fld.MTR_EPOCH_EPOCH))

/-- HEARTBEAT. -/
def Chip.heartbeat (c : Chip) (fr : Frame) (standby renew : Nat) : Chip :=
  let x := c.dev.frameIn fr
  let c := { c with dev := x.1 }
  if !x.2 || x.1.tmp.lock then c
  else if x.1.mayAdopt fr then
    (if x.1.mtr.joining = fr.src && x.1.rd Fld.MTR_EPOCH_EPOCH = fr.epoch then c else c.onDev (fun d => d.adopt fr.src fr.epoch))
  else
    let y := x.1.mtrJudge 0x20 fr (x.1.fromManager fr)
    let c := { c with dev := y.1 }
    if !y.2 then c
    else
      let c := c.onDev (fun d => (if d.bondState = bsCutOff then d.mtrSet d.bondRole bsMember else d).wr Fld.MTR_EPOCH_STANDBY_ID standby)
      let c := if renew = 1 then c.renewLeases else c
      c.onDev (fun d => d.mtrSend fr.src 0x21 ([d.bondState, d.rd Fld.MTR_TXN_TXN] ++ d.heldFields))

/-- HEARTBEAT_ACK: the member is live; one that is behind is brought up to date; one that was lost must join again. -/
def Dev.heartbeatAck (d : Dev) (fr : Frame) (state last : Nat) : Dev :=
  d.mtrApply 0x21 fr (fun x => x.bondRole == roleManager && (x.rosterId fr.src).isSome) (fun d =>
    if d.mtr.lost.contains fr.src then d.mtrNak fr.src 0x21 4 fr.msgId
    else
      let d := (d.setLive fr.src true).mtrDone fr.src (fun s => s.kind == 0x34)
      let d := if state = bsMember && last < d.rd Fld.MTR_TXN_TXN && !d.mtr.outstanding.any (fun s => s.dst == fr.src && (s.kind == 0x30 || s.kind == 0x32))
        then d.resync fr.src last else d
      d.designate)

/-- HEARTBEAT_INTERVAL: every 1 ms; one in LEASE_TIMEOUT × 250 carries RENEW, by which the manager renews its own leases too. -/
def Chip.heartbeatInterval (c : Chip) : Chip :=
  let d := c.dev
  if d.bondRole != roleManager || d.tmp.lock || !d.mtrUp then c
  else
    let every := leAt d.wdn.config 0x1A 2 * 250
    let renew := d.mtr.beats + 1 == every
    let d := { d with mtr := { d.mtr with beats := if renew then 0 else d.mtr.beats + 1 } }
    let d := (d.mtr.roster.filter (fun e => e.1 != d.ownMember)).foldl (fun x e =>
      x.mtrSend e.1 0x20 [x.standbyId, renew.toNat, x.rd Fld.MTR_TXN_TXN]) d
    let c := { c with dev := d.designate }
    if renew then c.renewLeases else c

/-- MEMBER_LOST: 3 ms without an answer: the member leaves the FENCE_BOND set and its leases are burned. -/
def Dev.memberLost (d : Dev) (m : Nat) : Dev :=
  if d.bondRole != roleManager || m == d.ownMember || !d.liveMembers.contains m then d
  else
    let isStandby := m == d.standbyId
    let d := if isStandby then ((d.txAbort Dev.noteAnswer stStaleEpoch).wr Fld.MTR_EPOCH_STANDBY_ID 0).wr Fld.MTR_STATUS_CAN_COMMIT 0 else d
    let d := (d.setLive m false).inc Fld.MTR_COUNTS_LOST 1
    let burns := (d.mtr.table.filter (fun t => t.member == m)).map Holding.lease
    let tx := d.mtr.tx.map (fun t => { t with waiting := t.waiting.filter (· != m) })
    let granting := match d.mtr.granting with | some g => if g.1 = m || isStandby then none else some g | none => none
    let mt := { d.mtr with lost := d.mtr.lost ++ [m], table := d.mtr.table.filter (fun t => t.member != m), tx := tx, granting := granting,
                           requests := d.mtr.requests.filter (fun r => r.1 != m), outstanding := d.mtr.outstanding.filter (fun s => s.dst != m) }
    let d := ({ d with mtr := mt }.txApplied m (fun _ => true)).bondRecord
    let d := if d.canCommit then burns.foldl (fun x l => x.mtrAsk x.standbyId 0x43 [x.rd Fld.MTR_LEASE_HIGH_WATER, m, 3, l]) d else d
    let d := { d with mtr := { d.mtr with burning := if d.canCommit then d.mtr.burning ++ burns.map (fun l => (m, l)) else d.mtr.burning } }
    d.designate

/-- CUT_OFF: 3 ms without a HEARTBEAT. -/
def Dev.cutOff (d : Dev) : Dev :=
  if d.bondRole = roleWorker && d.bondState = bsMember && !d.tmp.lock then (d.inc Fld.MTR_COUNTS_MISSED 3).mtrSet roleWorker bsCutOff else d

/-! ## Promotion (R395) -/

/-- PROMOTION: the standby becomes manager at the next epoch, once its bond record says so. -/
def Dev.promotion (d : Dev) : Dev :=
  if d.bondRole != roleStandby || d.bondState != bsMember || d.tmp.lock || !d.canAudit then d
  else
    let former := d.managerId
    let burns := (d.mtr.table.filter (fun t => t.member == former || !d.liveMembers.contains t.member)).map (fun t => (t.member, t.lease))
    let d := d.dropPrepared (fun _ => true)
    let d := (d.inc Fld.MTR_COUNTS_MISSED 3).mtrEpoch (d.rd Fld.MTR_EPOCH_EPOCH + 1)
    let d := (d.wr Fld.MTR_EPOCH_MANAGER_ID d.ownMember).wr Fld.MTR_EPOCH_STANDBY_ID 0
    let m := { d.mtr with table := d.mtr.table.filter (fun t => !burns.contains (t.member, t.lease)), lost := [former], beats := 0, want := 0, outstanding := [] }
    let d := ({ d with mtr := m }.wr Fld.MTR_LIVE_LIVE 0).mtrSet roleManager bsMember
    let d := (d.setLive d.ownMember true).bondRecord
    let d := (burns.filter (fun b => b.1 == d.ownMember)).foldl (fun x b => x.burnLease b.2) d
    (d.mtr.roster.filter (fun e => e.1 != d.ownMember)).foldl (fun x e =>
      x.mtrSend e.1 0x52 ([x.rd Fld.MTR_TXN_TXN, burns.length] ++ burns.map Prod.snd)) d

/-- PROMOTED: a member adopts the new epoch, abandons what was prepared after LAST_TXN and burns the leases named. A device in
JOINING joins. -/
def Dev.promoted (d : Dev) (fr : Frame) (last : Nat) (burns : List Nat) : Dev :=
  let x := d.frameIn fr
  if !x.2 || x.1.tmp.lock then x.1
  else
    let d := x.1
    let e := d.rd Fld.MTR_EPOCH_EPOCH
    if d.mayAdopt fr then d.adopt fr.src fr.epoch
    else if fr.epoch < e then d.mtrNak fr.src 0x52 1 fr.msgId
    else if fr.epoch = e then (if d.fromManager fr then d else d.mtrNak fr.src 0x52 2 fr.msgId)
    else if (d.bondState == bsMember || d.bondState == bsCutOff) && d.bondRole == roleWorker && d.mayLead fr.src then
      let d := (d.mtrEpoch fr.epoch).dropPrepared (fun t => decide (last < t))
      let d := (d.wr Fld.MTR_EPOCH_MANAGER_ID fr.src).wr Fld.MTR_EPOCH_STANDBY_ID 0
      let sent := d.mtr.outstanding.map (fun s : Sent => if s.kind = 0x40 then Sent.mk fr.src s.kind s.fields else s)
      let d := { d with mtr := { d.mtr with outstanding := sent } }
      let d := (d.mtrSet roleWorker bsMember).bondRecord
      (burns.filter d.heldLeases.contains).foldl (fun x l => x.burnLease l) d
    else d.enterJoining Dev.noteAnswer false

/-! ## NAK, relayed unlock tokens (R384, R386) -/

/-- NAK: the refused message has had its answer; cause 1 at a higher epoch, and a refused HEARTBEAT_ACK, lead to JOINING; cause 2
sends it again to the manager that the NAK names. -/
def Dev.nak (d : Dev) (fr : Frame) (kind cause manager : Nat) : Dev :=
  let x := d.frameIn fr
  if !x.2 then x.1
  else
    let d := x.1
    let mine := d.mtr.outstanding.filter (fun s => s.dst == fr.src && s.kind == kind)
    let d := d.mtrDone fr.src (fun s => s.kind == kind)
    if d.tmp.lock then d
    else if cause = 1 && d.rd Fld.MTR_EPOCH_EPOCH < fr.epoch then (if d.bondState = bsJoining then d else d.enterJoining Dev.noteAnswer false)
    else if cause = 4 && kind = 0x21 && fr.src = d.managerId then
      let d := d.enterJoining Dev.noteAnswer false
      d.adopt fr.src fr.epoch
    else if cause = 2 && manager != 0 && manager != d.ownMember && manager != fr.src then
      mine.foldl (fun x s => x.mtrAsk manager s.kind s.fields) d
    else d

/-- UNLOCK_RELAY: a token that names this device is an UNLOCK with ORIGIN 3. -/
def Dev.unlockRelay (d : Dev) (fr : Frame) (target token : List Byte) : Dev :=
  let x := d.frameIn fr
  if !x.2 || target != x.1.deviceId || token.length % 8 != 0 then x.1
  else x.1.enqueue ⟨3, fr.src, leBytes 2 0x0403 ++ [0, 0] ++ leBytes 2 0 ++ leBytes 2 token.length ++ List.replicate 24 0 ++ token, 0⟩

/-- UNLOCK_RESULT: the target's status reaches the sender. -/
def Dev.unlockResult (d : Dev) (fr : Frame) (status : Nat) : Dev :=
  let x := d.frameIn fr
  if !x.2 then x.1 else (x.1.mtrDone fr.src (fun s => s.kind == 0x61)).emit (.warden (0x100 + fr.src) status [])

/-! ## The relay (R381) -/

def relayReg (off : Nat) : Nat := 0xE0000 + off

/-- A write of MTR_RELAY_CFG. With ENABLE going from 0 to 1 both positions clear and PHASE is 1; sizes or a vector out of range
leave ERR 3. Fields of class S written while it is enabled are rejected. -/
def Dev.relayEnable (d : Dev) (st : Option Nat) (w : Word) : Dev :=
  if !d.bar0 0 st (relayReg 0x80) then d
  else
    let was := d.bit Fld.MTR_RELAY_CFG_ENABLE
    let i := getF w 0 4
    let o := getF w 4 4
    let v := getF w 16 11
    let d := if was then
        (if i != d.rd Fld.MTR_RELAY_CFG_IN_SIZE_LOG2 || o != d.rd Fld.MTR_RELAY_CFG_OUT_SIZE_LOG2 || v != d.rd Fld.MTR_RELAY_CFG_VECTOR
          then d.wr Fld.MTR_STATUS_CFG_REJECT 1 else d)
      else ((d.wr Fld.MTR_RELAY_CFG_IN_SIZE_LOG2 i).wr Fld.MTR_RELAY_CFG_OUT_SIZE_LOG2 o).wr Fld.MTR_RELAY_CFG_VECTOR v
    if !w.getLsbD 63 then (d.wr Fld.MTR_RELAY_CFG_ENABLE 0).wr Fld.MTR_RELAY_STATE_ERR 0
    else if was then d
    else
      let d := (((d.wr Fld.MTR_RELAY_STATE_IN_HEAD 0).wr Fld.MTR_RELAY_STATE_OUT_TAIL 0).wr Fld.MTR_RELAY_STATE_PHASE 1).wr Fld.MTR_RELAY_CFG_ENABLE 1
      let d := { d with mtr := { d.mtr with relay := [], relayIn := 0, relayOut := 0, relayGot := [] } }.relayShow
      if 4 ≤ i && i ≤ 10 && 4 ≤ o && o ≤ 10 && 2 ≤ v then d else d.wr Fld.MTR_RELAY_STATE_ERR 3

def Dev.relayInSize (d : Dev) : Nat := 2 ^ d.rd Fld.MTR_RELAY_CFG_IN_SIZE_LOG2

/-- A relay doorbell that is out of range stops the relay. -/
def Dev.relayStop (d : Dev) (code : Nat) : Dev := d.wr Fld.MTR_RELAY_STATE_ERR code

/-- The inbound tail. -/
def Dev.relayInDb (d : Dev) (st : Option Nat) (w : Word) : Dev :=
  if !d.bar0 0 st (relayReg 0x98) || !d.relayOn || !w.getLsbD 32 then d
  else if d.relayInSize ≤ getF w 0 16 then d.relayStop 1
  else { d with mtr := { d.mtr with relayIn := getF w 0 16 } }

/-- The outbound head: not beyond the tail. -/
def Dev.relayOutDb (d : Dev) (st : Option Nat) (w : Word) : Dev :=
  if !d.bar0 0 st (relayReg 0x98) || !d.relayOn || !w.getLsbD 33 then d
  else
    let n := d.relaySize
    let v := getF w 16 16
    if n ≤ v || ringDist n d.mtr.relayOut (d.rd Fld.MTR_RELAY_STATE_OUT_TAIL) < ringDist n d.mtr.relayOut v then d.relayStop 1
    else { d with mtr := { d.mtr with relayOut := v } }.relayShow

/-- RELAY_INBOUND_ENTRY: the Warden reads the next entry; `ok` whether the read completes well. LENGTH, PEER and the reserved
bytes are checked against the frame's SRC. -/
def Dev.relayInEntry (d : Dev) (ok : Bool) (len peer src : Nat) (clean : Bool) : Dev :=
  let h := d.rd Fld.MTR_RELAY_STATE_IN_HEAD
  if !d.relayOn || !d.canSend 0 || h == d.mtr.relayIn then d
  else
    let d := d.emit (.memRead 0 (d.rd Fld.MTR_RELAY_IN_BASE_BASE * 4096 + 16384 * h) 16384)
    if !ok then d.relayStop 2
    else
      let d := d.wr Fld.MTR_RELAY_STATE_IN_HEAD ((h + 1) % d.relayInSize)
      if len < 16 || 16368 < len || peer != src || !clean then d.mtrDrop
      else { d with mtr := { d.mtr with relayGot := d.mtr.relayGot ++ [src] } }

/-- RELAY_OUTBOUND_ENTRY: the oldest waiting frame goes into the ring (LENGTH, PEER, PHASE, 12 zero octets, the frame), with its
vector. -/
def Dev.relayOutEntry (d : Dev) : Dev :=
  match d.mtr.relay with
  | [] => d
  | s :: rest =>
    if !d.relayOn || !d.canSend 0 || d.relayFull then d
    else
      let t := d.rd Fld.MTR_RELAY_STATE_OUT_TAIL
      let k := relaySess s.dst
      let w := d.wireFrame (d.sess k) s.dst s.kind s.fields
      let d := d.setSess k { d.sess k with tx := (d.sess k).tx + 1 }
      let d := { d with mtr := { d.mtr with relay := rest } }.emit (.memWrite 0 (d.rd Fld.MTR_RELAY_OUT_BASE_BASE * 4096 + 16384 * t)
        (leBytes 2 w.length ++ [BitVec.ofNat 8 s.dst, BitVec.ofNat 8 (d.rd Fld.MTR_RELAY_STATE_PHASE)] ++ List.replicate 12 0 ++ w))
      let d := d.wr Fld.MTR_RELAY_STATE_OUT_TAIL ((t + 1) % d.relaySize)
      let d := if t + 1 = d.relaySize then d.wr Fld.MTR_RELAY_STATE_PHASE (1 - d.rd Fld.MTR_RELAY_STATE_PHASE) else d
      d.relayShow.fire 0 (d.rd Fld.MTR_RELAY_CFG_VECTOR)

/-! ## Bond requests (R378, R397) -/

/-- The certificate kept in SUBJECT 0x0100 is in force, with the bond record's epoch and positions. -/
def Dev.bondLoad (d : Dev) : Dev :=
  match d.stateOf 0x0100 with
  | none => { d.wr Fld.MTR_EPOCH_MEMBER_ID 0 with mtr := { d.mtr with cert := [] } }
  | some c =>
    let d := { d.wr Fld.MTR_EPOCH_MEMBER_ID (leAt c 0x20 1) with mtr := { d.mtr with cert := c } }
    match d.stateOf 0x0101 with
    | none => d
    | some r =>
      let d := { d with mtr := { d.mtr with highest := leAt r 16 8 } }
      let d := (d.wr Fld.MTR_EPOCH_EPOCH (leAt r 0 4)).wr Fld.MTR_EPOCH_MANAGER_ID (leAt r 4 4)
      d.wr Fld.MTR_LEASE_HIGH_WATER (leAt r 8 8)

/-- BOND_ENROL: PARAMS the certificate body. -/
def Chip.bondEnrol (c : Chip) : Chip :=
  c.serve 0x0601 false (fun c r =>
    let b := r.params
    if r.paramLen != 2784 || r.bulkLen != 0 || !allZero (slice b 0x22 6) || leAt b 0x21 1 ≥ 2 || leAt b 0x20 1 = 0 || 64 < leAt b 0x20 1
        || !allZero (slice b 0xB9 7) then c.reply r stBadDescriptor
    else if slice b 0x10 16 != c.dev.deviceId || slice b 0x58 97 != c.dev.mortarPub 0 || slice b 0xC0 2592 != c.dev.mortarPub 1
        || slice b 0x28 48 != c.dev.profileDigest then c.reply r stFormat
    else c.quorumed r [] 2 (fun c =>
      let d := c.dev.wardenState 0x0100 (b ++ r.auth)
      let d := { d with mtr := { d.mtr with cert := b ++ r.auth } }.wr Fld.MTR_EPOCH_MEMBER_ID (leAt b 0x20 1)
      let d := d.enterJoining Dev.noteAnswer false
      { c with dev := d.mtrSet roleNone bsJoining }.reply r stOk))

/-- The roster in 64 entries of 24 bytes; entries with MEMBER_ID 0 are unused. -/
def rosterOf (bs : List Byte) : List (Nat × List Byte) :=
  ((List.range 64).map (fun k => (leAt bs (24 * k) 1, slice bs (24 * k + 8) 16))).filter (fun e => e.1 != 0)

/-- A roster as BOND_START and BOND_ROSTER take it: MEMBER_IDs 1 to 64, none twice, reserved bytes zero, this device in it. -/
def Dev.rosterOk (d : Dev) (bs : List Byte) : Bool :=
  let es := rosterOf bs
  (List.range 64).all (fun k => allZero (slice bs (24 * k + 1) 7)) && es.all (fun e => decide (e.1 ≤ 64))
    && (es.map Prod.fst).eraseDups.length == es.length && es.contains (d.ownMember, d.deviceId)

/-- BOND_START: this device is the manager of epoch + 1, HIGH_WATER is LEASE_BASE, and the member named is to be the standby. -/
def Chip.bondStart (c : Chip) : Chip :=
  c.serve 0x0602 false (fun c r =>
    let roster := r.params.drop 32
    if r.paramLen != 1568 || r.bulkLen != 0 || r.par 25 7 != 0 || !c.dev.bonded || !c.dev.rosterOk roster || 2 ^ 44 ≤ r.par 16 8 then c.reply r stBadDescriptor
    else if slice r.params 0 16 != slice c.dev.mtr.cert 0 16 then c.reply r stFormat
    else c.quorumed r [] 2 (fun c =>
      let was := c.dev
      let d := c.dev.leaveRole Dev.noteAnswer stStaleEpoch
      let e := if (d.stateOf 0x0101).isSome then d.rd Fld.MTR_EPOCH_EPOCH + 1 else 1
      let d := ((d.mtrEpochOf was e).wr Fld.MTR_EPOCH_MANAGER_ID d.ownMember).wr Fld.MTR_EPOCH_STANDBY_ID 0
      let m := { d.mtr with roster := rosterOf roster, table := [], want := r.par 24 1, joining := 0, byReset := false, lost := [], beats := 0 }
      let d := ({ d with mtr := m }.wr Fld.MTR_LEASE_HIGH_WATER (r.par 16 8)).mtrSet roleManager bsMember
      { c with dev := (d.setLive d.ownMember true).bondRecord }.reply r stOk))

/-- BOND_ROSTER on the manager, at its current epoch. -/
def Chip.bondRoster (c : Chip) : Chip :=
  c.serve 0x0603 false (fun c r =>
    if r.paramLen != 1536 || r.bulkLen != 0 then c.reply r stBadDescriptor
    else if c.dev.bondRole != roleManager || r.epoch != c.dev.bondEpoch then c.reply r stStaleEpoch
    else if !c.dev.rosterOk r.params then c.reply r stBadDescriptor
    else c.quorumed r [] 2 (fun c =>
      let new := rosterOf r.params
      let gone := c.dev.liveMembers.filter (fun m => !(new.any (fun e => e.1 == m)))
      let d := gone.foldl (fun x m => x.memberLost m) c.dev
      { c with dev := { d with mtr := { d.mtr with roster := new } } }.reply r stOk))

/-- BOND_LEAVE: leases burned, certificate and bond record deleted. -/
def Chip.bondLeave (c : Chip) : Chip :=
  c.serve 0x0604 false (fun c r =>
    if r.paramLen != 0 || r.bulkLen != 0 then c.reply r stBadDescriptor
    else c.quorumed r [] 2 (fun c =>
      let d := c.dev.leaveRole Dev.noteAnswer stStaleEpoch
      let d := (d.heldLeases.foldl (fun x l => x.burnLease l) d).sessionsEnd false
      let d := (d.wardenState 0x0100 []).wardenState 0x0101 []
      let d := (((d.wr Fld.MTR_EPOCH_EPOCH 0).wr Fld.MTR_EPOCH_MEMBER_ID 0).wr Fld.MTR_EPOCH_MANAGER_ID 0).wr Fld.MTR_EPOCH_STANDBY_ID 0
      let d := (d.wr Fld.MTR_LEASE_HIGH_WATER 0).wr Fld.MTR_TXN_TXN 0
      { c with dev := (({ d with mtr := { Mtr.reset with msgId := d.mtr.msgId } }).mtrSet roleNone 0).abortBond c.dev }.reply r stOk))

/-- BOND_STATUS: MTR_STATUS, MTR_EPOCH, MTR_LIVE and MTR_LEASE. -/
def Chip.bondStatus (c : Chip) : Chip :=
  c.serve 0x0605 true (fun c r =>
    if !r.plain 0 then c.reply r stBadDescriptor
    else c.reply r stOk (bvBytes 8 (c.dev.reg Fld.MTR_STATUS_ROLE.reg) ++ bvBytes 8 (c.dev.reg Fld.MTR_EPOCH_EPOCH.reg)
      ++ bvBytes 8 (c.dev.reg Fld.MTR_LIVE_LIVE.reg) ++ bvBytes 8 (c.dev.reg Fld.MTR_LEASE_HIGH_WATER.reg)))

/-! ## Device states (R396) -/

/-- A Lock or a rail freeze reaches the bond: the manager's transaction is abandoned, STATE is DOWN. -/
def Dev.bondLock (d : Dev) : Dev :=
  if !d.bonded then d else (d.heldDrop Dev.noteAnswer stLocked).mtrSet d.bondRole bsDown

/-- An Erase: session keys are zeroised and links drop. -/
def Dev.bondErase (d : Dev) : Dev :=
  let d := d.sessionsEnd true
  if !d.bonded then d else ({ d with mtr := { d.mtr with prepared := none, pendingImages := [], tx := none } }).mtrSet d.bondRole bsDown

/-- After an unlock or a restore the device joins the manager it knew. -/
def Dev.bondResume (d : Dev) : Dev :=
  if !d.bonded || d.bondState != bsDown || d.tmp.lock || d.tmp.erased || d.tmp.erasing || d.held then d
  else
    let d := d.enterJoining Dev.noteAnswer false
    if d.managerId = 0 || d.managerId = d.ownMember then d
    else { d with mtr := { d.mtr with joining := d.managerId } }.mtrAsk d.managerId 0x10 ([d.rd Fld.MTR_TXN_TXN, d.mtr.highest] ++ d.heldFields)

/-- `f` applied, then what ending a Lock does to the bond. -/
def Chip.thenResume (c : Chip) (f : Chip → Chip) : Chip := (f c).onDev Dev.bondResume

/-! ## Events that wait for the Warden to run (R321) -/

/-- A Mortar link trains. -/
def Dev.mortarLink (d : Dev) (p lanes peer : Nat) : Dev := if d.wdn.running then d.mortarUp p lanes peer else d

/-- A custodian card is inserted, and its port activates it (R356). -/
def Dev.cardStart (d : Dev) (p : Nat) : Dev := if d.wdn.running then d.cardActivation p else d

/-- The backup card is initialised (R370). -/
def Dev.sdStart (d : Dev) (cmd8 ready ccs s18a sw : Bool) (blocks : Nat) (sdxc : Bool) (top : Nat) : Dev :=
  if d.wdn.running then d.sdInit cmd8 ready ccs s18a sw blocks sdxc top else d

/-- LEASE_EXPIRY: leases are burned by the time-stamp's seconds (R197, R316). -/
def Chip.leasesExpire (c : Chip) : Chip := c.onDev (fun d => d.leaseExpiry c.bd.timeValid c.seconds)

end Sys2Proof.Machine
end

