-- ==== Sys2Proof/Machine/Answer.lean ====
section
/-! DEFINITION. How the source of a vault change learns its end: key requests, imports, bond transactions, restores; the vault's
own commands with it (R236 to R242, R340, R351, R389). -/

namespace Sys2Proof.Machine

/-- A key-management function's change has ended: its completion carries the handle and the check value. -/
def Chip.importDone (c : Chip) (r : WReq) (slot status : Nat) : Chip :=
  let x := c.dev.slot slot
  let result := if status = stOk then (mkHandle 1 slot x.gen).toNat + x.kcv.toNat * 2 ^ 64 else 0
  c.finishCmd r.entry status result

/-- The request that made a change is answered; a failure takes a second audit entry (R351). -/
def Chip.jobDone (c : Chip) (r : WReq) (slot status : Nat) : Chip :=
  let c := if status = stOk then c else c.auditReq r status
  if r.code = 0x70 || r.code = 0x79 then c.importDone r slot status
  else c.reply r status (if status = stOk then c.dev.keyResponse slot else [])

/-- One change of a restore has ended. -/
def Dev.restoreLoaded (d : Dev) (status : Nat) : Dev :=
  match d.wdn.restore with
  | none => d
  | some x =>
    let y := { x with loading := x.loading - 1, loaded := if status = stOk then x.loaded + 1 else x.loaded }
    { d with wdn := { d.wdn with restore := some y } }

/-- The source of a change that has ended is answered. -/
def Chip.answerOne (c : Chip) (a : VStage × Nat) : Chip :=
  match a.1.origin with
  | 1 => (match c.dev.wdn.job with
      | some r => c.jobDone r a.1.slot a.2
      | none => c)
  | 2 => c.onDev (fun d => d.bondAnswer a.1 a.2)
  | 3 => c.onDev (fun d => d.restoreLoaded a.2)
  | 4 => c.onDev (fun d => d.bondAnswer a.1 a.2)
  | _ => c

/-- Every change that has ended is answered, oldest first. -/
def Chip.answerAll (c : Chip) : Chip :=
  let as := c.dev.wdn.answers
  as.foldl Chip.answerOne (c.onDev (fun d => { d with wdn := { d.wdn with answers := [] } }))

/-- A change that the bond holds until its transaction commits (R389): one prepared for the manager, and every change of the
manager's own requests. -/
def Dev.bondHolds (d : Dev) (v : VStage) : Bool :=
  v.origin == 2 || (v.origin == 1 && d.bondRole == roleManager && decide (v.slot < 0x1C000))

/-- VAULT_STAGING: the oldest waiting change takes entry `e`; a change of the bond goes on through its transaction. -/
def Chip.staging (c : Chip) (e : Nat) : Chip :=
  let was := c.dev.vstageUsed e
  let c := c.onDev (fun d => d.vaultStaging Dev.noteAnswer d.bondHolds e)
  let v := c.dev.vstage e
  let c := if !was && v.phase == .bond && v.origin == 2 then c.onDev (fun d => d.preparedHere e) else c
  (c.onDev Dev.txNext).answerAll

/-- VAULT_COMMIT_VISIBLE. -/
def Chip.commitVisible (c : Chip) (e : Nat) : Chip := ((c.onDev (fun d => d.vaultCommit Dev.noteAnswer e)).answerAll).onDev Dev.txNext

/-- A Mortar message, then what it ends in the vault. -/
def Chip.mortar (c : Chip) (f : Dev → Dev) : Chip := (c.onDev f).answerAll

end Sys2Proof.Machine
end

