-- ==== Sys2Proof/Machine/Tamper.lean ====
section
/-! DEFINITION. The tamper monitor: sources, rail freezes, fault clustering, the built-in test, and the delivery of a Lock and of an
Erase to every subsystem (R300 to R320, R323). -/

namespace Sys2Proof.Machine

/-! ## Delivery of a Lock (R87, R156, R200, R222, R238, R302) -/

/-- What a Lock does in every subsystem: commands, engines, the vault, transfers, the bond, a running backup; the Warden notes
it. -/
def Chip.lockEffects (c : Chip) : Chip :=
  let c := c.onDev (fun d => ((((d.lockCommands.wdnTidy).cipherLock).hpkLock.bondLock).vaultLock Dev.noteAnswer stLocked).xksLock)
  ((c.backupStop stLocked).answerAll).auditAlarm

/-- LOCK_DELIVERY: a judged Lock is delivered and LOCKED sets; a freeze whose alarms it executes is over. In MANUFACTURE the latch
is no device state (R330). -/
def Chip.lockDelivery (c : Chip) : Chip :=
  let c := if c.dev.tmp.batch.isEmpty then c else c.watch Chip.judge
  if !c.dev.tmp.lockDue then c
  else
    let c := c.watch (fun c =>
      { c with bd := { c.bd with locked := true }, dev := { c.dev with tmp := { c.dev.tmp with lockDue := false } }.unfreeze })
    if c.dev.tmp.lock then c.lockEffects else c

/-! ## Rail freezes (R306) -/

/-- A low-side crossing: the first starts a freeze, whose Lock is delivered at once; a further one is noted. -/
def Chip.railLow (c : Chip) (src det detail : Nat) : Chip :=
  let a : Alarm := ⟨src, det, detail, c.bd.time, true⟩
  if !c.dev.plt.mainOn || !c.armed src || det % 4 == 0 then c
  else if c.dev.tmp.frozen then
    c.onDev (fun d => { d with tmp := { d.tmp with crossed := d.tmp.crossed ++ [a] } })
  else
    let c := c.watch (fun c => c.onDev (fun d => { d with tmp := { d.tmp with frozen := true, crossed := [a] } }.nvsFreeze))
    c.lockEffects

/-- The freeze resolves: the sources that crossed enter together, each with the time of its crossing. -/
def Chip.freezeResolve (c : Chip) (same : Bool) : Chip :=
  if !c.dev.tmp.frozen || c.dev.tmp.crossed.isEmpty then c
  else
    let c := c.onDev (fun d => { d with tmp := { d.tmp with batch := d.tmp.batch ++ d.tmp.crossed, crossed := [] } })
    if same then c else c.watch Chip.judge

/-- A rail leaves its band, on its low or its high side. -/
def Chip.rail (c : Chip) (src : Nat) (low : Bool) (det detail : Nat) (same : Bool) : Chip :=
  if low then c.railLow src det detail else if det % 4 = 0 then c else c.alarm src det detail same

/-! ## Sources (R304, R308 to R311) -/

/-- A paired source: at least one detector fires (R305). -/
def Chip.paired (c : Chip) (src det detail : Nat) (same : Bool) : Chip := if det % 4 = 0 then c else c.alarm src det detail same

/-- CLK_GLITCH: a short phase, or loss of lock of the root PLL once step 4 has locked it (R304, R414). -/
def Chip.clkGlitch (c : Chip) (pll : Bool) (det detail : Nat) (same : Bool) : Chip :=
  if pll && !c.dev.bit Fld.PLT_CLOCKS_ROOT_LOCK then c
  else (if pll then c.onDev (fun d => d.wr Fld.PLT_CLOCKS_ROOT_LOCK 0) else c).paired 3 det detail same

/-- MESH: the trace, and DETAIL bit 7 for a short (R309). -/
def Chip.mesh (c : Chip) (det trace : Nat) (short same : Bool) : Chip :=
  if trace < 24 then c.paired 8 det (trace + (if short then 128 else 0)) same else c

/-- TAMP_IN[p] reads high (R308). -/
def Chip.tampIn (c : Chip) (p det : Nat) (same : Bool) : Chip := if p < 8 then c.paired (9 + p) det p same else c

/-- PANIC_N is low for `ns` nanoseconds: 20 or more fire, fewer than 10 do not; between them it may be `caught` (R310). -/
def Chip.panicPin (c : Chip) (ns : Nat) (caught same : Bool) : Chip :=
  if 20 ≤ ns || (10 ≤ ns && caught) then c.alarm 19 0 0 same else c

/-- WARDEN_SELFCHECK: a lockstep mismatch (1), an uncorrectable word of Warden memory (2), or what a unit has raised (0): the
oldest (R320, R323). -/
def Chip.selfCheck (c : Chip) (cause : Nat) (same : Bool) : Chip :=
  if cause = 1 || cause = 2 then c.alarm 20 0 cause same
  else match c.dev.tmp.raised with
    | [] => c
    | x :: rest => (c.onDev (fun d => { d with tmp := { d.tmp with raised := rest } })).alarm 20 0 x same

/-! ## Fault clustering (R312) -/

/-- The reports of the last 10 ms. -/
def Tmp.recent (t : Tmp) : List (Nat × Nat) := t.window.filter (fun w => decide (t.now < w.2 + faultWindow))

/-- TILE_FAULT_REPORT: the oldest report of a unit reaches the monitor; with another unit's in the last 10 ms it raises
FAULT_CLUSTER. -/
def Chip.faultReport (c : Chip) (same : Bool) : Chip :=
  match c.dev.tmp.reports with
  | [] => c
  | u :: rest =>
    let t := c.dev.tmp
    let other := (t.recent.filter (fun w => w.1 != u)).getLast?
    let c := c.onDev (fun d => { d with tmp := { t with reports := rest, window := t.recent ++ [(u, t.now)] } })
    match other with
    | none => c
    | some w =>
      if !c.armed 18 then c
      else (c.onDev (fun d => (d.wr Fld.TMP_CLUSTER_FIRST_UNIT w.1).wr Fld.TMP_CLUSTER_SECOND_UNIT u)).alarm 18 0 (u % 256) same

/-- FAULT_WINDOW_EXPIRY: 10 ms after the last report. -/
def Chip.windowExpiry (c : Chip) : Chip :=
  match c.dev.tmp.window.getLast? with
  | none => c
  | some w => (c.advance (w.2 + faultWindow - c.dev.tmp.now)).onDev (fun d => { d with tmp := { d.tmp with window := [] } })

/-! ## The built-in test (R314) -/

/-- The detection time of a source that can be tested, in CD_MGMT cycles (R304). -/
def detectCycles (s : Nat) : Nat := match s with
  | 0 => 5 | 1 => 5 | 2 => 4000 | 3 => 2 | 4 => 10000 | 5 => 10000 | 6 => 100 | 7 => 2000 | _ => 6100

/-- DETECTOR_BIST: a write of TMP_BIST_CTRL. -/
def Dev.bistGo (d : Dev) (st : Option Nat) (w : Word) : Dev :=
  if !d.bar0 0 st 0xB0028 then d
  else
    let s := getF w 0 5
    let d := ((d.wr Fld.TMP_BIST_CTRL_SOURCE s).wr Fld.TMP_BIST_CTRL_DETECTOR (getF w 8 1)).wr Fld.TMP_BIST_CTRL_INDEX (getF w 16 8)
    if !w.getLsbD 63 then d
    else if d.tmp.bist.isSome || decide (16 < s) then d.wr Fld.TMP_STATUS_CFG_REJECT 1
    else
      let d := (d.wr Fld.TMP_BIST_RESULT_DONE 0).wr Fld.TMP_BIST_RESULT_PASS 0
      { d with tmp := { d.tmp with bist := some (s, getF w 8 1) } }

/-- BIST_COMPLETE: the detector's response in cycles, 0xFFFF for none. A failure raises WARDEN_SELFCHECK. -/
def Dev.bistComplete (d : Dev) (response : Nat) : Dev :=
  match d.tmp.bist with
  | none => d
  | some (s, _) =>
    let r := min response 0xFFFF
    let pass := decide (r ≤ detectCycles s) && decide (r < 0xFFFF)
    let d := ((d.wr Fld.TMP_BIST_RESULT_RESPONSE r).wr Fld.TMP_BIST_RESULT_DONE 1).wr Fld.TMP_BIST_RESULT_PASS pass.toNat
    { d with tmp := { d.tmp with bist := none, raised := if pass then d.tmp.raised else d.tmp.raised ++ [0x20 + s] } }

/-! ## The backup domain (R315, R318) -/

/-- The backup domain as it powers up after losing both supplies; `main` whether the main supply was present. -/
def Backup.fresh (main : Bool) : Backup :=
  ⟨true, true, none, BitVec.ofNat 64 (2 ^ 21), [(1, (timeWord 0 (!main), infoWord 0 0 2 21 1))], 1, 0, 0, 0, false⟩

/-- BACKUP_LOSS: possible only while the main supply, from which the domain would run, is absent. -/
def Chip.backupLoss (c : Chip) (main : Bool) : Chip := if c.dev.plt.mainOn then c else { c with bd := Backup.fresh main }

def Dev.vbat (d : Dev) (low : Bool) : Dev := { d with tmp := { d.tmp with vbatLow := low } }

/-! ## Delivery of an Erase (R87, R303) -/

/-- Every thread loses its command, its registers and its requests. -/
def Dev.threadsErase (d : Dev) : Dev :=
  (d.thrs.map Prod.fst).foldl (fun x h => (x.endThread h).modThr h (fun t => { t with toks := [] })) d

/-- Command staging is zeroised. -/
def Dev.stagingErase (d : Dev) : Dev :=
  { d with dsp := { d.dsp with cmds := tmap (fun _ => Cmd.reset) (fun _ c => { c with prefetch := 0 }) d.dsp.cmds } }

/-- The Warden's working secrets go; requests that wait on what went are answered with ST_ERASED. -/
def Chip.wardenErase (c : Chip) : Chip :=
  let w := c.dev.wdn
  let c := c.onDev (fun d => { d with wdn := { d.wdn with queue := d.wdn.queue.filter (fun r => r.origin != 1 || d.wdn.job == some r), nonces := [], answers := [],
                                                           spdm := d.wdn.spdm.ended } })
  let c := match w.job with
    | some r => if r.origin = 1 then c.onDev (fun d => { d with wdn := { d.wdn with job := none, queue := d.wdn.queue.filter (fun q => q.origin != 1) } })
        else c.reply r stErased
    | none => c
  let c := match w.arch with
    | some a => (c.onDev (fun d => { d.wr Fld.WDN_MBOX_STATUS_CEREMONY 0 with wdn := { d.wdn with arch := none } })).reply a.req stErased
    | none => c
  let c := if w.ceremony.isSome then c.onDev Dev.closeCeremony else c
  c.restoreEnd stErased []

/-- What an Erase does in every subsystem. -/
def Chip.eraseEffects (c : Chip) : Chip :=
  let c := c.onDev (fun d => ((((d.eraseCommands.threadsErase).stagingErase.cipherErase).hpkErase.vaultErase).rngErase).xksErase)
  let c := c.onDev (fun d => ((d.nvsAbandon (fun k => !k.isAlarm)).bondErase).cardsErase)
  ((c.backupStop stErased).wardenErase).auditAlarm

/-- ERASE_DELIVERY: a judged Erase is delivered: the Backup Key is zeroised and erasure begins everywhere. -/
def Chip.eraseDelivery (c : Chip) : Chip :=
  let c := if c.dev.tmp.batch.isEmpty then c else c.watch Chip.judge
  if !c.dev.tmp.eraseDue then c
  else
    let c := c.watch (fun c =>
      { c with bd := { c.bd with bk := none },
               dev := { c.dev with tmp := { c.dev.tmp with eraseDue := false, lockDue := false, erasing := true } }.dropBk.unfreeze })
    c.eraseEffects

/-- Every subsystem has reported: the latches set (R300, R303). -/
def Chip.eraseDone (c : Chip) : Chip :=
  if !c.dev.tmp.erasing then c
  else c.watch (fun c =>
    { c with bd := { c.bd with locked := true, erased := true }, dev := { c.dev with tmp := { c.dev.tmp with erasing := false } }.unfreeze })

/-- ROOT_REDERIVATION: after an Erase the keys that need no Backup Key are derived again. -/
def Dev.rederiveNow (d : Dev) : Dev := if d.tmp.erasing || d.tmp.erased then d.rederive else d

end Sys2Proof.Machine
end

