-- ==== Sys2Proof/Machine/Reset.lean ====
section
/-! DEFINITION. Resets: function-level resets beyond the partition's courses, sources and assertion of cold and warm resets, the
release order with the kiln, recovery and Held (R34, R36, R46, R249, R262, R276, R398 to R407, R414, R432, R438, R445). -/

namespace Sys2Proof.Machine

/-! ## Function-level reset (R46, R407) -/

/-- A bookkeeping number that is no staging entry: a Warden request whose command is gone is answered nowhere. -/
def noEntry : Nat := 9216

/-- The Warden's requests of partition `n`'s key-management course: queued ones are discarded, one being executed runs to its end
and its completion is discarded. -/
def Dev.wardenFlr (d : Dev) (n : Nat) : Dev :=
  let mine (r : WReq) : Bool := r.origin == 1 && (d.cmd r.entry).part == n
  let cut (r : WReq) : WReq := if mine r then { r with entry := noEntry } else r
  let w := d.wdn
  let busy (r : WReq) : Bool := w.job == some r || w.arch.any (fun a => a.req == r) || w.backup.any (fun b => b.req == r)
    || w.restore.any (fun x => x.req == some r)
  let queue := (w.queue.filter (fun r => !mine r || busy r)).map cut
  { d with wdn := { w with queue := queue, job := w.job.map cut, arch := w.arch.map (fun a => { a with req := cut a.req }),
                           backup := w.backup.map (fun b => { b with req := cut b.req }),
                           restore := w.restore.map (fun x => { x with req := x.req.map cut }) } }

/-- A reset of one partition in the rest of the device: the store's transfer for it, its random value, its function's MSI-X
table. -/
def Dev.flrReach (d : Dev) (n : Nat) : Dev :=
  let d := (d.xksFlr n).rngFlr n
  if n = 0 then d else { d with hiu := { d.hiu with vecs := d.hiu.vecs.filter (fun e => e.1 / 2048 != n) } }

/-- A function-level reset of partition `n`: absorbed by a warm reset in progress (R399), merged into one in progress.
One under R34 that is merged records no IDE_LOST (DESIGN CHOICE: R46 says that it is merged, and not whether the code is still recorded). -/
def Dev.flrFull (d : Dev) (n : Nat) (lost : Bool) : Dev :=
  if 64 ≤ n || (d.plt.reach != 0 && !d.held) || d.bit (Fld.PART_STATUS_RESETTING n) then d
  else (((d.wardenFlr n).flr n lost).flrReach n).wdnTidy

/-- PARTITION_RESET: a write of PART_CTRL.RESET. -/
def Dev.partitionReset (d : Dev) (st : Option Nat) (n : Nat) : Dev := if d.partWrite n st then d.flrFull n false else d

/-- VF_FLR: a PCIe FLR of virtual function `n`, which resets its configuration space with it. -/
def Dev.vfFlr (d : Dev) (n : Nat) : Dev :=
  if n = 0 || !d.fnExists n || (d.plt.reach != 0 && !d.held) then d
  else let d := d.flrFull n false
    d.setFn n Fn.reset

/-- VF_DISABLE. -/
def Dev.vfDisable (d : Dev) (num : Nat) : Dev := d.vfShrink (fun x n => (x.flrFull n false).setFn n Fn.reset) num

/-- IDE_STREAM_INSECURE. -/
def Dev.ideLost (d : Dev) (s : Nat) (check : Bool) : Dev := d.ideInsecure (fun x n => x.flrFull n true) s check

/-! ## Registers at a reset (R9, R406) -/

/-- Bits that report live state, which a warm reset does not change: the link, the derived keys, the lifecycle, the erased store,
the PLLs. -/
def liveBits (a : Nat) : Word :=
  if a = Fld.HIU_STATUS_IDE_SECURE.reg then maskF 8 16
  else if a = Fld.VLT_STATUS_DERIVED.reg then maskF 0 3
  else if a = Fld.XKS_STATUS_ERASED.reg then maskF 3 1
  else if a = Fld.WDN_LIFECYCLE_STATE.reg then maskF 0 3
  else if a = Fld.PLT_CLOCKS_ROOT_LOCK.reg then maskF 0 2
  else 0

/-- The bits of register `a` that a warm reset keeps. -/
def warmKeep (a : Nat) : Word := (match regRow a with | some r => r.keep | none => 0) ||| liveBits a

/-- Every register after a warm reset. -/
def warmRegs (t : Tab Word) : Tab Word := t.foldr (fun e r => tput regReset r e.1 (mergeW (regReset e.1) e.2 (warmKeep e.1))) []

/-! ## Assertion (R398 to R400, R406) -/

/-- RESET_OUT_N takes a level. -/
def Dev.resetOut (d : Dev) (v : Bool) : Dev :=
  if d.plt.rstOut = v then d else { d with plt := { d.plt with rstOut := v } }.emit (.pin "RESET_OUT_N" v)

/-- The monitor, which no reset reaches: the built-in test ends, and sources 18 and 20 are disarmed (R304, R314). -/
def Tmp.reset_ (t : Tmp) (cold : Bool) : Tmp :=
  { t with bist := none, armed := t.armed.filter (fun s => s != 18 && s != 20), firstFault := if cold then [] else t.firstFault }

/-- What Platform Control keeps. -/
def Plt.assert (p : Plt) (reach : Nat) (count : Nat) : Plt :=
  { p with spares := if reach = 2 then [] else p.spares, life := [], reach := reach, waiting := none, fresh := p.fresh || reach == 2,
           resets := p.resets ++ [count], ibi := false, i3cReq := [], i3cResp := [], i3cBusy := false,
           i3cDone := false, hottest := none, devs := [], highest := 0 }

/-- The Warden restarts: requests, ceremonies and windows are gone; what it knew of the configuration stands until step 9. -/
def Wdn.restart (w : Wdn) (cold : Bool) : Wdn :=
  { Wdn.reset with config := w.config, setM := w.setM, setN := w.setN, keys := w.keys, alarms := if cold then 0 else w.alarms }

/-- The reset's cause, and that it is asserted now. -/
def Dev.resetCause (d : Dev) (reach source origin : Nat) : Dev :=
  ((d.wr Fld.PLT_RESET_CAUSE_SOURCE source).wr Fld.PLT_RESET_CAUSE_REACH reach).wr Fld.PLT_RESET_CAUSE_ORIGIN (origin % 256)

/-- A cold reset (R406): everything but the MRAM, the monitor and what other domains hold. -/
def Dev.coldReset (d : Dev) (source origin : Nat) : Dev :=
  let d := d.nvsReset
  let d : Dev := { d with
    regs := [], heff := [], seq := 0, hiu := Hiu.reset, dsp := Dsp.reset, thrs := [], prog := Prog.reset, ciph := Ciph.reset,
    hpk := Hpk.reset, vlt := Vlt.reset, xks := Xks.reset, rng := Rng.reset, tmp := d.tmp.reset_ true, wdn := d.wdn.restart true,
    crd := Crd.reset, mtr := Mtr.reset, plt := d.plt.assert 2 (if source = 1 then 500 else 502) }
  (d.resetCause 2 source origin).resetOut false

/-- An epoch change of partition `n`, with its event (R75, R83). -/
def Dev.partEpochUp (d : Dev) (n : Nat) : Dev := (d.wr (Fld.PART_STATUS_EPOCH n) (d.epoch n + 1)).eventAt (Fld.PART_EVSEQ_SEQ n)

/-- The epochs that a warm reset raises, each by one and each an event of its own after the reset's: every partition's, then every
tile's (R75). -/
def Dev.warmEpochs (d : Dev) : Dev :=
  let d := d.eventAt Fld.PLT_RESET_EVSEQ_SEQ
  let d := (List.range 64).foldl Dev.partEpochUp d
  (List.range 64).foldl Dev.tileEpochUp d

/-- The configuration space of every function, which a PCIe hot reset resets (R402). -/
def Hiu.warm (h : Hiu) (hot : Bool) : Hiu :=
  if hot then { Hiu.reset with ideKeys := h.ideKeys }
  else { h with served := [], cqs := [], doeError := false, fns := tmap (fun _ => Fn.reset) (fun _ f => { f with held := [] }) h.fns }

/-- A warm reset (R406). Keys, contexts, programs, records, spares and retirement stand. -/
def Dev.warmReset (d : Dev) (source origin : Nat) : Dev :=
  let d := ((d.nvsReset).vaultReset).xksRest
  let mtr := { Mtr.reset with msgId := d.mtr.msgId, cert := d.mtr.cert }
  let links := [d.rd (Fld.MTR_PORT_LINK 0), d.rd (Fld.MTR_PORT_LINK 1)].map (min 2)
  let peers := [d.rd (Fld.MTR_PORT_PEER_ID 0), d.rd (Fld.MTR_PORT_PEER_ID 1)]
  let lanes := [d.rd (Fld.MTR_PORT_LANES 0), d.rd (Fld.MTR_PORT_LANES 1)]
  let d : Dev := { d with
    regs := warmRegs d.regs, heff := [], hiu := d.hiu.warm (source == 6), dsp := { Dsp.reset with ctxs := d.dsp.ctxs, badCtx := d.dsp.badCtx }, thrs := [],
    ciph := Ciph.reset, hpk := Hpk.reset,
    tmp := d.tmp.reset_ false, wdn := d.wdn.restart false, crd := Crd.reset, mtr := mtr, plt := d.plt.assert 1 501 }
  let d := [0, 1].foldl (fun x p => ((x.wr (Fld.MTR_PORT_LINK p) (links.getD p 0)).wr (Fld.MTR_PORT_PEER_ID p) (peers.getD p 0)).wr
    (Fld.MTR_PORT_LANES p) (lanes.getD p 0)) d
  let r := (d.rngReset false).warmEpochs
  let r := if r.rngState = d.rngState then r else r.wr Fld.RNG_EVSEQ_SEQ r.seq.toNat
  ((r.inc Fld.PLT_RESET_CAUSE_WARM_COUNT 1).resetCause 1 source origin).resetOut false

/-- A reset is asserted. A cold one restarts the event count, so that nothing of the moment is an event. -/
def Chip.resetNow (c : Chip) (reach source origin : Nat) : Chip :=
  if reach = 2 then
    let d := (c.dev.coldReset source origin).wr Fld.WDN_LIFECYCLE_STATE c.lifecycle
    ({ c with dev := d }).sync d
  else c.watch (fun c => c.onDev (fun d => d.warmReset source origin))

/-- A reset is asked for (R399): it waits for an Erase in progress, the farther one first; a warm one before step 5 of a release is
merged into the reset in progress. -/
def Chip.assertReset (c : Chip) (reach source origin : Nat) : Chip :=
  let p := c.dev.plt
  if !p.mainOn then c
  else if c.dev.tmp.erasing then
    let keep := match p.waiting with | some w => decide (reach ≤ w.1) | none => false
    if keep then c else c.onDev (fun d => { d with plt := { d.plt with waiting := some (reach, source, origin) } })
  else if reach = 1 && p.reach != 0 && decide (c.dev.rd Fld.PLT_RESET_STATUS_STEP < 5) then c
  else c.resetNow reach source origin

/-- The Erase has completed: a reset that waited for it proceeds, otherwise the Warden notes it. -/
def Chip.eraseComplete (c : Chip) : Chip :=
  if !c.dev.tmp.erasing then c
  else
    let c := c.eraseDone
    match c.dev.plt.waiting with
    | some w => c.assertReset w.1 w.2.1 w.2.2
    | none => c

/-! ## Sources (R398, R402, R438, R445) -/

/-- RESET_IN_N: `low` with the length of the pulse in nanoseconds, or its release. 1 µs or more is a reset, 100 ns or less is
ignored, between them it may be `caught`. -/
def Chip.resetIn (c : Chip) (low : Bool) (ns : Nat) (caught : Bool) : Chip :=
  if !low then c.onDev (fun d => { d with plt := { d.plt with rstIn := false } })
  else if c.dev.plt.rstIn || !(1000 ≤ ns || (100 < ns && caught)) then c
  else (c.onDev (fun d => { d with plt := { d.plt with rstIn := true } })).assertReset 2 2 0

def Chip.perstN (c : Chip) (low : Bool) : Chip :=
  if !low then c.onDev (fun d => { d with plt := { d.plt with perst := false } })
  else if c.dev.plt.perst then c
  else (c.onDev (fun d => { d with plt := { d.plt with perst := true } })).assertReset 2 3 0

/-- A keyed write is well-formed (R419): the key, an action named, no reserved bit. -/
def keyed (w : Word) (actions : List Nat) : Bool := getF w 48 16 == 0x9400 && actions.contains (getF w 0 48)

/-- The write reaches the PLT block. -/
def Dev.pltReached (d : Dev) (v : Via) (off : Nat) : Bool := match v with
  | .host fn st => fn == 0 && d.bar0 0 st (0xF0000 + off)
  | .i3c => d.plt.mainOn && !d.plt.por
  | _ => false

def viaOrigin : Via → Nat
  | .i3c => 1
  | _ => 0

/-- A write of PLT_RESET_CMD (R398, R419): TYPE 1 a warm reset, TYPE 2 a cold one; any other content is refused with BAD_KEY. -/
def Chip.resetWrite (c : Chip) (v : Via) (w : Word) : Chip :=
  if !c.dev.pltReached v 0 then c
  else if keyed w [1] then c.assertReset 1 5 (viaOrigin v)
  else if keyed w [2] then c.assertReset 2 4 (viaOrigin v)
  else c.onDev (fun d => d.wr Fld.PLT_STATUS_BAD_KEY 1)

/-- RESET_CMD_COLD (`type` 2) and RESET_CMD_WARM (`type` 1); a write that spells the other command is that command. -/
def Chip.resetCmd (c : Chip) (v : Via) (type : Nat) (w : Word) : Chip :=
  if keyed w [3 - type] then c else c.resetWrite v w

def Chip.hotReset (c : Chip) : Chip := c.assertReset 1 6 0

/-- WATCHDOG_EXPIRY: 100 ms without service of the Warden (R323). -/
def Chip.watchdog (c : Chip) : Chip := if c.dev.wdn.running then c.assertReset 1 7 0 else c

/-- RESET frame: a worker takes a warm reset; a manager or standby refuses it (R386, R398). -/
def Chip.mtrResetFrame (c : Chip) (fr : Frame) : Chip :=
  let worker (d : Dev) : Bool := d.bondRole == roleWorker && fr.src == d.managerId
  c.mtrApply 0x70 fr worker (fun c => c.assertReset 1 8 c.dev.managerId)

/-- POWER_ON: the first main rail rises and POR is asserted. -/
def Chip.powerOn (c : Chip) : Chip :=
  if c.dev.plt.mainOn then c
  else
    let c := c.onDev (fun d => { d with plt := { d.plt with mainOn := true, por := true, fresh := true } })
    (c.onDev (fun d => { d with tmp := { d.tmp with armed := [] } })).resetNow 2 1 0

def Chip.porRelease (c : Chip) : Chip :=
  if c.dev.plt.mainOn then c.onDev (fun d => { d with plt := { d.plt with por := false } }) else c

/-- What an alarm judged and not yet carried out leaves in the backup domain when power goes: its latches, and for an Erase no
Backup Key. -/
def Chip.pendingResponse (c : Chip) : Chip :=
  let c := if c.dev.tmp.batch.isEmpty then c else c.judge
  let t := c.dev.tmp
  if t.eraseDue || t.erasing then { c with bd := { c.bd with bk := none, locked := true, erased := true } }
  else if t.lockDue then { c with bd := { c.bd with locked := true } } else c

/-- POWER_LOSS: POR asserts; the word in progress reads as `o` says (R281); a freeze ends without a response (R306). -/
def Chip.powerLoss (c : Chip) (o : WordOutcome) : Chip :=
  if !c.dev.plt.mainOn then c
  else
    let c := c.pendingResponse.onDev (fun d => d.nvsPowerLoss o)
    let t := { c.dev.tmp with frozen := false, crossed := [], lockDue := false, eraseDue := false, erasing := false, armed := [],
                              window := [], reports := [], raised := [] }
    let c := (c.onDev (fun d => { d with tmp := t, plt := { d.plt with por := true, waiting := none } })).resetNow 2 1 0
    c.onDev (fun d => { d with plt := { d.plt with mainOn := false, resets := [] } })

/-! ## Release (R400, R401) -/

def Dev.step (d : Dev) : Nat := d.rd Fld.PLT_RESET_STATUS_STEP
def Dev.setStep (d : Dev) (n : Nat) : Dev := d.wr Fld.PLT_RESET_STATUS_STEP n

/-- Sources armed from now on. -/
def Dev.arm (d : Dev) (l : List Nat) : Dev :=
  { d with tmp := { d.tmp with armed := d.tmp.armed ++ l.filter (fun s => !d.tmp.armed.contains s) } }

/-- The step `n` can complete: a reset is in progress and the step before is done. -/
def Dev.atStep (d : Dev) (n : Nat) : Bool := d.plt.mainOn && d.plt.reach != 0 && d.step == n

/-- STRETCH_END: 65,536 cycles after every source is released. A cold release goes on from step 2, with the sources of step 2
armed; a warm one from step 4. -/
def Dev.stretchEnd (d : Dev) : Dev :=
  if !d.atStep 0 || d.plt.por || d.plt.rstIn || d.plt.perst then d
  else if d.plt.reach = 2 then (d.arm [0, 1, 2, 3, 4, 5, 6, 7, 19]).setStep 2
  else d.setStep 4

/-- FUSE_LOAD: pins take their fuse-map states, source 17 is armed. -/
def Dev.fuseLoad (d : Dev) : Dev := if d.atStep 2 then (d.arm [17]).setStep 3 else d

/-- ROOT_PLL_LOCK. -/
def Dev.rootLock (d : Dev) : Dev := if d.atStep 3 then (d.wr Fld.PLT_CLOCKS_ROOT_LOCK 1).setStep 4 else d

/-! ### Step 5 (R323, R346) -/

/-- The header of patch bank `b`, if the bank is complete and its digest checks. -/
def Dev.patchBank (d : Dev) (b : Nat) : Option (List Byte) :=
  let rs := d.nvs.recs ++ d.nvs.hidden
  let get (type subject : Nat) := rs.find? (fun r => r.region == 1 && r.type == type && r.subject == subject && newest rs r)
  match get 0x22 b with
  | none => none
  | some h =>
    let n := leAt h.payload 8 4
    let code := ((List.range ((n + 4047) / 4048)).map (fun k => match get 0x23 (b * 65536 + k) with
      | some r => r.payload
      | none => [])).flatten
    if code.length == n && slice h.payload 16 48 == slice (Config.sha384 code) 0 48 then some h.payload else none

/-- The patch the ROM selects: bank + 1, 0 for ROM only, and its VERSION. -/
def Dev.patchSelect (d : Dev) : Nat × Nat :=
  match d.patchBank 0, d.patchBank 1 with
  | some a, some b => if leAt a 4 4 < leAt b 4 4 then (2, leAt b 4 4) else (1, leAt a 4 4)
  | some a, none => (1, leAt a 4 4)
  | none, some b => (2, leAt b 4 4)
  | none, none => (0, 0)

/-- WARDEN_ROM: the Warden runs, source 20 is armed. -/
def Chip.wardenRom (c : Chip) : Chip :=
  if !c.dev.atStep 4 then c
  else c.onDev (fun d =>
    let s := d.patchSelect
    let d := ((d.wr Fld.WDN_LIFECYCLE_PATCH s.1).wr Fld.WDN_LIFECYCLE_PATCH_VERSION s.2).wr Fld.WDN_LIFECYCLE_DEBUG_FUSES c.fz.debug
    (({ d with wdn := { d.wdn with running := true } }).arm [20]).setStep 5)

/-! ### Step 6, the kiln (R404) -/

/-- Tile `t` after its test: `bad` are the tiles that fail it. One retired for good is not tested. -/
def Dev.kilnTile (bad : List Nat) (d : Dev) (t : Nat) : Dev :=
  if (d.rd Fld.TILE_RETIRED_RETIRED).testBit t then d.wr (Fld.TILE_EPOCH_STATE t) 2
  else if bad.contains t then
    let d := ((((d.wr Fld.TILE_FAULT_TILE t).wr Fld.TILE_FAULT_THREAD 0).wr Fld.TILE_FAULT_CAUSE 8).wr
      Fld.TILE_FAULT_PERMANENT 1).eventAt Fld.TILE_FAULT_EVSEQ_SEQ
    d.tileOut t true
  else (d.setBit Fld.TILE_AVAIL_AVAIL t true).wr (Fld.TILE_EPOCH_STATE t) 0

/-- Core `k` after its known-answer tests. -/
def Dev.kilnCore (bad : List Nat) (d : Dev) (k : Nat) : Dev :=
  if (d.rd Fld.CIPH_RETIRED_RETIRED).testBit k then d
  else (d.setBit Fld.CIPH_SELFTEST_SELFTEST k true).coreTested k (!bad.contains k)

/-- Hash or PKL unit `u` after its known-answer tests. -/
def Dev.kilnUnit (bad : List Nat) (d : Dev) (u : Nat) : Dev :=
  if (d.rd Fld.HPK_RETIRED_RETIRED).testBit u then d
  else (d.setBit Fld.HPK_SELFTEST_SELFTEST u true).unitTested u (!bad.contains u)

/-- The kiln failure, 0 for none: RNG in FAILED, a detector, a shared checker or decoder, no unit of a kind. -/
def Dev.kilnCode (d : Dev) (inject dets : Bool) : Nat :=
  if d.rngState = rngFailedSt then 1
  else if dets then 2
  else if inject then 3
  else if d.tilesAvailable = 0 || d.noCore || !d.anyUnit 0 15 || !d.anyUnit 16 19 || !d.anyUnit 20 27 || !d.anyUnit 28 31 then 4
  else 0

/-- A kiln failure: KILN_FAIL, and WARDEN_SELFCHECK is to be raised. -/
def Dev.kilnFail (d : Dev) (code : Nat) : Dev :=
  if code = 0 then d
  else
    let d := (d.wr Fld.PLT_RESET_STATUS_KILN_FAIL 1).wr Fld.PLT_RESET_STATUS_KILN_TEST code
    { d with tmp := { d.tmp with raised := d.tmp.raised ++ [0x10 + code] }, plt := { d.plt with resets := d.plt.resets ++ [503] } }

/-- KILN: the tiles, cores, units and detectors that fail, and whether a shared residue checker or ECC decoder does. The RNG's
start-up test comes first; the kiln ends when its outcome stands. -/
def Dev.kiln (d : Dev) (tiles cores units : List Nat) (inject : Bool) (dets : List Nat) : Dev :=
  if !d.atStep 5 || !(!d.rng.startup || d.rngState == rngFailedSt) then d
  else
    let d := (List.range 64).foldl (Dev.kilnTile tiles) d
    let d := (List.range 48).foldl (Dev.kilnCore cores) d
    let d := (List.range 32).foldl (Dev.kilnUnit units) d
    let bad := dets.filter (fun s => decide (s ≤ 16))
    let d := { d with tmp := { d.tmp with raised := d.tmp.raised ++ bad.map (0x20 + ·) } }
    (d.kilnFail (d.kilnCode inject (!bad.isEmpty))).setStep 6

/-! ### Step 7 (R232, R249) -/

/-- VAULT_DERIVATION: after a cold reset every output is derived; a warm reset keeps them. -/
def Chip.vaultDerivation (c : Chip) : Chip :=
  if !c.dev.atStep 6 then c
  else c.onDev (fun d =>
    (if d.bit Fld.VLT_STATUS_DERIVED then d else d.vaultDerive (c.lifecycle == 4) c.bd.bk d.plt.fresh).setStep 7)

/-! ### Step 8 (R240, R264, R291, R432) -/

/-- Image values of the partitions, from their newest records. -/
def Dev.imageEpochs (d : Dev) : Dev :=
  (List.range 64).foldl (fun x n => match x.newestRec 0 4 n with
    | some r => (x.wr (Fld.XKS_IMAGE_EPOCH_EPOCH n) (leAt r.payload 0 4)).wr (Fld.XKS_IMAGE_EPOCH_FLOOR n) (leAt r.payload 4 4)
    | none => x) d

/-- Resets and kiln failures are counted once recovery is complete. -/
def Dev.countResets (d : Dev) : Dev :=
  let d := d.plt.resets.foldl (fun x b => x.nvsNow (.increment (4096 + b))) d
  { d with plt := { d.plt with resets := [] } }

/-- The device counters that are damaged, and a break of the audit chain, are failures of the Warden's self-check. -/
def Dev.startChecks (d : Dev) : Dev :=
  let bad := ((List.range 64).filter d.ctrDamaged).map (0x80 + ·)
  { d with tmp := { d.tmp with raised := d.tmp.raised ++ bad ++ (if d.auditBroken then [3] else []) } }

/-- SEQ of the newest LEASE_GRANT record: a window commit before it has its lease, one after it that carries NEED_LEASE is still to be
answered after recovery (R194). -/
def Dev.grantSeq (d : Dev) : Nat :=
  ((d.nvs.recs.filter (fun r => r.region == 0 && r.type == 2 && r.valid)).map Rec.seq).foldl max 0

/-- NVS_JOURNAL_RECOVERY. -/
def Dev.recovery (d : Dev) : Dev :=
  if !d.atStep 7 || d.nvs.frozen then d
  else
    let d := (d.nvsRecover).loadImages d.plt.fresh
    let d := { d with plt := { d.plt with fresh := false }, ciph := { d.ciph with answered := d.grantSeq } }
    ((d.imageEpochs.countResets).startChecks).setStep 8

/-! ### Step 9 (R317, R342, R378, R405) -/

/-- Ring entries, oldest first. -/
def Backup.entries (b : Backup) : List (Word × Word) :=
  ((List.range 16).map (fun k => (b.newest + 2 ^ 16 - 15 + k) % 2 ^ 16)).filterMap (fun n =>
    let e := b.entry n
    if getF e.2 0 16 = n && b.ring.any (fun x => x.1 == n % 16) then some e else none)

/-- An ALARM_EVENT record for a ring entry that has none (R317): SEQ is 0 for one written on backup power or at the backup domain's
power-up, which is counted now; the record of an alarm whose write a reset cut off carries a sequence number that the spec does not
fix. -/
def Dev.alarmRecord (d : Dev) (e : Word × Word) : Dev :=
  let key := bvBytes 8 e.1 ++ bvBytes 8 e.2
  if d.nvs.alarmRecs.contains key then d
  else
    let src := getF e.2 16 5
    let quiet := e.1.getLsbD 63 || src == 21
    let seq := if quiet then 0 else Config.freeWord d.nfree
    let d := if quiet then d.lifeAdd (510 + src) 1 else d.takeFree
    d.askRecord 1 0 5 src (key ++ bvBytes 8 seq)

/-- CONFIG_VALIDATION: the custodian set, the configuration or Held, the bond's certificate and record, the alarm records due. -/
def Chip.configValidation (c : Chip) : Chip :=
  if !c.dev.atStep 8 then c
  else
    let c := c.watch (fun c => c.onDev (fun d =>
      let d := (d.cfgValidate.bondLoad).setStep 9
      if d.held then d.sessionsEnd true else d))
    c.onDev (fun d => c.bd.entries.foldl (fun x e => x.alarmRecord e) d)

/-! ### Step 10 (R232, R251, R262) -/

/-- The record ranges of the configuration in force. -/
def Dev.cfgRanges (d : Dev) : List (Nat × Nat) := (List.range 64).map (cfgRecs d.wdn.config)

/-- The store is formatted for the configuration in force. -/
def Dev.formatNow (d : Dev) : Dev :=
  let n := cfgRecords d.wdn.config
  { d.xksFormat d.xks.cap n with xks := { (d.xksFormat d.xks.cap n).xks with fmt := n, ranges := d.cfgRanges } }.recordRanges

/-- The store that survived is opened again, its pinned levels verified. -/
def Dev.reopen (d : Dev) (m : Nat) : Dev :=
  let d := ((d.wr Fld.XKS_GEOMETRY_CAPACITY d.xks.cap).wr Fld.XKS_GEOMETRY_RECORDS d.xks.fmt).wr
    Fld.XKS_GEOMETRY_LEVELS (treeLevels 12 (2 * d.xks.fmt)).length
  (d.recordRanges).xksVerify m

/-- DRAM_TRAINING: `capacity` GB are found, and on a store that survived, what the read of the pinned levels meets. A configuration
whose store does not fit is invalid: the device enters Held (R251). A store that survived is opened as it was formatted; one that has gone
through Held is formatted if RECORDS or the ranges have changed (R262). -/
def Chip.dramTraining (c : Chip) (capacity m : Nat) : Chip :=
  if !c.dev.atStep 9 || c.dev.held then c
  else c.watch (fun c => c.onDev (fun d =>
    let d := if d.xks.cap = 0 then { d with xks := { d.xks with cap := capacity } } else d
    let d := d.wr Fld.XKS_GEOMETRY_CAPACITY d.xks.cap
    if !d.cfgFits d.wdn.config then ({ d with wdn := { d.wdn with config := [], km := [] }, xks := { d.xks with held := true } }).wr Fld.PLT_RESET_STATUS_HELD 1
    else
      let d := d.wr Fld.PLT_CLOCKS_DRAM_LOCK 1
      let d := if d.bit Fld.VLT_STATUS_NO_XKS_KEY then d.wr Fld.XKS_STATUS_NO_KEY 1
        else if d.bit Fld.XKS_STATUS_ERASED || d.bit Fld.XKS_STATUS_FAILED then d
        else if d.xks.fmt != 0 && (!d.xks.held || (d.xks.fmt == cfgRecords d.wdn.config && d.xks.ranges == d.cfgRanges)) then d.reopen m
        else d.formatNow
      { d with xks := { d.xks with held := false } }.setStep 10))

/-! ### Steps 11 and 12 (R304, R396, R405) -/

/-- RESET_OUT_RELEASE: after step 10, or after step 9 while Held. -/
def Dev.outRelease (d : Dev) : Dev :=
  if (d.atStep 10 || (d.atStep 9 && d.held)) && !d.plt.rstOut then (d.resetOut true).setStep 11 else d

/-- The bond after a reset: JOINING, or down while a latch is in force. -/
def Dev.bondAfterReset (d : Dev) : Dev :=
  if !d.bonded then d
  else if d.tmp.lock || d.tmp.erased then d.mtrSet roleNone bsDown
  else d.enterJoining Dev.noteAnswer true

/-- DATA_PLANE_ENABLE: the reset is over, source 18 is armed, the cipher resumes at the recovered mark. A DECOMMISSIONED device never
enables its data plane (R329). -/
def Chip.dataPlane (c : Chip) : Chip :=
  if !(c.dev.atStep 11 || (c.dev.atStep 10 && c.dev.plt.rstOut)) || c.dev.held || c.lifecycle == 5 then c
  else c.watch (fun c =>
    c.onDev (fun d =>
      let d := (({ d with plt := { d.plt with reach := 0 } }).arm [18]).setStep 12
      (d.leaseRecover c.bd.timeValid c.seconds).bondAfterReset))

end Sys2Proof.Machine
end

