-- ==== Sys2Proof/Machine/Lifecycle.lean ====
section
/-! DEFINITION. Lifecycle requests: PROVISION, DEBUG_ENTER, DEBUG_EXIT, DECOMMISSION (R328 to R332). -/

namespace Sys2Proof.Machine

/-- The cold reset that a lifecycle request applies. R398 gives it no SOURCE code: the field takes a free value. -/
def Chip.lifeReset (c : Chip) : Chip :=
  let n := c.dev.nfree
  (c.onDev Dev.takeFree).assertReset 2 (16 + (Config.freeWord n).toNat % 16) 0

/-! ## PROVISION (R330, R332) -/

/-- The parameters: the class byte padded to 8 bytes, the certificate's length, 4 reserved bytes, the certificate. -/
def WReq.provisionOk (r : WReq) : Bool :=
  let n := r.par 8 4
  decide (16 ≤ r.paramLen) && r.paramLen == 16 + (n + 7) / 8 * 8 && r.authLen == 0 && allZero (slice r.params 1 7)
    && allZero (slice r.params 12 4) && allZero (r.params.drop (16 + n))

/-- The audit entry, which lists the set flags and the ring entries: its DIGEST covers them after the request. -/
def Chip.provisionDigest (c : Chip) (r : WReq) : List Byte :=
  Config.sha384 (r.whole ++ bvBytes 8 c.bd.flags ++ (c.bd.entries.map (fun e => bvBytes 8 e.1 ++ bvBytes 8 e.2)).flatten)

/-- The backup domain after the one operation of step 3, with the Backup Key that is generated. -/
def Backup.provisioned (b : Backup) (bk : Nat) : Backup :=
  { b with locked := false, erased := false, flags := 0, ring := [], newest := 0, reviewed := 0, bk := some bk }

/-- PROVISION. `bulk` is the vendor authorisation. -/
def Chip.provision (c : Chip) (bulk : Option (List Byte)) : Chip :=
  c.serve 0x0101 false (fun c r =>
    let c := c.onDev (fun d => d.bulkRead r)
    match bulk with
    | none => c.reply r stBadDescriptor
    | some b =>
      if !r.provisionOk || b.length != r.bulkLen || c.dev.tmp.vbatLow then c.reply r stBadDescriptor
      else match c.dev.vendorCheck r b 0 with
        | some s => c.reply r s
        | none =>
          if c.dev.rngFailed then c.reply r stRngUnavailable
          else if !c.dev.rngServes 0 then c
          else if !c.dev.canAudit then c.reply r stQuota
          else
            let c := c.audit r.code stOk 0 r.origin (c.provisionDigest r)
            let bk := c.dev.nfree
            let cert := slice r.params 16 (r.par 8 4)
            let fz := { c.fz with provision := true, tampClass := r.par 0 1, programmed := true }
            let c := c.watch (fun c => { c with bd := c.bd.provisioned bk, fz := fz, dev := (c.dev.draw 0 1 32).wardenState 2 cert })
            (c.reply r stOk c.dev.deviceId).lifeReset)

/-! ## DEBUG_ENTER and DEBUG_EXIT (R329, R331) -/

/-- One debug fuse is blown, the request answered, the cold reset applied. -/
def Chip.debugFuse (c : Chip) (r : WReq) : Chip :=
  let c := c.watch (fun c => { c with fz := { c.fz with debug := c.fz.debug + 1 } })
  (c.reply r stOk ([BitVec.ofNat 8 c.fz.debug] ++ List.replicate 7 0)).lifeReset

/-- DEBUG_ENTER: quorum and vendor; the vendor alone in MANUFACTURE. -/
def Chip.debugEnter (c : Chip) (bulk : Option (List Byte)) : Chip :=
  c.serve 0x0102 false (fun c r =>
    let c := c.onDev (fun d => d.bulkRead r)
    match bulk with
    | none => c.reply r stBadDescriptor
    | some b =>
      if 8 ≤ c.fz.debug then c.reply r stUseLimit
      else if c.lifecycle = 4 || c.lifecycle = 3 || r.paramLen != 0 || b.length != r.bulkLen then c.reply r stBadDescriptor
      else match c.dev.vendorCheck r b c.fz.debug with
        | some s => c.reply r s
        | none =>
          if c.lifecycle = 0 then (if r.authLen = 0 then c.audited r (fun c => c.debugFuse r) else c.reply r stBadDescriptor)
          else c.quorumed r b 2 (fun c => c.debugFuse r))

def Chip.debugExit (c : Chip) : Chip :=
  c.serve 0x0103 false (fun c r => if r.plain 0 then c.audited r (fun c => c.debugFuse r) else c.reply r stBadDescriptor)

/-! ## DECOMMISSION (R329) -/

/-- A counter block of zeros, which no CHECK matches. -/
def Block.zeroed : Block := ⟨⟨0, 0, false⟩, ⟨0, 0, false⟩, []⟩

/-- Every MRAM region is zeroed but the lifetime statistics and the audit records. -/
def Dev.mramZero (d : Dev) : Dev :=
  let blocks := (List.range 896).map (fun k => (k, Block.zeroed)) ++ d.nvs.blocks.filter (fun e => decide (4096 ≤ e.1))
  { d with nvs := { d.nvs with recs := d.nvs.recs.filter (fun r => r.region == 0 && r.type == 6), hidden := d.nvs.hidden.filter (fun r => r.region == 0 && r.type == 6),
                               copies := [], blocks := blocks, corrupt := [] } }

/-- The Erase, the zeroing and the fuse. -/
def Chip.decommissionNow (c : Chip) : Chip :=
  let c := c.watch (fun c => { c with bd := { c.bd with bk := none }, dev := { c.dev with tmp := { c.dev.tmp with eraseDue := false, lockDue := false, erasing := true } }.dropBk })
  let c := (c.eraseEffects).onDev Dev.mramZero
  c.watch (fun c => ({ c with fz := { c.fz with decommission := true } }).eraseDone)

def Chip.decommission (c : Chip) (bulk : Option (List Byte)) : Chip :=
  c.serve 0x0104 false (fun c r =>
    if r.paramLen != 0 then c.reply r stBadDescriptor
    else if c.lifecycle = 0 then
      let c := c.onDev (fun d => d.bulkRead r)
      match bulk with
      | none => c.reply r stBadDescriptor
      | some b =>
        if r.authLen != 0 || b.length != r.bulkLen then c.reply r stBadDescriptor
        else match c.dev.vendorCheck r b 0 with
          | some s => c.reply r s
          | none => c.audited r (fun c => (c.reply r stOk).decommissionNow)
    else if r.bulkLen != 0 then c.reply r stBadDescriptor
    else c.quorumed r [] 2 (fun c => (c.reply r stOk).decommissionNow))

end Sys2Proof.Machine
end

