-- ==== Sys2Proof/Machine/Blocks.lean ====
section
/-! DEFINITION. Block resets and maintenance mode (R154, R196, R272, R360, R373, R409 to R412, R419). -/

namespace Sys2Proof.Machine

/-! ## What being held does (R411, R412) -/

/-- Requests of the thread that `p` selects, knowing whether each has passed its engine's checks, come back with ST_UNIT_RESET. -/
def Thr.failToks (p : Bool → Req → Bool) (t : Thr) : Thr :=
  let cut (x : Thr) (k : Nat) (r : Req) (queued : Bool) : Thr :=
    if p queued r then { setTok x k (.done ⟨stUnitReset, GWord.zero, GWord.zero⟩ r.epoch .pair) with writes := x.writes.filter (fun w => w.1 != k) } else x
  (t.toks.map Prod.fst).foldl (fun x k => match tok x k with
    | .sent r => cut x k r false
    | .queued r _ _ _ => cut x k r true
    | _ => x) t

def Dev.failReqs (d : Dev) (p : Bool → Req → Bool) : Dev :=
  { d with thrs := tmap (fun _ => Thr.reset) (fun _ t => t.failToks p) d.thrs }

/-- Block 0: every command on a tile ends, registers and slices are zeroised, the role epochs advance, retirement stands. -/
def Dev.tilesHold (d : Dev) : Dev :=
  let hs := d.thrs.map Prod.fst
  let d := hs.foldl (fun x h => x.endCommand h stUnitReset) d
  let d := { hs.foldl (fun x h => x.scopedClear h) d with thrs := [] }
  let d := (List.range 64).foldl (fun x t =>
    (if (x.rd Fld.TILE_RETIRED_RETIRED).testBit t then x else x.wr (Fld.TILE_EPOCH_STATE t) 3).tileEpochUp t) d
  ((d.wr Fld.TILE_AVAIL_AVAIL 0).wr Fld.TILE_SELFTEST_SELFTEST 0).boundary Fld.TILE_RUN_LIMIT_LIMIT.reg |>.noTiles

/-- A window commit of the cipher cluster. -/
def NvKind.isWindow : NvKind → Bool
  | .record r => r.region == 0 && r.type == 3
  | _ => false

/-- Block 1: queue and schedules are cleared, the steps of derivations among them (R245), its window commit not begun is not written; leases stand. -/
def Dev.cipherHold (d : Dev) : Dev :=
  let d := (d.failReqs (fun q r => r.eng == 1 || (q && r.eng == 4))).nvsAbandon NvKind.isWindow
  let d := { d with ciph := { d.ciph with queue := [], steps := [], cache := [], waitNonce := [], commitOp := none } }
  ((d.wr Fld.CIPH_AVAIL_AVAIL 0).wr Fld.CIPH_SELFTEST_SELFTEST 0).boundary Fld.CIPH_CFG_REFILL_AT.reg

/-- Block 2. -/
def Dev.hpkHold (d : Dev) : Dev :=
  (((d.failReqs (fun _ r => r.eng == 2 || r.eng == 3)).hpkClear).wr Fld.HPK_AVAIL_AVAIL 0).wr Fld.HPK_SELFTEST_SELFTEST 0

/-- The RNG restarts, its change of state an event. -/
def Dev.rngRestart (d : Dev) : Dev :=
  let x := d.rngReset false
  if x.rngState = d.rngState then x else x.eventAt Fld.RNG_EVSEQ_SEQ

/-- Block 3: requests and waiting RANDs end. -/
def Dev.rngHold (d : Dev) : Dev :=
  let hs := (d.thrs.filter (fun x => match x.2.wait with | .rand _ => true | _ => false)).map Prod.fst
  (hs.foldl (fun x h => x.endCommand h stUnitReset) (d.failReqs (fun _ r => r.eng == 7))).rngRestart

/-- Block 4: a running transfer ends, the store stops serving. -/
def Dev.xksHold (d : Dev) : Dev := ((d.failReqs (fun _ r => r.eng == 5)).xferError 7).wr Fld.XKS_STATUS_READY 0

/-- Blocks 5 and 6: the card is deactivated; an archive-key window whose command was on the port ends. -/
def Chip.cardHold (c : Chip) (p : Nat) : Chip :=
  let busy := c.dev.ccState p == 4
  let c := c.onDev (fun d => d.ccOff p 0 0)
  match c.dev.wdn.arch with
  | none => c
  | some w =>
    if busy then
      (c.onDev (fun d => { d.wr Fld.WDN_MBOX_STATUS_CEREMONY 0 with wdn := { d.wdn with arch := none } })).reply w.req stUnitReset
    else c

/-- Block 7: the card's power is removed; a backup and a restore end. -/
def Chip.sdHold (c : Chip) : Chip :=
  let c := c.onDev Dev.sdEmpty
  let c := match c.dev.wdn.backup with
    | some b => c.backupEnd b stUnitReset (leBytes 8 b.lba)
    | none => c
  c.restoreEnd stUnitReset []

/-- Block `b` is held in reset from now on. -/
def Chip.hold (c : Chip) (b : Nat) : Chip :=
  let c := c.onDev (fun d => (d.setBit Fld.PLT_BLOCK_RESET_HOLD b true).setBit Fld.PLT_BLOCK_RESET_READY b false)
  match b with
  | 0 => c.onDev Dev.tilesHold
  | 1 => c.onDev Dev.cipherHold
  | 2 => c.onDev Dev.hpkHold
  | 3 => c.onDev Dev.rngHold
  | 4 => c.onDev Dev.xksHold
  | 5 => c.cardHold 0
  | 6 => c.cardHold 1
  | 7 => c.sdHold
  | 8 => c.onDev (fun d => d.portDown 0)
  | _ => c.onDev (fun d => d.portDown 1)

/-! ## Release (R412) -/

/-- Each unit that is not retired for good runs its tests. -/
def Dev.startTests (d : Dev) (retired test : Fld) (n : Nat) : Dev :=
  (List.range n).foldl (fun x k => if (x.rd retired).testBit k then x else x.setBit test k true) d

/-- Block `b` is released. -/
def Dev.release (d : Dev) (b : Nat) : Dev :=
  let d := d.setBit Fld.PLT_BLOCK_RESET_HOLD b false
  match b with
  | 0 => (List.range 64).foldl (fun x t => if (x.rd Fld.TILE_RETIRED_RETIRED).testBit t then x else x.tileOut t false) d
  | 1 => d.startTests Fld.CIPH_RETIRED_RETIRED Fld.CIPH_SELFTEST_SELFTEST 48
  | 2 => d.startTests Fld.HPK_RETIRED_RETIRED Fld.HPK_SELFTEST_SELFTEST 32
  | 3 => d.rngRestart
  | 8 => d.wr (Fld.MTR_PORT_LINK 0) 1
  | 9 => d.wr (Fld.MTR_PORT_LINK 1) 1
  | _ => d

/-! ## The commands -/

/-- A change of PLT_BLOCK_RESET is honoured (R410). -/
def Dev.blocksMay (d : Dev) : Bool := d.held || d.bit Fld.PLT_MAINT_ACTIVE

def pltOff (f : Fld) : Nat := f.reg - 0xF0000

/-- The bits of a write that differ from HOLD: those it sets (`set`) or clears. -/
def Dev.holdBits (d : Dev) (w : Word) (set : Bool) : List Nat :=
  (List.range 10).filter (fun b => w.getLsbD b == set && d.blockHeld b != set)

def Dev.pltReject (d : Dev) : Dev := d.wr Fld.PLT_STATUS_CFG_REJECT 1

/-- BLOCK_RESET_HOLD: the bits that a write of PLT_BLOCK_RESET sets. -/
def Chip.blockHold (c : Chip) (v : Via) (w : Word) : Chip :=
  let bs := c.dev.holdBits w true
  if !c.dev.pltReached v (pltOff Fld.PLT_BLOCK_RESET_HOLD) || bs.isEmpty then c
  else if !c.dev.blocksMay then c.onDev Dev.pltReject
  else bs.foldl Chip.hold c

/-- BLOCK_RESET_RELEASE: the bits that a write of PLT_BLOCK_RESET clears. -/
def Dev.blockRelease (d : Dev) (v : Via) (w : Word) : Dev :=
  let bs := d.holdBits w false
  if !d.pltReached v (pltOff Fld.PLT_BLOCK_RESET_HOLD) || bs.isEmpty then d
  else if !d.blocksMay then d.pltReject
  else bs.foldl Dev.release d

/-- What the end of block `b`'s tests brings; `bad` are the tiles, cores or units that fail, `m` what the read of the pinned levels
meets. -/
def Chip.blockTests (c : Chip) (b : Nat) (bad : List Nat) (m : Nat) : Chip :=
  match b with
  | 0 => c.onDev (fun d => (List.range 64).foldl (fun x t =>
      if (x.rd Fld.TILE_SELFTEST_SELFTEST).testBit t then x.tileTested t (!bad.contains t) else x) d)
  | 1 => c.onDev (fun d => ((List.range 48).foldl (fun x k => x.coreTested k (!bad.contains k)) d).leaseRecover c.bd.timeValid c.seconds)
  | 2 => c.onDev (fun d => (List.range 32).foldl (fun x u => x.unitTested u (!bad.contains u)) d)
  | 4 => c.onDev (fun d => d.xksVerify m)
  | _ => c

/-- BLOCK_RELEASE_TESTS_DONE: READY sets. The RNG's test is its start-up test. -/
def Chip.blockReady (c : Chip) (b : Nat) (bad : List Nat) (m : Nat) : Chip :=
  if 10 ≤ b || c.dev.blockHeld b || (c.dev.rd Fld.PLT_BLOCK_RESET_READY).testBit b || (b == 3 && c.dev.rngState == rngStart) then c
  else (c.blockTests b bad m).onDev (fun d => d.setBit Fld.PLT_BLOCK_RESET_READY b true)

/-- No partition is enabled and nothing is staged (R410). -/
def Dev.quiet (d : Dev) : Bool := (List.range 64).all (fun n => !d.partEnabled n) && d.countCmds (fun c => c.st != .free) == 0

/-- A keyed write of PLT_MAINT whose action bits are as given: refused with BAD_KEY, else `f`. -/
def Dev.maintWrite (d : Dev) (v : Via) (w : Word) (bit : Nat) (f : Dev → Dev) : Dev :=
  if !d.pltReached v (pltOff Fld.PLT_MAINT_ACTIVE) then d
  else if !keyed w [1, 2, 3] then d.wr Fld.PLT_STATUS_BAD_KEY 1
  else if w.getLsbD bit then f d
  else d

/-- MAINTENANCE_ENTER and MAINTENANCE_EXIT: what a write of PLT_MAINT that names the action does. -/
def Dev.maintEnter (d : Dev) (v : Via) (w : Word) : Dev :=
  d.maintWrite v w 0 (fun d => if d.quiet then d.wr Fld.PLT_MAINT_ACTIVE 1 else d.pltReject)

def Dev.maintExit (d : Dev) (v : Via) (w : Word) : Dev :=
  d.maintWrite v w 1 (fun d => if d.rd Fld.PLT_BLOCK_RESET_HOLD = 0 then d.wr Fld.PLT_MAINT_ACTIVE 0 else d.pltReject)

end Sys2Proof.Machine
end

