-- ==== Sys2Proof/Machine/Read.lean ====
section
/-! DEFINITION. What a register reads as (R4 to R9): the stored fields, and the fields that report live state. -/

namespace Sys2Proof.Machine

/-- A field put into a word. -/
def Fld.put (f : Fld) (v : Nat) (w : Word) : Word := setF w f.lo f.width v

/-- A word whose bits `0` to `63` are as `p` says. -/
def bitsWord (p : Nat → Bool) : Word := (List.range 64).foldl (fun w i => if p i then setF w i 1 1 else w) 0

/-- Device-wide submission course `g` has an error (HIU_SQ_ERR_SUMMARY). -/
def Dev.courseErr (d : Dev) (g : Nat) : Bool :=
  (List.range 64).any (fun n =>
    decide (d.rd (Fld.PART_COURSES_SQ_BASE n) ≤ g) && d.hasSq n (g - d.rd (Fld.PART_COURSES_SQ_BASE n))
      && d.bit (Fld.HIU_SQ_STATE_ERR_CODE n (g - d.rd (Fld.PART_COURSES_SQ_BASE n))))

/-- PART_STATUS of partition `n`. -/
def Dev.partStatus (d : Dev) (n : Nat) : Word :=
  let en := d.partEnabled n
  (Fld.PART_STATUS_QUIESCED n).put (!en && d.inflight n == 0).toNat
    ((Fld.PART_STATUS_IDE_SECURE n).put (d.ideSecure n).toNat
      ((Fld.PART_STATUS_ENABLED n).put en.toNat
        ((Fld.PART_STATUS_INFLIGHT_NOW n).put (d.inflight n) (d.reg (0x10020 + n * 0x40)))))

/-- DSP_OCCUPANCY: staging entries in use, commands admitted, threads that run one. -/
def Dev.occupancy (d : Dev) : Word :=
  Fld.DSP_OCCUPANCY_RUNNING.put (tcount (fun _ t => t.cmd.isSome) d.thrs)
    (Fld.DSP_OCCUPANCY_ADMITTED.put d.admitted (Fld.DSP_OCCUPANCY_STAGED.put (d.countCmds (fun c => c.st != .free)) 0))

/-- Fences admitted and not completed, device-wide. -/
def Dev.fencesWaiting (d : Dev) : Nat := ((List.range 64).map d.fences).foldl (· + ·) 0

/-- Threads of tile `t` that hold a command. -/
def Dev.tileBusy (d : Dev) (t : Nat) : Nat := tcount (fun h x => h / 16 == t && x.cmd.isSome) d.thrs

/-- CIPH_STATUS. -/
def Dev.ciphStatus (d : Dev) : Word :=
  Fld.CIPH_STATUS_NEED_LEASE.put d.needLease.toNat
    (Fld.CIPH_STATUS_NONCE_READY.put d.nonceReady.toNat
      (Fld.CIPH_STATUS_QUEUE.put d.ciph.queue.length (d.reg Fld.CIPH_STATUS_QUEUE.reg)))

/-- HPK_QUEUES. -/
def Dev.hpkQueues (d : Dev) : Word :=
  Fld.HPK_QUEUES_NTT.put d.hpk.ntt.length
    (Fld.HPK_QUEUES_LANE.put d.hpk.lane.length
      (Fld.HPK_QUEUES_SHA3.put d.hpk.sha3.length (Fld.HPK_QUEUES_SHA2.put d.hpk.sha2.length 0)))

/-- VLT_OCCUPANCY: loadable slots present, staging entries in use, scoped entries in use (R225, R227). -/
def Dev.vltOccupancy (d : Dev) : Word :=
  Fld.VLT_OCCUPANCY_SCOPED.put (tcount (fun i s => decide (0x1C000 ≤ i) && aPresent s.attr) d.vlt.slots)
    (Fld.VLT_OCCUPANCY_STAGING.put d.vlt.staging.length
      (Fld.VLT_OCCUPANCY_SLOTS.put (tcount (fun i s => decide (i < 0x1C000) && aPresent s.attr) d.vlt.slots) 0))

/-- The RNG is not RUNNING. -/
def Dev.rngErr (d : Dev) : Bool := d.rngState != rngRunning

/-- RNG_STATUS of the partition whose register is number `a`. -/
def Dev.rngStatus (d : Dev) (a : Nat) : Word :=
  Fld.RNG_STATUS_BLOCKED.put d.rngBlocked.toNat (Fld.RNG_STATUS_ERROR.put d.rngErr.toNat (d.reg a))

/-- PLT_LIFE_VALUE (R433). -/
def Dev.lifeWord (d : Dev) : Word :=
  let i := d.rd Fld.PLT_LIFE_SELECT_INDEX
  let k := 4096 + i
  if !d.bit Fld.NVS_STATUS_RECOVERED || decide (1792 ≤ i) then 0
  else
    Fld.PLT_LIFE_VALUE_VALID.put 1 (Fld.PLT_LIFE_VALUE_DAMAGED.put (d.ctrDamaged k).toNat (Fld.PLT_LIFE_VALUE_VALUE.put (d.ctrValue k) 0))

/-- The clock domains that are stopped or gated (R413, R415); CD_I3C runs while the port is read. -/
def Dev.stopped (d : Dev) (i3c : Bool) : Nat :=
  let port (p : Nat) : Bool := decide (d.rd (Fld.MTR_PORT_LINK p) < 2)
  let card (p : Nat) : Bool := d.ccState p == 0 || d.ccState p == 5
  let sd := !(d.sdState == 1 || d.sdState == 2 || d.sdState == 4 || d.sdState == 5)
  (d.bit Fld.HPK_STATUS_PKL_GATED || decide (d.step < 4)).toNat + 2 * (port 0).toNat + 4 * (port 1).toNat + 8 * (card 0).toNat
    + 16 * (card 1).toNat + 32 * sd.toNat + 64 * (!i3c).toNat

/-- TMP_STATUS. -/
def Chip.tmpStatus (c : Chip) : Word :=
  let t := c.dev.tmp
  Fld.TMP_STATUS_WINDOW_OPEN.put (!t.recent.isEmpty).toNat
    (Fld.TMP_STATUS_BIST_BUSY.put t.bist.isSome.toNat
      (Fld.TMP_STATUS_VBAT_LOW.put t.vbatLow.toNat
        (Fld.TMP_STATUS_TIME_VALID.put c.bd.timeValid.toNat (c.dev.reg Fld.TMP_STATUS_TIME_VALID.reg))))

/-- Registers of the courses of partition `n`: IDLE is live, and a course the partition does not own has none. -/
def Dev.readCourse (d : Dev) (a : Nat) : Word :=
  let n := a / 0x100000
  let off := a % 0x100000
  if off < 0x3000 then
    let i := (off - 0x1000) / 0x20
    if !d.hasSq n i then 0
    else if (off - 0x1000) % 0x20 = 0x10 then (Fld.HIU_SQ_STATE_IDLE n i).put (d.sqIdle n i).toNat (d.reg a)
    else d.reg a
  else if d.hasCq n ((off - 0x3000) / 0x20) then d.reg a
  else 0

/-- What a register of the tamper monitor reads as: the latches, the flags, the clock and the ring live in the backup domain
(R315), the class fuses in the fuses (R308). -/
def Chip.readTmp (c : Chip) (a : Nat) : Word :=
  if a = Fld.TMP_STATE_LOCKED.reg then c.tmpState
  else if a = Fld.TMP_FLAGS_FLAGS.reg then c.bd.flags
  else if a = Fld.TMP_STATUS_TIME_VALID.reg then c.tmpStatus
  else if a = Fld.TMP_TIME_SUBSECONDS.reg then c.timeWord
  else if a = Fld.TMP_TAMP_CLASS_ERASE.reg then BitVec.ofNat 64 (c.fz.tampClass % 256 + 256 * c.fz.programmed.toNat)
  else if a = Fld.TMP_RING_COUNT_NEWEST.reg then BitVec.ofNat 64 (c.bd.newest % 2 ^ 16 + 2 ^ 16 * (c.bd.reviewed % 2 ^ 16))
  else if 0xB0100 ≤ a ∧ a < 0xB0200 then
    let e := c.bd.entry ((a - 0xB0100) / 16)
    if a % 16 = 0 then e.1 else e.2
  else c.dev.reg a

/-- What register number `a` reads as; `i3c` when the I3C port reads it. -/
def Chip.readReg (c : Chip) (a : Nat) (i3c : Bool) : Word :=
  let d := c.dev
  let off := a % 0x100000
  if 0x1000 ≤ off ∧ off < 0x5000 then d.readCourse a
  else if a = Fld.HIU_STATUS_DEVICE_STATE.reg then Fld.HIU_STATUS_DEVICE_STATE.put d.deviceState (d.reg a)
  else if 0x100 ≤ a ∧ a < 0x180 then bitsWord (fun b => d.courseErr ((a - 0x100) / 8 * 64 + b))
  else if 0x10000 ≤ a ∧ a < 0x11000 then (if a % 0x40 = 0x20 then d.partStatus ((a - 0x10000) / 0x40) else d.reg a)
  else if a = Fld.DSP_SEQ_NOW_SEQ.reg then d.seq
  else if a = Fld.DSP_OCCUPANCY_STAGED.reg then d.occupancy
  else if a = Fld.DSP_FENCES_WAITING.reg then BitVec.ofNat 64 d.fencesWaiting
  else if a = Fld.DSP_TILES_AVAILABLE.reg then BitVec.ofNat 64 d.tilesAvailable
  else if 0x40100 ≤ a ∧ a < 0x40300 then (Fld.TILE_EPOCH_BUSY 0).put (d.tileBusy ((a - 0x40100) / 8)) (d.reg a)
  else if a = Fld.CIPH_STATUS_QUEUE.reg then d.ciphStatus
  else if a = Fld.HPK_QUEUES_SHA2.reg then d.hpkQueues
  else if a = Fld.VLT_OCCUPANCY_SLOTS.reg then d.vltOccupancy
  else if off = 0x90000 ∨ off = 0x8000 then Fld.RNG_DATA_ERROR.put d.rngErr.toNat (if d.rngBlocked then 0 else d.reg a)
  else if off = 0x90008 ∨ off = 0x8008 then d.rngStatus a
  else if a = Fld.NVS_CTR_VALUE_VALUE.reg then d.ctrWord
  else if 0xB0000 ≤ a ∧ a < 0xC0000 then c.readTmp a
  else if a = Fld.PLT_LIFE_VALUE_VALUE.reg then d.lifeWord
  else if a = Fld.PLT_CLOCKS_STOPPED.reg then Fld.PLT_CLOCKS_STOPPED.put (d.stopped i3c) (d.reg a)
  else d.reg a

end Sys2Proof.Machine
end

