-- ==== Sys2Proof/Machine/HostAccess.lean ====
section
/-! DEFINITION. Register accesses from the host link and from the I3C port (R4 to R8, R33, R39, R42, R416 to R419, R426, R431): a
write is applied field by field and does all that its fields do; a read returns what the register reads as and clears its RC fields. -/

namespace Sys2Proof.Machine

/-! ## Stored fields (R416 to R418) -/

/-- The owning block of register number `a` is enabled, for the registers that have fields of class S or H. -/
def Dev.ownerEnabled (d : Dev) (a : Nat) : Bool :=
  let n := a / 0x100000
  let off := a % 0x100000
  if 0x1000 ≤ off ∧ off < 0x3000 then d.bit (Fld.HIU_SQ_STATE_ENABLE n ((off - 0x1000) / 0x20))
  else if 0x3000 ≤ off ∧ off < 0x5000 then d.bit (Fld.HIU_CQ_STATE_ENABLE n ((off - 0x3000) / 0x20))
  else if 0x40000 ≤ a ∧ a < 0x70000 then d.step == 12
  else if 0x80040 ≤ a ∧ a < 0x80068 then d.xferBusy
  else if a = Fld.CRD_SD_CFG_MAX_MODE.reg then d.sdState != 0
  else if 0xE0080 ≤ a ∧ a < 0xE0098 then d.bit Fld.MTR_RELAY_CFG_ENABLE
  else false

/-- The CFG_REJECT of that block. -/
def rejectOf (a : Nat) : Fld :=
  let n := a / 0x100000
  let off := a % 0x100000
  if 0x1000 ≤ off ∧ off < 0x3000 then Fld.HIU_SQ_STATE_CFG_REJECT n ((off - 0x1000) / 0x20)
  else if 0x3000 ≤ off ∧ off < 0x5000 then Fld.HIU_CQ_STATE_CFG_REJECT n ((off - 0x3000) / 0x20)
  else if a < 0x50000 then Fld.TILE_STATUS_CFG_REJECT
  else if a < 0x60000 then Fld.CIPH_STATUS_CFG_REJECT
  else if a < 0x70000 then Fld.HPK_STATUS_CFG_REJECT
  else if a < 0x90000 then Fld.XKS_STATUS_CFG_REJECT
  else if a < 0xE0000 then Fld.CRD_SD_STATUS_CFG_REJECT
  else Fld.MTR_STATUS_CFG_REJECT

/-- What a field stores of a value outside its range: PIN_FLOOR 4 (R162), MAX_MODE 5 (R371). -/
def inRange (a : Nat) (w : Word) : Word :=
  if a = Fld.TILE_SOU_CFG_PIN_FLOOR.reg then
    (let v := getF w 0 4
     if 4 ≤ v ∧ v ≤ 12 then w else setF w 0 4 4)
  else if a = Fld.CRD_SD_CFG_MAX_MODE.reg then (if 5 < getF w 0 3 then setF w 0 3 5 else w)
  else w

/-- The stored fields of a 64-bit write of `w` to register number `a` with row `r`. While the owning block is enabled an S-class field
that would change is rejected, and an H-class one keeps its old effect until its boundary. -/
def Dev.storeFields (d : Dev) (a : Nat) (r : RegRow) (w : Word) : Dev :=
  let w := inRange a w
  let old := d.reg a
  let en := d.ownerEnabled a
  let changed := (old ^^^ w) &&& r.rw
  let d := if en && (changed &&& r.sBits) != 0 then d.wr (rejectOf a) 1 else d
  let d := if en && (changed &&& r.hBits) != 0 then
      { d with heff := tput (fun _ => none) d.heff a (some ((tget (fun _ => none) d.heff a).getD old)) }
    else d
  let take := if en then r.rw &&& ~~~ r.sBits else r.rw
  d.setReg a (mergeW (d.reg a) w take &&& ~~~ (w &&& r.w1c))

/-! ## Fields that act -/

def viaStream : Via → Option Nat
  | .host _ st => st
  | _ => none

/-- The registers that SNAPSHOT_CAPTURE copies to words 1 to 79 (R426). -/
def snapRegs : List Nat :=
  [Fld.DSP_OCCUPANCY_STAGED.reg, Fld.DSP_TILES_AVAILABLE.reg, Fld.TILE_AVAIL_AVAIL.reg, Fld.TILE_TRAPS_CONTAIN.reg,
   Fld.CIPH_AVAIL_AVAIL.reg, Fld.CIPH_STATUS_QUEUE.reg, Fld.HPK_AVAIL_AVAIL.reg, Fld.HPK_QUEUES_SHA2.reg, Fld.XKS_STATUS_READY.reg,
   Fld.RNG_HEALTH_STATE.reg, Fld.NVS_STATUS_RECOVERED.reg, Fld.TMP_STATE_LOCKED.reg, Fld.TMP_FLAGS_FLAGS.reg,
   Fld.MTR_STATUS_ROLE.reg, Fld.HIU_STATUS_DEVICE_STATE.reg] ++ (List.range 64).map (fun n => 0x10020 + n * 0x40)

/-- SNAPSHOT_CAPTURE: a write of PLT_SNAP_CTRL with CAPTURE (R22, R426). Every word is read from the state before the capture. -/
def Chip.snapshot (c : Chip) (v : Via) (w : Word) : Chip :=
  if !c.dev.pltReached v (pltOff Fld.PLT_SNAP_CTRL_CAPTURE) || !w.getLsbD 0 then c
  else
    let words := c.dev.seq :: snapRegs.map (fun a => c.readReg a false)
    c.onDev (fun d => (words.foldl (fun x v => (x.1.setReg (Fld.PLT_SNAP_WORD x.2).reg v, x.2 + 1)) (d, 0)).1)

/-- MANAGEMENT_PANIC: a write of PLT_PANIC. Through I3C with its key and GO it raises source 19 with DETAIL 1; any other write is
refused with BAD_KEY (R310, R419, R431). -/
def Chip.managementPanic (c : Chip) (v : Via) (w : Word) (same : Bool) : Chip :=
  if !c.dev.pltReached v (pltOff Fld.PLT_PANIC_GO) then c
  else if v == .i3c && keyed w [1] then c.alarm 19 0 1 same
  else c.onDev (fun d => d.wr Fld.PLT_STATUS_BAD_KEY 1)

/-- What the acting fields of the course registers of partition `n` do. -/
def Dev.courseFields (d : Dev) (n : Nat) (st : Option Nat) (off : Nat) (w : Word) : Dev :=
  if off < 0x3000 then
    let i := (off - 0x1000) / 0x20
    if (off - 0x1000) % 0x20 ≠ 0x10 then d
    else
      let d := d.sqPause n st i (w.getLsbD 62)
      if w.getLsbD 63 then d.sqEnable n st i else d.sqDisable n st i
  else
    let i := (off - 0x3000) / 0x20
    if (off - 0x3000) % 0x20 = 8 then d.intEnable n st i (w.getLsbD 48)
    else if (off - 0x3000) % 0x20 = 0x10 then (if w.getLsbD 63 then d.cqEnable n st i else d.cqDisable n st i)
    else d

/-- What the acting fields of a PART_CTRL do. -/
def Dev.partFields (d : Dev) (n : Nat) (st : Option Nat) (w : Word) : Dev :=
  let d := d.partitionEnable st n (w.getLsbD 0)
  if w.getLsbD 1 then d.partitionReset st n else d

/-- What the acting fields of the register number `a` do, in the order of their bits. -/
def Chip.actFields (c : Chip) (v : Via) (a : Nat) (w : Word) : Chip :=
  let st := viaStream v
  let off := a % 0x100000
  if 0x1000 ≤ off ∧ off < 0x5000 then c.onDev (fun d => d.courseFields (a / 0x100000) st off w)
  else if 0x10000 ≤ a ∧ a < 0x11000 ∧ a % 0x40 = 0 then c.onDev (fun d => d.partFields ((a - 0x10000) / 0x40) st w)
  else if a = Fld.XKS_XFER_CTRL_GO.reg then (if w.getLsbD 63 then c.onDev Dev.xferGo else c)
  else if a = Fld.TMP_BIST_CTRL_GO.reg then (if w.getLsbD 63 then c.onDev (fun d => d.bistGo st w) else c)
  else if a = Fld.WDN_MBOX_CTRL_SUBMIT.reg then (if w.getLsbD 0 then c.onDev Dev.mboxSubmit else c)
  else if a = Fld.MTR_RELAY_CFG_ENABLE.reg then c.onDev (fun d => d.relayEnable st w)
  else if a = Fld.MTR_RELAY_DB_IN_TAIL.reg then c.onDev (fun d => (d.relayInDb st w).relayOutDb st w)
  else if a = Fld.PLT_RESET_CMD_KEY.reg then c.resetWrite v w
  else if a = Fld.PLT_BLOCK_RESET_HOLD.reg then (c.blockHold v w).onDev (fun d => d.blockRelease v w)
  else if a = Fld.PLT_MAINT_ENTER.reg then c.onDev (fun d => (d.maintEnter v w).maintExit v w)
  else if a = Fld.PLT_SNAP_CTRL_CAPTURE.reg then c.snapshot v w
  else if a = Fld.PLT_PANIC_GO.reg then c.managementPanic v w false
  else c

/-! ## Writes -/

/-- The course register number `a` belongs to a course that its partition does not own, so it is no register. -/
def Dev.noCourse (d : Dev) (a : Nat) : Bool :=
  let n := a / 0x100000
  let off := a % 0x100000
  (decide (0x1000 ≤ off) && decide (off < 0x3000) && !d.hasSq n ((off - 0x1000) / 0x20))
    || (decide (0x3000 ≤ off) && decide (off < 0x5000) && !d.hasCq n ((off - 0x3000) / 0x20))

/-- A 64-bit write of `w` to register number `a`. WDN_REQ is not written while BUSY (R324). -/
def Chip.writeReg (c : Chip) (v : Via) (a : Nat) (w : Word) : Chip :=
  if c.dev.noCourse a then c
  else if 0xC1000 ≤ a ∧ a < 0xC2000 ∧ c.dev.bit Fld.WDN_MBOX_STATUS_BUSY then c.onDev (fun d => d.wr Fld.WDN_MBOX_STATUS_CFG_REJECT 1)
  else match regRow a with
    | none => c
    | some r => (c.onDev (fun d => d.storeFields a r w)).actFields v a w

/-- The I3C mailbox at the PLT offsets that only I3C reaches (R430). -/
def Dev.i3cWrite (d : Dev) (off : Nat) (w : Word) : Dev :=
  if off < 0x9000 then { d with plt := { d.plt with i3cReq := tput (fun _ => 0) d.plt.i3cReq ((off - 0x8000) / 8) w } }
  else if off = 0xA000 then (if w.getLsbD 0 then d.i3cSubmit else d)
  else if off = 0xA008 then (if w.getLsbD 1 then { d with plt := { d.plt with i3cDone := false } } else d)
  else d

/-- A well-formed write through I3C of the PLT offset `off`. -/
def Chip.i3cPut (c : Chip) (off : Nat) (w : Word) : Chip :=
  if 0x8000 ≤ off then c.onDev (fun d => d.i3cWrite off w) else c.writeReg .i3c (0xF0000 + off) w

/-- REGISTER_WRITE: `size` bytes at offset `off` of a BAR (of the PLT block through I3C), or field `off` of configuration space. A virtual function's own PART_CTRL
ignores writes (R38, R39). -/
def Chip.registerWrite (c : Chip) (v : Via) (off size : Nat) (w : Word) : Chip :=
  match v with
  | .i3c => if !c.dev.pltReached .i3c off || off % 8 ≠ 0 || size ≠ 8 then c else c.i3cPut off w
  | .bar2 n st => c.onDev (fun d => d.bar2Write n st off size w.toNat)
  | .bar4 n st => c.onDev (fun d => d.msixWrite n st off size w.toNat)
  | .config n => if c.dev.fnExists n && decide (off < 64) then c.onDev (fun d => d.cfgWrite n off w) else c
  | .host n st =>
    if !c.dev.bar0 n st off then c
    else if size ≠ 8 || off % 8 ≠ 0 then c.onDev Dev.narrow
    else match regKey n off with
      | none => c
      | some a => if n ≠ 0 ∧ off = 0 then c else c.writeReg v a w

/-! ## Reads -/

/-- The RC fields of register number `a` are cleared (R8). -/
def Dev.clearRc (d : Dev) (a : Nat) : Dev :=
  match regRow a with
  | some r => if r.rc = 0 then d else d.setReg a (mergeW (d.reg a) r.reset r.rc)
  | none => d

/-- The bytes of a read: all 64 bits, the half that is named, or zero for any other access (R5). -/
def partOf (w : Word) (off size : Nat) : Word :=
  if size = 8 ∧ off % 8 = 0 then w
  else if size = 4 ∧ off % 4 = 0 then BitVec.ofNat 64 (getF w (8 * (off % 8)) 32)
  else 0

/-- What the host reads at offset `off` of BAR0: the register's number and its value there. -/
def Chip.hostValue (c : Chip) (n : Nat) (st : Option Nat) (off : Nat) : Word :=
  if !c.dev.bar0 n st off then 0
  else match regKey n (off / 8 * 8) with
    | none => 0
    | some a => if n ≠ 0 ∧ off < 8 then 0 else c.readReg a false

/-- RC_READ: a read of `size` bytes at offset `off` of BAR0. A 64-bit read clears the register's RC fields; one of RNG_DATA consumes
a value (R275); a read that is not served, or names no register, returns zero and changes nothing; one that the function does not take
is answered with Unsupported Request (R30, R33). -/
def Chip.hostRead (c : Chip) (n : Nat) (st : Option Nat) (off size : Nat) : Chip :=
  let key := n * 0x100000 + off
  let plain := c.onDev (fun d => d.emit (.regData key (partOf (c.hostValue n st off) off size)))
  if c.dev.answers n st = false then c.onDev (fun d => d.emit (.unsupported n))
  else if size ≠ 8 ∨ off % 8 ≠ 0 ∨ c.dev.bar0 n st off = false then plain
  else match regKey n off with
    | none => plain
    | some a =>
      if a = rngDataReg n then c.onDev (fun d => d.rngRead n)
      else plain.onDev (fun d => d.clearRc a)

/-- What the I3C port reads at PLT offset `off` (R428, R430). -/
def Chip.i3cValue (c : Chip) (off : Nat) : Word :=
  let p := c.dev.plt
  if off < 0x8000 then (match regRow (0xF0000 + off) with
    | some _ => c.readReg (0xF0000 + off) true
    | none => 0)
  else if off < 0x9000 then tget (fun _ => 0) p.i3cReq ((off - 0x8000) / 8)
  else if off < 0xA000 then tget (fun _ => 0) p.i3cResp ((off - 0x9000) / 8)
  else if off = 0xA008 then BitVec.ofNat 64 (p.i3cBusy.toNat + 2 * p.i3cDone.toNat)
  else 0

/-- RC_READ of either port, and of the other BARs and configuration space. -/
def Chip.registerRead (c : Chip) (v : Via) (off size : Nat) : Chip :=
  match v with
  | .host n st => c.hostRead n st off size
  | .bar2 n st => c.onDev (fun d => d.bar2Read n st off)
  | .bar4 n st => c.onDev (fun d => d.bar4Read n st off size)
  | .config n => c.onDev (fun d => d.emit (if d.fnExists n then .barData n 6 off (d.cfg n off) else .unsupported n))
  | .i3c =>
    if !c.dev.pltReached .i3c off then c
    else
      let c' := c.onDev (fun d => d.emit (.i3c (leBytes (min size 8) (c.i3cValue (off / 8 * 8)).toNat)))
      if size = 8 ∧ off % 8 = 0 ∧ off < 0x8000 then c'.onDev (fun d => d.clearRc (0xF0000 + off)) else c'

/-- RNG_DATA_READ: a read of RNG_DATA of partition `n` through its own function (R275). -/
def Chip.rngDataRead (c : Chip) (n : Nat) (st : Option Nat) (size : Nat) : Chip :=
  c.hostRead n st (if n = 0 then 0x90000 else 0x8000) size

end Sys2Proof.Machine
end

