-- ==== Sys2Proof/Machine/Clazeir.lean ====
section
/-! DEFINITION. Clazeir words (R157, R158 and the opcode map): encoder and decoder, and the instruction that a thread executes
next. -/

namespace Sys2Proof

/-! ## Codes -/

def ROp.code : ROp → BitVec 11
  | .add => 0x000 | .sub => 0x001 | .and => 0x002 | .or => 0x003 | .xor => 0x004 | .andn => 0x005
  | .shl => 0x008 | .shrz => 0x009 | .shrs => 0x00A
  | .seteq => 0x010 | .setne => 0x011 | .setlt => 0x012 | .setge => 0x013 | .setltu => 0x014 | .setgeu => 0x015
  | .mul => 0x020 | .mulx => 0x021 | .divr => 0x022

def ROp.ofCode (c : BitVec 11) : Option ROp := match c.toNat with
  | 0x000 => some .add | 0x001 => some .sub | 0x002 => some .and | 0x003 => some .or | 0x004 => some .xor | 0x005 => some .andn
  | 0x008 => some .shl | 0x009 => some .shrz | 0x00A => some .shrs
  | 0x010 => some .seteq | 0x011 => some .setne | 0x012 => some .setlt | 0x013 => some .setge | 0x014 => some .setltu
  | 0x015 => some .setgeu | 0x020 => some .mul | 0x021 => some .mulx | 0x022 => some .divr
  | _ => none

def KOp.code : KOp → BitVec 6
  | .addk => 0x01 | .andk => 0x02 | .ork => 0x03 | .xork => 0x04 | .shlk => 0x05 | .shrzk => 0x06 | .shrsk => 0x07 | .ksh => 0x08
  | .setltk => 0x09 | .setltuk => 0x0A

def Width.loadCode : Width → BitVec 6
  | .w8 => 0x10 | .w4 => 0x11 | .w2 => 0x12 | .w1 => 0x13

def Width.storeCode : Width → BitVec 6
  | .w8 => 0x14 | .w4 => 0x15 | .w2 => 0x16 | .w1 => 0x17

def TagOp.code : TagOp → BitVec 11
  | .mov => 0 | .glz => 1 | .hmake => 2

def TagOp.ofCode (c : BitVec 11) : Option TagOp := match c.toNat with
  | 0 => some .mov | 1 => some .glz | 2 => some .hmake | _ => none

def SouOp.code : SouOp → BitVec 6
  | .panfield => 1 | .pinchk => 2 | .pinconv => 3 | .decim => 4 | .offadd => 5 | .offsub => 6 | .offpack => 7 | .cmpeq => 8
  | .maccmp => 9 | .zeroise => 10

def SouOp.ofCode (c : BitVec 6) : Option SouOp := match c.toNat with
  | 1 => some .panfield | 2 => some .pinchk | 3 => some .pinconv | 4 => some .decim | 5 => some .offadd | 6 => some .offsub
  | 7 => some .offpack | 8 => some .cmpeq | 9 => some .maccmp | 10 => some .zeroise | _ => none

def Cond.bits : Cond → BitVec 3
  | .eq => 0 | .ne => 1 | .lt => 2 | .ge => 3 | .ltu => 4 | .geu => 5 | .always => 6

def Cond.ofBits (c : BitVec 3) : Option Cond := match c.toNat with
  | 0 => some .eq | 1 => some .ne | 2 => some .lt | 3 => some .ge | 4 => some .ltu | 5 => some .geu | 6 => some .always | _ => none

/-! ## Formats (R157) -/

def packR (op : BitVec 6) (rd rs1 rs2 : BitVec 5) (fn : BitVec 11) : BitVec 32 := (op ++ rd ++ rs1 ++ rs2 ++ fn : BitVec 32)
def packI (op : BitVec 6) (rd rs1 : BitVec 5) (imm : BitVec 16) : BitVec 32 := (op ++ rd ++ rs1 ++ imm : BitVec 32)
def packB (op : BitVec 6) (rs1 rs2 : BitVec 5) (cond : BitVec 3) (off : BitVec 13) : BitVec 32 := (op ++ rs1 ++ rs2 ++ cond ++ off : BitVec 32)
def packJ (op : BitVec 6) (rd : BitVec 5) (off : BitVec 21) : BitVec 32 := (op ++ rd ++ off : BitVec 32)
def packU (op : BitVec 6) (rd rs1 rs2 rs3 : BitVec 5) (sop : BitVec 6) : BitVec 32 := (op ++ rd ++ rs1 ++ rs2 ++ rs3 ++ sop : BitVec 32)
def packE (op : BitVec 6) (ra rk rb : BitVec 5) (tk : BitVec 4) (rx : BitVec 5) : BitVec 32 :=
  (op ++ ra ++ rk ++ rb ++ tk ++ rx ++ (0 : BitVec 2) : BitVec 32)

/-- The word of an instruction. -/
def encodeInsn : Insn → BitVec 32
  | .r o rd rs1 rs2 => packR 0x00 rd rs1 rs2 o.code
  | .k o rd rs1 imm => packI o.code rd rs1 imm
  | .load w rd rs1 imm => packI w.loadCode rd rs1 imm
  | .store w rs2 rs1 imm => packI w.storeCode rs2 rs1 imm
  | .br c rs1 rs2 off => packB 0x18 rs1 rs2 c.bits off
  | .jump rd off => packJ 0x1E rd off
  | .jmpr rd rs1 => packR 0x1F rd rs1 0 0
  | .tag o rd rs1 => packR 0x20 rd rs1 0 o.code
  | .sou o rd rs1 rs2 rs3 => packU 0x28 rd rs1 rs2 rs3 o.code
  | .ecall tk ra rk rb rx => packE 0x30 ra rk rb tk rx
  | .twait tk ra => packE 0x31 ra 0 0 tk 0
  | .twall => packE 0x32 0 0 0 0 0
  | .rand rd => packR 0x33 rd 0 0 0
  | .cinc tk rk => packE 0x34 0 rk 0 tk 0
  | .csync => packE 0x35 0 0 0 0 0
  | .release rs1 => packI 0x3E 0 rs1 0
  | .done => packI 0x3F 0 0 0

/-- The instruction a word spells; none for a word that R158 refuses. -/
def decodeInsn (w : BitVec 32) : Option Insn :=
  let a := w.extractLsb' 21 5
  let b := w.extractLsb' 16 5
  let c := w.extractLsb' 11 5
  let fn := w.extractLsb' 0 11
  let imm := w.extractLsb' 0 16
  let tk := w.extractLsb' 7 4
  let rx := w.extractLsb' 2 5
  let rest26 := w.extractLsb' 0 26
  let keep (i : Insn) : Option Insn := if i.wf then some i else none
  match (w.extractLsb' 26 6).toNat with
  | 0x00 => (ROp.ofCode fn).map (fun o => .r o a b c)
  | 0x01 => some (.k .addk a b imm)
  | 0x02 => some (.k .andk a b imm)
  | 0x03 => some (.k .ork a b imm)
  | 0x04 => some (.k .xork a b imm)
  | 0x05 => keep (.k .shlk a b imm)
  | 0x06 => keep (.k .shrzk a b imm)
  | 0x07 => keep (.k .shrsk a b imm)
  | 0x08 => some (.k .ksh a b imm)
  | 0x09 => some (.k .setltk a b imm)
  | 0x0A => some (.k .setltuk a b imm)
  | 0x10 => some (.load .w8 a b imm)
  | 0x11 => some (.load .w4 a b imm)
  | 0x12 => some (.load .w2 a b imm)
  | 0x13 => some (.load .w1 a b imm)
  | 0x14 => some (.store .w8 a b imm)
  | 0x15 => some (.store .w4 a b imm)
  | 0x16 => some (.store .w2 a b imm)
  | 0x17 => some (.store .w1 a b imm)
  | 0x18 => (Cond.ofBits (w.extractLsb' 13 3)).bind (fun k => keep (.br k a b (w.extractLsb' 0 13)))
  | 0x1E => some (.jump a (w.extractLsb' 0 21))
  | 0x1F => if c = 0 ∧ fn = 0 then some (.jmpr a b) else none
  | 0x20 => if c = 0 then (TagOp.ofCode fn).map (fun o => .tag o a b) else none
  | 0x28 => (SouOp.ofCode (w.extractLsb' 0 6)).bind (fun o => keep (.sou o a b c (w.extractLsb' 6 5)))
  | 0x30 => if w.extractLsb' 0 2 = 0 ∧ tk.toNat ≤ 11 then some (.ecall tk a b c rx) else none
  | 0x31 => if b = 0 ∧ c = 0 ∧ rx = 0 ∧ w.extractLsb' 0 2 = 0 ∧ tk.toNat ≤ 11 then some (.twait tk a) else none
  | 0x32 => if rest26 = 0 then some .twall else none
  | 0x33 => if b = 0 ∧ c = 0 ∧ fn = 0 then some (.rand a) else none
  | 0x34 => if a = 0 ∧ c = 0 ∧ rx = 0 ∧ w.extractLsb' 0 2 = 0 ∧ tk.toNat ≤ 11 then some (.cinc tk b) else none
  | 0x35 => if rest26 = 0 then some .csync else none
  | 0x3E => if a = 0 ∧ imm = 0 then some (.release b) else none
  | 0x3F => if rest26 = 0 then some .done else none
  | _ => none

namespace Machine

/-- Thread `h`'s next instruction is `i`: the word of its image at its pc spells it. Where no word is, any instruction stands for the
DONE of R159. -/
def Dev.fetched (d : Dev) (h : Nat) (i : Insn) : Bool :=
  match (d.thr h).cmd with
  | none => false
  | some e => match (d.codeOf e)[(d.thr h).pc.toNat / 4]? with
    | some w => decodeInsn w == some i
    | none => true

/-- TILE_FAULT.CAUSE of an error in the datapath that the instruction uses, by the check of R151 that finds it; none for an
instruction that computes nothing. -/
def Insn.datapath : Insn → Option Nat
  | .r .add _ _ _ | .r .sub _ _ _ | .r .mul _ _ _ | .r .mulx _ _ _ | .k .addk _ _ _ => some 3
  | .r _ _ _ _ | .k _ _ _ _ => some 4
  | .store .w8 _ _ _ => none
  | .store _ _ _ _ => some 4
  | .sou _ _ _ _ _ => some 5
  | _ => none

/-- The instruction at thread `h`'s pc, if its command's code section has a word there. -/
def Dev.nextInsn (d : Dev) (h : Nat) : Option Insn :=
  match (d.thr h).cmd with
  | none => none
  | some e => ((d.codeOf e)[(d.thr h).pc.toNat / 4]?).bind decodeInsn

/-- Thread `h` can issue, and its next instruction is `i`. -/
def Dev.runs (d : Dev) (h : Nat) (i : Insn) : Bool :=
  d.nextInsn h == some i && d.unheld h && (d.thr h).pc.toNat % 4 == 0

/-- An error in the datapath that thread `h`'s next instruction uses: the tile's check finds it, and the tile faults in place of the
instruction's effect (R151, R152). -/
def Dev.datapathFault (d : Dev) (h : Nat) : Dev :=
  match (if d.unheld h then (d.nextInsn h).bind Insn.datapath else none) with
  | some cause => d.trap h (.fault cause)
  | none => d

/-- Thread `h` executes instruction `i`, whose effect is `f`. Nothing happens where its program has another instruction next. -/
def Dev.executes (d : Dev) (h : Nat) (i : Insn) (f : Dev → Dev) : Dev := if d.fetched h i then f d else d

end Machine

end Sys2Proof
end

