-- ==== Sys2Proof/Machine/Library.lean ====
section
/-! DEFINITION. The tile functions of the Standard Function Library (R91 to R116, R121 to R127). The signed image that runs
them is not part of the spec; each function acts on its command as a whole. -/

namespace Sys2Proof.Machine

/-! ## One run of a library program -/

/-- How a run ends: status, RESULT, and the octets written at the start of the output area. -/
structure Done where
  status : Nat
  result : List Byte
  out : List Byte
deriving DecidableEq, Repr

/-- It ends with a status and nothing else: RESULT is zero (R90, R97). -/
def quit (s : Nat) : Option Done := some ⟨s, [], []⟩

/-- Its input area: the prefetched octets, or the host's. None while the octets offered are not those of the area. -/
def Dev.libInput (d : Dev) (c : Cmd) (bs : List Byte) : Option (List Byte) :=
  let n := dInLen c.desc
  if n = 0 then some []
  else if n ≤ 256 then some ((bvBytes 256 c.prefetch).take n)
  else if bs.length = n && d.canSend c.part then some bs else none

/-- An area longer than INPUT_PREFETCH is read from the host. -/
def Dev.libRead (d : Dev) (c : Cmd) : Dev :=
  if dInLen c.desc ≤ 256 then d else d.emit (.memRead c.part (dInAddr c.desc) (dInLen c.desc))

/-- RELEASE and DONE of a library program (R179, R180): its output, its status and RESULT; the thread is cleared. -/
def Dev.libEnd (d : Dev) (h e : Nat) (v : Done) : Dev :=
  let c := d.cmd e
  let d := if v.out.isEmpty then d else d.sendOut c.part e (.memWrite c.part (dOutAddr c.desc) v.out)
  (d.modCmd e (fun c => { c with st := .released, status := v.status, result := bytesBv 128 v.result })).endThread h

/-- Thread `h` stands at the entry of the program bound to its command (R182). -/
def Dev.atEntry (d : Dev) (h : Nat) (c : Cmd) : Bool :=
  d.ready h && !(d.thr h).rel && noPending (d.thr h) && c.st == .running
    && (match c.image with | some im => (d.thr h).pc == BitVec.ofNat 64 im.2 | none => false)

/-- Library function `f` runs its command on thread `h`, which is at the entry of its program; `bs` is the input area where
it is longer than INPUT_PREFETCH. While the device is Locked or erased the command ends as its first request does (R185);
`none` of `run` means that it waits. `run` has the input area where it has been read. -/
def Dev.library (d : Dev) (f h : Nat) (bs : List Byte) (run : Dev → Cmd → Option (List Byte) → Dev × Option Done) : Dev :=
  match (d.thr h).cmd with
  | none => d
  | some e =>
    let c := d.cmd e
    if dFunction c.desc != f || !d.atEntry h c then d
    else match d.lockStatus with
      | some s => d.endCommand h s
      | none =>
        let x := run d c (d.libInput c bs)
        match x.2 with
        | none => x.1
        | some v => x.1.libEnd h e v

/-- What a function does once its input area has been read, after the checks that do not need it (R97); it waits until then. -/
def Dev.withInput (d : Dev) (i : Option (List Byte)) (f : List Byte → Dev × Option Done) : Dev × Option Done :=
  match i with
  | none => (d, none)
  | some inp => f inp

/-! ## Keys (R96, R97, R230) -/

/-- What a function asks of a key position: position, usage, result-glaze (none: either), algorithms. -/
structure Need where
  pos : Nat
  usage : Nat
  glaze : Option Bool
  algs : Nat → Bool

def Need.ok (n : Need) (a : Word) : Bool :=
  aUsage a == n.usage && (match n.glaze with | some g => aGlaze a == g | none => true) && n.algs (aAlg a)

def useAt (us : List KeyUse) (i : Nat) : KeyUse := us.getD i ⟨0, 1, none⟩

/-- The keys of the positions asked for, in order: each is found, and is of the kind asked for. -/
def Dev.libKeys (d : Dev) (h : Nat) (c : Cmd) (us : List KeyUse) : List Need → Dev × Except Nat (List KeyRef)
  | [] => (d, .ok [])
  | n :: rest =>
    let x := d.keyFetch h c.part (cKey c.ctx n.pos) (useAt us n.pos).read
    match x.2 with
    | .error s => (x.1, .error s)
    | .ok k =>
      if !n.ok k.attr then (x.1, .error stKeyAttr)
      else
        let y := x.1.libKeys h c us rest
        match y.2 with
        | .error s => (y.1, .error s)
        | .ok ks => (y.1, .ok (k :: ks))

/-- `n` uses of a LIMITED key, as far as it has them; false when one was missing (R230). -/
def Dev.takeUses (d : Dev) (k : KeyRef) (n : Nat) : Dev × Bool :=
  if k.kind = 1 && aLimited k.attr then
    ((List.range (min n (aUses k.attr))).foldl (fun x _ => x.takeUse k) d, decide (n ≤ aUses k.attr))
  else (d, true)

/-- The uses of every key position taken (at least one each). -/
def Dev.libUses (d : Dev) (us : List KeyUse) : List (Nat × KeyRef) → Dev × Bool
  | [] => (d, true)
  | (i, k) :: rest =>
    let x := d.takeUses k (max 1 (useAt us i).uses)
    if x.2 then x.1.libUses us rest else x

/-- The units that a function needs: one held in reset answers with ST_UNIT_RESET (R411), one with no unit in service with
ST_FAULT (R199, R221). 1 the cipher cluster, 3 and 4 the PKL lanes and NTT units, 5 the Extended Key Store. -/
def Dev.libUnits (d : Dev) (us : List Nat) : Option Nat :=
  if us.any (fun u => d.engineHeld (if u = 4 then 3 else u)) then some stUnitReset
  else if (us.contains 1 && d.noCore) || (us.contains 3 && !d.anyUnit 20 27) || (us.contains 4 && !d.anyUnit 28 31) then some stFault
  else none

/-- Randomness from instance D (R98): `some none` while the function waits for it, a status once the source has failed. -/
def Dev.libDraws (d : Dev) (draws : Bool) : Option (Option Nat) :=
  if !draws then none
  else if d.blockHeld 3 then some (some stUnitReset)
  else if d.rngFailed then some (some stRngUnavailable)
  else if d.fillWaits then some none
  else none

/-- The unit that faults in one of the program's requests, of a kind that the function uses (R97, R198, R219 to R221): its unit code
(R312) and CAUSE. -/
def libFault (us : List KeyUse) (units : List Nat) : Option (Nat × Nat) :=
  (us.filterMap KeyUse.fault).find? (fun f =>
    (units.contains 1 && decide (0x80 ≤ f.1) && decide (f.1 < 0xB0)) || (units.contains 3 && decide (0xD4 ≤ f.1) && decide (f.1 < 0xDC))
      || (units.contains 4 && decide (0xDC ≤ f.1) && decide (f.1 < 0xE0)))

/-- That fault, of a unit in service. -/
def Dev.engineFault (d : Dev) (f : Nat × Nat) : Dev :=
  if f.1 < 0xC0 then (if d.coreAvailable (f.1 - 0x80) then d.coreFault (f.1 - 0x80) f.2 else d)
  else if d.unitAvailable (f.1 - 0xC0) then d.unitFault (f.1 - 0xC0) f.2 else d

/-- A function whose units are `units` and whose keys are `needs`: it waits while a record it needs cannot be read for the
DRAM PLL (R414); `body` is what it does once it has its keys and, when `draws`, two free values. -/
def Dev.withKeys (d : Dev) (h : Nat) (c : Cmd) (us : List KeyUse) (units : List Nat) (draws : Bool) (needs : List Need)
    (body : Dev → List KeyRef → Dev × Option Done) : Dev × Option Done :=
  match d.libUnits units with
  | some s => (d, quit s)
  | none =>
    if d.xks.waiting && needs.any (fun n => hKind (cKey c.ctx n.pos) == 2) then (d, none) else
    let x := d.libKeys h c us needs
    match x.2 with
    | .error s => (x.1, quit s)
    | .ok ks =>
      match d.libDraws draws with
      | some none => (d, none)
      | r =>
        let y := x.1.libUses us ((needs.map Need.pos).zip ks)
        if !y.2 then (y.1, quit stUseLimit)
        else match libFault us units with
        | some f => (y.1.engineFault f, quit stFault)
        | none => match r with
          | some (some s) => (y.1, quit s)
          | _ => body (if draws then y.1.draw 1 2 16 else y.1) ks

def noKey : KeyRef := ⟨0, 0, [], 0⟩
def kAt (ks : List KeyRef) (i : Nat) : KeyRef := ks.getD i noKey
def KeyRef.alg (k : KeyRef) : Nat := aAlg k.attr

def anyCipher (a : Nat) : Bool := isAes a || isTdea a
def aesOr2Tdea (a : Nat) : Bool := isAes a || a == 4

/-! ## Chaining, MACs, GCM -/

/-- Blocks of `b` octets. -/
def blocksOf (b : Nat) (bs : List Byte) : List (List Byte) := (List.range ((bs.length + b - 1) / b)).map (fun i => slice bs (i * b) b)

/-- CBC encryption and decryption with a zero IV. -/
def cbcEnc (alg : Nat) (key : List Byte) (bs : List Byte) : List Byte :=
  let b := blockLen alg
  ((blocksOf b bs).foldl (fun (a : List Byte × List Byte) x =>
    let y := encBlock alg key (xorBytes a.1 x)
    (y, a.2 ++ y)) (List.replicate b 0, [])).2
def cbcDec (alg : Nat) (key : List Byte) (bs : List Byte) : List Byte :=
  let b := blockLen alg
  ((blocksOf b bs).foldl (fun (a : List Byte × List Byte) x => (x, a.2 ++ xorBytes a.1 (decBlock alg key x))) (List.replicate b 0, [])).2

/-- ISO/IEC 9797-1 padding: method 1 zeros, method 2 one bit and zeros, to blocks of `b` octets. -/
def pad1 (b : Nat) (bs : List Byte) : List Byte := bs ++ List.replicate ((b - bs.length % b) % b) 0
def pad2 (b : Nat) (bs : List Byte) : List Byte := pad1 b (bs ++ [0x80])

/-- The last cipher block of CBC over padded octets. -/
def lastBlock (b : Nat) (bs : List Byte) : List Byte := bs.drop (bs.length - b)

/-- ISO/IEC 9797-1 MAC algorithm 1. -/
def macAlg1 (alg : Nat) (key padded : List Byte) : List Byte := lastBlock 8 (cbcEnc alg key padded)

/-- ISO/IEC 9797-1 MAC algorithm 3 under a two-key bundle: CBC under its first key (a bundle of that key twice over), the
last block under the bundle. -/
def macAlg3 (key padded : List Byte) : List Byte :=
  let k1 := key.take 8 ++ key.take 8
  let first := padded.take (padded.length - 8)
  encBlock 4 key (xorBytes (if first.isEmpty then List.replicate 8 0 else macAlg1 4 k1 first) (lastBlock 8 padded))

def cmacBytes (key msg : List Byte) : List Byte := bvBytes 16 (Config.cmac key msg)

/-- The MAC that the EMV and DUKPT functions use: AES-CMAC, or algorithm 3 with padding method 2. -/
def emvMac (alg : Nat) (key msg : List Byte) : List Byte := if isAes alg then cmacBytes key msg else macAlg3 key (pad2 8 msg)

/-- GCM's counter stream applied to a message, and its tag (SP 800-38D) under nonce `n`. -/
def gcmCtr (key n msg : List Byte) : List Byte :=
  xorBytes msg ((List.range ((msg.length + 15) / 16)).flatMap (fun i => encBlock 3 key (n ++ beBytes 4 (i + 2))))
def ghash (hk : BitVec 128) (bs : List Byte) : BitVec 128 :=
  (blocksOf 16 bs).foldl (fun a x => Config.gfMul (a ^^^ bytesBv 128 x) hk) 0
def gcmTag (key n aad ct : List Byte) : List Byte :=
  let y := ghash (Config.aesEnc key 0) (pad1 16 aad ++ pad1 16 ct ++ beBytes 8 (8 * aad.length) ++ beBytes 8 (8 * ct.length))
  xorBytes (bvBytes 16 y) (encBlock 3 key (n ++ beBytes 4 1))

/-! ## Descriptors and contexts -/

/-- PAN_DIGITS in FLAGS[15:8] (R94). -/
def dPanDigits (w : BitVec 512) : Nat := dFuncFlags w % 256

/-- Neither area is used. -/
def noAreas (w : BitVec 512) : Bool := noInput w && noOutput w

/-- Key positions from `k` on are zero. -/
def keysZero (w : BitVec 1024) (k : Nat) : Bool := (List.range 4).all (fun j => decide (j < k) || cKey w j == 0)

/-- OPTIONS holds nothing outside the bits of `m`. -/
def optsIn (o m : Nat) : Bool := o &&& (2 ^ 64 - 1 - m) == 0

/-- The PIN fields of OPTIONS (R103). -/
structure PinOpt where
  src : Nat
  dst : Nat
  lo : Nat
  hi : Nat
  down : Bool
deriving DecidableEq, Repr

def pinOpt (o : Nat) : PinOpt :=
  ⟨o % 16, o / 16 % 16, if o / 256 % 16 = 0 then 4 else o / 256 % 16, if o / 4096 % 16 = 0 then 12 else o / 4096 % 16, o.testBit 16⟩

/-- Formats, lengths and combinations that R101 and R103 accept. -/
def PinOpt.ok (p : PinOpt) : Bool :=
  pinFormatOk p.src && pinFormatOk p.dst && decide (4 ≤ p.lo) && decide (p.lo ≤ p.hi) && decide (p.hi ≤ 12)
    && !(p.dst == 1 && p.src != 1) && !(p.src == 4 && (p.dst == 0 || p.dst == 3) && !p.down)

/-- The algorithm that a PIN format requires (R101). -/
def pinAlg (f alg : Nat) : Bool := if f = 4 then isAes alg else isTdea alg

/-- The PAN is in range, or absent where it is optional (R94). -/
def panGiven (optional : Bool) (pan digits : Nat) : Bool := panOk pan digits || (optional && pan == 0 && digits == 0)

/-- The clear PIN field of a block (R100). -/
def pinOpen (f alg : Nat) (key block : List Byte) (pan digits : Nat) : List Nat :=
  let pf := packNibbles (panField f pan digits)
  nibbles (match f with
    | 4 => decBlock alg key (xorBytes (decBlock alg key block) pf)
    | 1 => decBlock alg key block
    | _ => xorBytes (decBlock alg key block) pf)

/-- A PIN field encrypted into its block (R100). -/
def pinSeal (f alg : Nat) (key : List Byte) (ns : List Nat) (pan digits : Nat) : List Byte :=
  let pf := packNibbles (panField f pan digits)
  let x := packNibbles ns
  match f with
  | 4 => encBlock alg key (xorBytes (encBlock alg key x) pf)
  | 1 => encBlock alg key x
  | _ => encBlock alg key (xorBytes x pf)

/-- The random words of a drawing function: the two free values last taken. -/
def Dev.word1 (d : Dev) : Word := Config.freeWord (d.nfree - 2)
def Dev.word2 (d : Dev) : Word := Config.freeWord (d.nfree - 1)

/-- The check of R102 and R144, the rebuilding of R103, and the encryption under the destination key. -/
def Dev.pinMove (d : Dev) (p : PinOpt) (ns : List Nat) (k1 : KeyRef) (pan digits : Nat) : Option Done :=
  if !pinFieldOk p.src (max d.pinFloor p.lo) p.hi ns then quit stFormat
  else some ⟨stOk, pinSeal p.dst k1.alg k1.key (pinConv p.dst ns d.word1 d.word2) pan digits, []⟩

/-! ## PIN functions (R103 to R107) -/

/-- PIN_TRANSLATE (R103). -/
def Dev.pinTranslate (d : Dev) (h : Nat) (us : List KeyUse) : Dev :=
  d.library 0x20 h [] (fun d c _ =>
    let o := cOptions c.ctx
    let p := pinOpt o
    let ps := dParams c.desc
    let pan := leAt ps 16 8
    let n := dPanDigits c.desc
    if !ctxRestZero c.ctx 2 17 0 || !p.ok || !noAreas c.desc || (p.src != 4 && !allZero (slice ps 8 8)) then (d, quit stBadDescriptor)
    else if !panGiven (p.src == 1 && p.dst == 1) pan n then (d, quit stFormat)
    else d.withKeys h c us [1] (pinDraws p.dst) [⟨0, useDec, some true, pinAlg p.src⟩, ⟨1, useEnc, some true, pinAlg p.dst⟩]
      (fun d ks =>
        let k0 := kAt ks 0
        (d, d.pinMove p (pinOpen p.src k0.alg k0.key (slice ps 0 (pinBytes p.src)) pan n) (kAt ks 1) pan n)))

/-- What PIN_VERIFY and PIN_OFFSET_GENERATE read of their context (R104). -/
structure PvOpt where
  src : Nat
  len : Nat
  offEnc : Bool
  table : List Nat
  start : Nat
  vlen : Nat
  pad : Nat
deriving DecidableEq, Repr

def pvOpt (w : BitVec 1024) : PvOpt :=
  let o := cOptions w
  let dt := cData w
  ⟨o % 16, o / 256 % 16, o.testBit 16, nibbles (dt.take 8), leAt dt 8 1, leAt dt 9 1, leAt dt 10 1⟩

/-- Its ranges, and the reserved fields of context and descriptor (R95, R104, R105). -/
def pvOk (verify : Bool) (c : Cmd) : Bool :=
  let p := pvOpt c.ctx
  optsIn (cOptions c.ctx) (if verify then 0x10F0F else 0xF0F) && pinFormatOk p.src && decide (4 ≤ p.len) && decide (p.len ≤ 12)
    && keysZero c.ctx 3 && (!verify || p.offEnc || cKey c.ctx 2 == 0) && allZero ((cData c.ctx).drop 11) && decTableOk p.table
    && decide (p.start ≤ 18) && decide (1 ≤ p.vlen) && decide (p.vlen ≤ 16) && decide (p.pad ≤ 15)
    && noOutput c.desc && allZero ((dParams c.desc).drop 8)

/-- The natural PIN (R105): the validation data encrypted under the verification key, its leftmost digits decimalised. -/
def naturalPin (p : PvOpt) (k : KeyRef) (pan digits : Nat) : List Nat :=
  let vd := ((decDigits digits pan).drop p.start).take p.vlen
  decim p.table (nibbles (encBlock k.alg k.key (packNibbles (vd ++ List.replicate (16 - p.vlen) p.pad)))) p.len

/-- PIN_VERIFY (R107). -/
def Dev.pinVerify (d : Dev) (h : Nat) (us : List KeyUse) : Dev :=
  d.library 0x21 h [] (fun d c i =>
    let inp := i.getD []
    let p := pvOpt c.ctx
    let pan := leAt (dParams c.desc) 0 8
    let n := dPanDigits c.desc
    if !pvOk true c then (d, quit stBadDescriptor)
    else if dInLen c.desc != 32 then (d, quit stLength)
    else if !panOk pan n || n < p.start + p.vlen then (d, quit stFormat)
    else d.withKeys h c us [1] false ([⟨0, useDec, some true, pinAlg p.src⟩, ⟨1, useDerive, none, isTdea⟩]
        ++ (if p.offEnc then [⟨2, useDec, some true, anyCipher⟩] else [])) (fun d ks =>
      let k0 := kAt ks 0
      let k2 := kAt ks 2
      let ow := if p.offEnc then blockLen k2.alg else 8
      let off := slice inp 16 ow
      if !allZero ((inp.drop (pinBytes p.src)).take (16 - pinBytes p.src)) || !allZero (inp.drop (16 + ow)) then (d, quit stBadDescriptor)
      else
        let ns := pinOpen p.src k0.alg k0.key (slice inp 0 (pinBytes p.src)) pan n
        let os := nibbles (if p.offEnc then decBlock k2.alg k2.key off else off)
        if !pinFieldOk p.src (max d.pinFloor 4) 12 ns then (d, quit stFormat)
        else match offParse os p.len ow (fun v => if p.offEnc then decide (10 ≤ v) else v == 15) with
          | none => (d, quit stFormat)
          | some ds =>
            (d, quit (if nib ns 1 == p.len && (ns.drop 2).take p.len == digAdd (naturalPin p (kAt ks 1) pan n) ds p.len then stOk
              else stVerifyFail))))

/-- PIN_OFFSET_GENERATE (R107): the offset leaves only as an offset block (R106). -/
def Dev.pinOffsetGenerate (d : Dev) (h : Nat) (us : List KeyUse) : Dev :=
  d.library 0x22 h [] (fun d c i =>
    let inp := i.getD []
    let p := pvOpt c.ctx
    let pan := leAt (dParams c.desc) 0 8
    let n := dPanDigits c.desc
    if !pvOk false c then (d, quit stBadDescriptor)
    else if dInLen c.desc != 16 then (d, quit stLength)
    else if !panOk pan n || n < p.start + p.vlen then (d, quit stFormat)
    else d.withKeys h c us [1] true [⟨0, useDec, some true, pinAlg p.src⟩, ⟨1, useDerive, none, isTdea⟩, ⟨2, useEnc, some true, anyCipher⟩]
      (fun d ks =>
        let k0 := kAt ks 0
        let k2 := kAt ks 2
        let ns := pinOpen p.src k0.alg k0.key (slice inp 0 (pinBytes p.src)) pan n
        if !allZero (inp.drop (pinBytes p.src)) then (d, quit stBadDescriptor)
        else if !pinFieldOk p.src (max d.pinFloor 4) 12 ns || nib ns 1 != p.len then (d, quit stFormat)
        else
          let ds := digSub ((ns.drop 2).take p.len) (naturalPin p (kAt ks 1) pan n) p.len
          (d, some ⟨stOk, encBlock k2.alg k2.key (packNibbles (offPack ds p.len (blockLen k2.alg) d.word1 d.word2)), []⟩)))

/-! ## EMV (R108 to R110) -/

/-- A derived TDEA key must not have equal halves (R245): one derivation step of the library. -/
def libDerive (m alg : Nat) (key data : List Byte) (child : Nat) : Except Nat (List Byte) :=
  let k := storedKey child ((deriveBytes m alg key data).take (algBytes child))
  if child == 4 && tdeaEqual k then .error stKeyAttr else .ok k

/-- The card's master key (R108): option A to 16 digits and option B above, or the AES derivation. -/
def masterKey (alg : Nat) (key : List Byte) (pan digits psn : Nat) : Except Nat (List Byte) :=
  let ds := decDigits digits pan ++ decDigits 2 psn
  let right (n : Nat) := packNibbles ((List.replicate n 0 ++ ds).drop ds.length)
  if isAes alg then libDerive 4 alg key (right 32) alg
  else if digits ≤ 16 then libDerive 2 alg key (right 16) 4
  else libDerive 3 alg key (packNibbles (if ds.length % 2 = 0 then ds else ds ++ [15])) 4

/-- The session key of a card's ATC (R108). -/
def sessionKey (alg : Nat) (key : List Byte) (pan digits psn : Nat) (atc : List Byte) : Except Nat (List Byte) :=
  match masterKey alg key pan digits psn with
  | .error s => .error s
  | .ok mk => libDerive 5 alg mk atc (if isAes alg then alg else 4)

/-- One ARQC record (R109): its status and ARPC, or the status that ends the command. -/
def arqcRecord (method alg : Nat) (key rec : List Byte) : Except Nat (Nat × List Byte) :=
  let pan := leAt rec 0 8
  let digits := leAt rec 8 1
  let psn := leAt rec 9 1
  let dl := leAt rec 12 1
  let pl := leAt rec 13 1
  let arqc := slice rec 16 8
  let body := slice rec 32 96
  if !allZero (slice rec 0x1C 4) then .ok (stBadDescriptor, [])
  else if dl = 0 || 8 < pl || 96 < dl + pl then .ok (stLength, [])
  else if !allZero (body.drop (dl + pl)) then .ok (stBadDescriptor, [])
  else if !panOk pan digits || 99 < psn then .ok (stFormat, [])
  else match sessionKey alg key pan digits psn (slice rec 10 2) with
    | .error s => .error s
    | .ok sk =>
      if (emvMac alg sk (body.take dl)).take 8 != arqc then .ok (stVerifyFail, [])
      else match method with
        | 0 => .ok (stOk, [])
        | 1 => .ok (stOk, encBlock alg sk (xorBytes arqc (slice rec 14 2 ++ List.replicate 6 0)))
        | _ => .ok (stOk, (emvMac alg sk (arqc ++ slice rec 0x18 4 ++ (body.drop dl).take pl)).take 4)

/-- The records in index order, until one ends the command. -/
def arqcRecords (method alg : Nat) (key inp : List Byte) : Nat → Nat → Except Nat (List (Nat × List Byte))
  | 0, _ => .ok []
  | n + 1, i => match arqcRecord method alg key (slice inp (128 * i) 128) with
    | .error s => .error s
    | .ok r => match arqcRecords method alg key inp n (i + 1) with
      | .error s => .error s
      | .ok rs => .ok (r :: rs)

/-- An output record. -/
def arqcOut (r : Nat × List Byte) : List Byte := leBytes 2 r.1 ++ [BitVec.ofNat 8 r.2.length] ++ List.replicate 5 0 ++ slice r.2 0 8

/-- ARQC_VERIFY (R109). DEDUCED: an issuer master key with either result-glaze setting derives (R96, R108; entry 64). -/
def Dev.arqcVerify (d : Dev) (h : Nat) (bs : List Byte) (us : List KeyUse) : Dev :=
  d.library 0x30 h bs (fun d c i =>
    let ps := dParams c.desc
    let n := leAt ps 0 2
    let m := cOptions c.ctx
    if !ctxRestZero c.ctx 1 2 0 || m = 3 || dFuncFlags c.desc != 0 || !allZero (ps.drop 2) then (d, quit stBadDescriptor)
    else if n = 0 || 32 < n || dInLen c.desc != 128 * n || dOutLen c.desc != 16 * n then (d, quit stLength)
    else d.withInput i fun inp => d.withKeys h c us [1] false [⟨0, useDerive, none, aesOr2Tdea⟩] (fun d ks =>
      let k := kAt ks 0
      if m = 1 && isAes k.alg then (d, quit stBadDescriptor)
      else
        let d := d.libRead c
        match arqcRecords m k.alg k.key inp n 0 with
        | .error s => (d, quit s)
        | .ok rs =>
          let count (p : Nat → Bool) := leBytes 4 (rs.countP (fun r => p r.1))
          (d, some ⟨stOk, count (· == stOk) ++ count (· == stVerifyFail) ++ count (fun s => s != stOk && s != stVerifyFail),
            rs.flatMap arqcOut⟩)))

/-- The script command with its data encrypted and its MAC (R110), or the status. `smc` is the encryption key, if any. -/
def scriptBuild (smi : KeyRef) (smc : Option KeyRef) (inp : List Byte) (outLen : Nat) : Except Nat (List Byte) :=
  let pan := leAt inp 0 8
  let digits := leAt inp 8 1
  let psn := leAt inp 9 1
  let atc := slice inp 10 2
  let arqc := slice inp 12 8
  let len := leAt inp 0x14 2
  let es := leAt inp 0x16 1
  let el := leAt inp 0x17 1
  let ml := leAt inp 0x18 1
  let cmd := slice inp 32 len
  let dat := cmd.drop 5
  if el != 0 && dat.length < es + el then .error stLength
  else match sessionKey smi.alg smi.key pan digits psn atc with
    | .error s => .error s
    | .ok ski =>
      let enc : Except Nat (List Byte) := match smc with
        | none => .ok dat
        | some k => match sessionKey k.alg k.key pan digits psn atc with
          | .error s => .error s
          | .ok skc => .ok (dat.take es ++ cbcEnc k.alg skc (pad2 (blockLen k.alg) ((dat.drop es).take el)) ++ dat.drop (es + el))
      match enc with
      | .error s => .error s
      | .ok nd =>
        let lc := nd.length + ml
        if 255 < lc || outLen < 5 + lc then .error stLength
        else
          let hdr := cmd.take 4 ++ [BitVec.ofNat 8 lc]
          .ok (hdr ++ nd ++ (emvMac smi.alg ski (hdr ++ atc ++ arqc ++ nd)).take ml)

/-- ISSUER_SCRIPT (R110). -/
def Dev.issuerScript (d : Dev) (h : Nat) (bs : List Byte) (us : List KeyUse) : Dev :=
  d.library 0x31 h bs (fun d c i =>
    if !ctxRestZero c.ctx 2 0 0 || dFuncFlags c.desc != 0 || !allZero (dParams c.desc) then (d, quit stBadDescriptor)
    else if dInLen c.desc < 37 || 271 < dInLen c.desc then (d, quit stLength)
    else d.withInput i fun inp =>
    let len := leAt inp 0x14 2
    let ml := leAt inp 0x18 1
    let two := leAt inp 0x17 1 != 0
    if len < 5 || 239 < len || dInLen c.desc != 32 + len then (d, quit stLength)
    else if !allZero (slice inp 0x19 7) then (d, quit stBadDescriptor)
    else if ml < 4 || 8 < ml then (d, quit stLength)
    else if !panOk (leAt inp 0 8) (leAt inp 8 1) || 99 < leAt inp 9 1 then (d, quit stFormat)
    else d.withKeys h c us [1] false ([⟨0, useDerive, some false, aesOr2Tdea⟩] ++ (if two then [⟨1, useDerive, some false, aesOr2Tdea⟩] else []))
      (fun d ks =>
        if two && isAes (kAt ks 0).alg != isAes (kAt ks 1).alg then (d, quit stKeyAttr)
        else match scriptBuild (kAt ks 0) (if two then some (kAt ks 1) else none) inp (dOutLen c.desc) with
          | .error s => (d.libRead c, quit s)
          | .ok out => (d.libRead c, some ⟨stOk, leBytes 4 out.length, out⟩)))

/-! ## DUKPT (R111 to R113) -/

/-- Its WORKING_KEY is one that the base key permits; the working key's algorithm (R111). -/
def dukptWork (bdk o : Nat) : Option Nat :=
  let w := o / 2 ^ 18 % 4
  if isAes bdk then (if w + 1 ≤ bdk then some (w + 1) else none) else if w = 0 then some 4 else none

/-- Derivation data of an AES step: usage, algorithm, length, and eight octets of key serial number. -/
def dukptData (usage alg : Nat) (tail : List Byte) : List Byte :=
  [1, 1] ++ beBytes 2 usage ++ beBytes 2 (alg + 1) ++ beBytes 2 (8 * algBytes alg) ++ tail

/-- The set bits of a counter of `n` bits, highest first. -/
def bitsDown (n v : Nat) : List Nat := ((List.range n).reverse).filter (fun i => v.testBit i)

/-- The AES chain: the initial key, one intermediate key per counter bit, the working key of `usage`. -/
def dukptAes (bdk : KeyRef) (ksn : List Byte) (usage work : Nat) : List Byte :=
  let ctr := beAt ksn 8 4
  let id := slice ksn 4 4
  let step (key : List Byte) (u alg : Nat) (tail : List Byte) := (deriveBytes 6 bdk.alg key (dukptData u alg tail)).take (algBytes alg)
  let ik := step bdk.key 0x8001 bdk.alg (slice ksn 0 8)
  let dk := ((bitsDown 32 ctr).foldl (fun (a : List Byte × Nat) i =>
    (step a.1 0x8000 bdk.alg (id ++ beBytes 4 (a.2 + 2 ^ i)), a.2 + 2 ^ i)) (ik, 0)).1
  step dk usage work (id ++ beBytes 4 ctr)

/-- The TDEA chain. -/
def dukptTdea (bdk : KeyRef) (ksn : List Byte) (variant : Nat) : Except Nat (List Byte) :=
  let v := beAt ksn 0 10
  let base := v / 2 ^ 21 * 2 ^ 21
  match libDerive 7 4 bdk.key (beBytes 8 (base / 2 ^ 16)) 4 with
  | .error s => .error s
  | .ok ik =>
    let r := (bitsDown 21 (v % 2 ^ 21)).foldl (fun (a : Except Nat (List Byte × Nat)) i => match a with
      | .error s => .error s
      | .ok (k, reg) => match libDerive 8 4 k (beBytes 8 (reg + 2 ^ i)) 4 with
        | .error s => .error s
        | .ok k' => .ok (k', reg + 2 ^ i)) (Except.ok (ik, base % 2 ^ 64))
    match r with
    | .error s => .error s
    | .ok (k, _) => libDerive 9 4 k [BitVec.ofNat 8 variant] 4

/-- The working key: `aesUse` and `variant` name its purpose; the checks of R111 first. -/
def dukptKey (bdk : KeyRef) (c : Cmd) (ksn : List Byte) (aesUse variant : Nat) : Except Nat (List Byte × Nat) :=
  let aes := isAes bdk.alg
  let ctr := if aes then beAt ksn 8 4 else beAt ksn 0 10 % 2 ^ 21
  let ones := (bitsDown 32 ctr).length
  match dukptWork bdk.alg (cOptions c.ctx) with
  | none => .error stBadDescriptor
  | some w =>
    if !aes && (!allZero (slice ksn 10 2) || !allZero (cData c.ctx)) then .error stBadDescriptor
    else if ones = 0 || (if aes then 16 else 10) < ones then .error stFormat
    else if aes && slice ksn 0 4 != (cData c.ctx).take 4 then .error stKeyAttr
    else if aes then .ok (dukptAes bdk ksn aesUse w, w)
    else match dukptTdea bdk ksn variant with
      | .error s => .error s
      | .ok k => .ok (k, 4)

/-- DUKPT_PIN_TRANSLATE (R112). -/
def Dev.dukptPinTranslate (d : Dev) (h : Nat) (us : List KeyUse) : Dev :=
  d.library 0x40 h [] (fun d c i =>
    let inp := i.getD []
    let o := cOptions c.ctx
    let p := pinOpt o
    let pan := leAt inp 0x20 8
    let n := leAt inp 0x28 1
    if !optsIn o 0xDFFFF || !keysZero c.ctx 2 || !allZero ((cData c.ctx).drop 4) || !p.ok || dFuncFlags c.desc != 0
        || !allZero (dParams c.desc) || !noOutput c.desc || o / 2 ^ 18 % 4 = 3 then (d, quit stBadDescriptor)
    else if dInLen c.desc != 48 then (d, quit stLength)
    else d.withKeys h c us [1] (pinDraws p.dst) [⟨0, useDerive, some false, fun a => aesOr2Tdea a && pinAlg p.src a⟩, ⟨1, useEnc, some true, pinAlg p.dst⟩]
      (fun d ks =>
        let k0 := kAt ks 0
        if !allZero (slice inp 12 4) || !allZero (slice inp 0x29 7) || (p.src != 4 && !allZero (slice inp 0x18 8)) then (d, quit stBadDescriptor)
        else match dukptKey k0 c (slice inp 0 12) 0x1000 1 with
          | .error s => (d, quit s)
          | .ok (key, alg) =>
            if !panGiven (p.src == 1 && p.dst == 1) pan n then (d, quit stFormat)
            else (d, d.pinMove p (pinOpen p.src alg key (slice inp 16 (pinBytes p.src)) pan n) (kAt ks 1) pan n)))

/-- DUKPT_DATA (R113): decryption under the data-request key, or MAC verification under the MAC-request key. -/
def Dev.dukptDataFn (d : Dev) (h : Nat) (bs : List Byte) (us : List KeyUse) : Dev :=
  d.library 0x41 h bs (fun d c i =>
    let o := cOptions c.ctx
    let ml := o / 2 ^ 24 % 32
    let mac := dFuncFlags c.desc == 1
    let n := dInLen c.desc - 16 - ml
    if !optsIn o 0x1F0C0000 || !keysZero c.ctx 1 || !allZero ((cData c.ctx).drop 4) || 2 ≤ dFuncFlags c.desc
        || !allZero (dParams c.desc) || (if mac then decide (ml < 4) || decide (16 < ml) || !noOutput c.desc else ml != 0)
        || o / 2 ^ 18 % 4 = 3 then (d, quit stBadDescriptor)
    else if dInLen c.desc < 17 + ml || 65536 < n || (!mac && (n % 8 != 0 || dOutLen c.desc != n)) then (d, quit stLength)
    else d.withInput i fun inp => d.withKeys h c us [1] false [⟨0, useDerive, some false, aesOr2Tdea⟩] (fun d ks =>
      let k0 := kAt ks 0
      let d := d.libRead c
      if mac && !isAes k0.alg && 8 < ml then (d, quit stBadDescriptor)
      else if !mac && n % blockLen k0.alg != 0 then (d, quit stLength)
      else if !allZero (slice inp 12 4) then (d, quit stBadDescriptor)
      else match dukptKey k0 c (slice inp 0 12) (if mac then 0x2000 else 0x3000) (if mac then 2 else 3) with
        | .error s => (d, quit s)
        | .ok (key, alg) =>
          if mac then (d, quit (if (emvMac alg key (slice inp 16 n)).take ml == inp.drop (16 + n) then stOk else stVerifyFail))
          else (d, some ⟨stOk, [], cbcDec alg key (slice inp 16 n)⟩)))

/-! ## MACs, card codes, tokens (R114 to R116) -/

/-- The algorithms that suit ALG (R114). -/
def macAlgOk (a alg : Nat) : Bool := match a with
  | 0 => isAes alg
  | 1 => isTdea alg
  | _ => alg == 4

/-- The MAC of R114. -/
def macOf (a pad : Nat) (k : KeyRef) (msg : List Byte) : List Byte :=
  let p := if pad = 1 then pad1 8 msg else pad2 8 msg
  match a with
  | 0 => cmacBytes k.key msg
  | 1 => macAlg1 k.alg k.key p
  | _ => macAlg3 k.key p

/-- What MAC_GENERATE and MAC_VERIFY share: the checks, then `fin` on the MAC. `taken` octets of PARAMS are defined. -/
def Dev.macRun (d : Dev) (f h : Nat) (bs : List Byte) (us : List KeyUse) (given : List Byte → Nat → Bool)
    (fin : List Byte → List Byte → Done) : Dev :=
  d.library f h bs (fun d c i =>
    let o := cOptions c.ctx
    let a := o % 4
    let pad := o / 16 % 4
    let ml := o / 256 % 32
    if !optsIn o 0x1F33 || !keysZero c.ctx 1 || !allZero (cData c.ctx) || dFuncFlags c.desc != 0 || a = 3
        || !(if a = 0 then pad == 0 else pad == 1 || pad == 2) || ml < 4 || (if a = 0 then 16 else 8) < ml
        || !given (dParams c.desc) ml || !noOutput c.desc then (d, quit stBadDescriptor)
    else if dInLen c.desc = 0 || 1048576 < dInLen c.desc then (d, quit stLength)
    else d.withInput i fun inp => d.withKeys h c us [1] false [⟨0, useEnc, some false, macAlgOk a⟩] (fun d ks =>
      (d.libRead c, some (fin ((macOf a pad (kAt ks 0) inp).take ml) (dParams c.desc)))))

/-- MAC_GENERATE (R114). -/
def Dev.macGenerate (d : Dev) (h : Nat) (bs : List Byte) (us : List KeyUse) : Dev :=
  d.macRun 0x50 h bs us (fun ps _ => allZero ps) (fun m _ => ⟨stOk, m, []⟩)

/-- MAC_VERIFY (R99, R114). -/
def Dev.macVerify (d : Dev) (h : Nat) (bs : List Byte) (us : List KeyUse) : Dev :=
  d.macRun 0x51 h bs us (fun ps n => allZero (ps.drop n)) (fun m ps => ⟨if ps.take m.length == m then stOk else stVerifyFail, [], []⟩)

/-- The three digits of the card security code (R115). -/
def cscDigits (key : List Byte) (pan digits : Nat) (expiry service : List Nat) : List Nat :=
  let s := decDigits digits pan ++ expiry ++ service.drop 1
  let ns := nibbles (macAlg3 key (packNibbles ((s ++ List.replicate 32 0).take 32)))
  (ns.filter (fun x => decide (x ≤ 9)) ++ (ns.filter (fun x => decide (10 ≤ x))).map (· - 10)).take 3

/-- CSC_GENERATE and CSC_VERIFY (R115). -/
def Dev.csc (d : Dev) (verify : Bool) (h : Nat) (us : List KeyUse) : Dev :=
  d.library (if verify then 0x59 else 0x58) h [] (fun d c _ =>
    let ps := dParams c.desc
    let pan := leAt ps 0 8
    let n := dPanDigits c.desc
    let ex := nibbles (slice ps 8 2)
    let sv := nibbles (slice ps 10 2)
    let cs := nibbles (slice ps 12 2)
    if !ctxRestZero c.ctx 1 0 0 || !noAreas c.desc || !allZero (ps.drop (if verify then 14 else 12)) then (d, quit stBadDescriptor)
    else if !panOk pan n || !(ex ++ sv ++ cs).all (fun x => decide (x ≤ 9)) || nib sv 0 != 0 || nib cs 0 != 0 then (d, quit stFormat)
    else d.withKeys h c us [1] false [⟨0, useEnc, some false, fun a => a == 4⟩] (fun d ks =>
      let code := cscDigits (kAt ks 0).key pan n ex sv
      (d, if verify then quit (if cs.drop 1 == code then stOk else stVerifyFail) else some ⟨stOk, packNibbles (0 :: code), []⟩)))

def Dev.cscGenerate (d : Dev) (h : Nat) (us : List KeyUse) : Dev := d.csc false h us
def Dev.cscVerify (d : Dev) (h : Nat) (us : List KeyUse) : Dev := d.csc true h us

/-- FF1_TOKENISE and FF1_DETOKENISE (R116): `f` is FF1 in its direction. -/
def Dev.ff1 (d : Dev) (fid h : Nat) (us : List KeyUse) (f : List Byte → List Byte → List Nat → List Nat) : Dev :=
  d.library fid h [] (fun d c _ =>
    let o := cOptions c.ctx
    let lead := o % 16
    let tail := o / 16 % 16
    let tl := o / 256 % 32
    let pan := leAt (dParams c.desc) 0 8
    let n := dPanDigits c.desc
    let ds := decDigits n pan
    if !ctxRestZero c.ctx 1 13 tl || 8 < lead || 4 < tail || 16 < tl || !noAreas c.desc || !allZero ((dParams c.desc).drop 8) then
      (d, quit stBadDescriptor)
    else if !panOk pan n || n < lead + tail + 6 then (d, quit stFormat)
    else d.withKeys h c us [1] false [⟨0, useEnc, some false, isAes⟩] (fun d ks =>
      let mid := (ds.drop lead).take (n - lead - tail)
      let out := ds.take lead ++ f (kAt ks 0).key ((cData c.ctx).take tl) mid ++ ds.drop (n - tail)
      (d, some ⟨stOk, leBytes 8 (ofDigits out), []⟩)))

def Dev.ff1Tokenise (d : Dev) (h : Nat) (us : List KeyUse) : Dev := d.ff1 0x60 h us Config.ff1Enc
def Dev.ff1Detokenise (d : Dev) (h : Nat) (us : List KeyUse) : Dev := d.ff1 0x61 h us Config.ff1Dec

/-! ## GCM and RANDOM (R121 to R124) -/

/-- The next hardware nonce (R191, R193, R195): the device after it and the 12 octets; none while a window commit is due; a
status when the lease is exhausted. -/
def Dev.libNonce (d : Dev) : Dev × Option (Except Nat (List Byte)) :=
  if d.valuesLeft == 0 || !d.bit Fld.CIPH_NONCE_ID_VALID then (d.inc Fld.CIPH_COUNTS_EXHAUSTED 1, some (.error stCounterExhausted))
  else if d.mark ≤ d.nonceNext then (d.windowDue, none)
  else
    let n := (nonceBytes (d.rd Fld.CIPH_NONCE_ID_ID) d.nonceNext).take 12
    let d := d.wr Fld.CIPH_NONCE_NEXT_NEXT (d.nonceNext + 1)
    (if d.valuesLeft = 0 then d.nextLease else d.windowDue, some (.ok n))

/-- The next value stands at the mark: a nonce waits for the window commit (R195). -/
def Dev.nonceWaits (d : Dev) : Bool := d.valuesLeft != 0 && d.bit Fld.CIPH_NONCE_ID_VALID && decide (d.mark ≤ d.nonceNext)

/-- The program's NONCE waits with the others, and asks for that commit. -/
def Dev.libNonceWait (d : Dev) (h : Nat) : Dev :=
  let ws := d.ciph.waitNonce
  { d with ciph := { d.ciph with waitNonce := if ws.contains (libWait h) then ws else ws ++ [libWait h] } }.windowDue

/-- The lengths of R121: AAD, message and what the output area must hold. -/
def gcmLens (inLen outLen aad tagIn tagOut : Nat) : Bool :=
  decide (aad ≤ 65536) && decide (aad + tagIn ≤ inLen) && decide (inLen - aad - tagIn ≤ 67108864) && outLen == inLen - aad - tagIn + tagOut

/-- GCM_ENCRYPT (R121, R122). -/
def Dev.gcmEncrypt (d : Dev) (h : Nat) (bs : List Byte) (us : List KeyUse) : Dev :=
  d.library 0x80 h bs (fun d c i =>
    let ps := dParams c.desc
    let aad := leAt ps 0 4
    if !ctxRestZero c.ctx 1 0 0 || dFuncFlags c.desc != 0 || !allZero (ps.drop 4) then (d, quit stBadDescriptor)
    else if !gcmLens (dInLen c.desc) (dOutLen c.desc) aad 0 16 then (d, quit stLength)
    else d.withInput i fun inp =>
      if d.nonceWaits then (d.libNonceWait h, none)
      else d.withKeys h c us [1] false [⟨0, useEnc, some false, isAes⟩] (fun d ks =>
        let k := kAt ks 0
        let x := d.libNonce
        match x.2 with
        | none => (x.1, none)
        | some (.error s) => (x.1, quit s)
        | some (.ok n) =>
          let ct := gcmCtr k.key n (inp.drop aad)
          (x.1.libRead c, some ⟨stOk, n, ct ++ gcmTag k.key n (inp.take aad) ct⟩)))

/-- GCM_DECRYPT (R121, R123): the plaintext is written as it runs; a tag that fails releases ST_AUTH_FAIL. -/
def Dev.gcmDecrypt (d : Dev) (h : Nat) (bs : List Byte) (us : List KeyUse) : Dev :=
  d.library 0x81 h bs (fun d c i =>
    let ps := dParams c.desc
    let aad := leAt ps 12 4
    let m := dInLen c.desc - aad - 16
    if !ctxRestZero c.ctx 1 0 0 || dFuncFlags c.desc != 0 || !allZero (ps.drop 16) then (d, quit stBadDescriptor)
    else if !gcmLens (dInLen c.desc) (dOutLen c.desc) aad 16 0 then (d, quit stLength)
    else d.withInput i fun inp => d.withKeys h c us [1] false [⟨0, useEnc, some false, isAes⟩] (fun d ks =>
      let k := kAt ks 0
      let n := slice ps 0 12
      let ct := slice inp aad m
      (d.libRead c, some ⟨if gcmTag k.key n (inp.take aad) ct == inp.drop (aad + m) then stOk else stAuthFail, [], gcmCtr k.key n ct⟩)))

/-- RANDOM (R124): reserved fields before the length (R97); the host instance, reseeded first when RESEED asks for it. -/
def Dev.randomFn (d : Dev) (h : Nat) : Dev :=
  d.library 0x90 h [] (fun d c _ =>
    let n := dOutLen c.desc
    if 2 ≤ dFuncFlags c.desc || !noInput c.desc || !allZero (dParams c.desc) then (d, quit stBadDescriptor)
    else if n < 8 || 1048576 < n || n % 8 != 0 then (d, quit stLength)
    else if d.blockHeld 3 then (d, quit stUnitReset)
    else if d.rngFailed then (d, quit stRngUnavailable)
    else if !d.rngReady 2 then (d, none)
    else
      let x := if dFuncFlags c.desc = 1 then d.reseedFor (16 * c.order + 15) else (d, d.rngServes 2)
      if !x.2 then (x.1, none)
      else (x.1.draw 2 1 n, some ⟨stOk, [], randomBytes x.1.nfree n⟩))

/-! ## Signatures and key establishment (R125 to R127) -/

/-- The digest of a message by HASH (R125). -/
def libHash (hash : Nat) (msg : List Byte) : List Byte :=
  let full := msg ++ hashPad hash msg.length (msg.length % hashRate hash)
  (absorb hash full (full.length / hashRate hash) 0 (Config.hashInit hash)).take (digestLen hash)

/-- An operand block of the PKL engine (R212): its header with no TARGET, then its fields, each but the last padded to a
multiple of 8. -/
def padFields : List (List Byte) → List Byte
  | [] => []
  | [x] => x
  | x :: rest => pad1 8 x ++ padFields rest
def pklBlock (flags hash ctxLen msgLen : Nat) (fields : List (List Byte)) : List Byte :=
  List.replicate 8 0 ++ [BitVec.ofNat 8 flags, BitVec.ofNat 8 hash, 0, BitVec.ofNat 8 ctxLen, 0, 0, 0, 0] ++ List.replicate 4 0
    ++ beBytes 4 msgLen ++ List.replicate 8 0 ++ padFields fields

/-- OPTIONS of R125. -/
structure SigOpt where
  alg : Nat
  hash : Nat
  pre : Bool
  det : Bool
deriving DecidableEq, Repr

def sigOpt (o : Nat) : SigOpt := ⟨o % 16, o / 16 % 16, o.testBit 8, o.testBit 9⟩

/-- The octets of the message area: a message of 1 octet to 64 MiB, or a digest of HASH. -/
def sigMsgOk (p : SigOpt) (n : Nat) : Bool := if p.pre then n == hashLenOf p.hash else decide (1 ≤ n) && decide (n ≤ 67108864)

/-- Ranges of OPTIONS and DATA: HASH names a hash where one is used; the ML-DSA context string fits and is followed by zeros. -/
def sigOptOk (ml sign : Bool) (w : BitVec 1024) : Bool :=
  let p := sigOpt (cOptions w)
  let dt := cData w
  cOptions w < 2 ^ 10 && (sign || !p.det)
    && (if ml then decide (4 ≤ p.alg) && decide (p.alg ≤ 6) && (if p.pre then decide (1 ≤ p.hash) && decide (p.hash ≤ 3) else p.hash == 0)
          && decide (leAt dt 0 1 ≤ 63) && allZero (dt.drop (1 + leAt dt 0 1))
        else decide (1 ≤ p.alg) && decide (p.alg ≤ 3) && decide (1 ≤ p.hash) && decide (p.hash ≤ 3) && allZero dt)

/-- The ML-DSA context string. -/
def sigCtx (w : BitVec 1024) : List Byte := ((cData w).drop 1).take (leAt (cData w) 0 1)

/-- The digest that ECDSA signs. -/
def sigDigest (p : SigOpt) (msg : List Byte) : List Byte := if p.pre then msg else libHash p.hash msg

/-- What the PKL engine returns, or ST_FORMAT (R213). -/
def pklCall (op md : Nat) (block key : List Byte) (rnd : Nat) (fin : List Byte → Done) : Option Done :=
  match pklCompute op md block key (Config.freeBytes rnd 66) with
  | none => quit stFormat
  | some out => some (fin out)

/-- A PKL call that draws nothing. -/
def pklPlain (op md : Nat) (block key : List Byte) (fin : List Byte → Done) : Option Done :=
  match pklCompute op md block key [] with
  | none => quit stFormat
  | some out => some (fin out)

/-- ECDSA_SIGN and MLDSA_SIGN (R126). -/
def Dev.signFn (d : Dev) (ml : Bool) (h : Nat) (bs : List Byte) (us : List KeyUse) : Dev :=
  d.library (if ml then 0xA2 else 0xA0) h bs (fun d c i =>
    let p := sigOpt (cOptions c.ctx)
    let len := if ml then sigLen p.alg else 2 * curveLen p.alg
    if !keysZero c.ctx 1 || !sigOptOk ml true c.ctx || dFuncFlags c.desc != 0 || !allZero (dParams c.desc) then (d, quit stBadDescriptor)
    else if !sigMsgOk p (dInLen c.desc) || dOutLen c.desc != len then (d, quit stLength)
    else d.withInput i fun inp => d.withKeys h c us [if ml then 4 else 3] (!p.det) [⟨0, useEnc, some false, fun a => a == (if ml then 0x10 + p.alg else 7 + p.alg)⟩] (fun d ks =>
      let fl := p.det.toNat + (if ml then 2 * p.pre.toNat else 0)
      let op := if ml then 0x0D else 0x03
      let block := if ml then pklBlock fl p.hash (sigCtx c.ctx).length inp.length [sigCtx c.ctx, inp]
        else pklBlock fl p.hash 0 0 [sigDigest p inp]
      let fin := fun out => (⟨stOk, [], slice out 0 len⟩ : Done)
      (d.libRead c, if p.det then pklPlain op p.alg block (kAt ks 0).key fin else pklCall op p.alg block (kAt ks 0).key (d.nfree - 1) fin)))

/-- ECDSA_VERIFY and MLDSA_VERIFY (R126): the public key, the signature and the message are the input area. -/
def Dev.verifyFn (d : Dev) (ml : Bool) (h : Nat) (bs : List Byte) (us : List KeyUse) : Dev :=
  d.library (if ml then 0xA3 else 0xA1) h bs (fun d c i =>
    let p := sigOpt (cOptions c.ctx)
    let n := leAt (dParams c.desc) 0 4
    let kl := if ml then pkLen p.alg else 1 + 2 * curveLen p.alg
    let sl := if ml then sigLen p.alg else 2 * curveLen p.alg
    if !keysZero c.ctx 0 || !sigOptOk ml false c.ctx || dFuncFlags c.desc != 0 || !allZero ((dParams c.desc).drop 4) || !noOutput c.desc then
      (d, quit stBadDescriptor)
    else if !sigMsgOk p n || dInLen c.desc != kl + sl + n then (d, quit stLength)
    else d.withInput i fun inp => d.withKeys h c us [if ml then 4 else 3] false [] (fun d _ =>
      let pk := slice inp 0 kl
      let sg := slice inp kl sl
      let msg := slice inp (kl + sl) n
      let block := if ml then pklBlock (2 * p.pre.toNat) p.hash (sigCtx c.ctx).length n [pk, sg, sigCtx c.ctx, msg]
        else pklBlock 0 p.hash 0 0 [sigDigest p msg, pk, slice sg 0 (curveLen p.alg), slice sg (curveLen p.alg) (curveLen p.alg)]
      (d.libRead c, pklPlain (if ml then 0x0E else 0x04) p.alg block [] (fun out => ⟨if leAt out 0 8 == 1 then stOk else stVerifyFail, [], []⟩))))

def Dev.ecdsaSign (d : Dev) (h : Nat) (bs : List Byte) (us : List KeyUse) : Dev := d.signFn false h bs us
def Dev.mldsaSign (d : Dev) (h : Nat) (bs : List Byte) (us : List KeyUse) : Dev := d.signFn true h bs us
def Dev.ecdsaVerify (d : Dev) (h : Nat) (bs : List Byte) (us : List KeyUse) : Dev := d.verifyFn false h bs us
def Dev.mldsaVerify (d : Dev) (h : Nat) (bs : List Byte) (us : List KeyUse) : Dev := d.verifyFn true h bs us

/-- RSA_SIGN (R125, R126): the private key stays in its key block until the PKL engine opens it under KEY1; a result that its public
exponent does not bring back is a fault of the lane (R220). DESIGN CHOICE: PREHASHED may be set or clear, for the input is a digest
either way (entry 63). -/
def Dev.rsaSign (d : Dev) (h : Nat) (bs : List Byte) (us : List KeyUse) : Dev :=
  d.library 0xA4 h bs (fun d c i =>
    let p := sigOpt (cOptions c.ctx)
    let n := leAt (dParams c.desc) 0 4
    let k := dOutLen c.desc
    if cKey c.ctx 0 != 0 || !keysZero c.ctx 2 || 2 ^ 9 ≤ cOptions c.ctx || !(p.alg == 7 || p.alg == 8) || p.hash = 0 || 3 < p.hash
        || !allZero (cData c.ctx) || dFuncFlags c.desc != 0 || !allZero ((dParams c.desc).drop 4) then (d, quit stBadDescriptor)
    else if n = 0 || dInLen c.desc != n + hashLenOf p.hash || k % 32 != 0 || k < 256 || 1024 < k then (d, quit stLength)
    else d.withInput i fun inp => d.withKeys h c us [3] (p.alg == 8) [⟨1, useWrap, some false, fun a => a == 3⟩] (fun d ks =>
      let kb := inp.take n
      let d := d.libRead c
      match Config.rsaModulus (kAt ks 0).key kb with
      | none => (d, quit stFormat)
      | some m =>
        if m != k then (d, quit stLength)
        else
          let salt := if p.alg = 8 then Config.freeBytes (d.nfree - 1) 64 else []
          let block := pklBlock 0 0 0 n [kb, Config.rsaEncode p.alg p.hash (inp.drop n) k salt]
          if !crtOk (k / 32) block (kAt ks 0).key then (d.laneFault 3, quit stFault)
          else (d, pklPlain 0x01 (k / 32) block (kAt ks 0).key (fun out => ⟨stOk, [], slice out 0 k⟩))))

/-- MLKEM_ENCAPS and MLKEM_DECAPS (R126, R127): the shared secret goes into the record that TARGET names, whose read is that of the
use at place 4, after the key positions. -/
def Dev.mlkem (d : Dev) (decaps : Bool) (h : Nat) (bs : List Byte) (us : List KeyUse) : Dev :=
  d.library (if decaps then 0xB1 else 0xB0) h bs (fun d c i =>
    let alg := cOptions c.ctx
    let target := bytesBv 64 (slice (dParams c.desc) 0 8)
    let inl := if decaps then ctLen alg else ekLen alg
    let outl := if decaps then 0 else ctLen alg
    if !keysZero c.ctx (if decaps then 1 else 0) || alg < 9 || 11 < alg || !allZero (cData c.ctx) || dFuncFlags c.desc != 0
        || !allZero ((dParams c.desc).drop 8) || (decaps && !noOutput c.desc) then (d, quit stBadDescriptor)
    else if dInLen c.desc != inl || dOutLen c.desc != outl then (d, quit stLength)
    else if d.xks.waiting then (d, none)
    else
      let z := match d.libUnits [4, 5] with
        | some s => (d, some s)
        | none => d.targetCheck c.part target (useAt us 4).read
      match z.2 with
      | some s => (z.1, quit s)
      | none =>
        let d := z.1
        d.withInput i fun inp => d.withKeys h c us [4, 5] (!decaps) (if decaps then [⟨0, useDec, some false, fun a => a == 7 + alg⟩] else []) (fun d ks =>
          let op := if decaps then 0x0C else 0x0B
          let d := d.libRead c
          match pklCompute op alg (pklBlock 0 0 0 0 [inp]) (kAt ks 0).key (if decaps then [] else Config.freeBytes (d.nfree - 1) 66) with
          | none => (d, quit stFormat)
          | some out =>
            let i := hRec target
            let d := d.install i (installAttr op alg c.part 0) (slice out 0 32)
            (d, some ⟨stOk, bvBytes 8 (mkHandle 2 i (d.xrec i).gen), slice out 32 outl⟩)))

def Dev.mlkemEncaps (d : Dev) (h : Nat) (bs : List Byte) (us : List KeyUse) : Dev := d.mlkem false h bs us
def Dev.mlkemDecaps (d : Dev) (h : Nat) (bs : List Byte) (us : List KeyUse) : Dev := d.mlkem true h bs us

/-! ## Customer functions (R67, R182) -/

/-- A command naming a customer function is admitted if it is not yet, and starts its program on thread `h`; what it does
there its own instructions decide. -/
def Dev.customerFunction (d : Dev) (e h : Nat) (cached : Bool) : Dev :=
  let f := dFunction (d.cmd e).desc
  if !(decide (0x800 ≤ f) && decide (f < 0x1000)) then d
  else (if (d.cmd e).st == .staged then d.commandAdmit e else d).threadAssign e h cached

end Sys2Proof.Machine
end

