-- ==== Sys2Proof/Machine/Programs.lean ====
section
/-! DEFINITION. Program images: the layout of R181, the rules of R158, admission into the program store (R182, R344). -/

namespace Sys2Proof.Machine

/-! ## The layout (R181) -/

def imgFuncs (b : List Byte) : Nat := leAt b 6 2
def imgId (b : List Byte) : Nat := leAt b 8 8
def imgVersion (b : List Byte) : Nat := leAt b 0x10 4
def imgCodeSize (b : List Byte) : Nat := leAt b 0x14 4
def imgSigner (b : List Byte) : Nat := leAt b 0x18 2
/-- Where the function table ends, where the code section begins and ends, and where the signatures begin. -/
def imgTableEnd (b : List Byte) : Nat := 0x80 + 8 * imgFuncs b
def imgCode (b : List Byte) : Nat := (imgTableEnd b + 63) / 64 * 64
def imgCodeEnd (b : List Byte) : Nat := imgCode b + imgCodeSize b
def imgSigs (b : List Byte) : Nat := (imgCodeEnd b + 63) / 64 * 64
def imgLength (b : List Byte) : Nat := imgSigs b + 96 + 4627

/-- Function `k` of the table: FUNCTION_ID and ENTRY. -/
def imgFunc (b : List Byte) (k : Nat) : Nat × Nat := (leAt b (0x80 + 8 * k) 2, leAt b (0x84 + 8 * k) 4)
def imgTable (b : List Byte) : List (Nat × Nat) := (List.range (imgFuncs b)).map (imgFunc b)

/-- The words of the code section. -/
def imgWords (b : List Byte) : List (BitVec 32) :=
  (List.range (imgCodeSize b / 4)).map (fun k => BitVec.ofNat 32 (leAt b (imgCode b + 4 * k) 4))

/-! ## Check 1 of R344 -/

/-- The first byte among `n` from `off` that differs from `want`. -/
def firstDiff (b : List Byte) (off : Nat) (want : List Byte) : Option Nat :=
  (List.range want.length).findSome? (fun i => if slice b (off + i) 1 = (want.drop i).take 1 then none else some (off + i))

/-- The header's first offending byte: a field is reported by its first byte, a reserved byte or one of MAGIC by itself. -/
def headerOffence (b : List Byte) : Option Nat :=
  if b.length < 0x80 then some b.length
  else match firstDiff b 0 [0x43, 0x4C, 0x5A, 0x49] with
    | some o => some o
    | none =>
      if leAt b 4 2 ≠ 1 then some 4
      else if imgFuncs b = 0 ∨ 1024 < imgFuncs b then some 6
      else if imgCodeSize b < 4 ∨ 2097152 < imgCodeSize b ∨ imgCodeSize b % 4 ≠ 0 then some 0x14
      else if 15 < imgSigner b then some 0x18
      else match firstDiff b 0x1A (List.replicate 6 0) with
        | some o => some o
        | none => firstDiff b 0x50 (List.replicate 48 0)

/-- The FUNCTION_ID is in the range of the SIGNER. -/
def funcIdOk (signer f : Nat) : Bool :=
  if signer = 0 then decide (0x10 ≤ f) && decide (f ≤ 0x7FF) else decide (0x800 ≤ f) && decide (f ≤ 0xFFF)

/-- The first offending byte of table entry `k`. -/
def entryOffence (b : List Byte) (k : Nat) : Option Nat :=
  let o := 0x80 + 8 * k
  let f := imgFunc b k
  if !funcIdOk (imgSigner b) f.1 || ((imgTable b).take k).any (fun x => x.1 == f.1) then some o
  else match firstDiff b (o + 2) [0, 0] with
    | some x => some x
    | none => if f.2 % 4 ≠ 0 ∨ imgCodeSize b ≤ f.2 then some (o + 4) else none

/-- A branch or jump at word `k` stays inside a code section of `n` words (R158). -/
def targetOk (n k : Nat) : Insn → Bool
  | .br _ _ _ off => decide (0 ≤ (k : Int) + off.toInt) && decide ((k : Int) + off.toInt < n)
  | .jump _ off => decide (0 ≤ (k : Int) + off.toInt) && decide ((k : Int) + off.toInt < n)
  | _ => true

/-- Word `k` of a code section of `n` words keeps R158. -/
def wordOk (n k : Nat) (w : BitVec 32) : Bool :=
  match decodeInsn w with
  | some i => targetOk n k i
  | none => false

/-- The first word, from `k` on, that R158 refuses. -/
def codeOffence (n : Nat) : Nat → List (BitVec 32) → Option Nat
  | _, [] => none
  | k, w :: ws => if wordOk n k w then codeOffence n (k + 1) ws else some k

/-- The offset of the first offending byte of the image. -/
def imageOffence (b : List Byte) : Option Nat :=
  match headerOffence b with
  | some o => some o
  | none =>
    if b.length < imgLength b then some b.length
    else match (List.range (imgFuncs b)).findSome? (entryOffence b) with
      | some o => some o
      | none => match codeOffence (imgCodeSize b / 4) 0 (imgWords b) with
        | some k => some (imgCode b + 4 * k)
        | none => if imgLength b < b.length then some (imgLength b) else none

/-! ## Checks 2 to 6 -/

/-- The public keys that check the image's signatures: the vendor's, or those of an installed code-signing key. -/
def Dev.imageKeys (d : Dev) (signer : Nat) : Option (List Byte × List Byte) :=
  if signer = 0 then some (Config.vendorKey, Config.vendorKey)
  else match d.codesign signer with
    | (1, p) => some (slice p 8 97, slice p 112 2592)
    | _ => none

/-- CODE_DIGEST over the function table and the code section, then both signatures over everything up to the end of the code. -/
def imageSigned (b : List Byte) (k : List Byte × List Byte) : Bool :=
  slice b 0x20 48 == Config.sha384 (slice b 0x80 (8 * imgFuncs b) ++ slice b (imgCode b) (imgCodeSize b))
    && Config.verify 0 k.1 (b.take (imgCodeEnd b)) (slice b (imgSigs b) 96)
    && Config.verify 1 k.2 (b.take (imgCodeEnd b)) (slice b (imgSigs b + 96) 4627)

/-- The IMAGE_FLOOR record of an IMAGE_ID's low 32 bits (R347). -/
def Dev.imageFloor (d : Dev) (id : Nat) : Option (List Byte) := (d.newestRec 1 0x20 (id % 2 ^ 32)).map Rec.payload

/-- IMAGE_VERSION is below the floor recorded for this IMAGE_ID. -/
def Dev.belowFloor (d : Dev) (b : List Byte) : Bool :=
  match d.imageFloor (imgId b) with
  | some p => leAt p 0 8 == imgId b && decide (imgVersion b < leAt p 8 4)
  | none => false

/-- Where the image clashes with another: a FUNCTION_ID that belongs to an image of another IMAGE_ID, or another recorded IMAGE_ID
with the same low 32 bits. -/
def Dev.imageClash (d : Dev) (b : List Byte) : Option Nat :=
  let taken (k : Nat) : Bool := match d.funcEntry (imgFunc b k).1 with
    | some x => (tget (fun _ => Image.reset) d.prog.images x.1).id.toNat != imgId b
    | none => false
  match (List.range (imgFuncs b)).find? taken with
  | some k => some (0x80 + 8 * k)
  | none => match d.imageFloor (imgId b) with
    | some p => if leAt p 0 8 = imgId b then none else some 8
    | none => none

/-- Image number `k` is in use: the function table names it, or a command that has not ended runs it, one that runs on past its
completion included. -/
def Dev.imageInUse (d : Dev) (k : Nat) : Bool :=
  d.inService k || d.dsp.cmds.any (fun e => (e.2.st == .admitted || e.2.st == .running || e.2.st == .released || decide (8192 ≤ e.1)) && (match e.2.image with
    | some x => x.1 == k
    | none => false))

/-- Bytes of the program store that the images in use take. -/
def Dev.storeUsed (d : Dev) : Nat := ((d.prog.images.filter (fun x => d.imageInUse x.1)).map (fun x => 4 * x.2.code.length)).foldl (· + ·) 0

/-- The image written beside those in use, and every table entry of its IMAGE_ID switched to it in one step (R182). -/
def Dev.placeImage (d : Dev) (b : List Byte) : Dev :=
  let k := d.prog.next
  let olds := (d.prog.images.filter (fun x => x.2.id.toNat == imgId b)).map Prod.fst
  let d := olds.foldl (fun x o => x.retireImage o) d
  let images := d.prog.images.filter (fun x => d.imageInUse x.1)
  let img : Image := ⟨BitVec.ofNat 64 (imgId b), imgVersion b, imgSigner b, imgTable b, imgWords b⟩
  let funcs := (imgTable b).foldl (fun t f => tput (fun _ => none) t f.1 (some (k, f.2))) d.prog.funcs
  { d with prog := ⟨tput (fun _ => Image.reset) images k img, funcs, k + 1⟩ }

/-- The IMAGE_FLOOR record that raises the floor. -/
def floorPayload (b : List Byte) : List Byte :=
  leBytes 8 (imgId b) ++ leBytes 4 (imgVersion b) ++ leBytes 2 (imgSigner b) ++ [0, 0] ++ slice b 0x20 48

/-- The checks of R344 in order. -/
def Dev.imageCheck (d : Dev) (b : List Byte) : Option (Nat × List Byte) :=
  match imageOffence b with
  | some o => some (stFormat, leBytes 4 o)
  | none => match d.imageKeys (imgSigner b) with
    | none => some (stKeyAbsent, [])
    | some k =>
      if !imageSigned b k then some (stAuthFail, [])
      else if d.belowFloor b then some (stStaleEpoch, [])
      else match d.imageClash b with
        | some o => some (stFormat, leBytes 4 o)
        | none => if 4194304 < d.storeUsed + imgCodeSize b then some (stLength, []) else none

/-- IMAGE_ADMIT. `bulk` is the image. -/
def Chip.imageAdmit (c : Chip) (bulk : Option (List Byte)) : Chip :=
  c.serve 0x0202 false (fun c r =>
    let c := c.onDev (fun d => d.bulkRead r)
    match bulk with
    | none => c.reply r stBadDescriptor
    | some b =>
      if r.paramLen != 0 || r.authLen != 0 || b.length != r.bulkLen then c.reply r stBadDescriptor
      else match c.dev.imageCheck b with
        | some s => c.reply r s.1 s.2
        | none => if c.dev.signFull then c.reply r stQuota else c.audited r (fun c =>
          let d := (c.dev.nvsNow (.record ⟨1, 0x20, imgId b % 2 ^ 32, floorPayload b, 0, 0, true, false⟩)).placeImage b
          { c with dev := d }.reply r stOk (leBytes 8 (imgId b) ++ leBytes 4 (imgVersion b) ++ leBytes 2 (imgFuncs b) ++ [0, 0])))

/-- INSTRUCTION_CACHE_FILL (R130, R132, R421): a fill completes; for an uncorrectable line of the program store the command of the
waiting thread ends with ST_FAULT, the image is retired and an audit entry written. -/
def Chip.icacheFill (c : Chip) (h : Nat) (ok : Bool) : Chip :=
  let im := match (c.dev.thr h).cmd with | some e => (c.dev.cmd e).image | none => none
  if ok || !c.dev.fillMeets h then c.onDev (fun d => d.icacheFill h ok)
  else match im with
    | some k => (c.onDev (fun d => (d.icacheFill h false).retireImage k.1)).auditAlarm
    | none => c.onDev (fun d => d.icacheFill h false)

end Sys2Proof.Machine
end

