-- ==== Sys2Proof/Machine/Spdm.lean ====
section
/-! DEFINITION. The SPDM responder behind the DOE mailbox (R35, R349, R350): the messages as DSP0274 version 1.2 lays them out, with the
algorithms, the certificate slot and the measurements that R350 gives. -/

namespace Sys2Proof.Machine

/-- A DOE request object of `len` bytes is accepted; a longer one sets the DOE Error bit and is discarded (R35). The Warden answers. -/
def Chip.doeTake (c : Chip) (len : Nat) (f : Chip → Chip) : Chip :=
  if !Dev.doeAccepts len then c.onDev (fun d => { d with hiu := { d.hiu with doeError := true } })
  else if !c.dev.wdn.running then c
  else f c

def Dev.setSpdm (d : Dev) (s : Spdm) : Dev := { d with wdn := { d.wdn with spdm := s } }
def Chip.spdm (c : Chip) : Spdm := c.dev.wdn.spdm

/-- A response goes out; `proto` 1 SPDM, 2 Secured SPDM. -/
def Chip.doeSay (c : Chip) (proto : Nat) (bs : List Byte) : Chip := c.onDev (fun d => d.emit (.doe proto bs))

/-- An ERROR response with its code: 1 InvalidRequest, 2 InvalidSession, 4 UnexpectedRequest, 6 DecryptError. -/
def Chip.spdmError (c : Chip) (code : Byte) : Chip := c.doeSay 1 [0x12, 0x7F, code, 0]

/-- A request of an established negotiation: the object accepted, its code as named, the negotiation done. -/
def Chip.spdmAsk (c : Chip) (req : List Byte) (code : Nat) (ready : Spdm → Bool) (f : Chip → Chip) : Chip :=
  c.doeTake req.length (fun c =>
    if leAt req 1 1 ≠ code ∨ req.length < 4 then c.spdmError 1
    else if !ready c.spdm then c.spdmError 4
    else f c)

/-! ## Negotiation -/

/-- GET_VERSION: version 1.2 alone; what was negotiated before is dropped, with the session. -/
def Chip.getVersion (c : Chip) (req : List Byte) : Chip :=
  c.spdmAsk req 0x84 (fun _ => true) (fun c =>
    let rsp : List Byte := [0x10, 0x04, 0, 0, 0, 1, 0, 0x12]
    (c.onDev (fun d => d.setSpdm { Spdm.reset with version := true, vca := req ++ rsp })).doeSay 1 rsp)

/-- GET_CAPABILITIES: certificates, challenge, signed measurements, encryption, MAC and key exchange; objects of up to 16 KB (R35). -/
def Chip.getCapabilities (c : Chip) (req : List Byte) : Chip :=
  c.spdmAsk req 0xE1 (fun s => s.version && !s.caps) (fun c =>
    let rsp : List Byte := [0x12, 0x61, 0, 0, 0, Config.spdmTiming, 0, 0] ++ leBytes 4 0x2D6 ++ leBytes 4 16384 ++ leBytes 4 16384
    (c.onDev (fun d => d.setSpdm { d.wdn.spdm with caps := true, vca := d.wdn.spdm.vca ++ req ++ rsp })).doeSay 1 rsp)

/-- NEGOTIATE_ALGORITHMS: `asym`, `hash`, `dhe` and `aead` are the masks that the request offers. Only ECDSA P-384 with SHA-384, DHE
secp384r1 and AES-256-GCM are selected; a request that offers no signature or hash of these is refused. -/
def Chip.negotiate (c : Chip) (req : List Byte) (asym hash dhe aead : Nat) : Chip :=
  c.spdmAsk req 0xE3 (fun s => s.caps && !s.algs) (fun c =>
    if !asym.testBit 7 || !hash.testBit 1 then c.spdmError 1
    else
      let rsp : List Byte := [0x12, 0x63, 2, 0] ++ leBytes 2 52 ++ [1, 0] ++ leBytes 4 4 ++ leBytes 4 0x80 ++ leBytes 4 2
        ++ List.replicate 12 0 ++ [0, 0, 0, 0] ++ List.replicate 8 0
        ++ [2, 0x20, (if dhe.testBit 4 then 0x10 else 0), 0, 3, 0x20, (if aead.testBit 1 then 2 else 0), 0]
      (c.onDev (fun d => d.setSpdm { d.wdn.spdm with algs := true, vca := d.wdn.spdm.vca ++ req ++ rsp })).doeSay 1 rsp)

/-! ## Certificates (R349) -/

/-- The chain of slot 0: length, then the vendor chain, then the device certificate; empty before PROVISION. -/
def Dev.certChain (d : Dev) : List Byte :=
  match d.stateOf 2 with
  | some cert => leBytes 2 (4 + Config.vendorChain.length + cert.length) ++ [0, 0] ++ Config.vendorChain ++ cert
  | none => []

def negotiated (s : Spdm) : Bool := s.algs

/-- A certificate message is answered and kept for the next CHALLENGE. -/
def Chip.certSay (c : Chip) (req rsp : List Byte) : Chip :=
  (c.onDev (fun d => d.setSpdm { d.wdn.spdm with certs := d.wdn.spdm.certs ++ req ++ rsp })).doeSay 1 rsp

def Chip.getDigests (c : Chip) (req : List Byte) : Chip :=
  c.spdmAsk req 0x81 negotiated (fun c =>
    let ch := c.dev.certChain
    if ch.isEmpty then c.certSay req [0x12, 0x01, 0, 0] else c.certSay req ([0x12, 0x01, 0, 1] ++ Config.sha384 ch))

def Chip.getCertificate (c : Chip) (req : List Byte) : Chip :=
  c.spdmAsk req 0x82 negotiated (fun c =>
    let ch := c.dev.certChain
    let off := leAt req 4 2
    let n := min (leAt req 6 2) (ch.length - off)
    if leAt req 2 1 % 16 ≠ 0 ∨ ch.length ≤ off then c.spdmError 1
    else c.certSay req ([0x12, 0x02, 0, 0] ++ leBytes 2 n ++ leBytes 2 (ch.length - off - n) ++ slice ch off n))

/-! ## Measurements (R350) -/

/-- The newest payloads of a type in the program-signature journal, by subject. -/
def Dev.signaturePayloads (d : Dev) (type : Nat) (subjects : List Nat) : List Byte :=
  (subjects.map (fun s => match d.newestRec 1 type s with | some r => r.payload | none => [])).flatten

/-- IMAGE_IDs in service, in rising order. -/
def Dev.admittedIds (d : Dev) : List Nat :=
  (((d.prog.images.filter (fun x => d.inService x.1)).map (fun x => x.2.id.toNat)).foldl (fun t i => tins (i, ()) t) ([] : Tab Unit)).map Prod.fst

/-- VERSION and digest of the active patch, all zero with ROM only. -/
def Dev.patchMeasure (d : Dev) : List Byte :=
  match d.rd Fld.WDN_LIFECYCLE_PATCH with
  | 0 => List.replicate 52 0
  | b => match d.patchBank (b - 1) with
    | some h => leBytes 4 (d.rd Fld.WDN_LIFECYCLE_PATCH_VERSION) ++ slice h 16 48
    | none => List.replicate 52 0

/-- Measurement `i`. -/
def Chip.measurement (c : Chip) (i : Nat) : List Byte :=
  let d := c.dev
  match i with
  | 1 => Config.romDigest
  | 2 => d.patchMeasure
  | 3 => [BitVec.ofNat 8 c.lifecycle, BitVec.ofNat 8 c.fz.debug]
  | 4 => leBytes 4 d.configVersion ++ Config.sha384 d.wdn.config
  | 5 => Config.sha384 (d.signaturePayloads 0x20 (d.admittedIds.map (· % 2 ^ 32)))
  | 6 => Config.sha384 (d.signaturePayloads 0x21 ((List.range 15).map (· + 1)))
  | 7 => bvBytes 8 c.tmpState ++ bvBytes 8 c.bd.flags
  | _ => []

/-- A measurement block: index, specification, size, then type, size and value. -/
def Chip.measureBlock (c : Chip) (i : Nat) : List Byte :=
  let v := c.measurement i
  [BitVec.ofNat 8 i, 1] ++ leBytes 2 (v.length + 3) ++ [BitVec.ofNat 8 (0x80 + i)] ++ leBytes 2 v.length ++ v

/-- The identity key's signature over a transcript, bound to what it is for. -/
def Dev.spdmSign (d : Dev) (what : String) (transcript : List Byte) : List Byte :=
  slice (Config.sign 0 d.attestSeed (asciiBytes what ++ Config.sha384 transcript)) 0 96

/-- The digest of all measurements, which a summary carries. -/
def Chip.measureSummary (c : Chip) : List Byte := Config.sha384 ((List.range 7).map (fun i => c.measureBlock (i + 1))).flatten

/-- CHALLENGE (R349): signed by the identity key over everything since GET_VERSION. -/
def Chip.challenge (c : Chip) (req : List Byte) : Chip :=
  c.spdmAsk req 0x83 negotiated (fun c =>
    if req.length ≠ 36 ∨ leAt req 2 1 ≠ 0 ∨ c.dev.certChain.isEmpty then c.spdmError 1
    else
      let d := c.dev
      let head := [0x12, 0x03, 0, 1] ++ Config.sha384 d.certChain ++ Config.freeBytes d.nfree 32
        ++ (if leAt req 3 1 = 0 then [] else c.measureSummary) ++ [0, 0]
      let sig := d.spdmSign "challenge_auth" (d.wdn.spdm.vca ++ d.wdn.spdm.certs ++ req ++ head)
      (c.onDev (fun d => d.takeFree.setSpdm { d.wdn.spdm with certs := [] })).doeSay 1 (head ++ sig))

/-- GET_MEASUREMENTS: operation 0 the number, 0xFF all, else one; signed when attribute bit 0 asks for it. -/
def Chip.getMeasurements (c : Chip) (req : List Byte) : Chip :=
  c.spdmAsk req 0xE0 negotiated (fun c =>
    let op := leAt req 3 1
    let signed := (leAt req 2 1).testBit 0
    let is := if op = 0 then [] else if op = 0xFF then (List.range 7).map (· + 1) else [op]
    if 7 < op ∧ op ≠ 0xFF then c.spdmError 1
    else
      let d := c.dev
      let recs := (is.map c.measureBlock).flatten
      let head := [0x12, 0x60, (if op = 0 then 7 else 0), 0, BitVec.ofNat 8 is.length] ++ leBytes 3 recs.length ++ recs
        ++ Config.freeBytes d.nfree 32 ++ [0, 0]
      let t := d.wdn.spdm.meas ++ req ++ head
      let sig := if signed then d.spdmSign "measurements" (d.wdn.spdm.vca ++ t) else []
      (c.onDev (fun d => d.takeFree.setSpdm { d.wdn.spdm with meas := if signed then [] else t })).doeSay 1 (head ++ sig))

/-! ## The session: the key schedule of DSP0274 and the records of DSP0277 (R35, R350) -/

/-- HKDF-Expand to at most 48 octets, of a label and a context as SPDM 1.2 joins them. -/
def spdmExpand (secret : List Byte) (label : String) (ctx : List Byte) (n : Nat) : List Byte :=
  slice (Config.hmac384 secret (leBytes 2 n ++ asciiBytes ("spdm1.2 " ++ label) ++ ctx ++ [1])) 0 n

/-- The secrets of the handshake from the agreed value and the transcript so far: requester's, responder's, master. -/
def handshakeSecrets (dhe transcript : List Byte) : List Byte :=
  let hs := Config.hmac384 (List.replicate 48 0) dhe
  let th := Config.sha384 transcript
  spdmExpand hs "req hs data" th 48 ++ spdmExpand hs "rsp hs data" th 48
    ++ Config.hmac384 (spdmExpand hs "derived" [] 48) (List.replicate 48 0)

/-- The secrets of the open session from the master secret and the whole transcript: requester's, then responder's. -/
def dataSecrets (master transcript : List Byte) : List Byte :=
  let th := Config.sha384 transcript
  spdmExpand master "req app data" th 48 ++ spdmExpand master "rsp app data" th 48

/-- The verify data of one side. -/
def verifyData (secret transcript : List Byte) : List Byte :=
  Config.hmac384 (spdmExpand secret "finished" [] 48) (Config.sha384 transcript)

def Spdm.reqSecret (s : Spdm) : List Byte := slice s.secret 0 48
def Spdm.rspSecret (s : Spdm) : List Byte := slice s.secret 48 48

/-- The nonce of record `n` under a secret. -/
def recordNonce (secret : List Byte) (n : Nat) : List Byte :=
  let iv := spdmExpand secret "iv" [] 12
  bvBytes 12 (bytesBv 96 iv ^^^ BitVec.ofNat 96 n)

/-- A secured record: session identifier, length, then the message sealed under AES-256-GCM. -/
def Spdm.seal (s : Spdm) (msg : List Byte) : List Byte :=
  let head := s.sid ++ leBytes 2 (msg.length + 18)
  head ++ Config.gcmSeal (spdmExpand s.rspSecret "key" [] 32) (recordNonce s.rspSecret s.tx) head (leBytes 2 msg.length ++ msg)

/-- The message in a secured record; none when the record does not open. -/
def Spdm.unseal (s : Spdm) (rec : List Byte) : Option (List Byte) :=
  if leAt rec 4 2 + 6 ≠ rec.length then none
  else match Config.gcmOpen (spdmExpand s.reqSecret "key" [] 32) (recordNonce s.reqSecret s.rx) (rec.take 6) (rec.drop 6) with
    | some p => if leAt p 0 2 + 2 ≤ p.length then some (slice p 2 (leAt p 0 2)) else none
    | none => none

/-- A secured answer goes out. -/
def Chip.securedSay (c : Chip) (msg : List Byte) : Chip :=
  (c.doeSay 2 (c.spdm.seal msg)).onDev (fun d => d.setSpdm { d.wdn.spdm with tx := d.wdn.spdm.tx + 1 })

/-- A request that runs inside the session: its record opens under the session's keys, or the session ends with DecryptError; the message
then has its code and its place. An unknown identifier is answered InvalidSession. -/
def Chip.securedAsk (c : Chip) (rec : List Byte) (code phase : Nat) (f : List Byte → Chip → Chip) : Chip :=
  c.doeTake rec.length (fun c =>
    let s := c.spdm
    if s.session = 0 || rec.take 4 != s.sid then c.spdmError 2
    else match s.unseal rec with
      | none => (c.onDev (fun d => d.setSpdm s.ended)).spdmError 6
      | some req =>
        let c := c.onDev (fun d => d.setSpdm { s with rx := s.rx + 1 })
        if leAt req 1 1 ≠ code ∨ req.length < 4 then c.securedSay [0x12, 0x7F, 1, 0]
        else if s.session ≠ phase then c.securedSay [0x12, 0x7F, 4, 0]
        else f req c)

/-- KEY_EXCHANGE: the agreement over secp384r1, signed by the identity key; the session is being set up. -/
def Chip.keyExchange (c : Chip) (req : List Byte) : Chip :=
  c.spdmAsk req 0xE4 (fun s => s.algs && s.session == 0) (fun c =>
    let d := c.dev
    if req.length < 138 ∨ leAt req 3 1 % 16 ≠ 0 ∨ d.certChain.isEmpty then c.spdmError 1
    else
      let n := d.nfree
      let pub := (Config.publicOf 0x09 (Config.freeBytes n 48)).drop 1
      let head := [0x12, 0x64, 0, 0] ++ Config.freeBytes (n + 1) 2 ++ [0, 0] ++ Config.freeBytes (n + 2) 32 ++ pub
        ++ (if leAt req 2 1 = 0 then [] else c.measureSummary) ++ [0, 0]
      let t := d.wdn.spdm.vca ++ Config.sha384 d.certChain ++ req ++ head
      let sig := d.spdmSign "key_exchange_rsp" t
      let secret := handshakeSecrets (Config.agree (Config.freeBytes n 48) (slice req 40 96)) (t ++ sig)
      let mac := verifyData (slice secret 48 48) (t ++ sig)
      (c.onDev (fun d => d.takeFree.takeFree.takeFree.setSpdm
        { d.wdn.spdm with session := 1, kex := t ++ sig ++ mac, secret := secret, sid := slice req 4 2 ++ Config.freeBytes (n + 1) 2,
                          rx := 0, tx := 0 })).doeSay 1 (head ++ sig ++ mac))

/-- FINISH: the requester's verify data over the transcript opens the session under its data secrets; a wrong one ends it. -/
def Chip.finishSession (c : Chip) (rec : List Byte) : Chip :=
  c.securedAsk rec 0xE5 1 (fun req c =>
    let s := c.spdm
    let rsp : List Byte := [0x12, 0x65, 0, 0]
    if slice req 4 48 == verifyData s.reqSecret (s.kex ++ slice req 0 4) && req.length == 52 then
      let open_ := { s with session := 2, kex := [], secret := dataSecrets (s.secret.drop 96) (s.kex ++ req ++ rsp), rx := 0, tx := 0 }
      (c.securedSay rsp).onDev (fun d => d.setSpdm open_)
    else (c.onDev (fun d => d.setSpdm s.ended)).spdmError 6)

/-- END_SESSION. -/
def Chip.endSession (c : Chip) (rec : List Byte) : Chip :=
  c.securedAsk rec 0xEC 2 (fun _ c => (c.securedSay [0x12, 0x6C, 0, 0]).onDev (fun d => d.setSpdm d.wdn.spdm.ended))

end Sys2Proof.Machine
end

