-- ==== Sys2Proof/Machine/Platform.lean ====
section
/-! DEFINITION. Platform Control beyond resets (R420 to R433): telemetry, lifetime statistics, scrubbing, the I3C port; and the links'
training. -/

namespace Sys2Proof.Machine

/-! ## Telemetry (R424, R425) -/

/-- A warning: its status bit and an in-band interrupt. -/
def Dev.telemWarn (d : Dev) (f : Fld) (b : Bool) : Dev := if b then (d.wr f 1).ibi 1 else d

/-- The sample of largest absolute value. -/
def widest (a b : Option Int) : Option Int := match a, b with
  | some x, some y => if x.natAbs < y.natAbs then some y else some x
  | some x, none => some x
  | none, y => y

/-- One temperature monitor's sample, in 1/16 °C. -/
def Dev.tempSample (d : Dev) (i : Nat) (v : BitVec 16) : Dev :=
  let t := v.toInt
  let hottest := match d.plt.hottest with | some h => max h t | none => t
  let d := { d.wr (Fld.PLT_TEMP_TJ i) v.toNat with plt := { d.plt with hottest := some hottest } }
  d.telemWarn Fld.PLT_TELEM_STATUS_TEMP (decide ((16 * d.rd Fld.PLT_TELEM_WARN_TEMP_C : Nat) < t))

/-- One voltage monitor's sample: 0.25 mV units, and the deviation in 0.01 %. -/
def Dev.voltSample (d : Dev) (i : Nat) (mv dev : BitVec 16) : Dev :=
  let d := (d.wr (Fld.PLT_VOLT_MV i) mv.toNat).wr (Fld.PLT_VOLT_DEV i) dev.toNat
  let d := { d with plt := { d.plt with devs := tmod (fun _ => none) d.plt.devs i (fun o => widest o (some dev.toInt)) } }
  d.telemWarn Fld.PLT_TELEM_STATUS_VOLT (decide (10 * d.rd Fld.PLT_TELEM_WARN_VOLT_PCT < dev.toInt.natAbs))

/-- TELEMETRY_SAMPLE: the samples of the 16 temperature, 24 voltage and 32 process monitors. -/
def Dev.telemetry (d : Dev) (temps mvs devs counts : List (BitVec 16)) : Dev :=
  if !d.plt.mainOn || d.plt.por then d
  else
    let d := (List.range 16).foldl (fun x i => x.tempSample i (temps.getD i 0)) d
    let d := (List.range 24).foldl (fun x i => x.voltSample i (mvs.getD i 0) (devs.getD i 0)) d
    (List.range 32).foldl (fun x i => x.wr (Fld.PLT_PROC_COUNT i) (counts.getD i 0).toNat) d

/-! ## Lifetime statistics (R299, R432) -/

/-- The bin of a value in bins of `w` from `lo`, the first and the last of `n` taking what lies beyond. -/
def binOf (n : Nat) (lo w v : Int) : Nat := min (n - 1) ((v - lo) / w).toNat

/-- The temperature bin of a sample in 1/16 °C, and the deviation bin of one in 0.01 %. -/
def tempBin (t : Int) : Nat := binOf 16 (-256) 128 t
def railBin (v : Int) : Nat := binOf 8 (-400) 100 v

/-- A period's operation merged with one of the same block that still waits (R299). -/
def NvKind.merge : NvKind → NvKind → NvKind
  | .raise b v, .raise _ w => .raise b (max v w)
  | .increment b, .increment _ => .add b 2
  | .increment b, .add _ n => .add b (n + 1)
  | .add b n, .increment _ => .add b (n + 1)
  | .add b n, .add _ m => .add b (n + m)
  | _, k => k

/-- A lifetime operation at the lowest priority. -/
def Dev.lifeAsk (d : Dev) (k : NvKind) : Dev :=
  let same (o : NvOp) : Bool := o.prio == 4 && o.kind.block == k.block
  if d.nvs.waiting.any same then
    { d with nvs := { d.nvs with waiting := d.nvs.waiting.map (fun o : NvOp => if same o then { o with kind := o.kind.merge k } else o) } }
  else d.nvsAsk 4 k 0 0

/-- LIFETIME_PERIOD: 60 s have passed; one operation for each block whose statistic changed. -/
def Dev.lifetime (d : Dev) : Dev :=
  if !d.bit Fld.NVS_STATUS_RECOVERED then d
  else
    let p := d.plt
    let d := match p.hottest with
      | some t => d.lifeAsk (.increment (4096 + tempBin t))
      | none => d
    let d := p.devs.foldl (fun x e => match e.2 with
      | some v => x.lifeAsk (.increment (4096 + 16 + 8 * e.1 + railBin v))
      | none => x) d
    let d := p.life.foldl (fun x e => x.lifeAsk (.add (4096 + e.1) e.2)) d
    let d := if p.highest = 0 then d else d.lifeAsk (.raise (4096 + 540) p.highest)
    let d := d.lifeAsk (.increment (4096 + 545))
    { d with plt := { d.plt with hottest := none, devs := [], life := [], highest := 0 } }

/-! ## Scrubbing (R280, R420 to R423) -/

/-- MRAM_SCRUB: corrected words are counted, uncorrectable ones recorded and reported; nothing is reprogrammed. -/
def Dev.mramScrub (d : Dev) (corrected : Nat) (bad : List Nat) : Dev :=
  if !d.bit Fld.NVS_STATUS_RECOVERED then d
  else
    let d := if corrected = 0 then d else (d.inc Fld.NVS_COUNTS_CORRECTED corrected).lifeAdd 282 corrected
    bad.foldl (fun x a => x.nvsUncorr a 2) d

/-- The lifetime block that counts corrected errors of a unit. -/
def correctedBlock (u : Nat) : Option Nat :=
  if u < 0x40 then some (208 + u)
  else if u = 0x40 then some 281
  else if 0x140 ≤ u ∧ u ≤ 0x148 then some (272 + (u - 0x140))
  else none

/-- A word of thread `h` marked uncorrectable: slice word (`sub` 1) or register. -/
def Thr.mark (t : Thr) (sub word : Nat) : Thr :=
  let bad (w : GWord) : GWord := { w with res := 7 }
  if sub = 1 then { setSlice t (word % 2048) (bad (sliceWord t (word % 2048))) with ecc := true }
  else if word % 32 = 0 then t
  else { t with g := tput (fun _ => GWord.zero) t.g (word % 32) (bad (tget (fun _ => GWord.zero) t.g (word % 32))), ecc := true }

/-- The request of thread `x / 16` on token `x % 16` leaves its queue with ST_FAULT. -/
def Dev.queueFault (d : Dev) (x : Nat) : Dev :=
  match tok (d.thr (x / 16)) (x % 16) with
  | .queued r _ _ _ =>
    let keep (l : List Nat) : List Nat := l.filter (· != x)
    let d := { d with ciph := { d.ciph with queue := d.ciph.queue.filter (fun q => q.1 != x) },
                      hpk := { d.hpk with sha2 := keep d.hpk.sha2, sha3 := keep d.hpk.sha3, lane := keep d.hpk.lane, ntt := keep d.hpk.ntt } }
    d.tokFail (x / 16) (x % 16) r stFault
  | _ => d

/-- The thread that runs entry `e`. -/
def Dev.runnerOf (d : Dev) (e : Nat) : Option Nat := tfind (fun _ t => t.cmd == some e) d.thrs

/-- Both copies of the tracking entry `e` fail: its command ends with no completion, and WARDEN_SELFCHECK is raised. -/
def Dev.trackingLost (d : Dev) (e : Nat) : Dev :=
  let d := match d.runnerOf e with | some h => d.endThread h | none => d
  { d.dropCmd e with tmp := { d.tmp with raised := d.tmp.raised ++ [4] } }

/-- A command whose HIU buffer word is uncorrectable fails with ST_FAULT. -/
def Dev.bufferFault (d : Dev) (e : Nat) : Dev :=
  match d.runnerOf e with
  | some h => d.endCommand h stFault
  | none => if (d.cmd e).st = .staged || (d.cmd e).st = .admitted || (d.cmd e).st = .fence then (d.failCmd e stFault).wdnTidy else d

/-- The outcome of R420 for an uncorrectable word of an array. -/
def Dev.arrayOutcome (d : Dev) (u : Nat) (x : ScrubHit) : Dev :=
  match u with
  | 0x140 => { d with vlt := { d.vlt with faulted := tput (fun _ => false) d.vlt.faulted x.idx true } }
  | 0x141 =>
    let v := d.vstage x.idx
    if d.vstageUsed x.idx && (v.phase == .staged || v.phase == .bond) then (d.changeDrop x.idx).noteAnswer v stFault else d
  | 0x142 => { d with dsp := { d.dsp with badCtx := tput (fun _ => false) d.dsp.badCtx x.idx true } }
  | 0x143 => if (d.cmd x.idx).st = .free then d else d.modCmd x.idx (fun c => { c with bad := some x.sub })
  | 0x144 => if x.sub = 1 && (d.cmd x.idx).st != .free then d.trackingLost x.idx else d
  | 0x146 => d.queueFault x.idx
  | 0x147 =>
    if x.sub = 0 then d.bufferFault x.idx
    else if x.idx < d.mtr.relay.length then
      { d with mtr := { d.mtr with relay := d.mtr.relay.eraseIdx x.idx } }.inc Fld.MTR_COUNTS_DROPPED 1
    else d
  | _ => d

/-- One word that the scrubber found in error: a corrected one is counted for its array; an uncorrectable one is reported at once and has
its outcome at its next use. -/
def Chip.scrubHit (c : Chip) (x : ScrubHit) : Chip :=
  if x.fixed then (match correctedBlock x.unit with
    | some b => c.onDev (fun d => d.lifeAdd b 1)
    | none => c)
  else if x.unit < 0x40 then
    (if c.dev.rd (Fld.TILE_EPOCH_STATE x.unit) = 2 then c
     else if 2 ≤ x.sub then c.onDev (fun d => d.datapathFault (16 * x.unit + x.idx % 16))
     else c.onDev (fun d => (d.modThr (16 * x.unit + x.idx % 16) (fun t => t.mark x.sub x.word)).report x.unit))
  else if x.unit = 0x40 then (c.onDev (fun d => (d.report 0x40).retireImage x.idx)).auditAlarm
  else if 0x140 ≤ x.unit ∧ x.unit ≤ 0x148 then
    (c.onDev (fun d => (d.arrayFault x.unit x.word true).arrayOutcome x.unit x)).answerAll
  else c

/-- SRAM_SCRUB_PASS: what a pass finds, in the order found. -/
def Chip.sramScrub (c : Chip) (xs : List ScrubHit) : Chip :=
  if !c.dev.plt.mainOn || c.dev.plt.por then c else xs.foldl Chip.scrubHit c

/-! ## The I3C port (R427 to R430) -/

def Dev.dynAddr (d : Dev) : Nat := d.rd Fld.PLT_I3C_STATUS_DYN_ADDR

/-- The port runs: in every device state, while it has power. -/
def Dev.i3cOn (d : Dev) : Bool := d.plt.mainOn && !d.plt.por

/-- A transfer reaches the target: an I3C one at its dynamic address, an I2C one at the static address while none is assigned, which puts
the port in I2C mode. -/
def Dev.i3cReach (d : Dev) (i2c : Bool) : Bool := d.i3cOn && (if i2c then d.dynAddr == 0 else d.dynAddr != 0)
def Dev.i3cMode (d : Dev) (i2c : Bool) : Dev := if i2c then d.wr Fld.PLT_I3C_STATUS_I2C 1 else d

def Dev.badAccess (d : Dev) : Dev := d.wr Fld.PLT_I3C_STATUS_BAD_ACCESS 1

/-- `n` bytes read from PLT offset `off` on: 8 per register, RC fields cleared by a whole register only. -/
def Chip.i3cBytes : Nat → Nat → Nat → Chip → Chip × List Byte
  | 0, _, _, c => (c, [])
  | k + 1, n, off, c =>
    if n = 0 then (c, [])
    else
      let bs := (leBytes 8 (c.i3cValue off).toNat).take n
      let c := if 8 ≤ n ∧ off < 0x8000 then c.onDev (fun d => d.clearRc (0xF0000 + off)) else c
      let r := Chip.i3cBytes k (n - 8) (off + 8) c
      (r.1, bs ++ r.2)

/-- I3C_PRIVATE_READ of `n` bytes from `off`, at most 64 registers. -/
def Chip.i3cRead (c : Chip) (off n : Nat) (i2c : Bool) : Chip :=
  if !c.dev.i3cReach i2c then c
  else
    let c := c.onDev (fun d => d.i3cMode i2c)
    if off % 8 ≠ 0 then c.onDev Dev.badAccess
    else
      let r := Chip.i3cBytes 64 n off c
      r.1.onDev (fun d => d.emit (.i3c r.2))

/-- I3C_PRIVATE_WRITE of the bytes `bs`: 0x02, OFFSET, 8 data bytes; 0x01 and OFFSET begin a read; anything else is ignored and sets
BAD_ACCESS. -/
def Chip.i3cWrite (c : Chip) (bs : List Byte) (i2c : Bool) : Chip :=
  if !c.dev.i3cReach i2c then c
  else
    let c := c.onDev (fun d => d.i3cMode i2c)
    let off := leAt bs 1 2
    if bs.length = 11 ∧ leAt bs 0 1 = 2 ∧ off % 8 = 0 then c.i3cPut off (bytesBv 64 (slice bs 3 8))
    else if bs.length = 3 ∧ leAt bs 0 1 = 1 ∧ off % 8 = 0 then c
    else c.onDev Dev.badAccess

/-- An address is assigned once STEP reaches 5; the port leaves I2C mode. -/
def Dev.assignAddr (d : Dev) (addr : Nat) : Dev :=
  if !d.i3cOn || decide (d.step < 5) || d.dynAddr != 0 || addr % 128 == 0 then d
  else (d.wr Fld.PLT_I3C_STATUS_DYN_ADDR (addr % 128)).wr Fld.PLT_I3C_STATUS_I2C 0

/-- SETDASA names the static address 0x4A. -/
def Dev.setdasa (d : Dev) (stat addr : Nat) : Dev := if stat = 0x4A then d.assignAddr addr else d
def Dev.rstdaa (d : Dev) : Dev := if d.i3cOn then d.wr Fld.PLT_I3C_STATUS_DYN_ADDR 0 else d

/-- ENEC and DISEC: bit 0 of the event byte is the in-band interrupt. -/
def Dev.i3cEvents (d : Dev) (v : Bool) (events : Nat) : Dev :=
  if d.i3cOn && events.testBit 0 then { d with plt := { d.plt with ibi := v } } else d

/-- A GET CCC is answered at the dynamic address. -/
def Dev.i3cGet (d : Dev) (bs : List Byte) : Dev := if d.i3cReach false then d.emit (.i3c bs) else d

def pidBytes : List Byte := beBytes 2 Config.mipiManufacturer.toNat ++ [0x94, 0x00] ++ beBytes 2 Config.mipiInstance.toNat
def Dev.getpid (d : Dev) : Dev := d.i3cGet pidBytes
def Dev.getbcr (d : Dev) : Dev := d.i3cGet [0x06]
def Dev.getdcr (d : Dev) : Dev := d.i3cGet [0x00]
/-- GETSTATUS: the spec states neither byte. -/
def Dev.getstatus (d : Dev) : Dev := if d.i3cReach false then (d.i3cGet (Config.freeBytes d.nfree 2)).takeFree else d
/-- GETMWL: the longest write of R428 has 11 bytes; GETMRL: the longest read 64 registers, an interrupt's payload one byte (R429). -/
def Dev.getmwl (d : Dev) : Dev := d.i3cGet (beBytes 2 11)
def Dev.getmrl (d : Dev) : Dev := d.i3cGet (beBytes 2 512 ++ [1])

/-! ## The PCIe link (R28, R432) -/

/-- The PHY runs: main power, and no cold reset before step 4. -/
def Dev.phyOn (d : Dev) : Bool := d.plt.mainOn && !d.plt.por && !(d.plt.reach == 2 && decide (d.step < 4))

/-- PCIE_LINK_UP. -/
def Dev.pcieUp (d : Dev) (width rate : Nat) (flit : Bool) : Dev :=
  if d.phyOn then (d.linkUp width rate flit).lifeAdd 541 1 else d

/-- PCIE_LINK_DOWN: the link fields read as without a link. -/
def Dev.pcieDown (d : Dev) : Dev := if d.phyOn then (d.linkUp 0 0 false).lifeAdd 542 1 else d

end Sys2Proof.Machine
end

