-- ==== Sys2Proof/Machine/State.lean ====
section
/-! DEFINITION. The state of the block, the reasons to stop, and the state after reset. -/

namespace Sys2Proof.Machine

/-- The reasons for a fault: none. The spec describes no state in which the block stops; every command has a next state. -/
inductive Fault where
deriving DecidableEq, Repr

/-- The reasons for a refusal. -/
inductive Refusal where
  /-- A command that has no meaning in this model yet; raised by its arm of `exec` alone. Safe: nothing can be proved of what it
  does. -/
  | notModelled (mnemonic : String)
deriving DecidableEq, Repr

/-- The block: the device, its backup-powered domain and its fuses; and the commands that wait, first in, first out. -/
structure State where
  chip : Chip
  pending : List Instr
deriving DecidableEq, Repr

/-! ## Reset -/

/-- The device when power has come up and POR has been released (R401, R438): release step 0 is in progress in a cold reset by power
(PLT_RESET_CAUSE), every other register holds its Reset value, and nothing is held, queued or loaded. -/
def Dev.reset : Dev :=
  ⟨[(0xF0008, 0x21)], [], 0, Hiu.reset, Dsp.reset, [], Prog.reset, Ciph.reset, Hpk.reset, Vlt.reset, Xks.reset, Rng.reset, Nvs.reset,
    Tmp.reset, Wdn.reset, Crd.reset, Mtr.reset, { Plt.reset with reach := 2, fresh := true, resets := [500] }, [], 0⟩

/-- The backup-powered domain as it first powers up, with the main supply present (R318). -/
def Backup.reset : Backup := ⟨true, true, none, 0x200000, [(1, (0, 0x950001))], 1, 0, 0, 0, false⟩

/-- The fuses of a new part: none is blown (R328). -/
def Fuses.reset : Fuses := ⟨false, 0, false, 0, false⟩

/-- A new part right after power-on: no command waits. -/
def State.reset : State := ⟨⟨Dev.reset, Backup.reset, Fuses.reset⟩, []⟩

end Sys2Proof.Machine
end

