-- ==== Sys2Proof/Machine/Exec.lean ====
section
/-! DEFINITION. How a command's effect on the chip becomes the block's outcome: a next state, whose queue is the one it was given. -/

namespace Sys2Proof.Machine

/-- An effect on the chip. -/
def onChip (s : State) (f : Chip → Chip) : Host.Outcome State Fault Refusal := .next { s with chip := f s.chip }

/-- The state with the device changed by `f`: the backup domain, the fuses and the queue keep what they hold. -/
def State.onDev (s : State) (f : Dev → Dev) : State := { s with chip := s.chip.onDev f }

/-- An effect on the device alone: the backup domain and the fuses keep what they hold. -/
def onDev (s : State) (f : Dev → Dev) : Host.Outcome State Fault Refusal := .next (s.onDev f)

end Sys2Proof.Machine
end

