-- ==== Sys2Proof/Machine/BondCmds.lean ====
section
/-! DEFINITION. The meanings of Mortar: sessions, the bond's frames and timers, the relay (R378 to R397). -/

namespace Sys2Proof.Machine

/-- HELLO (R382). A Mortar HELLO opens a session handshake. -/
def execHello (fr : Frame) (p : List Byte) (s : State) : Host.Outcome State Fault Refusal :=
  onChip s (fun c => c.mortar (fun d => d.hello fr p))

/-- HELLO_REPLY (R382). A Mortar HELLO_REPLY answers a session handshake. -/
def execHelloReply (fr : Frame) (p : List Byte) (s : State) : Host.Outcome State Fault Refusal :=
  onChip s (fun c => c.mortar (fun d => d.helloReply fr p))

/-- FINISH (R382). A Mortar FINISH completes a session and its keys are derived. -/
def execFinish (fr : Frame) (p : List Byte) (s : State) : Host.Outcome State Fault Refusal :=
  onChip s (fun c => c.mortar (fun d => d.finishFrame fr p))

/-- SESSION_RETRY (R382). 1 s after a failed session attempt the handshake is retried. -/
def execSessionRetry (k peer : Nat) (s : State) : Host.Outcome State Fault Refusal :=
  onChip s (fun c => c.mortar (fun d => d.sessRetry k peer))

/-- JOIN (R387). The manager burns unheld leases and brings a joining member's keys up to date. -/
def execJoin (fr : Frame) (last highest held0 held1 : Nat) (s : State) : Host.Outcome State Fault Refusal :=
  onChip s (fun c => c.mortar (fun d => d.join fr last highest held0 held1))

/-- JOIN_ACCEPT (R387). A joining member takes its role, burns listed leases and adopts the roster. -/
def execJoinAccept (fr : Frame) (role last burn0 burn1 : Nat) (roster : List (Nat × List Byte)) (s : State) : Host.Outcome State Fault Refusal :=
  onChip s (fun c => c.mortar (fun d => d.joinAccept fr role last burn0 burn1 roster))

/-- SYNC (R387). A member installs slot images from the manager with their generations. -/
def execSync (fr : Frame) (images : List (Nat × List Byte)) (s : State) : Host.Outcome State Fault Refusal :=
  onChip s (fun c => c.mortar (fun d => d.sync fr images))

/-- SYNC_END (R387). A member empties slots not named, answers and becomes a member. -/
def execSyncEnd (fr : Frame) (last slots : Nat) (s : State) : Host.Outcome State Fault Refusal :=
  onChip s (fun c => c.mortar (fun d => d.syncEnd fr last slots))

/-- HEARTBEAT (R394). A member receives the manager's heartbeat, renews leases if asked and answers. -/
def execHeartbeat (fr : Frame) (standby renew : Nat) (s : State) : Host.Outcome State Fault Refusal :=
  onChip s (fun c => c.heartbeat fr standby renew)

/-- HEARTBEAT_ACK (R394). The manager records a member as live. -/
def execHeartbeatAck (fr : Frame) (state last : Nat) (s : State) : Host.Outcome State Fault Refusal :=
  onChip s (fun c => c.mortar (fun d => d.heartbeatAck fr state last))

/-- HEARTBEAT_INTERVAL (R394). Every 1 ms the manager sends HEARTBEAT to every roster member. -/
def execHeartbeatInterval (s : State) : Host.Outcome State Fault Refusal :=
  onChip s (fun c => c.heartbeatInterval)

/-- FRAME_FORWARD (R380). A ring frame not addressed to the device is re-encrypted and forwarded out of the opposite port. -/
def execFrameForward (fr : Frame) (bs : List Byte) (s : State) : Host.Outcome State Fault Refusal :=
  onDev s (fun d => d.frameForward fr bs)

/-- PREPARE (R389). A standby or worker checks GEN_BEFORE and stages a slot change. -/
def execPrepare (fr : Frame) (txn slot before : Nat) (img : List Byte) (s : State) : Host.Outcome State Fault Refusal :=
  onChip s (fun c => c.mortar (fun d => d.prepare fr txn slot before img))

/-- PREPARED (R389). The manager records a member's prepare answer and commits to the standby on success. -/
def execPrepared (fr : Frame) (txn status : Nat) (s : State) : Host.Outcome State Fault Refusal :=
  onChip s (fun c => c.mortar (fun d => d.prepared fr txn status))

/-- COMMIT (R389). A member completes the staged slot change and answers APPLIED. -/
def execCommit (fr : Frame) (txn : Nat) (s : State) : Host.Outcome State Fault Refusal :=
  onChip s (fun c => c.mortar (fun d => d.commit fr txn))

/-- APPLIED (R389). The standby's APPLIED commits the transaction on the manager, which then commits to workers. -/
def execApplied (fr : Frame) (txn status : Nat) (s : State) : Host.Outcome State Fault Refusal :=
  onChip s (fun c => c.mortar (fun d => d.applied fr txn status))

/-- ABORT (R389). A member abandons a prepared transaction. -/
def execAbort (fr : Frame) (txn : Nat) (s : State) : Host.Outcome State Fault Refusal :=
  onChip s (fun c => c.mortar (fun d => d.abortTx fr txn))

/-- LEASE_REQUEST (R390). The manager allocates a lease, replicating HIGH_WATER to the standby before granting. -/
def execLeaseRequest (fr : Frame) (highest : Nat) (s : State) : Host.Outcome State Fault Refusal :=
  onChip s (fun c => c.mortar (fun d => d.leaseRequest fr highest))

/-- LEASE_GRANT (R391). A member accepts a valid grant and journals it before answering LEASE_HELD. -/
def execLeaseGrant (fr : Frame) (l : Nat) (s : State) : Host.Outcome State Fault Refusal :=
  onChip s (fun c => c.leaseGrant fr l)

/-- LEASE_HELD (R390). The manager records a lease as held by the member. -/
def execLeaseHeld (fr : Frame) (l : Nat) (s : State) : Host.Outcome State Fault Refusal :=
  onChip s (fun c => c.mortar (fun d => d.leaseHeld fr l))

/-- LEASE_STATE (R390). The standby records a lease event durably and acknowledges. -/
def execLeaseState (fr : Frame) (hw holder ev l : Nat) (s : State) : Host.Outcome State Fault Refusal :=
  onChip s (fun c => c.mortar (fun d => d.leaseState fr hw holder ev l))

/-- LEASE_STATE_ACK (R390). The manager proceeds with the grant or burn acknowledged by the standby. -/
def execLeaseStateAck (fr : Frame) (hw : Nat) (s : State) : Host.Outcome State Fault Refusal :=
  onChip s (fun c => c.leaseStateAck fr hw)

/-- STANDBY_DESIGNATE (R395). A member stores the lease table durably and accepts the standby role. -/
def execStandbyDesignate (fr : Frame) (hw last : Nat) (table : List (Nat × Nat)) (s : State) : Host.Outcome State Fault Refusal :=
  onChip s (fun c => c.mortar (fun d => d.standbyDesignate fr hw last table))

/-- STANDBY_ACCEPT (R395). The manager gains an accepted standby and may commit and grant. -/
def execStandbyAccept (fr : Frame) (hw : Nat) (s : State) : Host.Outcome State Fault Refusal :=
  onChip s (fun c => c.mortar (fun d => d.standbyAccept fr hw))

/-- PROMOTED (R395). Members adopt the new epoch, abandon later transactions and receive missing commits. -/
def execPromoted (fr : Frame) (last : Nat) (burns : List Nat) (s : State) : Host.Outcome State Fault Refusal :=
  onChip s (fun c => c.mortar (fun d => d.promoted fr last burns))

/-- NAK (R386). A sender handles a refusal, re-sending to the named manager or entering JOINING. -/
def execNak (fr : Frame) (kind cause manager : Nat) (s : State) : Host.Outcome State Fault Refusal :=
  onChip s (fun c => c.mortar (fun d => d.nak fr kind cause manager))

/-- UNLOCK_RELAY (R384). A target device treats a relayed unlock token as UNLOCK and answers with the status. -/
def execUnlockRelay (fr : Frame) (target token : List Byte) (s : State) : Host.Outcome State Fault Refusal :=
  onChip s (fun c => c.mortar (fun d => d.unlockRelay fr target token))

/-- UNLOCK_RESULT (R384). The sender receives the status of a relayed unlock. -/
def execUnlockResult (fr : Frame) (status : Nat) (s : State) : Host.Outcome State Fault Refusal :=
  onChip s (fun c => c.mortar (fun d => d.unlockResult fr status))

/-- RESET (R384). A worker receiving a manager's RESET frame applies a warm reset. -/
def execReset (fr : Frame) (s : State) : Host.Outcome State Fault Refusal :=
  onChip s (fun c => c.mtrResetFrame fr)

/-- RETRANSMIT_TIMER (R385). Every 1 ms an unanswered message is sent again. -/
def execRetransmitTimer (s : State) : Host.Outcome State Fault Refusal :=
  onChip s (fun c => c.mortar (fun d => d.retransmit))

/-- MEMBER_LOST (R394). 3 ms without HEARTBEAT_ACK declares a member lost and burns its leases. -/
def execMemberLost (m : Nat) (s : State) : Host.Outcome State Fault Refusal :=
  onChip s (fun c => c.mortar (fun d => d.memberLost m))

/-- CUT_OFF (R393). 3 ms without HEARTBEAT puts a member in CUT_OFF. -/
def execCutOff (s : State) : Host.Outcome State Fault Refusal :=
  onChip s (fun c => c.mortar (fun d => d.cutOff))

/-- PROMOTION (R395). 3 ms without HEARTBEAT makes the standby promote itself to manager. -/
def execPromotion (s : State) : Host.Outcome State Fault Refusal :=
  onChip s (fun c => c.mortar (fun d => d.promotion))

/-- MORTAR_LINK_UP (R380). A Mortar port's lanes finish training, MTR_PORT.LINK becomes up and session set-up may start. -/
def execMortarLinkUp (p lanes peer : Nat) (s : State) : Host.Outcome State Fault Refusal :=
  onChip s (fun c => c.mortar (fun d => d.mortarLink p lanes peer))

/-- MORTAR_LINK_DOWN (R380). A Mortar port's link drops, ending its session so that the ring must route through the other port.
-/
def execMortarLinkDown (p : Nat) (s : State) : Host.Outcome State Fault Refusal :=
  onChip s (fun c => c.mortar (fun d => d.mortarDown p))

/-- RELAY_ENABLE (R381). Writing MTR_RELAY_CFG.ENABLE clears both positions and enables the relay if its configuration is in
range. -/
def execRelayEnable (st : Option Nat) (w : Word) (s : State) : Host.Outcome State Fault Refusal :=
  onDev s (fun d => d.relayEnable st w)

/-- RELAY_INBOUND_DOORBELL (R381). An MTR_RELAY_DB write with IN_VALID records a new inbound tail. -/
def execRelayInboundDoorbell (st : Option Nat) (w : Word) (s : State) : Host.Outcome State Fault Refusal :=
  onDev s (fun d => d.relayInDb st w)

/-- RELAY_OUTBOUND_DOORBELL (R381). An MTR_RELAY_DB write with OUT_VALID returns outbound entries. -/
def execRelayOutboundDoorbell (st : Option Nat) (w : Word) (s : State) : Host.Outcome State Fault Refusal :=
  onDev s (fun d => d.relayOutDb st w)

/-- RELAY_INBOUND_ENTRY (R381). The Warden reads an inbound entry and accepts its frame or drops it. -/
def execRelayInboundEntry (ok : Bool) (len peer src : Nat) (clean : Bool) (s : State) : Host.Outcome State Fault Refusal :=
  onDev s (fun d => d.relayInEntry ok len peer src clean)

/-- RELAY_OUTBOUND_ENTRY (R381). The Warden writes an outbound frame once ring space exists and sends the relay vector. -/
def execRelayOutboundEntry (s : State) : Host.Outcome State Fault Refusal :=
  onDev s (fun d => d.relayOutEntry)

end Sys2Proof.Machine
end

