-- ==== Sys2Proof/Machine/CardCmds.lean ====
section
/-! DEFINITION. The meanings of custodian cards and the backup card (R354 to R377). -/

namespace Sys2Proof.Machine

/-- CARD_ACTIVATION (R356). After CC_x_PRES_N has been low 10 ms the port powers and activates the card. -/
def execCardActivation (p : Nat) (s : State) : Host.Outcome State Fault Refusal :=
  onDev s (fun d => d.cardStart p)

/-- ATR_RECEIVE (R355). The port receives the ATR and stays, changes class, or refuses the card. -/
def execAtrReceive (p : Nat) (bs : List Byte) (s : State) : Host.Outcome State Fault Refusal :=
  onDev s (fun d => d.atrReceive p bs)

/-- ATR_TIMEOUT (R355). No ATR within 40,000 clocks refuses the card with NO_ATR. -/
def execAtrTimeout (p : Nat) (s : State) : Host.Outcome State Fault Refusal :=
  onDev s (fun d => d.atrTimeout p)

/-- PPS_RESPONSE (R357). The card's PPS response sets the transmission parameters or causes reactivation. -/
def execPpsResponse (p : Nat) (bs : List Byte) (s : State) : Host.Outcome State Fault Refusal :=
  onDev s (fun d => d.ppsResponse p bs)

/-- PPS_TIMEOUT (R357). A PPS response that does not arrive leads to deactivation and one reactivation, and a second failure
refuses the card. -/
def execPpsTimeout (p : Nat) (s : State) : Host.Outcome State Fault Refusal :=
  onDev s (fun d => d.ppsTimeout p)

/-- T1_BLOCK_RECEIVE (R359). A T=1 block from the card is accepted or triggers error recovery. -/
def execT1BlockReceive (p nad pcb : Nat) (inf : List Byte) (ok : Bool) (s : State) : Host.Outcome State Fault Refusal :=
  onDev s (fun d => d.t1Block p nad pcb inf ok)

/-- T1_BLOCK_TIMEOUT (R359). CWT or BWT expires and the block counts as invalid. -/
def execT1BlockTimeout (p : Nat) (s : State) : Host.Outcome State Fault Refusal :=
  onDev s (fun d => d.t1Timeout p)

/-- S_WTX_REQUEST (R359). The card's S(WTX) request extends BWT for the next block. -/
def execSWtxRequest (p k : Nat) (s : State) : Host.Outcome State Fault Refusal :=
  onDev s (fun d => d.sWtx p k)

/-- S_ABORT_REQUEST (R359). The card's S(ABORT) is answered and the APDU in progress fails. -/
def execSAbortRequest (p : Nat) (s : State) : Host.Outcome State Fault Refusal :=
  onDev s (fun d => d.sAbort p)

/-- S_IFS_REQUEST (R359). The card's S(IFS) request sets IFSC. -/
def execSIfsRequest (p k : Nat) (s : State) : Host.Outcome State Fault Refusal :=
  onDev s (fun d => d.sIfs p k)

/-- CARD_RESPONSE_TIMEOUT (R359). 120 s without a response deactivates the card with TIMEOUT. -/
def execCardResponseTimeout (p : Nat) (s : State) : Host.Outcome State Fault Refusal :=
  onDev s (fun d => d.cardTimeout p)

/-- CARD_REMOVAL (R360). CC_x_PRES_N rises and the port deactivates the card within 100 µs. -/
def execCardRemoval (p : Nat) (s : State) : Host.Outcome State Fault Refusal :=
  onDev s (fun d => d.cardRemoval p)

/-- SELECT (R362). The card application is selected by its AID. -/
def execSelect (p : Nat) (s : State) : Host.Outcome State Fault Refusal :=
  onDev s (fun d => d.select p)

/-- GET_INFO (R362). The card returns its serial, KEY_ID, public key and share slots. -/
def execGetInfo (p : Nat) (s : State) : Host.Outcome State Fault Refusal :=
  onDev s (fun d => d.getInfo p)

/-- OPEN_SESSION (R364). The Warden and card establish a protected session by ECDH. -/
def execOpenSession (p : Nat) (s : State) : Host.Outcome State Fault Refusal :=
  onDev s (fun d => d.openSession p)

/-- SIGN_AUTH (R367). The card returns a custodian signature that the Warden adds to the open ceremony. -/
def execSignAuth (p : Nat) (s : State) : Host.Outcome State Fault Refusal :=
  onChip s (fun c => c.signAuth p)

/-- PUT_SHARE (R368). The card stores an archive-key share in a slot. -/
def execPutShare (p : Nat) (s : State) : Host.Outcome State Fault Refusal :=
  onDev s (fun d => d.putShare p)

/-- GET_SHARE (R368). The card returns a stored share, and the Warden rebuilds the archive key once M distinct shares match. -/
def execGetShare (p : Nat) (s : State) : Host.Outcome State Fault Refusal :=
  onChip s (fun c => c.getShare p)

/-- CLOSE_SESSION (R364). The card session ends and both sides zeroise its keys. -/
def execCloseSession (p : Nat) (s : State) : Host.Outcome State Fault Refusal :=
  onDev s (fun d => d.closeSession p)

/-- GET_RESPONSE (R361). The port collects further response data announced by SW 61 xx. -/
def execGetResponse (p : Nat) (s : State) : Host.Outcome State Fault Refusal :=
  onDev s (fun d => d.getResponse p)

/-- SD_CARD_INIT (R370). After SD_CD_N has been low 10 ms the port powers and initialises the card. -/
def execSdCardInit (cmd8 ready ccs s18a sw : Bool) (blocks : Nat) (sdxc : Bool) (top : Nat) (s : State) : Host.Outcome State Fault Refusal :=
  onDev s (fun d => d.sdStart cmd8 ready ccs s18a sw blocks sdxc top)

/-- SD_TUNING (R371). The port tunes its sampling tap for SDR50 or SDR104, stepping down if no tap passes. -/
def execSdTuning (ok : Bool) (s : State) : Host.Outcome State Fault Refusal :=
  onDev s (fun d => d.sdTuning ok)

/-- SD_BLOCK_WRITE (R372). The port writes one archive block with CMD24. -/
def execSdBlockWrite (crcs : Nat) (s : State) : Host.Outcome State Fault Refusal :=
  onChip s (fun c => c.sdBlockWrite crcs)

/-- SD_BLOCK_READ (R377). The backup port completes the read of one archive block from the SD card for a restore. -/
def execSdBlockRead (bs : List Byte) (crcs : Nat) (s : State) : Host.Outcome State Fault Refusal :=
  onChip s (fun c => c.sdBlockRead bs crcs)

/-- SD_BUSY_END (R372). The card releases DAT0 after a write's busy phase. -/
def execSdBusyEnd (s : State) : Host.Outcome State Fault Refusal :=
  onChip s (fun c => c.sdBusyEnd)

/-- SD_BUSY_TIMEOUT (R372). A busy phase longer than 500 ms is a card error. -/
def execSdBusyTimeout (s : State) : Host.Outcome State Fault Refusal :=
  onChip s (fun c => c.sdBusyTimeout)

/-- SD_CARD_REMOVAL (R373). SD_CD_N rises and the port powers the card down within 100 µs. -/
def execSdCardRemoval (data : Bool) (s : State) : Host.Outcome State Fault Refusal :=
  onChip s (fun c => c.sdRemoval data)

end Sys2Proof.Machine
end

