-- ==== Sys2Proof/Machine/CipherCmds.lean ====
section
/-! DEFINITION. The meanings of the symmetric cipher cluster, its nonces and leases (R183 to R203). -/

namespace Sys2Proof.Machine

/-- CIPHER_ENCRYPT (R188). A cipher ENCRYPT request enters the queue and is checked. -/
def execCipherEncrypt (h tk m : Nat) (s : State) : Host.Outcome State Fault Refusal :=
  onDev s (fun d => d.cipherEnter 1 h tk m)

/-- CIPHER_DECRYPT (R188). A cipher DECRYPT request enters the queue and is checked. -/
def execCipherDecrypt (h tk m : Nat) (s : State) : Host.Outcome State Fault Refusal :=
  onDev s (fun d => d.cipherEnter 2 h tk m)

/-- GHASH (R189). A GHASH request enters the cipher queue and is checked. -/
def execGhash (h tk m : Nat) (s : State) : Host.Outcome State Fault Refusal :=
  onDev s (fun d => d.cipherEnter 3 h tk m)

/-- NONCE (R191). A NONCE request receives the next 12-octet hardware nonce from the active lease. -/
def execNonce (h tk : Nat) (s : State) : Host.Outcome State Fault Refusal :=
  onDev s (fun d => d.nonce h tk)

/-- WINDOW_COMMIT_DURABLE (R195). A window commit becomes durable and raises the journal mark, releasing waiting NONCE requests.
-/
def execWindowCommitDurable (s : State) : Host.Outcome State Fault Refusal :=
  onDev s (fun d => d.windowDurable)

/-- NEED_LEASE_RETRY (R193). Every 1 s without a lease the cluster writes another window commit with NEED_LEASE. -/
def execNeedLeaseRetry (s : State) : Host.Outcome State Fault Refusal :=
  onDev s (fun d => d.needRetry)

/-- LEASE_TAKE (R192). The cluster takes a lease as active or next from a durable grant record. -/
def execLeaseTake (l : Nat) (s : State) : Host.Outcome State Fault Refusal :=
  onDev s (fun d => d.leaseTake l)

/-- LEASE_EXPIRY (R197). The active lease's expiry passes, its remaining values are burned and the next lease becomes active. -/
def execLeaseExpiry (s : State) : Host.Outcome State Fault Refusal :=
  onChip s (fun c => c.leasesExpire)

/-- WARDEN_LEASE_GRANT (R194). Outside a bond the Warden increments LEASE_GRANTS and writes a grant record for a commit asking
NEED_LEASE. -/
def execWardenLeaseGrant (s : State) : Host.Outcome State Fault Refusal :=
  onDev s (fun d => d.wardenGrant)

/-- CORE_DISPATCH (R187). A free cipher core takes the oldest matching queue entry, loads its schedule if needed and runs it. -/
def execCoreDispatch (k : Nat) (area : List Byte) (par blocks : Nat) (s : State) : Host.Outcome State Fault Refusal :=
  onDev s (fun d => d.coreDispatch k area par blocks)

/-- CORE_SELFTEST_DONE (R199). A cipher core's self-test ends, returning it to service or retiring it for good. -/
def execCoreSelftestDone (k : Nat) (pass : Bool) (s : State) : Host.Outcome State Fault Refusal :=
  onDev s (fun d => d.coreTested k pass)

end Sys2Proof.Machine
end

