-- ==== Sys2Proof/Machine/ClazeirCmds.lean ====
section
/-! DEFINITION. The meanings of the Clazeir instructions (R157 to R180); an instruction runs where it is the next of its thread's program. -/

namespace Sys2Proof.Machine

/-- ADD (R161). The instruction writes rs1 + rs2 modulo 2^64 with predicted residue. -/
def execAdd (h : Nat) (rd rs1 rs2 : BitVec 5) (s : State) : Host.Outcome State Fault Refusal :=
  onDev s (fun d => d.executes h (.r .add rd rs1 rs2) (fun d => d.instrT h (fun _ t => aluR (fun a b => a + b) rd rs1 rs2 t)))

/-- SUB (R161). The instruction writes rs1 − rs2 modulo 2^64. -/
def execSub (h : Nat) (rd rs1 rs2 : BitVec 5) (s : State) : Host.Outcome State Fault Refusal :=
  onDev s (fun d => d.executes h (.r .sub rd rs1 rs2) (fun d => d.instrT h (fun _ t => aluR (fun a b => a - b) rd rs1 rs2 t)))

/-- AND (R161). The instruction writes the bitwise and of two registers. -/
def execAnd (h : Nat) (rd rs1 rs2 : BitVec 5) (s : State) : Host.Outcome State Fault Refusal :=
  onDev s (fun d => d.executes h (.r .and rd rs1 rs2) (fun d => d.instrT h (fun _ t => aluR (fun a b => a &&& b) rd rs1 rs2 t)))

/-- OR (R161). The instruction writes the bitwise or of two registers. -/
def execOr (h : Nat) (rd rs1 rs2 : BitVec 5) (s : State) : Host.Outcome State Fault Refusal :=
  onDev s (fun d => d.executes h (.r .or rd rs1 rs2) (fun d => d.instrT h (fun _ t => aluR (fun a b => a ||| b) rd rs1 rs2 t)))

/-- XOR (R161). The instruction writes the exclusive-or of two registers. -/
def execXor (h : Nat) (rd rs1 rs2 : BitVec 5) (s : State) : Host.Outcome State Fault Refusal :=
  onDev s (fun d => d.executes h (.r .xor rd rs1 rs2) (fun d => d.instrT h (fun _ t => aluR (fun a b => a ^^^ b) rd rs1 rs2 t)))

/-- ANDN (R161). The instruction writes rs1 and not rs2. -/
def execAndn (h : Nat) (rd rs1 rs2 : BitVec 5) (s : State) : Host.Outcome State Fault Refusal :=
  onDev s (fun d => d.executes h (.r .andn rd rs1 rs2) (fun d => d.instrT h (fun _ t => aluR (fun a b => a &&& ~~~ b) rd rs1 rs2 t)))

/-- SHL (R161). The instruction shifts left by a register count. -/
def execShl (h : Nat) (rd rs1 rs2 : BitVec 5) (s : State) : Host.Outcome State Fault Refusal :=
  onDev s (fun d => d.executes h (.r .shl rd rs1 rs2) (fun d => d.instrT h (fun _ t => aluR (fun a b => a <<< (b.toNat % 64)) rd rs1 rs2 t)))

/-- SHRZ (R161). The instruction shifts right with zero fill. -/
def execShrz (h : Nat) (rd rs1 rs2 : BitVec 5) (s : State) : Host.Outcome State Fault Refusal :=
  onDev s (fun d => d.executes h (.r .shrz rd rs1 rs2) (fun d => d.instrT h (fun _ t => aluR (fun a b => a >>> (b.toNat % 64)) rd rs1 rs2 t)))

/-- SHRS (R161). The instruction shifts right with sign fill. -/
def execShrs (h : Nat) (rd rs1 rs2 : BitVec 5) (s : State) : Host.Outcome State Fault Refusal :=
  onDev s (fun d => d.executes h (.r .shrs rd rs1 rs2) (fun d => d.instrT h (fun _ t => aluR (fun a b => a.sshiftRight (b.toNat % 64)) rd rs1 rs2 t)))

/-- SETEQ (R161). The instruction sets 1 if the operands are equal. -/
def execSeteq (h : Nat) (rd rs1 rs2 : BitVec 5) (s : State) : Host.Outcome State Fault Refusal :=
  onDev s (fun d => d.executes h (.r .seteq rd rs1 rs2) (fun d => d.instrT h (fun _ t => aluR (fun a b => b2w (condHolds 0 a b)) rd rs1 rs2 t)))

/-- SETNE (R161). The instruction sets 1 if the operands differ. -/
def execSetne (h : Nat) (rd rs1 rs2 : BitVec 5) (s : State) : Host.Outcome State Fault Refusal :=
  onDev s (fun d => d.executes h (.r .setne rd rs1 rs2) (fun d => d.instrT h (fun _ t => aluR (fun a b => b2w (condHolds 1 a b)) rd rs1 rs2 t)))

/-- SETLT (R161). The instruction sets 1 on signed less-than. -/
def execSetlt (h : Nat) (rd rs1 rs2 : BitVec 5) (s : State) : Host.Outcome State Fault Refusal :=
  onDev s (fun d => d.executes h (.r .setlt rd rs1 rs2) (fun d => d.instrT h (fun _ t => aluR (fun a b => b2w (condHolds 2 a b)) rd rs1 rs2 t)))

/-- SETGE (R161). The instruction sets 1 on signed greater-or-equal. -/
def execSetge (h : Nat) (rd rs1 rs2 : BitVec 5) (s : State) : Host.Outcome State Fault Refusal :=
  onDev s (fun d => d.executes h (.r .setge rd rs1 rs2) (fun d => d.instrT h (fun _ t => aluR (fun a b => b2w (condHolds 3 a b)) rd rs1 rs2 t)))

/-- SETLTU (R161). The instruction sets 1 on unsigned less-than. -/
def execSetltu (h : Nat) (rd rs1 rs2 : BitVec 5) (s : State) : Host.Outcome State Fault Refusal :=
  onDev s (fun d => d.executes h (.r .setltu rd rs1 rs2) (fun d => d.instrT h (fun _ t => aluR (fun a b => b2w (condHolds 4 a b)) rd rs1 rs2 t)))

/-- SETGEU (R161). The instruction sets 1 on unsigned greater-or-equal. -/
def execSetgeu (h : Nat) (rd rs1 rs2 : BitVec 5) (s : State) : Host.Outcome State Fault Refusal :=
  onDev s (fun d => d.executes h (.r .setgeu rd rs1 rs2) (fun d => d.instrT h (fun _ t => aluR (fun a b => b2w (condHolds 5 a b)) rd rs1 rs2 t)))

/-- MUL (R161). The instruction writes the low 64 bits of a product after 4 clocks. -/
def execMul (h : Nat) (rd rs1 rs2 : BitVec 5) (s : State) : Host.Outcome State Fault Refusal :=
  onDev s (fun d => d.executes h (.r .mul rd rs1 rs2) (fun d => d.instrT h (fun _ t => mulR (fun a b => a * b) rd rs1 rs2 t)))

/-- MULX (R161). The instruction writes the full 128-bit unsigned product to a register pair. -/
def execMulx (h : Nat) (rd rs1 rs2 : BitVec 5) (s : State) : Host.Outcome State Fault Refusal :=
  onDev s (fun d => d.executes h (.r .mulx rd rs1 rs2) (fun d => d.instrT h (fun _ t => pairR (fun a b => a * b) mulHigh rd rs1 rs2 t)))

/-- DIVR (R161). The instruction writes quotient and remainder to a register pair in 66 clocks. -/
def execDivr (h : Nat) (rd rs1 rs2 : BitVec 5) (s : State) : Host.Outcome State Fault Refusal :=
  onDev s (fun d => d.executes h (.r .divr rd rs1 rs2) (fun d => d.instrT h (fun _ t => pairR divQ divRem rd rs1 rs2 t)))

/-- ADDK (R162). The instruction adds a sign-extended constant. -/
def execAddk (h : Nat) (rd rs1 : BitVec 5) (imm : BitVec 16) (s : State) : Host.Outcome State Fault Refusal :=
  onDev s (fun d => d.executes h (.k .addk rd rs1 imm) (fun d => d.instrT h (fun _ t => aluK (fun a => a + (imm.signExtend 64)) rd rs1 t)))

/-- ANDK (R162). The instruction ands a zero-extended constant. -/
def execAndk (h : Nat) (rd rs1 : BitVec 5) (imm : BitVec 16) (s : State) : Host.Outcome State Fault Refusal :=
  onDev s (fun d => d.executes h (.k .andk rd rs1 imm) (fun d => d.instrT h (fun _ t => aluK (fun a => a &&& (imm.setWidth 64)) rd rs1 t)))

/-- ORK (R162). The instruction ors a zero-extended constant. -/
def execOrk (h : Nat) (rd rs1 : BitVec 5) (imm : BitVec 16) (s : State) : Host.Outcome State Fault Refusal :=
  onDev s (fun d => d.executes h (.k .ork rd rs1 imm) (fun d => d.instrT h (fun _ t => aluK (fun a => a ||| (imm.setWidth 64)) rd rs1 t)))

/-- XORK (R162). The instruction exclusive-ors a zero-extended constant. -/
def execXork (h : Nat) (rd rs1 : BitVec 5) (imm : BitVec 16) (s : State) : Host.Outcome State Fault Refusal :=
  onDev s (fun d => d.executes h (.k .xork rd rs1 imm) (fun d => d.instrT h (fun _ t => aluK (fun a => a ^^^ (imm.setWidth 64)) rd rs1 t)))

/-- SHLK (R162). The instruction shifts left by a constant. -/
def execShlk (h : Nat) (rd rs1 : BitVec 5) (imm : BitVec 16) (s : State) : Host.Outcome State Fault Refusal :=
  onDev s (fun d => d.executes h (.k .shlk rd rs1 imm) (fun d => d.instrT h (fun _ t => aluK (fun a => a <<< (imm.toNat % 64)) rd rs1 t)))

/-- SHRZK (R162). The instruction shifts right by a constant with zero fill. -/
def execShrzk (h : Nat) (rd rs1 : BitVec 5) (imm : BitVec 16) (s : State) : Host.Outcome State Fault Refusal :=
  onDev s (fun d => d.executes h (.k .shrzk rd rs1 imm) (fun d => d.instrT h (fun _ t => aluK (fun a => a >>> (imm.toNat % 64)) rd rs1 t)))

/-- SHRSK (R162). The instruction shifts right by a constant with sign fill. -/
def execShrsk (h : Nat) (rd rs1 : BitVec 5) (imm : BitVec 16) (s : State) : Host.Outcome State Fault Refusal :=
  onDev s (fun d => d.executes h (.k .shrsk rd rs1 imm) (fun d => d.instrT h (fun _ t => aluK (fun a => a.sshiftRight (imm.toNat % 64)) rd rs1 t)))

/-- KSH (R162). The instruction shifts a 16-bit constant in from the right. -/
def execKsh (h : Nat) (rd rs1 : BitVec 5) (imm : BitVec 16) (s : State) : Host.Outcome State Fault Refusal :=
  onDev s (fun d => d.executes h (.k .ksh rd rs1 imm) (fun d => d.instrT h (fun _ t => aluK (fun a => (a <<< 16) ||| (imm.setWidth 64)) rd rs1 t)))

/-- SETLTK (R162). The instruction sets 1 on signed less-than a constant. -/
def execSetltk (h : Nat) (rd rs1 : BitVec 5) (imm : BitVec 16) (s : State) : Host.Outcome State Fault Refusal :=
  onDev s (fun d => d.executes h (.k .setltk rd rs1 imm) (fun d => d.instrT h (fun _ t => aluK (fun a => b2w (condHolds 2 a (imm.signExtend 64))) rd rs1 t)))

/-- SETLTUK (R162). The instruction sets 1 on unsigned less-than a constant. -/
def execSetltuk (h : Nat) (rd rs1 : BitVec 5) (imm : BitVec 16) (s : State) : Host.Outcome State Fault Refusal :=
  onDev s (fun d => d.executes h (.k .setltuk rd rs1 imm) (fun d => d.instrT h (fun _ t => aluK (fun a => b2w (condHolds 4 a (imm.signExtend 64))) rd rs1 t)))

/-- LD (R163). The instruction loads a 64-bit word with its tag and residue. -/
def execLd (h : Nat) (rd rs1 : BitVec 5) (imm : BitVec 16) (s : State) : Host.Outcome State Fault Refusal :=
  onDev s (fun d => d.executes h (.load .w8 rd rs1 imm) (fun d => d.instrT h (fun e t => doLoad h 8 rd rs1 imm (d.cmd e) t)))

/-- LW (R163). The instruction loads 4 bytes zero-extended. -/
def execLw (h : Nat) (rd rs1 : BitVec 5) (imm : BitVec 16) (s : State) : Host.Outcome State Fault Refusal :=
  onDev s (fun d => d.executes h (.load .w4 rd rs1 imm) (fun d => d.instrT h (fun e t => doLoad h 4 rd rs1 imm (d.cmd e) t)))

/-- LH (R163). The instruction loads 2 bytes zero-extended. -/
def execLh (h : Nat) (rd rs1 : BitVec 5) (imm : BitVec 16) (s : State) : Host.Outcome State Fault Refusal :=
  onDev s (fun d => d.executes h (.load .w2 rd rs1 imm) (fun d => d.instrT h (fun e t => doLoad h 2 rd rs1 imm (d.cmd e) t)))

/-- LB (R163). The instruction loads 1 byte zero-extended. -/
def execLb (h : Nat) (rd rs1 : BitVec 5) (imm : BitVec 16) (s : State) : Host.Outcome State Fault Refusal :=
  onDev s (fun d => d.executes h (.load .w1 rd rs1 imm) (fun d => d.instrT h (fun e t => doLoad h 1 rd rs1 imm (d.cmd e) t)))

/-- ST (R163). The instruction stores a 64-bit word with its tag and residue. -/
def execSt (h : Nat) (rs2 rs1 : BitVec 5) (imm : BitVec 16) (s : State) : Host.Outcome State Fault Refusal :=
  onDev s (fun d => d.executes h (.store .w8 rs2 rs1 imm) (fun d => d.instrT h (fun _ t => doStore 8 rs2 rs1 imm t)))

/-- SW (R163). The instruction stores 4 bytes, merging tags under R140. -/
def execSw (h : Nat) (rs2 rs1 : BitVec 5) (imm : BitVec 16) (s : State) : Host.Outcome State Fault Refusal :=
  onDev s (fun d => d.executes h (.store .w4 rs2 rs1 imm) (fun d => d.instrT h (fun _ t => doStore 4 rs2 rs1 imm t)))

/-- SH (R163). The instruction stores 2 bytes, merging tags under R140. -/
def execSh (h : Nat) (rs2 rs1 : BitVec 5) (imm : BitVec 16) (s : State) : Host.Outcome State Fault Refusal :=
  onDev s (fun d => d.executes h (.store .w2 rs2 rs1 imm) (fun d => d.instrT h (fun _ t => doStore 2 rs2 rs1 imm t)))

/-- SB (R163). The instruction stores 1 byte, merging tags under R140. -/
def execSb (h : Nat) (rs2 rs1 : BitVec 5) (imm : BitVec 16) (s : State) : Host.Outcome State Fault Refusal :=
  onDev s (fun d => d.executes h (.store .w1 rs2 rs1 imm) (fun d => d.instrT h (fun _ t => doStore 1 rs2 rs1 imm t)))

/-- BR (R164). The instruction branches when its condition on two PLAIN registers holds. -/
def execBr (h : Nat) (cond : Cond) (rs1 rs2 : BitVec 5) (off : BitVec 13) (s : State) : Host.Outcome State Fault Refusal :=
  onDev s (fun d => d.executes h (.br cond rs1 rs2 off) (fun d => d.instrT h (fun _ t => doBr cond.code rs1 rs2 off t)))

/-- JUMP (R164). The instruction jumps to a relative target, optionally keeping a link. -/
def execJump (h : Nat) (rd : BitVec 5) (off : BitVec 21) (s : State) : Host.Outcome State Fault Refusal :=
  onDev s (fun d => d.executes h (.jump rd off) (fun d => d.instrT h (fun _ t => doJump rd off t)))

/-- JMPR (R164). The instruction jumps to a computed PLAIN target. -/
def execJmpr (h : Nat) (rd rs1 : BitVec 5) (s : State) : Host.Outcome State Fault Refusal :=
  onDev s (fun d => d.executes h (.jmpr rd rs1) (fun d => d.instrT h (fun _ t => doJmpr rd rs1 t)))

/-- MOV (R165). The instruction copies a register with its tag, POISON cause included. -/
def execMov (h : Nat) (rd rs1 : BitVec 5) (s : State) : Host.Outcome State Fault Refusal :=
  onDev s (fun d => d.executes h (.tag .mov rd rs1) (fun d => d.instrT h (fun _ t => doMov rd rs1 t)))

/-- GLZ (R165). The instruction copies a register tagged GLAZED. -/
def execGlz (h : Nat) (rd rs1 : BitVec 5) (s : State) : Host.Outcome State Fault Refusal :=
  onDev s (fun d => d.executes h (.tag .glz rd rs1) (fun d => d.instrT h (fun _ t => doGlz rd rs1 t)))

/-- HMAKE (R165). The instruction turns a PLAIN word into a HANDLE. -/
def execHmake (h : Nat) (rd rs1 : BitVec 5) (s : State) : Host.Outcome State Fault Refusal :=
  onDev s (fun d => d.executes h (.tag .hmake rd rs1) (fun d => d.instrT h (fun _ t => doHmake rd rs1 t)))

/-- PANFIELD (R143). The Sealed Operand Unit builds the PAN field of a PIN block format. -/
def execPanfield (h : Nat) (rd rs1 rs2 rs3 : BitVec 5) (s : State) : Host.Outcome State Fault Refusal :=
  onDev s (fun d => d.executes h (.sou .panfield rd rs1 rs2 rs3) (fun d => d.instrT h (fun _ t => doPanfield rd rs1 rs2 rs3 t)))

/-- PINCHK (R144). The Sealed Operand Unit checks a clear PIN field and returns one pass or fail bit. -/
def execPinchk (h : Nat) (rd rs1 rs2 rs3 : BitVec 5) (s : State) : Host.Outcome State Fault Refusal :=
  onDev s (fun d => d.executes h (.sou .pinchk rd rs1 rs2 rs3) (fun d => d.instrT h (fun _ t => doPinchk d.pinFloor rd rs1 rs2 rs3 t)))

/-- DECIM (R143). The Sealed Operand Unit maps leftmost digits through the decimalisation table. -/
def execDecim (h : Nat) (rd rs1 rs2 rs3 : BitVec 5) (s : State) : Host.Outcome State Fault Refusal :=
  onDev s (fun d => d.executes h (.sou .decim rd rs1 rs2 rs3) (fun d => d.instrT h (fun _ t => doDecim rd rs1 rs2 rs3 t)))

/-- OFFADD (R143). The Sealed Operand Unit adds digit strings modulo 10. -/
def execOffadd (h : Nat) (rd rs1 rs2 rs3 : BitVec 5) (s : State) : Host.Outcome State Fault Refusal :=
  onDev s (fun d => d.executes h (.sou .offadd rd rs1 rs2 rs3) (fun d => d.instrT h (fun _ t => doOff digAdd rd rs1 rs2 rs3 t)))

/-- OFFSUB (R143). The Sealed Operand Unit subtracts digit strings modulo 10. -/
def execOffsub (h : Nat) (rd rs1 rs2 rs3 : BitVec 5) (s : State) : Host.Outcome State Fault Refusal :=
  onDev s (fun d => d.executes h (.sou .offsub rd rs1 rs2 rs3) (fun d => d.instrT h (fun _ t => doOff digSub rd rs1 rs2 rs3 t)))

/-- CMPEQ (R143). The Sealed Operand Unit compares two operands under a mask and returns one bit. -/
def execCmpeq (h : Nat) (rd rs1 rs2 rs3 : BitVec 5) (s : State) : Host.Outcome State Fault Refusal :=
  onDev s (fun d => d.executes h (.sou .cmpeq rd rs1 rs2 rs3) (fun d => d.instrT h (fun _ t => doCmpeq rd rs1 rs2 rs3 t)))

/-- MACCMP (R143). The Sealed Operand Unit compares the leftmost bytes of two 16-byte operands and returns one bit. -/
def execMaccmp (h : Nat) (rd rs1 rs2 rs3 : BitVec 5) (s : State) : Host.Outcome State Fault Refusal :=
  onDev s (fun d => d.executes h (.sou .maccmp rd rs1 rs2 rs3) (fun d => d.instrT h (fun _ t => doMaccmp rd rs1 rs2 rs3 t)))

/-- PINCONV (R145). The Sealed Operand Unit converts a PIN field to the destination format with random fill. -/
def execPinconv (h : Nat) (rd rs1 rs2 rs3 : BitVec 5) (s : State) : Host.Outcome State Fault Refusal :=
  onDev s (fun d => d.executes h (.sou .pinconv rd rs1 rs2 rs3) (fun d => d.pinconv h rd rs1 rs2 rs3))

/-- OFFPACK (R143). The Sealed Operand Unit builds an offset layout with random fill. -/
def execOffpack (h : Nat) (rd rs1 rs2 rs3 : BitVec 5) (s : State) : Host.Outcome State Fault Refusal :=
  onDev s (fun d => d.executes h (.sou .offpack rd rs1 rs2 rs3) (fun d => d.offpack h rd rs1 rs2 rs3))

/-- ZEROISE (R166). The Sealed Operand Unit clears a register or a slice range. -/
def execZeroise (h : Nat) (rd rs1 rs2 rs3 : BitVec 5) (s : State) : Host.Outcome State Fault Refusal :=
  onDev s (fun d => d.executes h (.sou .zeroise rd rs1 rs2 rs3) (fun d => d.instrT h (fun _ t => doZeroise rd rs1 rs2 t)))

/-- ECALL (R172). The instruction checks and sends one engine request on a token. -/
def execEcall (h : Nat) (tk : BitVec 4) (ra rk rb rx : BitVec 5) (s : State) : Host.Outcome State Fault Refusal :=
  onDev s (fun d => d.executes h (.ecall tk ra rk rb rx) (fun d => d.doEcall h tk.toNat ra rk rb rx))

/-- TWAIT (R168). The instruction waits for a token's result, writes the destination pair and frees the token. -/
def execTwait (h : Nat) (tk : BitVec 4) (ra : BitVec 5) (s : State) : Host.Outcome State Fault Refusal :=
  onDev s (fun d => d.executes h (.twait tk ra) (fun d => d.doTwait h tk.toNat ra))

/-- TWALL (R168). The instruction waits until every busy token's result has arrived. -/
def execTwall (h : Nat) (s : State) : Host.Outcome State Fault Refusal :=
  onDev s (fun d => d.executes h (.twall) (fun d => d.doTwall h))

/-- RAND (R176). The instruction requests 64 bits from internal instance D. -/
def execRand (h : Nat) (rd : BitVec 5) (s : State) : Host.Outcome State Fault Refusal :=
  onDev s (fun d => d.executes h (.rand rd) (fun d => d.doRand h rd))

/-- CINC (R177). The instruction increments one of the partition's monotonic counters. -/
def execCinc (h : Nat) (tk : BitVec 4) (rk : BitVec 5) (s : State) : Host.Outcome State Fault Refusal :=
  onDev s (fun d => d.executes h (.cinc tk rk) (fun d => d.doCinc h tk.toNat rk))

/-- CSYNC (R178). The instruction waits until the command's counter commits are durable. -/
def execCsync (h : Nat) (s : State) : Host.Outcome State Fault Refusal :=
  onDev s (fun d => d.executes h (.csync) (fun d => d.doCsync h))

/-- RELEASE (R179). The instruction waits for its tokens and hands the status and RESULT to the HIU. -/
def execRelease (h : Nat) (rs1 : BitVec 5) (s : State) : Host.Outcome State Fault Refusal :=
  onDev s (fun d => d.executes h (.release rs1) (fun d => d.doRelease h rs1))

/-- DONE (R180). The instruction ends the thread's hold on its command, or traps before RELEASE. -/
def execDone (h : Nat) (s : State) : Host.Outcome State Fault Refusal :=
  onDev s (fun d => d.executes h (.done) (fun d => d.instr h (fun _ _ => ([], d.doDone h))))

end Sys2Proof.Machine
end

