-- ==== Sys2Proof/Machine/CourseCmds.lean ====
section
/-! DEFINITION. The meanings of fetching, admission, contexts, fences and completions (R45 to R86). -/

namespace Sys2Proof.Machine

/-- DESCRIPTOR_FETCH (R45). The HIU issues a 64-byte read of the next ring entry once a free staging entry of the partition's
quota exists. -/
def execDescriptorFetch (n i e : Nat) (s : State) : Host.Outcome State Fault Refusal :=
  onDev s (fun d => d.descriptorFetch n i e)

/-- DESCRIPTOR_READ_COMPLETION (R56). A fetched descriptor is checked in order, written to staging and handed to the Dispatcher,
or completed with its failure status. -/
def execDescriptorReadCompletion (e : Nat) (w : BitVec 512) (s : State) : Host.Outcome State Fault Refusal :=
  onDev s (fun d => d.descriptorArrives e w)

/-- PALLET_FETCH (R57). The HIU reads a pallet block once all its descriptors fit within the staging quota. -/
def execPalletFetch (e : Nat) (es : List Nat) (s : State) : Host.Outcome State Fault Refusal :=
  onDev s (fun d => d.palletFetch e es)

/-- PALLET_READ_COMPLETION (R58). A pallet block's descriptors enter the Dispatcher in index order, or the pallet is rejected
with one completion. -/
def execPalletReadCompletion (e : Nat) (ws : List (BitVec 512)) (s : State) : Host.Outcome State Fault Refusal :=
  onDev s (fun d => d.palletArrives e ws)

/-- READ_FAILURE (R32). An Unsupported Request, Completer Abort or poisoned completion of a device read stops the course or
fails the command. -/
def execReadFailure (e : Nat) (s : State) : Host.Outcome State Fault Refusal :=
  onDev s (fun d => (d.readFails e).wdnTidy)

/-- READ_COMPLETION_TIMEOUT (R32). A device-initiated read whose completion timeout expires fails as R32 gives. -/
def execReadCompletionTimeout (e : Nat) (s : State) : Host.Outcome State Fault Refusal :=
  onDev s (fun d => (d.readFails e).wdnTidy)

/-- INPUT_PREFETCH (R134). The HIU reads an input area of 1 to 256 bytes into INPUT_PREFETCH before the command enters Running.
-/
def execInputPrefetch (e : Nat) (bs : List Byte) (s : State) : Host.Outcome State Fault Refusal :=
  onDev s (fun d => d.inputPrefetch e bs)

/-- COMMAND_ADMIT (R67). The Dispatcher applies the admission checks to a staged command and admits it, rejects it, or lets it
wait. -/
def execCommandAdmit (e : Nat) (s : State) : Host.Outcome State Fault Refusal :=
  onDev s (fun d => d.commandAdmit e)

/-- THREAD_ASSIGN (R66). The Dispatcher gives a free thread of a current tile to the oldest waiting admitted command. -/
def execThreadAssign (e h : Nat) (cached : Bool) (s : State) : Host.Outcome State Fault Refusal :=
  onDev s (fun d => d.threadAssign e h cached)

/-- CONTEXT_SET (R71). CONTEXT_SET replaces a context record in one step and returns its WRITE_SEQ. -/
def execContextSet (e : Nat) (bs : List Byte) (s : State) : Host.Outcome State Fault Refusal :=
  onDev s (fun d => d.contextSet e bs)

/-- CONTEXT_GET (R71). CONTEXT_GET writes a context record to the output area and returns its WRITE_SEQ. -/
def execContextGet (e : Nat) (s : State) : Host.Outcome State Fault Refusal :=
  onDev s (fun d => d.contextGet e)

/-- FENCE_COURSE (R79). A FENCE_COURSE orders the commands of its own submission course. -/
def execFenceCourse (e : Nat) (s : State) : Host.Outcome State Fault Refusal :=
  onDev s (fun d => d.fenceAs 0xF000 e)

/-- FENCE_PARTITION (R79). A FENCE_PARTITION orders the commands of every course of the partition. -/
def execFencePartition (e : Nat) (s : State) : Host.Outcome State Fault Refusal :=
  onDev s (fun d => d.fenceAs 0xF001 e)

/-- FENCE_KEYS (R79). A FENCE_KEYS also waits until committed vault changes of the partition have reached every engine and
drained. -/
def execFenceKeys (e : Nat) (s : State) : Host.Outcome State Fault Refusal :=
  onDev s (fun d => d.fenceAs 0xF002 e)

/-- FENCE_COUNTERS (R79). A FENCE_COUNTERS also waits until earlier counter commits of the partition are durable. -/
def execFenceCounters (e : Nat) (s : State) : Host.Outcome State Fault Refusal :=
  onDev s (fun d => d.fenceAs 0xF003 e)

/-- FENCE_BOND (R79). A FENCE_BOND also waits until replication transactions are applied by every live worker, or locally
applied on a worker. -/
def execFenceBond (e : Nat) (s : State) : Host.Outcome State Fault Refusal :=
  onDev s (fun d => d.fenceAs 0xF004 e)

/-- FENCE_SATISFIED (R80). When its conditions hold, a fence receives its satisfaction number S and its completion is queued. -/
def execFenceSatisfied (e : Nat) (s : State) : Host.Outcome State Fault Refusal :=
  onDev s (fun d => d.fenceSatisfied e)

/-- COMPLETION_QUEUE (R84). The HIU queues a completion once RELEASE is issued and every output write of the command has been
sent. -/
def execCompletionQueue (e : Nat) (s : State) : Host.Outcome State Fault Refusal :=
  onDev s (fun d => d.completionQueue e)

/-- COMPLETION_WRITE (R60). The HIU writes a 32-byte completion to entry TAIL once ring space exists, setting FULL while it
waits. -/
def execCompletionWrite (n i : Nat) (s : State) : Host.Outcome State Fault Refusal :=
  onDev s (fun d => d.completionWrite n i)

/-- COAL_TIMER_EXPIRY (R63). The coalescing time expires and the completion course sends its MSI-X message. -/
def execCoalTimerExpiry (n i : Nat) (s : State) : Host.Outcome State Fault Refusal :=
  onDev s (fun d => d.coalExpire n i)

end Sys2Proof.Machine
end

