-- ==== Sys2Proof/Machine/HashCmds.lean ====
section
/-! DEFINITION. The meanings of the hash engines and the public-key and lattice engine (R204 to R222). -/

namespace Sys2Proof.Machine

/-- SHA_256 (R207). A SHA-256 hash request is checked and queued. -/
def execSha256 (h tk : Nat) (s : State) : Host.Outcome State Fault Refusal :=
  onDev s (fun d => d.hashEnter 1 h tk false)

/-- SHA_384 (R207). A SHA-384 hash request is checked and queued. -/
def execSha384 (h tk : Nat) (s : State) : Host.Outcome State Fault Refusal :=
  onDev s (fun d => d.hashEnter 2 h tk false)

/-- SHA_512 (R207). A SHA-512 hash request is checked and queued. -/
def execSha512 (h tk : Nat) (s : State) : Host.Outcome State Fault Refusal :=
  onDev s (fun d => d.hashEnter 3 h tk false)

/-- SHA3_256 (R207). A SHA3-256 hash request is checked and queued. -/
def execSha3256 (h tk : Nat) (s : State) : Host.Outcome State Fault Refusal :=
  onDev s (fun d => d.hashEnter 4 h tk false)

/-- SHA3_384 (R207). A SHA3-384 hash request is checked and queued. -/
def execSha3384 (h tk : Nat) (s : State) : Host.Outcome State Fault Refusal :=
  onDev s (fun d => d.hashEnter 5 h tk false)

/-- SHA3_512 (R207). A SHA3-512 hash request is checked and queued. -/
def execSha3512 (h tk : Nat) (s : State) : Host.Outcome State Fault Refusal :=
  onDev s (fun d => d.hashEnter 6 h tk false)

/-- SHAKE128 (R207). A SHAKE128 request is checked and queued. -/
def execShake128 (h tk : Nat) (s : State) : Host.Outcome State Fault Refusal :=
  onDev s (fun d => d.hashEnter 7 h tk false)

/-- SHAKE256 (R207). A SHAKE256 request is checked and queued. -/
def execShake256 (h tk : Nat) (s : State) : Host.Outcome State Fault Refusal :=
  onDev s (fun d => d.hashEnter 8 h tk false)

/-- HASH_SQUEEZE (R208). A SQUEEZE request applies one permutation to a final SHAKE state. -/
def execHashSqueeze (h tk : Nat) (s : State) : Host.Outcome State Fault Refusal :=
  onDev s (fun d => d.hashSqueezeEnter h tk)

/-- HASH_ENGINE_DISPATCH (R205). A free hash engine takes the oldest entry of its queue and runs it to its last block. -/
def execHashEngineDispatch (u : Nat) (area : List Byte) (bad : Bool) (s : State) : Host.Outcome State Fault Refusal :=
  onDev s (fun d => d.hashDispatch u area bad)

/-- HPK_SELFTEST_DONE (R221). A hash or PKL unit's self-test ends, returning it to service or retiring it for good. -/
def execHpkSelftestDone (u : Nat) (pass : Bool) (s : State) : Host.Outcome State Fault Refusal :=
  onDev s (fun d => d.unitTested u pass)

/-- PKL_RSA_PRIVATE (R213). A PKL RSA private CRT request with re-encryption check is checked and queued. -/
def execPklRsaPrivate (h tk m : Nat) (s : State) : Host.Outcome State Fault Refusal :=
  onDev s (fun d => d.pklEnter 0x01 h tk m)

/-- PKL_RSA_PUBLIC (R213). A PKL RSA public request is checked and queued. -/
def execPklRsaPublic (h tk m : Nat) (s : State) : Host.Outcome State Fault Refusal :=
  onDev s (fun d => d.pklEnter 0x02 h tk m)

/-- PKL_ECDSA_SIGN (R213). A PKL ECDSA sign request is checked and queued. -/
def execPklEcdsaSign (h tk m : Nat) (s : State) : Host.Outcome State Fault Refusal :=
  onDev s (fun d => d.pklEnter 0x03 h tk m)

/-- PKL_ECDSA_VERIFY (R213). A PKL ECDSA verify request is checked and queued. -/
def execPklEcdsaVerify (h tk m : Nat) (s : State) : Host.Outcome State Fault Refusal :=
  onDev s (fun d => d.pklEnter 0x04 h tk m)

/-- PKL_EC_KEY_GENERATION (R215). A PKL EC key generation request installs a private scalar into a record. -/
def execPklEcKeyGeneration (h tk m : Nat) (s : State) : Host.Outcome State Fault Refusal :=
  onDev s (fun d => d.pklEnter 0x05 h tk m)

/-- PKL_ECDH (R215). A PKL ECDH request installs the shared secret into a record. -/
def execPklEcdh (h tk m : Nat) (s : State) : Host.Outcome State Fault Refusal :=
  onDev s (fun d => d.pklEnter 0x06 h tk m)

/-- PKL_ED25519_SIGN (R213). A PKL Ed25519 sign request is checked and queued. -/
def execPklEd25519Sign (h tk m : Nat) (s : State) : Host.Outcome State Fault Refusal :=
  onDev s (fun d => d.pklEnter 0x07 h tk m)

/-- PKL_ED25519_VERIFY (R213). A PKL Ed25519 verify request is checked and queued. -/
def execPklEd25519Verify (h tk m : Nat) (s : State) : Host.Outcome State Fault Refusal :=
  onDev s (fun d => d.pklEnter 0x08 h tk m)

/-- PKL_X25519 (R215). A PKL X25519 request installs the shared secret into a record. -/
def execPklX25519 (h tk m : Nat) (s : State) : Host.Outcome State Fault Refusal :=
  onDev s (fun d => d.pklEnter 0x09 h tk m)

/-- PKL_MLKEM_KEY_GENERATION (R215). A PKL ML-KEM key generation request installs the seed into a record. -/
def execPklMlkemKeyGeneration (h tk m : Nat) (s : State) : Host.Outcome State Fault Refusal :=
  onDev s (fun d => d.pklEnter 0x0A h tk m)

/-- PKL_MLKEM_ENCAPSULATION (R215). A PKL ML-KEM encapsulation request installs the shared secret into a record. -/
def execPklMlkemEncapsulation (h tk m : Nat) (s : State) : Host.Outcome State Fault Refusal :=
  onDev s (fun d => d.pklEnter 0x0B h tk m)

/-- PKL_MLKEM_DECAPSULATION (R215). A PKL ML-KEM decapsulation request installs the shared secret into a record. -/
def execPklMlkemDecapsulation (h tk m : Nat) (s : State) : Host.Outcome State Fault Refusal :=
  onDev s (fun d => d.pklEnter 0x0C h tk m)

/-- PKL_MLDSA_SIGN (R213). A PKL ML-DSA sign request is checked and queued. -/
def execPklMldsaSign (h tk m : Nat) (s : State) : Host.Outcome State Fault Refusal :=
  onDev s (fun d => d.pklEnter 0x0D h tk m)

/-- PKL_MLDSA_VERIFY (R213). A PKL ML-DSA verify request is checked and queued. -/
def execPklMldsaVerify (h tk m : Nat) (s : State) : Host.Outcome State Fault Refusal :=
  onDev s (fun d => d.pklEnter 0x0E h tk m)

/-- PKL_RAW_MODULAR_MULTIPLY (R213). A PKL raw Montgomery multiply request is checked and queued. -/
def execPklRawModularMultiply (h tk m : Nat) (s : State) : Host.Outcome State Fault Refusal :=
  onDev s (fun d => d.pklEnter 0x10 h tk m)

/-- PKL_RAW_NTT (R213). A PKL raw forward NTT request is checked and queued. -/
def execPklRawNtt (h tk m : Nat) (s : State) : Host.Outcome State Fault Refusal :=
  onDev s (fun d => d.pklEnter 0x11 h tk m)

/-- PKL_RAW_INVERSE_NTT (R213). A PKL raw inverse NTT request is checked and queued. -/
def execPklRawInverseNtt (h tk m : Nat) (s : State) : Host.Outcome State Fault Refusal :=
  onDev s (fun d => d.pklEnter 0x12 h tk m)

/-- PKL_UNIT_DISPATCH (R210). A free modular lane or NTT unit takes the oldest entry of its queue and runs the operation. -/
def execPklUnitDispatch (u : Nat) (area : List Byte) (cause : Nat) (s : State) : Host.Outcome State Fault Refusal :=
  onDev s (fun d => d.pklDispatch u area cause)

/-- PKL_CLOCK_GATE (R210). CD_PKL is gated after both queues are empty and every unit idle for GATE_IDLE. -/
def execPklClockGate (s : State) : Host.Outcome State Fault Refusal :=
  onDev s (fun d => d.pklGate)

/-- PKL_CLOCK_RESTART (R210). A request arriving while CD_PKL is gated waits 1 µs for the clock to restart. -/
def execPklClockRestart (s : State) : Host.Outcome State Fault Refusal :=
  onDev s (fun d => d.pklRestart)

end Sys2Proof.Machine
end

