-- ==== Sys2Proof/Machine/HostCmds.lean ====
section
/-! DEFINITION. The meanings of the host accesses, doorbells, link and function events (R8 to R63, R416). -/

namespace Sys2Proof.Machine

/-- REGISTER_WRITE (R416). A host or I3C write to a register field that has no row of its own is stored, held pending or applied
according to its change class. -/
def execRegisterWrite (v : Via) (off size : Nat) (w : Word) (s : State) : Host.Outcome State Fault Refusal :=
  onChip s (fun c => c.registerWrite v off size w)

/-- RC_READ (R8). A 64-bit read of a register with RC fields returns them and clears them, and an update in the same cycle is
kept. -/
def execRcRead (v : Via) (off size : Nat) (s : State) : Host.Outcome State Fault Refusal :=
  onChip s (fun c => c.registerRead v off size)

/-- RNG_DATA_READ (R275). A 64-bit read of a partition's RNG_DATA consumes a valid value, or returns zero and sets EMPTY_READ.
-/
def execRngDataRead (n : Nat) (st : Option Nat) (size : Nat) (s : State) : Host.Outcome State Fault Refusal :=
  onChip s (fun c => c.rngDataRead n st size)

/-- RNG_DATA_LOAD (R275). The next host-instance value is loaded into a partition's RNG_DATA within 50 ns while output is
buffered. -/
def execRngDataLoad (n : Nat) (s : State) : Host.Outcome State Fault Refusal :=
  onDev s (fun d => d.rngLoad n)

/-- MSIX_TABLE_WRITE (R62). A BAR4 write to the MSI-X table or its masks is performed, and unmasking sends the message of a
pending vector. -/
def execMsixTableWrite (n : Nat) (st : Option Nat) (off size x : Nat) (s : State) : Host.Outcome State Fault Refusal :=
  onDev s (fun d => d.msixWrite n st off size x)

/-- SQ_DOORBELL (R52). A 64-bit doorbell write records a submission course's new TAIL, or stops the course with BAD_DOORBELL. -/
def execSqDoorbell (n : Nat) (st : Option Nat) (i size x : Nat) (s : State) : Host.Outcome State Fault Refusal :=
  onDev s (fun d => d.sqDoorbell n st i size x)

/-- CQ_DOORBELL (R52). A 64-bit doorbell write records a completion course's new HEAD and returns entries, or stops the course
with BAD_DOORBELL. -/
def execCqDoorbell (n : Nat) (st : Option Nat) (i size x : Nat) (s : State) : Host.Outcome State Fault Refusal :=
  onDev s (fun d => d.cqDoorbell n st i size x)

/-- SQ_ENABLE (R50). Writing ENABLE 1 to a disabled submission course clears its positions and enables it if every condition
holds. -/
def execSqEnable (n : Nat) (st : Option Nat) (i : Nat) (s : State) : Host.Outcome State Fault Refusal :=
  onDev s (fun d => d.sqEnable n st i)

/-- CQ_ENABLE (R50). Writing ENABLE 1 to a disabled completion course clears its positions, sets PHASE 1 and enables it if every
condition holds. -/
def execCqEnable (n : Nat) (st : Option Nat) (i : Nat) (s : State) : Host.Outcome State Fault Refusal :=
  onDev s (fun d => d.cqEnable n st i)

/-- SQ_DISABLE (R50). Writing ENABLE 0 to a submission course stops fetching at once while fetched commands complete. -/
def execSqDisable (n : Nat) (st : Option Nat) (i : Nat) (s : State) : Host.Outcome State Fault Refusal :=
  onDev s (fun d => d.sqDisable n st i)

/-- CQ_DISABLE (R50). Writing ENABLE 0 to a completion course disables it unless an enabled submission course names it,
discarding waiting completions. -/
def execCqDisable (n : Nat) (st : Option Nat) (i : Nat) (s : State) : Host.Outcome State Fault Refusal :=
  onDev s (fun d => d.cqDisable n st i)

/-- SQ_PAUSE (R52). Writing PAUSE stops or resumes fetching on a submission course while doorbells are still recorded. -/
def execSqPause (n : Nat) (st : Option Nat) (i : Nat) (on : Bool) (s : State) : Host.Outcome State Fault Refusal :=
  onDev s (fun d => d.sqPause n st i on)

/-- INT_ENABLE (R63). Setting INT_EN from 0 to 1 sends one message at once if unreturned completions are present and restarts
coalescing. -/
def execIntEnable (n : Nat) (st : Option Nat) (i : Nat) (on : Bool) (s : State) : Host.Outcome State Fault Refusal :=
  onDev s (fun d => d.intEnable n st i on)

/-- PARTITION_ENABLE (R47). Writing PART_CTRL.ENABLE permits fetching for a partition or stops it at once. -/
def execPartitionEnable (st : Option Nat) (n : Nat) (on : Bool) (s : State) : Host.Outcome State Fault Refusal :=
  onDev s (fun d => d.partitionEnable st n on)

/-- PARTITION_RESET (R46). Writing PART_CTRL.RESET applies a function-level reset to the partition. -/
def execPartitionReset (st : Option Nat) (n : Nat) (s : State) : Host.Outcome State Fault Refusal :=
  onDev s (fun d => d.partitionReset st n)

/-- VF_FLR (R46). A PCIe Function Level Reset of a virtual function applies a function-level reset to its partition. -/
def execVfFlr (n : Nat) (s : State) : Host.Outcome State Fault Refusal :=
  onDev s (fun d => d.vfFlr n)

/-- VF_DISABLE (R36). Clearing VF Enable or lowering NumVFs applies a function-level reset to each virtual function that
disappears. -/
def execVfDisable (num : Nat) (s : State) : Host.Outcome State Fault Refusal :=
  onDev s (fun d => d.vfDisable num)

/-- VF_ENABLE_SET (R47). Setting VF Enable or raising NumVFs brings virtual functions into being, so their partitions can become
ENABLED. -/
def execVfEnableSet (num : Nat) (s : State) : Host.Outcome State Fault Refusal :=
  onDev s (fun d => d.vfGrow num)

/-- FUNCTION_LEVEL_RESET_END (R46). A function-level reset completes within 1 ms, RESETTING clears and MSI-X vector 0 fires. -/
def execFunctionLevelResetEnd (n : Nat) (s : State) : Host.Outcome State Fault Refusal :=
  onDev s (fun d => d.flrEnd n)

/-- IDE_KM_KEY_INSTALL (R33). IDE_KM in a secured SPDM session installs keys for a selective IDE stream. -/
def execIdeKmKeyInstall (k : Nat) (s : State) : Host.Outcome State Fault Refusal :=
  onDev s (fun d => d.ideInstall k)

/-- IDE_STREAM_INSECURE (R34). An IDE stream leaving the Secure state applies a function-level reset to every IDE-required
partition bound to it; with the stream, whether its integrity check failed. -/
def execIdeStreamInsecure (k : Nat × Bool) (s : State) : Host.Outcome State Fault Refusal :=
  onDev s (fun d => d.ideLost k.1 k.2)

/-- BUS_MASTER_ENABLE_CHANGE (R47). Clearing Bus Master Enable holds a function's writes and stops fetching; setting it sends
the held writes. -/
def execBusMasterEnableChange (n : Nat) (on : Bool) (s : State) : Host.Outcome State Fault Refusal :=
  onDev s (fun d => d.busMaster n on)

/-- POWER_STATE_CHANGE (R30). Entering D3hot stops a function's requests; returning to D0 sends its waiting writes in order. -/
def execPowerStateChange (n : Nat) (d3 : Bool) (s : State) : Host.Outcome State Fault Refusal :=
  onDev s (fun d => d.powerState n d3)

/-- MSIX_CONTROL_WRITE (R62). A configuration write of MSI-X Enable or Function Mask may release pending vectors as messages. -/
def execMsixControlWrite (n : Nat) (en mask : Bool) (s : State) : Host.Outcome State Fault Refusal :=
  onDev s (fun d => d.msixControl n en mask)

/-- DOE_DISCOVERY (R35). A DOE Discovery request object is answered by the DOE mailbox. -/
def execDoeDiscovery (len i : Nat) (s : State) : Host.Outcome State Fault Refusal :=
  onDev s (fun d => d.discovery len i)

end Sys2Proof.Machine
end

