-- ==== Sys2Proof/Machine/LibraryCmds.lean ====
section
/-! DEFINITION. The meanings of the Standard Function Library (R91 to R127). -/

namespace Sys2Proof.Machine

/-- PIN_TRANSLATE (R103). The library function decrypts a PIN block, rebuilds it in the destination format and encrypts it under
the destination key. -/
def execPinTranslate (h : Nat) (us : List KeyUse) (s : State) : Host.Outcome State Fault Refusal :=
  onDev s (fun d => d.pinTranslate h us)

/-- PIN_VERIFY (R107). The library function verifies an entered PIN by the decimalisation-table offset method. -/
def execPinVerify (h : Nat) (us : List KeyUse) (s : State) : Host.Outcome State Fault Refusal :=
  onDev s (fun d => d.pinVerify h us)

/-- PIN_OFFSET_GENERATE (R107). The library function computes a PIN offset and returns it encrypted under the offset key. -/
def execPinOffsetGenerate (h : Nat) (us : List KeyUse) (s : State) : Host.Outcome State Fault Refusal :=
  onDev s (fun d => d.pinOffsetGenerate h us)

/-- ARQC_VERIFY (R109). The library function verifies up to 32 ARQC records and produces ARPCs. -/
def execArqcVerify (h : Nat) (bs : List Byte) (us : List KeyUse) (s : State) : Host.Outcome State Fault Refusal :=
  onDev s (fun d => d.arqcVerify h bs us)

/-- ISSUER_SCRIPT (R110). The library function builds a protected issuer script command with encryption and MAC. -/
def execIssuerScript (h : Nat) (bs : List Byte) (us : List KeyUse) (s : State) : Host.Outcome State Fault Refusal :=
  onDev s (fun d => d.issuerScript h bs us)

/-- DUKPT_PIN_TRANSLATE (R112). The library function derives the DUKPT PIN key and translates the PIN block to the destination
key. -/
def execDukptPinTranslate (h : Nat) (us : List KeyUse) (s : State) : Host.Outcome State Fault Refusal :=
  onDev s (fun d => d.dukptPinTranslate h us)

/-- DUKPT_DATA (R113). The library function decrypts data or verifies a MAC under a DUKPT working key. -/
def execDukptData (h : Nat) (bs : List Byte) (us : List KeyUse) (s : State) : Host.Outcome State Fault Refusal :=
  onDev s (fun d => d.dukptDataFn h bs us)

/-- MAC_GENERATE (R114). The library function computes a MAC over the input area. -/
def execMacGenerate (h : Nat) (bs : List Byte) (us : List KeyUse) (s : State) : Host.Outcome State Fault Refusal :=
  onDev s (fun d => d.macGenerate h bs us)

/-- MAC_VERIFY (R114). The library function verifies a MAC over the input area. -/
def execMacVerify (h : Nat) (bs : List Byte) (us : List KeyUse) (s : State) : Host.Outcome State Fault Refusal :=
  onDev s (fun d => d.macVerify h bs us)

/-- CSC_GENERATE (R115). The library function computes a three-digit card security code. -/
def execCscGenerate (h : Nat) (us : List KeyUse) (s : State) : Host.Outcome State Fault Refusal :=
  onDev s (fun d => d.cscGenerate h us)

/-- CSC_VERIFY (R115). The library function verifies a card security code. -/
def execCscVerify (h : Nat) (us : List KeyUse) (s : State) : Host.Outcome State Fault Refusal :=
  onDev s (fun d => d.cscVerify h us)

/-- FF1_TOKENISE (R116). The library function tokenises a PAN with FF1 radix 10. -/
def execFf1Tokenise (h : Nat) (us : List KeyUse) (s : State) : Host.Outcome State Fault Refusal :=
  onDev s (fun d => d.ff1Tokenise h us)

/-- FF1_DETOKENISE (R116). The library function recovers a PAN from its FF1 token. -/
def execFf1Detokenise (h : Nat) (us : List KeyUse) (s : State) : Host.Outcome State Fault Refusal :=
  onDev s (fun d => d.ff1Detokenise h us)

/-- KEYBLOCK_IMPORT (R117). The Warden opens an X9.143 key block and installs the key in a vault slot by atomic replacement. -/
def execKeyblockImport (e : Nat) (bs : List Byte) (m : Nat) (s : State) : Host.Outcome State Fault Refusal :=
  onChip s (fun c => c.keyblockImport e bs m)

/-- KEYBLOCK_EXPORT (R119). The Warden wraps an exportable key under a KBPK into an X9.143 key block. -/
def execKeyblockExport (e m m1 : Nat) (s : State) : Host.Outcome State Fault Refusal :=
  onChip s (fun c => c.keyblockExport e m m1)

/-- TR34_NONCE (R120). The Warden returns a 16-byte TR-34 random number that replaces any earlier one for the partition. -/
def execTr34Nonce (e : Nat) (s : State) : Host.Outcome State Fault Refusal :=
  onChip s (fun c => c.tr34Nonce e)

/-- TR34_NONCE_EXPIRY (R120). A partition's outstanding TR-34 random number ceases to be valid 600 s after issue. -/
def execTr34NonceExpiry (n : Nat) (s : State) : Host.Outcome State Fault Refusal :=
  onDev s (fun d => d.tr34Expiry n)

/-- TR34_IMPORT (R120). The Warden verifies a TR-34 key token and installs the enveloped key. -/
def execTr34Import (e : Nat) (bs : List Byte) (s : State) : Host.Outcome State Fault Refusal :=
  onChip s (fun c => c.tr34Import e bs)

/-- WARDEN_REQUEST (R93). A Warden mailbox request carried on a partition's key-management course is executed for that
partition. -/
def execWardenRequest (e : Nat) (bs : List Byte) (s : State) : Host.Outcome State Fault Refusal :=
  onDev s (fun d => d.wardenRequest e bs)

/-- GCM_ENCRYPT (R121). The library function encrypts under AES-GCM with a hardware nonce. -/
def execGcmEncrypt (h : Nat) (bs : List Byte) (us : List KeyUse) (s : State) : Host.Outcome State Fault Refusal :=
  onDev s (fun d => d.gcmEncrypt h bs us)

/-- GCM_DECRYPT (R123). The library function decrypts under AES-GCM and checks the tag at the end. -/
def execGcmDecrypt (h : Nat) (bs : List Byte) (us : List KeyUse) (s : State) : Host.Outcome State Fault Refusal :=
  onDev s (fun d => d.gcmDecrypt h bs us)

/-- RANDOM (R124). The library function fills the output area from the host DRBG instance. -/
def execRandom (h : Nat) (s : State) : Host.Outcome State Fault Refusal :=
  onDev s (fun d => d.randomFn h)

/-- ECDSA_SIGN (R126). The library function signs a message or digest with ECDSA. -/
def execEcdsaSign (h : Nat) (bs : List Byte) (us : List KeyUse) (s : State) : Host.Outcome State Fault Refusal :=
  onDev s (fun d => d.ecdsaSign h bs us)

/-- ECDSA_VERIFY (R126). The library function verifies an ECDSA signature. -/
def execEcdsaVerify (h : Nat) (bs : List Byte) (us : List KeyUse) (s : State) : Host.Outcome State Fault Refusal :=
  onDev s (fun d => d.ecdsaVerify h bs us)

/-- MLDSA_SIGN (R126). The library function signs with ML-DSA. -/
def execMldsaSign (h : Nat) (bs : List Byte) (us : List KeyUse) (s : State) : Host.Outcome State Fault Refusal :=
  onDev s (fun d => d.mldsaSign h bs us)

/-- MLDSA_VERIFY (R126). The library function verifies an ML-DSA signature. -/
def execMldsaVerify (h : Nat) (bs : List Byte) (us : List KeyUse) (s : State) : Host.Outcome State Fault Refusal :=
  onDev s (fun d => d.mldsaVerify h bs us)

/-- RSA_SIGN (R126). The library function signs a digest with an RSA key opened from a key block inside the PKL engine. -/
def execRsaSign (h : Nat) (bs : List Byte) (us : List KeyUse) (s : State) : Host.Outcome State Fault Refusal :=
  onDev s (fun d => d.rsaSign h bs us)

/-- MLKEM_ENCAPS (R127). The library function encapsulates and writes the shared secret into an Extended Key Store record. -/
def execMlkemEncaps (h : Nat) (bs : List Byte) (us : List KeyUse) (s : State) : Host.Outcome State Fault Refusal :=
  onDev s (fun d => d.mlkemEncaps h bs us)

/-- MLKEM_DECAPS (R127). The library function decapsulates and writes the shared secret into an Extended Key Store record. -/
def execMlkemDecaps (h : Nat) (bs : List Byte) (us : List KeyUse) (s : State) : Host.Outcome State Fault Refusal :=
  onDev s (fun d => d.mlkemDecaps h bs us)

/-- CUSTOMER_FUNCTION (R67). A command naming a customer function runs the admitted customer program bound to its FUNCTION_ID.
-/
def execCustomerFunction (e h : Nat) (cached : Bool) (s : State) : Host.Outcome State Fault Refusal :=
  onDev s (fun d => d.customerFunction e h cached)

end Sys2Proof.Machine
end

