-- ==== Sys2Proof/Machine/NvsCmds.lean ====
section
/-! DEFINITION. The meanings of non-volatile storage and scrubbing (R278 to R299, R423). -/

namespace Sys2Proof.Machine

/-- NVS_RECORD_WRITE (R284). The arbiter grants a waiting record by priority and programs its words in ascending order. -/
def execNvsRecordWrite (k : Nat) (s : State) : Host.Outcome State Fault Refusal :=
  onDev s (fun d => d.nvsRun NvOp.isRecord k)

/-- NVS_OPERATION_DONE (R294). An arbiter operation's last word is programmed, making it durable and updating the mirror. -/
def execNvsOperationDone (s : State) : Host.Outcome State Fault Refusal :=
  onDev s (fun d => d.nvsDone)

/-- COUNTER_INCREMENT (R294). The arbiter increments a counter by writing a cell, rolling over first if needed. -/
def execCounterIncrement (k : Nat) (s : State) : Host.Outcome State Fault Refusal :=
  onDev s (fun d => d.nvsRun NvOp.isIncrement k)

/-- COUNTER_ADD (R295). The arbiter adds d to a lifetime-statistics block. -/
def execCounterAdd (k : Nat) (s : State) : Host.Outcome State Fault Refusal :=
  onDev s (fun d => d.nvsRun NvOp.isAdd k)

/-- COUNTER_RAISE (R295). The arbiter raises a lifetime-statistics block to v. -/
def execCounterRaise (k : Nat) (s : State) : Host.Outcome State Fault Refusal :=
  onDev s (fun d => d.nvsRun NvOp.isRaise k)

/-- JOURNAL_RECLAIM (R288). The arbiter copies kept records from the oldest 64 KB and then retires them. -/
def execJournalReclaim (s : State) : Host.Outcome State Fault Refusal :=
  onDev s (fun d => d.reclaim)

/-- NVS_JOURNAL_RECOVERY (R291). Release step 8 scans the journals, resolves key images and settles counters. -/
def execNvsJournalRecovery (s : State) : Host.Outcome State Fault Refusal :=
  onDev s (fun d => d.recovery)

/-- LIFETIME_PERIOD (R299). Every 60 s Platform Control issues one operation for each changed lifetime statistic. -/
def execLifetimePeriod (s : State) : Host.Outcome State Fault Refusal :=
  onDev s (fun d => d.lifetime)

/-- MRAM_SCRUB (R423). Once every 24 h the scrubber reads and counts MRAM errors. -/
def execMramScrub (corrected : Nat) (bad : List Nat) (s : State) : Host.Outcome State Fault Refusal :=
  onDev s (fun d => d.mramScrub corrected bad)

/-- SRAM_SCRUB_PASS (R423). The scrubber reads every SECDED SRAM word, writing back corrections and reporting uncorrectable
words. -/
def execSramScrubPass (hits : List ScrubHit) (s : State) : Host.Outcome State Fault Refusal :=
  onChip s (fun c => c.sramScrub hits)

end Sys2Proof.Machine
end

