-- ==== Sys2Proof/Machine/PlatformCmds.lean ====
section
/-! DEFINITION. The meanings of telemetry, snapshots, the management port and link training (R402, R424 to R432). -/

namespace Sys2Proof.Machine

/-- SNAPSHOT_CAPTURE (R426). A PLT_SNAP_CTRL.CAPTURE write copies the listed registers into the snapshot in one cycle. -/
def execSnapshotCapture (v : Via) (w : Word) (s : State) : Host.Outcome State Fault Refusal :=
  onChip s (fun c => c.snapshot v w)

/-- TELEMETRY_SAMPLE (R424). Every 1 ms each telemetry monitor is sampled. -/
def execTelemetrySample (temps mvs devs counts : List (BitVec 16)) (s : State) : Host.Outcome State Fault Refusal :=
  onDev s (fun d => d.telemetry temps mvs devs counts)

/-- I3C_PRIVATE_READ (R428). An I3C private read returns up to 64 PLT registers. -/
def execI3cPrivateRead (off n : Nat) (i2c : Bool) (s : State) : Host.Outcome State Fault Refusal :=
  onChip s (fun c => c.i3cRead off n i2c)

/-- I3C_PRIVATE_WRITE (R428). An I3C private write writes one PLT register, or is ignored and sets BAD_ACCESS. -/
def execI3cPrivateWrite (bs : List Byte) (i2c : Bool) (s : State) : Host.Outcome State Fault Refusal :=
  onChip s (fun c => c.i3cWrite bs i2c)

/-- ENTDAA (R427). The I3C target takes part in dynamic address assignment. -/
def execEntdaa (addr : Nat) (s : State) : Host.Outcome State Fault Refusal :=
  onDev s (fun d => d.assignAddr addr)

/-- SETDASA (R427). The I3C target takes a dynamic address from its static address. -/
def execSetdasa (stat addr : Nat) (s : State) : Host.Outcome State Fault Refusal :=
  onDev s (fun d => d.setdasa stat addr)

/-- RSTDAA (R427). The I3C target clears its dynamic address. -/
def execRstdaa (s : State) : Host.Outcome State Fault Refusal :=
  onDev s (fun d => d.rstdaa)

/-- ENEC (R429). The I3C controller enables in-band interrupts. -/
def execEnec (events : Nat) (s : State) : Host.Outcome State Fault Refusal :=
  onDev s (fun d => d.i3cEvents true events)

/-- DISEC (R429). The I3C controller disables in-band interrupts. -/
def execDisec (events : Nat) (s : State) : Host.Outcome State Fault Refusal :=
  onDev s (fun d => d.i3cEvents false events)

/-- GETPID (R427). The I3C target returns its provisional ID. -/
def execGetpid (s : State) : Host.Outcome State Fault Refusal :=
  onDev s (fun d => d.getpid)

/-- GETBCR (R427). The I3C target returns BCR 0x06. -/
def execGetbcr (s : State) : Host.Outcome State Fault Refusal :=
  onDev s (fun d => d.getbcr)

/-- GETDCR (R427). The I3C target returns DCR 0x00. -/
def execGetdcr (s : State) : Host.Outcome State Fault Refusal :=
  onDev s (fun d => d.getdcr)

/-- GETSTATUS (R427). The I3C target returns its status. -/
def execGetstatus (s : State) : Host.Outcome State Fault Refusal :=
  onDev s (fun d => d.getstatus)

/-- GETMWL (R427). The I3C target returns its maximum write length. -/
def execGetmwl (s : State) : Host.Outcome State Fault Refusal :=
  onDev s (fun d => d.getmwl)

/-- GETMRL (R427). The I3C target returns its maximum read length. -/
def execGetmrl (s : State) : Host.Outcome State Fault Refusal :=
  onDev s (fun d => d.getmrl)

/-- PCIE_LINK_UP (R402). PCIe link training completes and the live HIU_STATUS link fields take their negotiated values. -/
def execPcieLinkUp (width rate : Nat) (flit : Bool) (s : State) : Host.Outcome State Fault Refusal :=
  onDev s (fun d => d.pcieUp width rate flit)

/-- PCIE_LINK_DOWN (R432). The PCIe link goes down, the link fields read 0 and a link-down event is counted. -/
def execPcieLinkDown (s : State) : Host.Outcome State Fault Refusal :=
  onDev s (fun d => d.pcieDown)

end Sys2Proof.Machine
end

