-- ==== Sys2Proof/Machine/ResetCmds.lean ====
section
/-! DEFINITION. The meanings of supplies, resets, the release sequence, block resets and maintenance (R398 to R415, R438). -/

namespace Sys2Proof.Machine

/-- POWER_ON (R438). The first main rail rises and POR is asserted, starting a cold reset. -/
def execPowerOn (s : State) : Host.Outcome State Fault Refusal :=
  onChip s (fun c => c.powerOn)

/-- POR_RELEASE (R438). Every main rail has been at or above 97% for 2 ms and POR releases. -/
def execPorRelease (s : State) : Host.Outcome State Fault Refusal :=
  onChip s (fun c => c.porRelease)

/-- POWER_LOSS (R281). Main power falls and POR asserts, leaving words in progress new, old or uncorrectable. -/
def execPowerLoss (o : WordOutcome) (s : State) : Host.Outcome State Fault Refusal :=
  onChip s (fun c => c.powerLoss o)

/-- RESET_IN_N (R398). RESET_IN_N low starts a cold reset. -/
def execResetInN (low : Bool) (ns : Nat) (caught : Bool) (s : State) : Host.Outcome State Fault Refusal :=
  onChip s (fun c => c.resetIn low ns caught)

/-- PERST_N (R398). PERST_N low starts a cold reset. -/
def execPerstN (low : Bool) (s : State) : Host.Outcome State Fault Refusal :=
  onChip s (fun c => c.perstN low)

/-- RESET_CMD_COLD (R398). A keyed PLT_RESET_CMD write with TYPE cold starts a cold reset. -/
def execResetCmdCold (v : Via) (w : Word) (s : State) : Host.Outcome State Fault Refusal :=
  onChip s (fun c => c.resetCmd v 2 w)

/-- RESET_CMD_WARM (R398). A keyed PLT_RESET_CMD write with TYPE warm starts a warm reset. -/
def execResetCmdWarm (v : Via) (w : Word) (s : State) : Host.Outcome State Fault Refusal :=
  onChip s (fun c => c.resetCmd v 1 w)

/-- HOT_RESET (R402). A PCIe hot reset starts a warm reset that also resets configuration space. -/
def execHotReset (s : State) : Host.Outcome State Fault Refusal :=
  onChip s (fun c => c.hotReset)

/-- STRETCH_END (R400). 65,536 SYSCLK_IN cycles after the last source releases, the stretch ends and release begins. -/
def execStretchEnd (s : State) : Host.Outcome State Fault Refusal :=
  onDev s (fun d => d.stretchEnd)

/-- FUSE_LOAD (R401). Release step 3 loads fuses and sets pin states from the fuse map. -/
def execFuseLoad (s : State) : Host.Outcome State Fault Refusal :=
  onDev s (fun d => d.fuseLoad)

/-- ROOT_PLL_LOCK (R401). Release step 4 locks the root PLL and starts the derived clock domains. -/
def execRootPllLock (s : State) : Host.Outcome State Fault Refusal :=
  onDev s (fun d => d.rootLock)

/-- WARDEN_ROM (R323). Release step 5 starts the Warden ROM and selects patch code. -/
def execWardenRom (s : State) : Host.Outcome State Fault Refusal :=
  onChip s (fun c => c.wardenRom)

/-- KILN (R404). Release step 6 runs the start-up self-tests and retires failing units. -/
def execKiln (tiles cores units : List Nat) (inject : Bool) (dets : List Nat) (s : State) : Host.Outcome State Fault Refusal :=
  onDev s (fun d => d.kiln tiles cores units inject dets)

/-- CONFIG_VALIDATION (R342). Release step 9 validates the standing configuration, entering Held if it is missing or invalid. -/
def execConfigValidation (s : State) : Host.Outcome State Fault Refusal :=
  onChip s (fun c => c.configValidation)

/-- RESET_OUT_RELEASE (R401). Release step 11 releases RESET_OUT_N. -/
def execResetOutRelease (s : State) : Host.Outcome State Fault Refusal :=
  onDev s (fun d => d.outRelease)

/-- DATA_PLANE_ENABLE (R401). Release step 12 enables the data plane and the cipher resumes at the recovered journal mark. -/
def execDataPlaneEnable (s : State) : Host.Outcome State Fault Refusal :=
  onChip s (fun c => c.dataPlane)

/-- BLOCK_RESET_HOLD (R411). Setting a PLT_BLOCK_RESET bit holds the block in reset and its isolation wrapper fails transfers.
-/
def execBlockResetHold (v : Via) (w : Word) (s : State) : Host.Outcome State Fault Refusal :=
  onChip s (fun c => c.blockHold v w)

/-- BLOCK_RESET_RELEASE (R412). Clearing a PLT_BLOCK_RESET bit releases the block and starts its release tests. -/
def execBlockResetRelease (v : Via) (w : Word) (s : State) : Host.Outcome State Fault Refusal :=
  onDev s (fun d => d.blockRelease v w)

/-- BLOCK_RELEASE_TESTS_DONE (R412). A released block's tests end and its READY bit sets. -/
def execBlockReleaseTestsDone (b : Nat) (bad : List Nat) (m : Nat) (s : State) : Host.Outcome State Fault Refusal :=
  onChip s (fun c => c.blockReady b bad m)

/-- MAINTENANCE_ENTER (R410). A keyed PLT_MAINT.ENTER enters maintenance mode when the device is quiet. -/
def execMaintenanceEnter (v : Via) (w : Word) (s : State) : Host.Outcome State Fault Refusal :=
  onDev s (fun d => d.maintEnter v w)

/-- MAINTENANCE_EXIT (R410). A keyed PLT_MAINT.EXIT leaves maintenance mode when no block is held in reset. -/
def execMaintenanceExit (v : Via) (w : Word) (s : State) : Host.Outcome State Fault Refusal :=
  onDev s (fun d => d.maintExit v w)

end Sys2Proof.Machine
end

