-- ==== Sys2Proof/Machine/RngCmds.lean ====
section
/-! DEFINITION. The meanings of the entropy source and the DRBG instances (R267 to R277). -/

namespace Sys2Proof.Machine

/-- REPETITION_COUNT_FAIL (R271). A source delivers 81 consecutive equal samples and the repetition count test fails. -/
def execRepetitionCountFail (src : Nat) (s : State) : Host.Outcome State Fault Refusal :=
  onDev s (fun d => d.sourceFail src 1)

/-- ADAPTIVE_PROPORTION_FAIL (R271). A 1,024-sample window ends with its first value occurring 840 times or more. -/
def execAdaptiveProportionFail (src : Nat) (s : State) : Host.Outcome State Fault Refusal :=
  onDev s (fun d => d.sourceFail src 2)

/-- STARTUP_TEST_DONE (R273). The start-up test ends, moving the RNG to RUNNING, RETEST or FAILED. -/
def execStartupTestDone (test sources : Nat) (s : State) : Host.Outcome State Fault Refusal :=
  onDev s (fun d => d.startupDone test sources)

/-- RETEST_TIMER_EXPIRY (R273). 1 ms after entering RETEST the start-up test runs again. -/
def execRetestTimerExpiry (s : State) : Host.Outcome State Fault Refusal :=
  onDev s (fun d => d.retestTimer)

/-- CONDITIONED_BLOCK (R268). After 1,024 raw bits the internal conditioner yields one 256-bit block;
which bits the sources gave is free. -/
def execConditionedBlock (s : State) : Host.Outcome State Fault Refusal :=
  onDev s (fun d => d.conditioned)

/-- DRBG_INSTANTIATE_DONE (R269). An instance is instantiated from fresh entropy and becomes ready: the
instance, and the raw bits that the host conditioner took. -/
def execDrbgInstantiateDone (ix : Nat × List Bool) (s : State) : Host.Outcome State Fault Refusal :=
  onDev s (fun d => d.instantiated ix.1 ix.2)

/-- DRBG_RESEED_DUE (R269). After 65,536 generate calls an instance must reseed. -/
def execDrbgReseedDue (i : Nat) (s : State) : Host.Outcome State Fault Refusal :=
  onDev s (fun d => d.reseedDue i)

/-- DRBG_RESEED_DONE (R270). An instance's reseed completes and waiting requests proceed: the instance, and the raw bits that the
host conditioner took. -/
def execDrbgReseedDone (ix : Nat × List Bool) (s : State) : Host.Outcome State Fault Refusal :=
  onDev s (fun d => d.reseeded ix.1 ix.2)

end Sys2Proof.Machine
end

