-- ==== Sys2Proof/Machine/SpdmCmds.lean ====
section
/-! DEFINITION. The meanings of SPDM over DOE (R35, R349, R350). -/

namespace Sys2Proof.Machine

/-- SPDM_GET_VERSION (R350). The Warden answers an SPDM GET_VERSION over the DOE mailbox. -/
def execSpdmGetVersion (req : List Byte) (s : State) : Host.Outcome State Fault Refusal :=
  onChip s (fun c => c.getVersion req)

/-- SPDM_GET_CAPABILITIES (R350). The Warden answers an SPDM GET_CAPABILITIES. -/
def execSpdmGetCapabilities (req : List Byte) (s : State) : Host.Outcome State Fault Refusal :=
  onChip s (fun c => c.getCapabilities req)

/-- SPDM_NEGOTIATE_ALGORITHMS (R350). The Warden negotiates ECDSA P-384, SHA-384, secp384r1 and AES-256-GCM. -/
def execSpdmNegotiateAlgorithms (req : List Byte) (asym hash dhe aead : Nat) (s : State) : Host.Outcome State Fault Refusal :=
  onChip s (fun c => c.negotiate req asym hash dhe aead)

/-- SPDM_GET_DIGESTS (R350). The Warden returns the digests of its certificate chains. -/
def execSpdmGetDigests (req : List Byte) (s : State) : Host.Outcome State Fault Refusal :=
  onChip s (fun c => c.getDigests req)

/-- SPDM_GET_CERTIFICATE (R349). The Warden returns the slot 0 vendor chain ending in the device certificate. -/
def execSpdmGetCertificate (req : List Byte) (s : State) : Host.Outcome State Fault Refusal :=
  onChip s (fun c => c.getCertificate req)

/-- SPDM_CHALLENGE (R349). The Warden signs a challenge with the identity key derived from the attestation seed. -/
def execSpdmChallenge (req : List Byte) (s : State) : Host.Outcome State Fault Refusal :=
  onChip s (fun c => c.challenge req)

/-- SPDM_GET_MEASUREMENTS (R350). The Warden returns the seven measurements of R350, signed. -/
def execSpdmGetMeasurements (req : List Byte) (s : State) : Host.Outcome State Fault Refusal :=
  onChip s (fun c => c.getMeasurements req)

/-- SPDM_KEY_EXCHANGE (R350). The Warden performs the SPDM key exchange that opens a secured session. -/
def execSpdmKeyExchange (req : List Byte) (s : State) : Host.Outcome State Fault Refusal :=
  onChip s (fun c => c.keyExchange req)

/-- SPDM_FINISH (R350). The Warden completes the secured session handshake. -/
def execSpdmFinish (req : List Byte) (s : State) : Host.Outcome State Fault Refusal :=
  onChip s (fun c => c.finishSession req)

/-- SPDM_END_SESSION (R350). The Warden ends a secured SPDM session. -/
def execSpdmEndSession (req : List Byte) (s : State) : Host.Outcome State Fault Refusal :=
  onChip s (fun c => c.endSession req)

end Sys2Proof.Machine
end

