-- ==== Sys2Proof/Machine/StoreCmds.lean ====
section
/-! DEFINITION. The meanings of the Extended Key Store and the host engine (R136, R173, R174, R250 to R266, R414). -/

namespace Sys2Proof.Machine

/-- LOOKUP (R258). An Extended Key Store request checks a record and returns its handle. -/
def execLookup (h tk m loc : Nat) (s : State) : Host.Outcome State Fault Refusal :=
  onDev s (fun d => d.lookup h tk (m + 4 * loc))

/-- HOST_READ (R136). An engine request reads host input-area bytes into the slice. -/
def execHostRead (h tk : Nat) (bs : List Byte) (s : State) : Host.Outcome State Fault Refusal :=
  onDev s (fun d => d.hostRead h tk bs)

/-- HOST_WRITE (R173). An engine request writes PLAIN data into the output area. -/
def execHostWrite (h tk : Nat) (s : State) : Host.Outcome State Fault Refusal :=
  onDev s (fun d => d.hostWrite h tk)

/-- HOST_FILL (R174). An engine request fills part of the output area from the host DRBG instance. -/
def execHostFill (h tk : Nat) (s : State) : Host.Outcome State Fault Refusal :=
  onDev s (fun d => d.hostFill h tk)

/-- XKS_SAVE (R265). The transfer engine writes images of a record range to host memory. -/
def execXksSave (m : Nat) (s : State) : Host.Outcome State Fault Refusal :=
  onDev s (fun d => d.xksSave m)

/-- XKS_LOAD (R265). The transfer engine loads record images from host memory into the store. -/
def execXksLoad (img : Option (List Byte)) (m : Nat) (s : State) : Host.Outcome State Fault Refusal :=
  onDev s (fun d => d.xksLoad img m)

/-- XKS_COPY (R265). The transfer engine copies a vault slot into a record. -/
def execXksCopy (m r : Nat) (s : State) : Host.Outcome State Fault Refusal :=
  onDev s (fun d => d.xksCopy m r)

/-- XKS_DELETE (R265). The transfer engine makes a record absent and increments its generation. -/
def execXksDelete (m : Nat) (s : State) : Host.Outcome State Fault Refusal :=
  onDev s (fun d => d.xksDelete m)

/-- XKS_TRANSFER_END (R265). A transfer operation ends, clearing BUSY and recording any ERR. -/
def execXksTransferEnd (s : State) : Host.Outcome State Fault Refusal :=
  onDev s (fun d => d.xferEnd)

/-- DRAM_PLL_UNLOCK (R414). The DRAM PLL loses lock, the DRAM is kept in self-refresh and record requests wait. -/
def execDramPllUnlock (s : State) : Host.Outcome State Fault Refusal :=
  onDev s (fun d => d.dramUnlock)

/-- DRAM_PLL_RELOCK (R414). The DRAM PLL relocks within 1 ms and the pinned levels are re-verified before serving resumes. -/
def execDramPllRelock (m : Nat) (s : State) : Host.Outcome State Fault Refusal :=
  onDev s (fun d => d.dramRelock m)

/-- DRAM_RELOCK_TIMEOUT (R414). With no relock within 1 ms, record requests fail with ST_FAULT. -/
def execDramRelockTimeout (s : State) : Host.Outcome State Fault Refusal :=
  onDev s (fun d => d.dramTimeout)

/-- DRAM_TRAINING (R262). Release step 10 trains and formats the DRAM, or exits self-refresh and verifies the pinned levels. -/
def execDramTraining (capacity m : Nat) (s : State) : Host.Outcome State Fault Refusal :=
  onChip s (fun c => c.dramTraining capacity m)

end Sys2Proof.Machine
end

