-- ==== Sys2Proof/Machine/TamperCmds.lean ====
section
/-! DEFINITION. The meanings of the tamper monitor: alarms, deliveries, supplies and the built-in test (R300 to R320). -/

namespace Sys2Proof.Machine

/-- CORE_RAIL (R304). The core rail crosses its threshold, raising an Erase or starting a rail freeze. -/
def execCoreRail (low : Bool) (det detail : Nat) (same : Bool) (s : State) : Host.Outcome State Fault Refusal :=
  onChip s (fun c => c.rail 0 low det detail same)

/-- IO_RAIL (R304). An I/O or PHY rail crosses its threshold, raising a Lock or starting a rail freeze. -/
def execIoRail (low : Bool) (det detail : Nat) (same : Bool) (s : State) : Host.Outcome State Fault Refusal :=
  onChip s (fun c => c.rail 1 low det detail same)

/-- RAIL_RECOVERY (R306). Every rail that crossed returns above threshold and the freeze resolves by executing each source's
class. -/
def execRailRecovery (same : Bool) (s : State) : Host.Outcome State Fault Refusal :=
  onChip s (fun c => c.freezeResolve same)

/-- RAIL_FREEZE_TIMEOUT (R306). 1 ms after the first crossing with no POR, the freeze resolves and each source's class executes.
-/
def execRailFreezeTimeout (same : Bool) (s : State) : Host.Outcome State Fault Refusal :=
  onChip s (fun c => c.freezeResolve same)

/-- CLK_FREQ (R304). SYSCLK_IN frequency leaves its band over a measurement window and raises a Lock. -/
def execClkFreq (det detail : Nat) (same : Bool) (s : State) : Host.Outcome State Fault Refusal :=
  onChip s (fun c => c.paired 2 det detail same)

/-- CLK_GLITCH (R304). A short clock phase or root PLL loss of lock raises an Erase. -/
def execClkGlitch (pll : Bool) (det detail : Nat) (same : Bool) (s : State) : Host.Outcome State Fault Refusal :=
  onChip s (fun c => c.clkGlitch pll det detail same)

/-- TEMP_LOW (R304). Tj below threshold raises an Erase. -/
def execTempLow (det detail : Nat) (same : Bool) (s : State) : Host.Outcome State Fault Refusal :=
  onChip s (fun c => c.paired 4 det detail same)

/-- TEMP_HIGH (R304). Tj above threshold raises a Lock. -/
def execTempHigh (det detail : Nat) (same : Bool) (s : State) : Host.Outcome State Fault Refusal :=
  onChip s (fun c => c.paired 5 det detail same)

/-- LIGHT (R304). A photodiode pair sees light and raises an Erase. -/
def execLight (det detail : Nat) (same : Bool) (s : State) : Host.Outcome State Fault Refusal :=
  onChip s (fun c => c.paired 6 det detail same)

/-- MAGNETIC (R304). A field above 20 mT raises a Lock. -/
def execMagnetic (det detail : Nat) (same : Bool) (s : State) : Host.Outcome State Fault Refusal :=
  onChip s (fun c => c.paired 7 det detail same)

/-- MESH (R309). Two consecutive mismatches on a mesh trace raise an Erase, also on backup power. -/
def execMesh (det trace : Nat) (short same : Bool) (s : State) : Host.Outcome State Fault Refusal :=
  onChip s (fun c => c.mesh det trace short same)

/-- TAMP_IN (R308). An enclosure input sample reads high and raises its fused class, or Erase on backup power. -/
def execTampIn (p det : Nat) (same : Bool) (s : State) : Host.Outcome State Fault Refusal :=
  onChip s (fun c => c.tampIn p det same)

/-- DEBUG_ACCESS (R304). An edge on the debug clock outside DEBUG raises an Erase. -/
def execDebugAccess (same : Bool) (s : State) : Host.Outcome State Fault Refusal :=
  onChip s (fun c => c.alarm 17 0 0 same)

/-- TILE_FAULT_REPORT (R312). A unit reports a fault to the tamper monitor, which opens or checks the 10 ms window. -/
def execTileFaultReport (same : Bool) (s : State) : Host.Outcome State Fault Refusal :=
  onChip s (fun c => c.faultReport same)

/-- FAULT_WINDOW_EXPIRY (R312). 10 ms after the last fault report the window closes and WINDOW_OPEN clears. -/
def execFaultWindowExpiry (s : State) : Host.Outcome State Fault Refusal :=
  onChip s (fun c => c.windowExpiry)

/-- PANIC (R310). PANIC_N held low raises a Lock. -/
def execPanic (ns : Nat) (caught same : Bool) (s : State) : Host.Outcome State Fault Refusal :=
  onChip s (fun c => c.panicPin ns caught same)

/-- MANAGEMENT_PANIC (R431). A keyed I3C write of PLT_PANIC raises source 19; a host-link write is refused. -/
def execManagementPanic (v : Via) (w : Word) (same : Bool) (s : State) : Host.Outcome State Fault Refusal :=
  onChip s (fun c => c.managementPanic v w same)

/-- WARDEN_SELFCHECK (R323). A lockstep mismatch or uncorrectable Warden memory error raises a Lock. -/
def execWardenSelfcheck (cause : Nat) (same : Bool) (s : State) : Host.Outcome State Fault Refusal :=
  onChip s (fun c => c.selfCheck cause same)

/-- BACKUP_LOSS (R318). The backup domain powers up after losing both supplies, with latches set and one BACKUP_LOSS entry. -/
def execBackupLoss (main : Bool) (s : State) : Host.Outcome State Fault Refusal :=
  onChip s (fun c => c.backupLoss main)

/-- LOCK_DELIVERY (R87). The network delivers a Lock to every subsystem, which refuses key use and ends commands with ST_LOCKED.
-/
def execLockDelivery (s : State) : Host.Outcome State Fault Refusal :=
  onChip s (fun c => c.lockDelivery)

/-- ERASE_DELIVERY (R303). The network delivers an Erase, zeroising secrets and completing admitted commands with ST_ERASED. -/
def execEraseDelivery (s : State) : Host.Outcome State Fault Refusal :=
  onChip s (fun c => c.eraseDelivery)

/-- ERASE_COMPLETE (R303). Every subsystem has reported and the Erase completes with LOCKED and ERASED set. -/
def execEraseComplete (s : State) : Host.Outcome State Fault Refusal :=
  onChip s (fun c => c.eraseComplete)

/-- VBAT_LOW (R315). VBAT falls below 2.6 V and TMP_STATUS.VBAT_LOW sets as a warning. -/
def execVbatLow (s : State) : Host.Outcome State Fault Refusal :=
  onDev s (fun d => d.vbat true)

/-- VBAT_LOW_CLEAR (R315). VBAT rises to 2.6 V or above, for example after a cell replacement, and TMP_STATUS.VBAT_LOW clears.
-/
def execVbatLowClear (s : State) : Host.Outcome State Fault Refusal :=
  onDev s (fun d => d.vbat false)

/-- DETECTOR_BIST (R314). A TMP_BIST_CTRL.GO write starts the built-in test of one detector. -/
def execDetectorBist (st : Option Nat) (w : Word) (s : State) : Host.Outcome State Fault Refusal :=
  onDev s (fun d => d.bistGo st w)

/-- BIST_COMPLETE (R314). A detector test ends, recording its result and raising WARDEN_SELFCHECK on failure. -/
def execBistComplete (response : Nat) (s : State) : Host.Outcome State Fault Refusal :=
  onDev s (fun d => d.bistComplete response)

end Sys2Proof.Machine
end

