-- ==== Sys2Proof/Machine/ThreadCmds.lean ====
section
/-! DEFINITION. The meanings of the events of a tile's threads (R130, R135, R148, R150, R153, R176). -/

namespace Sys2Proof.Machine

/-- RAND_RESULT (R176). A waiting RAND receives its random word, or POISON if the source fails. -/
def execRandResult (h : Nat) (s : State) : Host.Outcome State Fault Refusal :=
  onDev s (fun d => d.randResult h)

/-- THREAD_ZEROISE_DONE (R135). A thread's registers and slice are cleared and its engine requests returned, so it may take
another command. -/
def execThreadZeroiseDone (h : Nat) (s : State) : Host.Outcome State Fault Refusal :=
  onDev s (fun d => d.threadCleared h)

/-- RUN_LIMIT_EXPIRY (R148). A command exceeding TILE_RUN_LIMIT takes a containment trap. -/
def execRunLimitExpiry (h : Nat) (s : State) : Host.Outcome State Fault Refusal :=
  onDev s (fun d => d.runLimit h)

/-- ENGINE_RESULT (R169). An engine result arrives on a token, or its failure status ends the command at once. -/
def execEngineResult (h tk m : Nat) (s : State) : Host.Outcome State Fault Refusal :=
  onDev s (fun d => d.engineResult h tk m)

/-- TILE_SELFTEST_DONE (R153). A tile's self-test ends, returning it to service or retiring it for good. -/
def execTileSelftestDone (t : Nat) (pass : Bool) (s : State) : Host.Outcome State Fault Refusal :=
  onDev s (fun d => d.tileTested t pass)

/-- INSTRUCTION_CACHE_FILL (R130). An instruction-cache fill from the program store completes, making the waiting thread ready
or failing it with ST_FAULT on an uncorrectable line. -/
def execInstructionCacheFill (h : Nat) (ok : Bool) (s : State) : Host.Outcome State Fault Refusal :=
  onChip s (fun c => c.icacheFill h ok)

end Sys2Proof.Machine
end

