-- ==== Sys2Proof/Machine/VaultCmds.lean ====
section
/-! DEFINITION. The meanings of the key vault: derivation, key requests and key changes (R223 to R249). -/

namespace Sys2Proof.Machine

/-- DERIVE_VALUE (R245). A vault derivation request returns a GLAZED derived value. -/
def execDeriveValue (h tk m : Nat) (s : State) : Host.Outcome State Fault Refusal :=
  onDev s (fun d => d.derive true h tk m)

/-- DERIVE_HANDLE (R245). A vault derivation request installs a command-scoped child key and returns its handle. -/
def execDeriveHandle (h tk m : Nat) (s : State) : Host.Outcome State Fault Refusal :=
  onDev s (fun d => d.derive false h tk m)

/-- INFO (R248). A vault request returns a key's attribute word and check value. -/
def execInfo (h tk m : Nat) (s : State) : Host.Outcome State Fault Refusal :=
  onDev s (fun d => d.info h tk m)

/-- KEY_GENERATE (R243). The Warden generates a key from instance C and loads it into the target slot. -/
def execKeyGenerate (s : State) : Host.Outcome State Fault Refusal :=
  onChip s (fun c => c.keyGenerate)

/-- KEY_DELETE (R241). The Warden empties the target slot and increments its generation. -/
def execKeyDelete (s : State) : Host.Outcome State Fault Refusal :=
  onChip s (fun c => c.keyDelete)

/-- KEY_SET_ATTR (R244). The Warden applies a permitted attribute change to a present key. -/
def execKeySetAttr (s : State) : Host.Outcome State Fault Refusal :=
  onChip s (fun c => c.keySetAttr)

/-- KEY_QUERY (R242). The Warden returns a slot's attribute word, generation and check value. -/
def execKeyQuery (s : State) : Host.Outcome State Fault Refusal :=
  onChip s (fun c => c.keyQuery)

/-- VAULT_STAGING (R236). A vault change takes a free staging entry, waiting if none is free, and its check value is computed.
-/
def execVaultStaging (e : Nat) (s : State) : Host.Outcome State Fault Refusal :=
  onChip s (fun c => c.staging e)

/-- VAULT_COMMIT_VISIBLE (R236). A slot takes the new key, attributes and check value in one clock and its generation
increments. -/
def execVaultCommitVisible (e : Nat) (s : State) : Host.Outcome State Fault Refusal :=
  onChip s (fun c => c.commitVisible e)

/-- RETIRING_COPY_DRAIN (R236). When the last request checked against the old generation ends, the staging entry is zeroised and
freed. -/
def execRetiringCopyDrain (e : Nat) (s : State) : Host.Outcome State Fault Refusal :=
  onDev s (fun d => d.vaultDrain e)

/-- FAULTED_SLOT_CLEAR (R421). The Warden clears a faulted slot through R236, reloading or emptying it. -/
def execFaultedSlotClear (slot : Nat) (s : State) : Host.Outcome State Fault Refusal :=
  onDev s (fun d => d.faultedClear slot)

/-- ROOT_REDERIVATION (R249). After an Erase the keys that need no Backup Key are derived again within 20 µs. -/
def execRootRederivation (s : State) : Host.Outcome State Fault Refusal :=
  onDev s (fun d => d.rederiveNow)

/-- VAULT_DERIVATION (R232). Release step 7 derives the root outputs from the DRK. -/
def execVaultDerivation (s : State) : Host.Outcome State Fault Refusal :=
  onChip s (fun c => c.vaultDerivation)

end Sys2Proof.Machine
end

