-- ==== Sys2Proof/Machine/WardenCmds.lean ====
section
/-! DEFINITION. The meanings of the Warden requests and their timers (R321 to R353, R368, R376). -/

namespace Sys2Proof.Machine

/-- PROVISION (R330). The Warden clears the latches, blows fuses, stores the certificate, generates the Backup Key and cold-
resets. -/
def execProvision (bulk : Option (List Byte)) (s : State) : Host.Outcome State Fault Refusal :=
  onChip s (fun c => c.provision bulk)

/-- DEBUG_ENTER (R329). The Warden blows one debug fuse and applies a cold reset into DEBUG. -/
def execDebugEnter (bulk : Option (List Byte)) (s : State) : Host.Outcome State Fault Refusal :=
  onChip s (fun c => c.debugEnter bulk)

/-- DEBUG_EXIT (R329). The Warden blows one debug fuse and applies a cold reset out of DEBUG. -/
def execDebugExit (s : State) : Host.Outcome State Fault Refusal :=
  onChip s (fun c => c.debugExit)

/-- DECOMMISSION (R329). The Warden erases, zeroes MRAM regions and blows the decommission fuse. -/
def execDecommission (bulk : Option (List Byte)) (s : State) : Host.Outcome State Fault Refusal :=
  onChip s (fun c => c.decommission bulk)

/-- STATUS_QUERY (R327). The Warden returns the 96-byte status block. -/
def execStatusQuery (s : State) : Host.Outcome State Fault Refusal :=
  onChip s (fun c => c.statusQuery)

/-- CONFIG_SUBMIT (R343). The Warden validates a standing configuration under quorum and writes it into the other copy. -/
def execConfigSubmit (bulk : Option (List Byte)) (s : State) : Host.Outcome State Fault Refusal :=
  onChip s (fun c => c.configSubmit bulk)

/-- IMAGE_ADMIT (R344). The Warden checks a program image and switches the function table to it. -/
def execImageAdmit (bulk : Option (List Byte)) (s : State) : Host.Outcome State Fault Refusal :=
  onChip s (fun c => c.imageAdmit bulk)

/-- IMAGE_RETIRE (R344). The Warden removes an image's function-table entries in one step. -/
def execImageRetire (s : State) : Host.Outcome State Fault Refusal :=
  onChip s (fun c => c.imageRetire)

/-- PATCH_INSTALL (R346). The Warden writes a signed patch into the inactive bank. -/
def execPatchInstall (bulk : Option (List Byte)) (s : State) : Host.Outcome State Fault Refusal :=
  onChip s (fun c => c.patchInstall bulk)

/-- CODESIGN_INSTALL (R345). The Warden installs a customer code-signing key at an index. -/
def execCodesignInstall (s : State) : Host.Outcome State Fault Refusal :=
  onChip s (fun c => c.codesignInstall)

/-- CODESIGN_REVOKE (R345). The Warden revokes a code-signing key and retires every image signed under it. -/
def execCodesignRevoke (s : State) : Host.Outcome State Fault Refusal :=
  onChip s (fun c => c.codesignRevoke)

/-- XKS_IMAGE_ADVANCE (R264). The Warden sets a partition's image FLOOR to EPOCH and increments EPOCH. -/
def execXksImageAdvance (s : State) : Host.Outcome State Fault Refusal :=
  onChip s (fun c => c.imageAdvance)

/-- TR34_KRD_CREATE (R348). The Warden generates an RSA KRD key pair for a partition and returns the public key. -/
def execTr34KrdCreate (s : State) : Host.Outcome State Fault Refusal :=
  onChip s (fun c => c.krdCreate)

/-- TR34_KRD_DELETE (R348). The Warden zeroises a partition's KRD private key record. -/
def execTr34KrdDelete (s : State) : Host.Outcome State Fault Refusal :=
  onChip s (fun c => c.krdDelete)

/-- TR34_KDH_CA (R348). The Warden installs a partition's KDH CA certificate under quorum. -/
def execTr34KdhCa (s : State) : Host.Outcome State Fault Refusal :=
  onChip s (fun c => c.kdhCa)

/-- CEREMONY_OPEN (R336). The Warden opens a ceremony to collect signatures over 80 bytes. -/
def execCeremonyOpen (s : State) : Host.Outcome State Fault Refusal :=
  onChip s (fun c => c.ceremonyOpen)

/-- CEREMONY_COLLECT (R336). The Warden returns the gathered authorisation and closes the ceremony. -/
def execCeremonyCollect (s : State) : Host.Outcome State Fault Refusal :=
  onChip s (fun c => c.ceremonyCollect)

/-- CEREMONY_TIMEOUT (R336). A ceremony closes 600 s after it opened. -/
def execCeremonyTimeout (s : State) : Host.Outcome State Fault Refusal :=
  onDev s (fun d => d.ceremonyTimeout)

/-- UNLOCK (R338). The Warden checks an unlock token, increments LOCK_EVENTS and clears LOCKED unless a new alarm arrived. -/
def execUnlock (s : State) : Host.Outcome State Fault Refusal :=
  onChip s (fun c => c.thenResume Chip.unlock)

/-- RESTORE_BEGIN (R340). The Warden opens a restore under quorum and generates a new Backup Key. -/
def execRestoreBegin (s : State) : Host.Outcome State Fault Refusal :=
  onChip s (fun c => c.restoreBegin)

/-- RESTORE_END (R340). The Warden stores the rebuilt archive key, clears ERASED and LOCKED and increments LOCK_EVENTS. -/
def execRestoreEnd (s : State) : Host.Outcome State Fault Refusal :=
  onChip s (fun c => c.thenResume Chip.restoreFinish)

/-- FLAG_CLEAR (R319). The Warden clears named sticky flags that have no newer ring entry. -/
def execFlagClear (s : State) : Host.Outcome State Fault Refusal :=
  onChip s (fun c => c.flagClear)

/-- TIME_SET (R316). The Warden sets the backup-domain time-stamp and TIME_VALID. -/
def execTimeSet (s : State) : Host.Outcome State Fault Refusal :=
  onChip s (fun c => c.timeSet)

/-- ARCHIVE_KEY_CREATE (R368). The Warden generates an archive key and opens a 600 s window to write its shares. -/
def execArchiveKeyCreate (s : State) : Host.Outcome State Fault Refusal :=
  onChip s (fun c => c.archiveKeyCreate)

/-- ARCHIVE_WINDOW_END (R368). The share window closes, adopting the key if every share was written, else discarding it. -/
def execArchiveWindowEnd (s : State) : Host.Outcome State Fault Refusal :=
  onChip s (fun c => c.archiveWindowEnd)

/-- BACKUP_WRITE (R376). The Warden writes the Vault Archive of persistent slots to the backup card. -/
def execBackupWrite (s : State) : Host.Outcome State Fault Refusal :=
  onChip s (fun c => c.backupWrite)

/-- AUDIT_READ (R352). The Warden writes audit entries and a signature over the newest CHAIN. -/
def execAuditRead (s : State) : Host.Outcome State Fault Refusal :=
  onChip s (fun c => c.auditRead)

/-- BOND_ENROL (R378). The Warden installs a membership certificate under quorum. -/
def execBondEnrol (s : State) : Host.Outcome State Fault Refusal :=
  onChip s (fun c => c.bondEnrol)

/-- BOND_START (R397). The Warden makes the device manager, sets the roster, epoch and HIGH_WATER. -/
def execBondStart (s : State) : Host.Outcome State Fault Refusal :=
  onChip s (fun c => c.bondStart)

/-- BOND_ROSTER (R397). The manager's Warden changes the roster under quorum. -/
def execBondRoster (s : State) : Host.Outcome State Fault Refusal :=
  onChip s (fun c => c.bondRoster)

/-- BOND_LEAVE (R396). The Warden burns bond leases and deletes the certificate and bond record. -/
def execBondLeave (s : State) : Host.Outcome State Fault Refusal :=
  onChip s (fun c => c.bondLeave)

/-- BOND_STATUS (R397). The Warden returns MTR_STATUS, MTR_EPOCH, MTR_LIVE and MTR_LEASE. -/
def execBondStatus (s : State) : Host.Outcome State Fault Refusal :=
  onChip s (fun c => c.bondStatus)

/-- WATCHDOG_EXPIRY (R323). The Warden watchdog expires after 100 ms without service and applies a warm reset. -/
def execWatchdogExpiry (s : State) : Host.Outcome State Fault Refusal :=
  onChip s (fun c => c.watchdog)

end Sys2Proof.Machine
end

