-- ==== Sys2Proof/Machine/Dispatch.lean ====
section
/-! DEFINITION. The dispatch: one arm for each command, each one call of its meaning. -/

namespace Sys2Proof.Machine

def exec (i : Instr) (s : State) : Host.Outcome State Fault Refusal :=
  match i with
  | .registerWrite v off size w => Sys2Proof.Machine.execRegisterWrite v off size w s
  | .rcRead v off size => Sys2Proof.Machine.execRcRead v off size s
  | .rngDataRead n st size => Sys2Proof.Machine.execRngDataRead n st size s
  | .rngDataLoad n => Sys2Proof.Machine.execRngDataLoad n s
  | .msixTableWrite n st off size x => Sys2Proof.Machine.execMsixTableWrite n st off size x s
  | .sqDoorbell n st ix size x => Sys2Proof.Machine.execSqDoorbell n st ix size x s
  | .cqDoorbell n st ix size x => Sys2Proof.Machine.execCqDoorbell n st ix size x s
  | .sqEnable n st ix => Sys2Proof.Machine.execSqEnable n st ix s
  | .cqEnable n st ix => Sys2Proof.Machine.execCqEnable n st ix s
  | .sqDisable n st ix => Sys2Proof.Machine.execSqDisable n st ix s
  | .cqDisable n st ix => Sys2Proof.Machine.execCqDisable n st ix s
  | .sqPause n st ix on => Sys2Proof.Machine.execSqPause n st ix on s
  | .intEnable n st ix on => Sys2Proof.Machine.execIntEnable n st ix on s
  | .partitionEnable st n on => Sys2Proof.Machine.execPartitionEnable st n on s
  | .partitionReset st n => Sys2Proof.Machine.execPartitionReset st n s
  | .vfFlr n => Sys2Proof.Machine.execVfFlr n s
  | .vfDisable num => Sys2Proof.Machine.execVfDisable num s
  | .vfEnableSet num => Sys2Proof.Machine.execVfEnableSet num s
  | .functionLevelResetEnd n => Sys2Proof.Machine.execFunctionLevelResetEnd n s
  | .ideKmKeyInstall k => Sys2Proof.Machine.execIdeKmKeyInstall k s
  | .ideStreamInsecure k => Sys2Proof.Machine.execIdeStreamInsecure k s
  | .busMasterEnableChange n on => Sys2Proof.Machine.execBusMasterEnableChange n on s
  | .powerStateChange n d3 => Sys2Proof.Machine.execPowerStateChange n d3 s
  | .msixControlWrite n en mask => Sys2Proof.Machine.execMsixControlWrite n en mask s
  | .doeDiscovery len ix => Sys2Proof.Machine.execDoeDiscovery len ix s
  | .spdmGetVersion req => Sys2Proof.Machine.execSpdmGetVersion req s
  | .spdmGetCapabilities req => Sys2Proof.Machine.execSpdmGetCapabilities req s
  | .spdmNegotiateAlgorithms req asym hash dhe aead => Sys2Proof.Machine.execSpdmNegotiateAlgorithms req asym hash dhe aead s
  | .spdmGetDigests req => Sys2Proof.Machine.execSpdmGetDigests req s
  | .spdmGetCertificate req => Sys2Proof.Machine.execSpdmGetCertificate req s
  | .spdmChallenge req => Sys2Proof.Machine.execSpdmChallenge req s
  | .spdmGetMeasurements req => Sys2Proof.Machine.execSpdmGetMeasurements req s
  | .spdmKeyExchange req => Sys2Proof.Machine.execSpdmKeyExchange req s
  | .spdmFinish req => Sys2Proof.Machine.execSpdmFinish req s
  | .spdmEndSession req => Sys2Proof.Machine.execSpdmEndSession req s
  | .descriptorFetch n ix e => Sys2Proof.Machine.execDescriptorFetch n ix e s
  | .descriptorReadCompletion e w => Sys2Proof.Machine.execDescriptorReadCompletion e w s
  | .palletFetch e es => Sys2Proof.Machine.execPalletFetch e es s
  | .palletReadCompletion e ws => Sys2Proof.Machine.execPalletReadCompletion e ws s
  | .readFailure e => Sys2Proof.Machine.execReadFailure e s
  | .readCompletionTimeout e => Sys2Proof.Machine.execReadCompletionTimeout e s
  | .inputPrefetch e bs => Sys2Proof.Machine.execInputPrefetch e bs s
  | .commandAdmit e => Sys2Proof.Machine.execCommandAdmit e s
  | .threadAssign e h cached => Sys2Proof.Machine.execThreadAssign e h cached s
  | .contextSet e bs => Sys2Proof.Machine.execContextSet e bs s
  | .contextGet e => Sys2Proof.Machine.execContextGet e s
  | .fenceCourse e => Sys2Proof.Machine.execFenceCourse e s
  | .fencePartition e => Sys2Proof.Machine.execFencePartition e s
  | .fenceKeys e => Sys2Proof.Machine.execFenceKeys e s
  | .fenceCounters e => Sys2Proof.Machine.execFenceCounters e s
  | .fenceBond e => Sys2Proof.Machine.execFenceBond e s
  | .fenceSatisfied e => Sys2Proof.Machine.execFenceSatisfied e s
  | .completionQueue e => Sys2Proof.Machine.execCompletionQueue e s
  | .completionWrite n ix => Sys2Proof.Machine.execCompletionWrite n ix s
  | .coalTimerExpiry n ix => Sys2Proof.Machine.execCoalTimerExpiry n ix s
  | .pinTranslate h us => Sys2Proof.Machine.execPinTranslate h us s
  | .pinVerify h us => Sys2Proof.Machine.execPinVerify h us s
  | .pinOffsetGenerate h us => Sys2Proof.Machine.execPinOffsetGenerate h us s
  | .arqcVerify h bs us => Sys2Proof.Machine.execArqcVerify h bs us s
  | .issuerScript h bs us => Sys2Proof.Machine.execIssuerScript h bs us s
  | .dukptPinTranslate h us => Sys2Proof.Machine.execDukptPinTranslate h us s
  | .dukptData h bs us => Sys2Proof.Machine.execDukptData h bs us s
  | .macGenerate h bs us => Sys2Proof.Machine.execMacGenerate h bs us s
  | .macVerify h bs us => Sys2Proof.Machine.execMacVerify h bs us s
  | .cscGenerate h us => Sys2Proof.Machine.execCscGenerate h us s
  | .cscVerify h us => Sys2Proof.Machine.execCscVerify h us s
  | .ff1Tokenise h us => Sys2Proof.Machine.execFf1Tokenise h us s
  | .ff1Detokenise h us => Sys2Proof.Machine.execFf1Detokenise h us s
  | .keyblockImport e bs m => Sys2Proof.Machine.execKeyblockImport e bs m s
  | .keyblockExport e m m1 => Sys2Proof.Machine.execKeyblockExport e m m1 s
  | .tr34Nonce e => Sys2Proof.Machine.execTr34Nonce e s
  | .tr34NonceExpiry n => Sys2Proof.Machine.execTr34NonceExpiry n s
  | .tr34Import e bs => Sys2Proof.Machine.execTr34Import e bs s
  | .wardenRequest e bs => Sys2Proof.Machine.execWardenRequest e bs s
  | .gcmEncrypt h bs us => Sys2Proof.Machine.execGcmEncrypt h bs us s
  | .gcmDecrypt h bs us => Sys2Proof.Machine.execGcmDecrypt h bs us s
  | .random h => Sys2Proof.Machine.execRandom h s
  | .ecdsaSign h bs us => Sys2Proof.Machine.execEcdsaSign h bs us s
  | .ecdsaVerify h bs us => Sys2Proof.Machine.execEcdsaVerify h bs us s
  | .mldsaSign h bs us => Sys2Proof.Machine.execMldsaSign h bs us s
  | .mldsaVerify h bs us => Sys2Proof.Machine.execMldsaVerify h bs us s
  | .rsaSign h bs us => Sys2Proof.Machine.execRsaSign h bs us s
  | .mlkemEncaps h bs us => Sys2Proof.Machine.execMlkemEncaps h bs us s
  | .mlkemDecaps h bs us => Sys2Proof.Machine.execMlkemDecaps h bs us s
  | .customerFunction e h cached => Sys2Proof.Machine.execCustomerFunction e h cached s
  | .add h rd rs1 rs2 => Sys2Proof.Machine.execAdd h rd rs1 rs2 s
  | .sub h rd rs1 rs2 => Sys2Proof.Machine.execSub h rd rs1 rs2 s
  | .and h rd rs1 rs2 => Sys2Proof.Machine.execAnd h rd rs1 rs2 s
  | .or h rd rs1 rs2 => Sys2Proof.Machine.execOr h rd rs1 rs2 s
  | .xor h rd rs1 rs2 => Sys2Proof.Machine.execXor h rd rs1 rs2 s
  | .andn h rd rs1 rs2 => Sys2Proof.Machine.execAndn h rd rs1 rs2 s
  | .shl h rd rs1 rs2 => Sys2Proof.Machine.execShl h rd rs1 rs2 s
  | .shrz h rd rs1 rs2 => Sys2Proof.Machine.execShrz h rd rs1 rs2 s
  | .shrs h rd rs1 rs2 => Sys2Proof.Machine.execShrs h rd rs1 rs2 s
  | .seteq h rd rs1 rs2 => Sys2Proof.Machine.execSeteq h rd rs1 rs2 s
  | .setne h rd rs1 rs2 => Sys2Proof.Machine.execSetne h rd rs1 rs2 s
  | .setlt h rd rs1 rs2 => Sys2Proof.Machine.execSetlt h rd rs1 rs2 s
  | .setge h rd rs1 rs2 => Sys2Proof.Machine.execSetge h rd rs1 rs2 s
  | .setltu h rd rs1 rs2 => Sys2Proof.Machine.execSetltu h rd rs1 rs2 s
  | .setgeu h rd rs1 rs2 => Sys2Proof.Machine.execSetgeu h rd rs1 rs2 s
  | .mul h rd rs1 rs2 => Sys2Proof.Machine.execMul h rd rs1 rs2 s
  | .mulx h rd rs1 rs2 => Sys2Proof.Machine.execMulx h rd rs1 rs2 s
  | .divr h rd rs1 rs2 => Sys2Proof.Machine.execDivr h rd rs1 rs2 s
  | .addk h rd rs1 imm => Sys2Proof.Machine.execAddk h rd rs1 imm s
  | .andk h rd rs1 imm => Sys2Proof.Machine.execAndk h rd rs1 imm s
  | .ork h rd rs1 imm => Sys2Proof.Machine.execOrk h rd rs1 imm s
  | .xork h rd rs1 imm => Sys2Proof.Machine.execXork h rd rs1 imm s
  | .shlk h rd rs1 imm => Sys2Proof.Machine.execShlk h rd rs1 imm s
  | .shrzk h rd rs1 imm => Sys2Proof.Machine.execShrzk h rd rs1 imm s
  | .shrsk h rd rs1 imm => Sys2Proof.Machine.execShrsk h rd rs1 imm s
  | .ksh h rd rs1 imm => Sys2Proof.Machine.execKsh h rd rs1 imm s
  | .setltk h rd rs1 imm => Sys2Proof.Machine.execSetltk h rd rs1 imm s
  | .setltuk h rd rs1 imm => Sys2Proof.Machine.execSetltuk h rd rs1 imm s
  | .ld h rd rs1 imm => Sys2Proof.Machine.execLd h rd rs1 imm s
  | .lw h rd rs1 imm => Sys2Proof.Machine.execLw h rd rs1 imm s
  | .lh h rd rs1 imm => Sys2Proof.Machine.execLh h rd rs1 imm s
  | .lb h rd rs1 imm => Sys2Proof.Machine.execLb h rd rs1 imm s
  | .st h rs2 rs1 imm => Sys2Proof.Machine.execSt h rs2 rs1 imm s
  | .sw h rs2 rs1 imm => Sys2Proof.Machine.execSw h rs2 rs1 imm s
  | .sh h rs2 rs1 imm => Sys2Proof.Machine.execSh h rs2 rs1 imm s
  | .sb h rs2 rs1 imm => Sys2Proof.Machine.execSb h rs2 rs1 imm s
  | .br h cond rs1 rs2 off => Sys2Proof.Machine.execBr h cond rs1 rs2 off s
  | .jump h rd off => Sys2Proof.Machine.execJump h rd off s
  | .jmpr h rd rs1 => Sys2Proof.Machine.execJmpr h rd rs1 s
  | .mov h rd rs1 => Sys2Proof.Machine.execMov h rd rs1 s
  | .glz h rd rs1 => Sys2Proof.Machine.execGlz h rd rs1 s
  | .hmake h rd rs1 => Sys2Proof.Machine.execHmake h rd rs1 s
  | .panfield h rd rs1 rs2 rs3 => Sys2Proof.Machine.execPanfield h rd rs1 rs2 rs3 s
  | .pinchk h rd rs1 rs2 rs3 => Sys2Proof.Machine.execPinchk h rd rs1 rs2 rs3 s
  | .decim h rd rs1 rs2 rs3 => Sys2Proof.Machine.execDecim h rd rs1 rs2 rs3 s
  | .offadd h rd rs1 rs2 rs3 => Sys2Proof.Machine.execOffadd h rd rs1 rs2 rs3 s
  | .offsub h rd rs1 rs2 rs3 => Sys2Proof.Machine.execOffsub h rd rs1 rs2 rs3 s
  | .cmpeq h rd rs1 rs2 rs3 => Sys2Proof.Machine.execCmpeq h rd rs1 rs2 rs3 s
  | .maccmp h rd rs1 rs2 rs3 => Sys2Proof.Machine.execMaccmp h rd rs1 rs2 rs3 s
  | .pinconv h rd rs1 rs2 rs3 => Sys2Proof.Machine.execPinconv h rd rs1 rs2 rs3 s
  | .offpack h rd rs1 rs2 rs3 => Sys2Proof.Machine.execOffpack h rd rs1 rs2 rs3 s
  | .zeroise h rd rs1 rs2 rs3 => Sys2Proof.Machine.execZeroise h rd rs1 rs2 rs3 s
  | .ecall h tk ra rk rb rx => Sys2Proof.Machine.execEcall h tk ra rk rb rx s
  | .twait h tk ra => Sys2Proof.Machine.execTwait h tk ra s
  | .twall h => Sys2Proof.Machine.execTwall h s
  | .rand h rd => Sys2Proof.Machine.execRand h rd s
  | .cinc h tk rk => Sys2Proof.Machine.execCinc h tk rk s
  | .csync h => Sys2Proof.Machine.execCsync h s
  | .release h rs1 => Sys2Proof.Machine.execRelease h rs1 s
  | .done h => Sys2Proof.Machine.execDone h s
  | .randResult h => Sys2Proof.Machine.execRandResult h s
  | .threadZeroiseDone h => Sys2Proof.Machine.execThreadZeroiseDone h s
  | .runLimitExpiry h => Sys2Proof.Machine.execRunLimitExpiry h s
  | .engineResult h tk m => Sys2Proof.Machine.execEngineResult h tk m s
  | .tileSelftestDone t pass => Sys2Proof.Machine.execTileSelftestDone t pass s
  | .instructionCacheFill h ok => Sys2Proof.Machine.execInstructionCacheFill h ok s
  | .cipherEncrypt h tk m => Sys2Proof.Machine.execCipherEncrypt h tk m s
  | .cipherDecrypt h tk m => Sys2Proof.Machine.execCipherDecrypt h tk m s
  | .ghash h tk m => Sys2Proof.Machine.execGhash h tk m s
  | .nonce h tk => Sys2Proof.Machine.execNonce h tk s
  | .windowCommitDurable => Sys2Proof.Machine.execWindowCommitDurable s
  | .needLeaseRetry => Sys2Proof.Machine.execNeedLeaseRetry s
  | .leaseTake l => Sys2Proof.Machine.execLeaseTake l s
  | .leaseExpiry => Sys2Proof.Machine.execLeaseExpiry s
  | .wardenLeaseGrant => Sys2Proof.Machine.execWardenLeaseGrant s
  | .coreDispatch k area par blocks => Sys2Proof.Machine.execCoreDispatch k area par blocks s
  | .coreSelftestDone k pass => Sys2Proof.Machine.execCoreSelftestDone k pass s
  | .sha256 h tk => Sys2Proof.Machine.execSha256 h tk s
  | .sha384 h tk => Sys2Proof.Machine.execSha384 h tk s
  | .sha512 h tk => Sys2Proof.Machine.execSha512 h tk s
  | .sha3256 h tk => Sys2Proof.Machine.execSha3256 h tk s
  | .sha3384 h tk => Sys2Proof.Machine.execSha3384 h tk s
  | .sha3512 h tk => Sys2Proof.Machine.execSha3512 h tk s
  | .shake128 h tk => Sys2Proof.Machine.execShake128 h tk s
  | .shake256 h tk => Sys2Proof.Machine.execShake256 h tk s
  | .hashSqueeze h tk => Sys2Proof.Machine.execHashSqueeze h tk s
  | .hashEngineDispatch u area bad => Sys2Proof.Machine.execHashEngineDispatch u area bad s
  | .hpkSelftestDone u pass => Sys2Proof.Machine.execHpkSelftestDone u pass s
  | .pklRsaPrivate h tk m => Sys2Proof.Machine.execPklRsaPrivate h tk m s
  | .pklRsaPublic h tk m => Sys2Proof.Machine.execPklRsaPublic h tk m s
  | .pklEcdsaSign h tk m => Sys2Proof.Machine.execPklEcdsaSign h tk m s
  | .pklEcdsaVerify h tk m => Sys2Proof.Machine.execPklEcdsaVerify h tk m s
  | .pklEcKeyGeneration h tk m => Sys2Proof.Machine.execPklEcKeyGeneration h tk m s
  | .pklEcdh h tk m => Sys2Proof.Machine.execPklEcdh h tk m s
  | .pklEd25519Sign h tk m => Sys2Proof.Machine.execPklEd25519Sign h tk m s
  | .pklEd25519Verify h tk m => Sys2Proof.Machine.execPklEd25519Verify h tk m s
  | .pklX25519 h tk m => Sys2Proof.Machine.execPklX25519 h tk m s
  | .pklMlkemKeyGeneration h tk m => Sys2Proof.Machine.execPklMlkemKeyGeneration h tk m s
  | .pklMlkemEncapsulation h tk m => Sys2Proof.Machine.execPklMlkemEncapsulation h tk m s
  | .pklMlkemDecapsulation h tk m => Sys2Proof.Machine.execPklMlkemDecapsulation h tk m s
  | .pklMldsaSign h tk m => Sys2Proof.Machine.execPklMldsaSign h tk m s
  | .pklMldsaVerify h tk m => Sys2Proof.Machine.execPklMldsaVerify h tk m s
  | .pklRawModularMultiply h tk m => Sys2Proof.Machine.execPklRawModularMultiply h tk m s
  | .pklRawNtt h tk m => Sys2Proof.Machine.execPklRawNtt h tk m s
  | .pklRawInverseNtt h tk m => Sys2Proof.Machine.execPklRawInverseNtt h tk m s
  | .pklUnitDispatch u area cause => Sys2Proof.Machine.execPklUnitDispatch u area cause s
  | .pklClockGate => Sys2Proof.Machine.execPklClockGate s
  | .pklClockRestart => Sys2Proof.Machine.execPklClockRestart s
  | .deriveValue h tk m => Sys2Proof.Machine.execDeriveValue h tk m s
  | .deriveHandle h tk m => Sys2Proof.Machine.execDeriveHandle h tk m s
  | .info h tk m => Sys2Proof.Machine.execInfo h tk m s
  | .keyGenerate => Sys2Proof.Machine.execKeyGenerate s
  | .keyDelete => Sys2Proof.Machine.execKeyDelete s
  | .keySetAttr => Sys2Proof.Machine.execKeySetAttr s
  | .keyQuery => Sys2Proof.Machine.execKeyQuery s
  | .vaultStaging e => Sys2Proof.Machine.execVaultStaging e s
  | .vaultCommitVisible e => Sys2Proof.Machine.execVaultCommitVisible e s
  | .retiringCopyDrain e => Sys2Proof.Machine.execRetiringCopyDrain e s
  | .faultedSlotClear slot => Sys2Proof.Machine.execFaultedSlotClear slot s
  | .rootRederivation => Sys2Proof.Machine.execRootRederivation s
  | .vaultDerivation => Sys2Proof.Machine.execVaultDerivation s
  | .lookup h tk m loc => Sys2Proof.Machine.execLookup h tk m loc s
  | .hostRead h tk bs => Sys2Proof.Machine.execHostRead h tk bs s
  | .hostWrite h tk => Sys2Proof.Machine.execHostWrite h tk s
  | .hostFill h tk => Sys2Proof.Machine.execHostFill h tk s
  | .xksSave m => Sys2Proof.Machine.execXksSave m s
  | .xksLoad img m => Sys2Proof.Machine.execXksLoad img m s
  | .xksCopy m r => Sys2Proof.Machine.execXksCopy m r s
  | .xksDelete m => Sys2Proof.Machine.execXksDelete m s
  | .xksTransferEnd => Sys2Proof.Machine.execXksTransferEnd s
  | .dramPllUnlock => Sys2Proof.Machine.execDramPllUnlock s
  | .dramPllRelock m => Sys2Proof.Machine.execDramPllRelock m s
  | .dramRelockTimeout => Sys2Proof.Machine.execDramRelockTimeout s
  | .dramTraining capacity m => Sys2Proof.Machine.execDramTraining capacity m s
  | .repetitionCountFail src => Sys2Proof.Machine.execRepetitionCountFail src s
  | .adaptiveProportionFail src => Sys2Proof.Machine.execAdaptiveProportionFail src s
  | .startupTestDone test sources => Sys2Proof.Machine.execStartupTestDone test sources s
  | .retestTimerExpiry => Sys2Proof.Machine.execRetestTimerExpiry s
  | .conditionedBlock => Sys2Proof.Machine.execConditionedBlock s
  | .drbgInstantiateDone ix => Sys2Proof.Machine.execDrbgInstantiateDone ix s
  | .drbgReseedDue ix => Sys2Proof.Machine.execDrbgReseedDue ix s
  | .drbgReseedDone ix => Sys2Proof.Machine.execDrbgReseedDone ix s
  | .nvsRecordWrite k => Sys2Proof.Machine.execNvsRecordWrite k s
  | .nvsOperationDone => Sys2Proof.Machine.execNvsOperationDone s
  | .counterIncrement k => Sys2Proof.Machine.execCounterIncrement k s
  | .counterAdd k => Sys2Proof.Machine.execCounterAdd k s
  | .counterRaise k => Sys2Proof.Machine.execCounterRaise k s
  | .journalReclaim => Sys2Proof.Machine.execJournalReclaim s
  | .nvsJournalRecovery => Sys2Proof.Machine.execNvsJournalRecovery s
  | .lifetimePeriod => Sys2Proof.Machine.execLifetimePeriod s
  | .mramScrub corrected bad => Sys2Proof.Machine.execMramScrub corrected bad s
  | .sramScrubPass hits => Sys2Proof.Machine.execSramScrubPass hits s
  | .coreRail low det detail same => Sys2Proof.Machine.execCoreRail low det detail same s
  | .ioRail low det detail same => Sys2Proof.Machine.execIoRail low det detail same s
  | .railRecovery same => Sys2Proof.Machine.execRailRecovery same s
  | .railFreezeTimeout same => Sys2Proof.Machine.execRailFreezeTimeout same s
  | .clkFreq det detail same => Sys2Proof.Machine.execClkFreq det detail same s
  | .clkGlitch pll det detail same => Sys2Proof.Machine.execClkGlitch pll det detail same s
  | .tempLow det detail same => Sys2Proof.Machine.execTempLow det detail same s
  | .tempHigh det detail same => Sys2Proof.Machine.execTempHigh det detail same s
  | .light det detail same => Sys2Proof.Machine.execLight det detail same s
  | .magnetic det detail same => Sys2Proof.Machine.execMagnetic det detail same s
  | .mesh det trace short same => Sys2Proof.Machine.execMesh det trace short same s
  | .tampIn p det same => Sys2Proof.Machine.execTampIn p det same s
  | .debugAccess same => Sys2Proof.Machine.execDebugAccess same s
  | .tileFaultReport same => Sys2Proof.Machine.execTileFaultReport same s
  | .faultWindowExpiry => Sys2Proof.Machine.execFaultWindowExpiry s
  | .panic ns caught same => Sys2Proof.Machine.execPanic ns caught same s
  | .managementPanic v w same => Sys2Proof.Machine.execManagementPanic v w same s
  | .wardenSelfcheck cause same => Sys2Proof.Machine.execWardenSelfcheck cause same s
  | .backupLoss main => Sys2Proof.Machine.execBackupLoss main s
  | .lockDelivery => Sys2Proof.Machine.execLockDelivery s
  | .eraseDelivery => Sys2Proof.Machine.execEraseDelivery s
  | .eraseComplete => Sys2Proof.Machine.execEraseComplete s
  | .vbatLow => Sys2Proof.Machine.execVbatLow s
  | .vbatLowClear => Sys2Proof.Machine.execVbatLowClear s
  | .detectorBist st w => Sys2Proof.Machine.execDetectorBist st w s
  | .bistComplete response => Sys2Proof.Machine.execBistComplete response s
  | .provision bulk => Sys2Proof.Machine.execProvision bulk s
  | .debugEnter bulk => Sys2Proof.Machine.execDebugEnter bulk s
  | .debugExit => Sys2Proof.Machine.execDebugExit s
  | .decommission bulk => Sys2Proof.Machine.execDecommission bulk s
  | .statusQuery => Sys2Proof.Machine.execStatusQuery s
  | .configSubmit bulk => Sys2Proof.Machine.execConfigSubmit bulk s
  | .imageAdmit bulk => Sys2Proof.Machine.execImageAdmit bulk s
  | .imageRetire => Sys2Proof.Machine.execImageRetire s
  | .patchInstall bulk => Sys2Proof.Machine.execPatchInstall bulk s
  | .codesignInstall => Sys2Proof.Machine.execCodesignInstall s
  | .codesignRevoke => Sys2Proof.Machine.execCodesignRevoke s
  | .xksImageAdvance => Sys2Proof.Machine.execXksImageAdvance s
  | .tr34KrdCreate => Sys2Proof.Machine.execTr34KrdCreate s
  | .tr34KrdDelete => Sys2Proof.Machine.execTr34KrdDelete s
  | .tr34KdhCa => Sys2Proof.Machine.execTr34KdhCa s
  | .ceremonyOpen => Sys2Proof.Machine.execCeremonyOpen s
  | .ceremonyCollect => Sys2Proof.Machine.execCeremonyCollect s
  | .ceremonyTimeout => Sys2Proof.Machine.execCeremonyTimeout s
  | .unlock => Sys2Proof.Machine.execUnlock s
  | .restoreBegin => Sys2Proof.Machine.execRestoreBegin s
  | .restoreEnd => Sys2Proof.Machine.execRestoreEnd s
  | .flagClear => Sys2Proof.Machine.execFlagClear s
  | .timeSet => Sys2Proof.Machine.execTimeSet s
  | .archiveKeyCreate => Sys2Proof.Machine.execArchiveKeyCreate s
  | .archiveWindowEnd => Sys2Proof.Machine.execArchiveWindowEnd s
  | .backupWrite => Sys2Proof.Machine.execBackupWrite s
  | .auditRead => Sys2Proof.Machine.execAuditRead s
  | .bondEnrol => Sys2Proof.Machine.execBondEnrol s
  | .bondStart => Sys2Proof.Machine.execBondStart s
  | .bondRoster => Sys2Proof.Machine.execBondRoster s
  | .bondLeave => Sys2Proof.Machine.execBondLeave s
  | .bondStatus => Sys2Proof.Machine.execBondStatus s
  | .watchdogExpiry => Sys2Proof.Machine.execWatchdogExpiry s
  | .cardActivation p => Sys2Proof.Machine.execCardActivation p s
  | .atrReceive p bs => Sys2Proof.Machine.execAtrReceive p bs s
  | .atrTimeout p => Sys2Proof.Machine.execAtrTimeout p s
  | .ppsResponse p bs => Sys2Proof.Machine.execPpsResponse p bs s
  | .ppsTimeout p => Sys2Proof.Machine.execPpsTimeout p s
  | .t1BlockReceive p nad pcb inf ok => Sys2Proof.Machine.execT1BlockReceive p nad pcb inf ok s
  | .t1BlockTimeout p => Sys2Proof.Machine.execT1BlockTimeout p s
  | .sWtxRequest p k => Sys2Proof.Machine.execSWtxRequest p k s
  | .sAbortRequest p => Sys2Proof.Machine.execSAbortRequest p s
  | .sIfsRequest p k => Sys2Proof.Machine.execSIfsRequest p k s
  | .cardResponseTimeout p => Sys2Proof.Machine.execCardResponseTimeout p s
  | .cardRemoval p => Sys2Proof.Machine.execCardRemoval p s
  | .select p => Sys2Proof.Machine.execSelect p s
  | .getInfo p => Sys2Proof.Machine.execGetInfo p s
  | .openSession p => Sys2Proof.Machine.execOpenSession p s
  | .signAuth p => Sys2Proof.Machine.execSignAuth p s
  | .putShare p => Sys2Proof.Machine.execPutShare p s
  | .getShare p => Sys2Proof.Machine.execGetShare p s
  | .closeSession p => Sys2Proof.Machine.execCloseSession p s
  | .getResponse p => Sys2Proof.Machine.execGetResponse p s
  | .sdCardInit cmd8 ready ccs s18a sw blocks sdxc top => Sys2Proof.Machine.execSdCardInit cmd8 ready ccs s18a sw blocks sdxc top s
  | .sdTuning ok => Sys2Proof.Machine.execSdTuning ok s
  | .sdBlockWrite crcs => Sys2Proof.Machine.execSdBlockWrite crcs s
  | .sdBlockRead bs crcs => Sys2Proof.Machine.execSdBlockRead bs crcs s
  | .sdBusyEnd => Sys2Proof.Machine.execSdBusyEnd s
  | .sdBusyTimeout => Sys2Proof.Machine.execSdBusyTimeout s
  | .sdCardRemoval data => Sys2Proof.Machine.execSdCardRemoval data s
  | .hello fr p => Sys2Proof.Machine.execHello fr p s
  | .helloReply fr p => Sys2Proof.Machine.execHelloReply fr p s
  | .finish fr p => Sys2Proof.Machine.execFinish fr p s
  | .sessionRetry k peer => Sys2Proof.Machine.execSessionRetry k peer s
  | .join fr last highest held0 held1 => Sys2Proof.Machine.execJoin fr last highest held0 held1 s
  | .joinAccept fr role last burn0 burn1 roster => Sys2Proof.Machine.execJoinAccept fr role last burn0 burn1 roster s
  | .sync fr images => Sys2Proof.Machine.execSync fr images s
  | .syncEnd fr last slots => Sys2Proof.Machine.execSyncEnd fr last slots s
  | .heartbeat fr standby renew => Sys2Proof.Machine.execHeartbeat fr standby renew s
  | .heartbeatAck fr state last => Sys2Proof.Machine.execHeartbeatAck fr state last s
  | .heartbeatInterval => Sys2Proof.Machine.execHeartbeatInterval s
  | .frameForward fr bs => Sys2Proof.Machine.execFrameForward fr bs s
  | .prepare fr txn slot before img => Sys2Proof.Machine.execPrepare fr txn slot before img s
  | .prepared fr txn status => Sys2Proof.Machine.execPrepared fr txn status s
  | .commit fr txn => Sys2Proof.Machine.execCommit fr txn s
  | .applied fr txn status => Sys2Proof.Machine.execApplied fr txn status s
  | .abort fr txn => Sys2Proof.Machine.execAbort fr txn s
  | .leaseRequest fr highest => Sys2Proof.Machine.execLeaseRequest fr highest s
  | .leaseGrant fr l => Sys2Proof.Machine.execLeaseGrant fr l s
  | .leaseHeld fr l => Sys2Proof.Machine.execLeaseHeld fr l s
  | .leaseState fr hw holder ev l => Sys2Proof.Machine.execLeaseState fr hw holder ev l s
  | .leaseStateAck fr hw => Sys2Proof.Machine.execLeaseStateAck fr hw s
  | .standbyDesignate fr hw last table => Sys2Proof.Machine.execStandbyDesignate fr hw last table s
  | .standbyAccept fr hw => Sys2Proof.Machine.execStandbyAccept fr hw s
  | .promoted fr last burns => Sys2Proof.Machine.execPromoted fr last burns s
  | .nak fr kind cause manager => Sys2Proof.Machine.execNak fr kind cause manager s
  | .unlockRelay fr target token => Sys2Proof.Machine.execUnlockRelay fr target token s
  | .unlockResult fr status => Sys2Proof.Machine.execUnlockResult fr status s
  | .reset fr => Sys2Proof.Machine.execReset fr s
  | .retransmitTimer => Sys2Proof.Machine.execRetransmitTimer s
  | .memberLost m => Sys2Proof.Machine.execMemberLost m s
  | .cutOff => Sys2Proof.Machine.execCutOff s
  | .promotion => Sys2Proof.Machine.execPromotion s
  | .mortarLinkUp p lanes peer => Sys2Proof.Machine.execMortarLinkUp p lanes peer s
  | .mortarLinkDown p => Sys2Proof.Machine.execMortarLinkDown p s
  | .relayEnable st w => Sys2Proof.Machine.execRelayEnable st w s
  | .relayInboundDoorbell st w => Sys2Proof.Machine.execRelayInboundDoorbell st w s
  | .relayOutboundDoorbell st w => Sys2Proof.Machine.execRelayOutboundDoorbell st w s
  | .relayInboundEntry ok len peer src clean => Sys2Proof.Machine.execRelayInboundEntry ok len peer src clean s
  | .relayOutboundEntry => Sys2Proof.Machine.execRelayOutboundEntry s
  | .powerOn => Sys2Proof.Machine.execPowerOn s
  | .porRelease => Sys2Proof.Machine.execPorRelease s
  | .powerLoss o => Sys2Proof.Machine.execPowerLoss o s
  | .resetInN low ns caught => Sys2Proof.Machine.execResetInN low ns caught s
  | .perstN low => Sys2Proof.Machine.execPerstN low s
  | .resetCmdCold v w => Sys2Proof.Machine.execResetCmdCold v w s
  | .resetCmdWarm v w => Sys2Proof.Machine.execResetCmdWarm v w s
  | .hotReset => Sys2Proof.Machine.execHotReset s
  | .stretchEnd => Sys2Proof.Machine.execStretchEnd s
  | .fuseLoad => Sys2Proof.Machine.execFuseLoad s
  | .rootPllLock => Sys2Proof.Machine.execRootPllLock s
  | .wardenRom => Sys2Proof.Machine.execWardenRom s
  | .kiln tiles cores units inject dets => Sys2Proof.Machine.execKiln tiles cores units inject dets s
  | .configValidation => Sys2Proof.Machine.execConfigValidation s
  | .resetOutRelease => Sys2Proof.Machine.execResetOutRelease s
  | .dataPlaneEnable => Sys2Proof.Machine.execDataPlaneEnable s
  | .blockResetHold v w => Sys2Proof.Machine.execBlockResetHold v w s
  | .blockResetRelease v w => Sys2Proof.Machine.execBlockResetRelease v w s
  | .blockReleaseTestsDone b bad m => Sys2Proof.Machine.execBlockReleaseTestsDone b bad m s
  | .maintenanceEnter v w => Sys2Proof.Machine.execMaintenanceEnter v w s
  | .maintenanceExit v w => Sys2Proof.Machine.execMaintenanceExit v w s
  | .snapshotCapture v w => Sys2Proof.Machine.execSnapshotCapture v w s
  | .telemetrySample temps mvs devs counts => Sys2Proof.Machine.execTelemetrySample temps mvs devs counts s
  | .i3cPrivateRead off n i2c => Sys2Proof.Machine.execI3cPrivateRead off n i2c s
  | .i3cPrivateWrite bs i2c => Sys2Proof.Machine.execI3cPrivateWrite bs i2c s
  | .entdaa addr => Sys2Proof.Machine.execEntdaa addr s
  | .setdasa stat addr => Sys2Proof.Machine.execSetdasa stat addr s
  | .rstdaa => Sys2Proof.Machine.execRstdaa s
  | .enec events => Sys2Proof.Machine.execEnec events s
  | .disec events => Sys2Proof.Machine.execDisec events s
  | .getpid => Sys2Proof.Machine.execGetpid s
  | .getbcr => Sys2Proof.Machine.execGetbcr s
  | .getdcr => Sys2Proof.Machine.execGetdcr s
  | .getstatus => Sys2Proof.Machine.execGetstatus s
  | .getmwl => Sys2Proof.Machine.execGetmwl s
  | .getmrl => Sys2Proof.Machine.execGetmrl s
  | .pcieLinkUp width rate flit => Sys2Proof.Machine.execPcieLinkUp width rate flit s
  | .pcieLinkDown => Sys2Proof.Machine.execPcieLinkDown s

end Sys2Proof.Machine
end

