-- ==== Sys2Proof/Machine/Step.lean ====
section
/-! DEFINITION. One step of the block: the command at the front of the queue, or an idle cycle. -/

namespace Sys2Proof.Machine

/-- The command that the word spells is put at the front of the queue; the table spells none. -/
def State.withFetchWord (s : State) (nbits w : Nat) : State :=
  match decodeTableWord nbits w with
  | none => s
  | some i => { s with pending := i :: s.pending }

/-- The first waiting command runs with the rest of the queue; with none waiting, one CD_MGMT cycle passes. -/
def step (s : State) : Host.Outcome State Fault Refusal :=
  match s.pending with
  | [] => onChip s (fun c => c.advance 1)
  | i :: rest => exec i { s with pending := rest }

end Sys2Proof.Machine
end

