-- ==== Sys2Proof/WellFormed.lean ====
section
/-! DEFINITION. The commands whose operands name something that exists: a thread of the 64 tiles (R129), a staging entry (R64), a vault
staging entry (R236), a partition (R36), a course (R38, R39), a token (R167), a key memory's read (R261, R421), a card port (R353) or
link (R379), a detector pair (R304), a TAMP_IN pin (R308), a cipher core (R181), a selective IDE stream (R33); and the instruction
commands whose fields keep R158. -/

namespace Sys2Proof

/-- A frame came in through port 0 or 1 or the relay (2), and its one-octet fields are octets (R380, R383). -/
def Frame.wf (f : Frame) : Bool := decide (f.port ≤ 2) && decide (f.src < 256) && decide (f.dst < 256) && decide (f.hops < 256)

/-- The operands of a command name things that exist. -/
def Instr.wf : Instr → Bool
  | .registerWrite _ _ _ _ => true
  | .rcRead _ _ _ => true
  | .rngDataRead n _ _ => decide (n < 64)
  | .rngDataLoad n => decide (n < 64)
  | .msixTableWrite n _ _ _ _ => decide (n < 64)
  | .sqDoorbell n _ i _ _ => decide (n < 64) && decide (i < 256)
  | .cqDoorbell n _ i _ _ => decide (n < 64) && decide (i < 256)
  | .sqEnable n _ i => decide (n < 64) && decide (i < 256)
  | .cqEnable n _ i => decide (n < 64) && decide (i < 256)
  | .sqDisable n _ i => decide (n < 64) && decide (i < 256)
  | .cqDisable n _ i => decide (n < 64) && decide (i < 256)
  | .sqPause n _ i _ => decide (n < 64) && decide (i < 256)
  | .intEnable n _ i _ => decide (n < 64) && decide (i < 256)
  | .partitionEnable _ n _ => decide (n < 64)
  | .partitionReset _ n => decide (n < 64)
  | .vfFlr n => decide (n < 64)
  | .vfDisable num => decide (num < 64)
  | .vfEnableSet num => decide (num < 64)
  | .functionLevelResetEnd n => decide (n < 64)
  | .ideKmKeyInstall k => decide (k < 4)
  | .ideStreamInsecure k => decide (k.1 < 4)
  | .busMasterEnableChange n _ => decide (n < 64)
  | .powerStateChange n _ => decide (n < 64)
  | .msixControlWrite n _ _ => decide (n < 64)
  | .doeDiscovery _ _ => true
  | .spdmGetVersion _ => true
  | .spdmGetCapabilities _ => true
  | .spdmNegotiateAlgorithms _ _ _ _ _ => true
  | .spdmGetDigests _ => true
  | .spdmGetCertificate _ => true
  | .spdmChallenge _ => true
  | .spdmGetMeasurements _ => true
  | .spdmKeyExchange _ => true
  | .spdmFinish _ => true
  | .spdmEndSession _ => true
  | .descriptorFetch n i e => decide (n < 64) && decide (i < 256) && decide (e < 8192)
  | .descriptorReadCompletion e _ => decide (e < 8192)
  | .palletFetch e _ => decide (e < 8192)
  | .palletReadCompletion e _ => decide (e < 8192)
  | .readFailure e => decide (e < 8192)
  | .readCompletionTimeout e => decide (e < 8192)
  | .inputPrefetch e _ => decide (e < 8192)
  | .commandAdmit e => decide (e < 8192)
  | .threadAssign e h _ => decide (e < 8192) && decide (h < 1024)
  | .contextSet e _ => decide (e < 8192)
  | .contextGet e => decide (e < 8192)
  | .fenceCourse e => decide (e < 8192)
  | .fencePartition e => decide (e < 8192)
  | .fenceKeys e => decide (e < 8192)
  | .fenceCounters e => decide (e < 8192)
  | .fenceBond e => decide (e < 8192)
  | .fenceSatisfied e => decide (e < 8192)
  | .completionQueue e => decide (e < 8192)
  | .completionWrite n i => decide (n < 64) && decide (i < 256)
  | .coalTimerExpiry n i => decide (n < 64) && decide (i < 256)
  | .pinTranslate h _ => decide (h < 1024)
  | .pinVerify h _ => decide (h < 1024)
  | .pinOffsetGenerate h _ => decide (h < 1024)
  | .arqcVerify h _ _ => decide (h < 1024)
  | .issuerScript h _ _ => decide (h < 1024)
  | .dukptPinTranslate h _ => decide (h < 1024)
  | .dukptData h _ _ => decide (h < 1024)
  | .macGenerate h _ _ => decide (h < 1024)
  | .macVerify h _ _ => decide (h < 1024)
  | .cscGenerate h _ => decide (h < 1024)
  | .cscVerify h _ => decide (h < 1024)
  | .ff1Tokenise h _ => decide (h < 1024)
  | .ff1Detokenise h _ => decide (h < 1024)
  | .keyblockImport e _ m => decide (e < 8192) && decide (m < 512)
  | .keyblockExport e m m1 => decide (e < 8192) && decide (m < 512) && decide (m1 < 512)
  | .tr34Nonce e => decide (e < 8192)
  | .tr34NonceExpiry n => decide (n < 64)
  | .tr34Import e _ => decide (e < 8192)
  | .wardenRequest e _ => decide (e < 8192)
  | .gcmEncrypt h _ _ => decide (h < 1024)
  | .gcmDecrypt h _ _ => decide (h < 1024)
  | .random h => decide (h < 1024)
  | .ecdsaSign h _ _ => decide (h < 1024)
  | .ecdsaVerify h _ _ => decide (h < 1024)
  | .mldsaSign h _ _ => decide (h < 1024)
  | .mldsaVerify h _ _ => decide (h < 1024)
  | .rsaSign h _ _ => decide (h < 1024)
  | .mlkemEncaps h _ _ => decide (h < 1024)
  | .mlkemDecaps h _ _ => decide (h < 1024)
  | .customerFunction e h _ => decide (e < 8192) && decide (h < 1024)
  | .add h rd rs1 rs2 => decide (h < 1024) && Insn.wf (.r .add rd rs1 rs2)
  | .sub h rd rs1 rs2 => decide (h < 1024) && Insn.wf (.r .sub rd rs1 rs2)
  | .and h rd rs1 rs2 => decide (h < 1024) && Insn.wf (.r .and rd rs1 rs2)
  | .or h rd rs1 rs2 => decide (h < 1024) && Insn.wf (.r .or rd rs1 rs2)
  | .xor h rd rs1 rs2 => decide (h < 1024) && Insn.wf (.r .xor rd rs1 rs2)
  | .andn h rd rs1 rs2 => decide (h < 1024) && Insn.wf (.r .andn rd rs1 rs2)
  | .shl h rd rs1 rs2 => decide (h < 1024) && Insn.wf (.r .shl rd rs1 rs2)
  | .shrz h rd rs1 rs2 => decide (h < 1024) && Insn.wf (.r .shrz rd rs1 rs2)
  | .shrs h rd rs1 rs2 => decide (h < 1024) && Insn.wf (.r .shrs rd rs1 rs2)
  | .seteq h rd rs1 rs2 => decide (h < 1024) && Insn.wf (.r .seteq rd rs1 rs2)
  | .setne h rd rs1 rs2 => decide (h < 1024) && Insn.wf (.r .setne rd rs1 rs2)
  | .setlt h rd rs1 rs2 => decide (h < 1024) && Insn.wf (.r .setlt rd rs1 rs2)
  | .setge h rd rs1 rs2 => decide (h < 1024) && Insn.wf (.r .setge rd rs1 rs2)
  | .setltu h rd rs1 rs2 => decide (h < 1024) && Insn.wf (.r .setltu rd rs1 rs2)
  | .setgeu h rd rs1 rs2 => decide (h < 1024) && Insn.wf (.r .setgeu rd rs1 rs2)
  | .mul h rd rs1 rs2 => decide (h < 1024) && Insn.wf (.r .mul rd rs1 rs2)
  | .mulx h rd rs1 rs2 => decide (h < 1024) && Insn.wf (.r .mulx rd rs1 rs2)
  | .divr h rd rs1 rs2 => decide (h < 1024) && Insn.wf (.r .divr rd rs1 rs2)
  | .addk h rd rs1 imm => decide (h < 1024) && Insn.wf (.k .addk rd rs1 imm)
  | .andk h rd rs1 imm => decide (h < 1024) && Insn.wf (.k .andk rd rs1 imm)
  | .ork h rd rs1 imm => decide (h < 1024) && Insn.wf (.k .ork rd rs1 imm)
  | .xork h rd rs1 imm => decide (h < 1024) && Insn.wf (.k .xork rd rs1 imm)
  | .shlk h rd rs1 imm => decide (h < 1024) && Insn.wf (.k .shlk rd rs1 imm)
  | .shrzk h rd rs1 imm => decide (h < 1024) && Insn.wf (.k .shrzk rd rs1 imm)
  | .shrsk h rd rs1 imm => decide (h < 1024) && Insn.wf (.k .shrsk rd rs1 imm)
  | .ksh h rd rs1 imm => decide (h < 1024) && Insn.wf (.k .ksh rd rs1 imm)
  | .setltk h rd rs1 imm => decide (h < 1024) && Insn.wf (.k .setltk rd rs1 imm)
  | .setltuk h rd rs1 imm => decide (h < 1024) && Insn.wf (.k .setltuk rd rs1 imm)
  | .ld h rd rs1 imm => decide (h < 1024) && Insn.wf (.load .w8 rd rs1 imm)
  | .lw h rd rs1 imm => decide (h < 1024) && Insn.wf (.load .w4 rd rs1 imm)
  | .lh h rd rs1 imm => decide (h < 1024) && Insn.wf (.load .w2 rd rs1 imm)
  | .lb h rd rs1 imm => decide (h < 1024) && Insn.wf (.load .w1 rd rs1 imm)
  | .st h rs2 rs1 imm => decide (h < 1024) && Insn.wf (.store .w8 rs2 rs1 imm)
  | .sw h rs2 rs1 imm => decide (h < 1024) && Insn.wf (.store .w4 rs2 rs1 imm)
  | .sh h rs2 rs1 imm => decide (h < 1024) && Insn.wf (.store .w2 rs2 rs1 imm)
  | .sb h rs2 rs1 imm => decide (h < 1024) && Insn.wf (.store .w1 rs2 rs1 imm)
  | .br h cond rs1 rs2 off => decide (h < 1024) && Insn.wf (.br cond rs1 rs2 off)
  | .jump h rd off => decide (h < 1024) && Insn.wf (.jump rd off)
  | .jmpr h rd rs1 => decide (h < 1024) && Insn.wf (.jmpr rd rs1)
  | .mov h rd rs1 => decide (h < 1024) && Insn.wf (.tag .mov rd rs1)
  | .glz h rd rs1 => decide (h < 1024) && Insn.wf (.tag .glz rd rs1)
  | .hmake h rd rs1 => decide (h < 1024) && Insn.wf (.tag .hmake rd rs1)
  | .panfield h rd rs1 rs2 rs3 => decide (h < 1024) && Insn.wf (.sou .panfield rd rs1 rs2 rs3)
  | .pinchk h rd rs1 rs2 rs3 => decide (h < 1024) && Insn.wf (.sou .pinchk rd rs1 rs2 rs3)
  | .decim h rd rs1 rs2 rs3 => decide (h < 1024) && Insn.wf (.sou .decim rd rs1 rs2 rs3)
  | .offadd h rd rs1 rs2 rs3 => decide (h < 1024) && Insn.wf (.sou .offadd rd rs1 rs2 rs3)
  | .offsub h rd rs1 rs2 rs3 => decide (h < 1024) && Insn.wf (.sou .offsub rd rs1 rs2 rs3)
  | .cmpeq h rd rs1 rs2 rs3 => decide (h < 1024) && Insn.wf (.sou .cmpeq rd rs1 rs2 rs3)
  | .maccmp h rd rs1 rs2 rs3 => decide (h < 1024) && Insn.wf (.sou .maccmp rd rs1 rs2 rs3)
  | .pinconv h rd rs1 rs2 rs3 => decide (h < 1024) && Insn.wf (.sou .pinconv rd rs1 rs2 rs3)
  | .offpack h rd rs1 rs2 rs3 => decide (h < 1024) && Insn.wf (.sou .offpack rd rs1 rs2 rs3)
  | .zeroise h rd rs1 rs2 rs3 => decide (h < 1024) && Insn.wf (.sou .zeroise rd rs1 rs2 rs3)
  | .ecall h tk ra rk rb rx => decide (h < 1024) && Insn.wf (.ecall tk ra rk rb rx)
  | .twait h tk ra => decide (h < 1024) && Insn.wf (.twait tk ra)
  | .twall h => decide (h < 1024) && Insn.wf (.twall)
  | .rand h rd => decide (h < 1024) && Insn.wf (.rand rd)
  | .cinc h tk rk => decide (h < 1024) && Insn.wf (.cinc tk rk)
  | .csync h => decide (h < 1024) && Insn.wf (.csync)
  | .release h rs1 => decide (h < 1024) && Insn.wf (.release rs1)
  | .done h => decide (h < 1024) && Insn.wf (.done)
  | .randResult h => decide (h < 1024)
  | .threadZeroiseDone h => decide (h < 1024)
  | .runLimitExpiry h => decide (h < 1024)
  | .engineResult h tk m => decide (h < 1024) && decide (tk ≤ 11) && decide (m ≤ 2)
  | .tileSelftestDone t _ => decide (t < 64)
  | .instructionCacheFill h _ => decide (h < 1024)
  | .cipherEncrypt h tk m => decide (h < 1024) && decide (tk ≤ 11) && decide (m < 512)
  | .cipherDecrypt h tk m => decide (h < 1024) && decide (tk ≤ 11) && decide (m < 512)
  | .ghash h tk m => decide (h < 1024) && decide (tk ≤ 11) && decide (m < 512)
  | .nonce h tk => decide (h < 1024) && decide (tk ≤ 11)
  | .windowCommitDurable => true
  | .needLeaseRetry => true
  | .leaseTake _ => true
  | .leaseExpiry => true
  | .wardenLeaseGrant => true
  | .coreDispatch k _ _ _ => decide (k < 48)
  | .coreSelftestDone k _ => decide (k < 48)
  | .sha256 h tk => decide (h < 1024) && decide (tk ≤ 11)
  | .sha384 h tk => decide (h < 1024) && decide (tk ≤ 11)
  | .sha512 h tk => decide (h < 1024) && decide (tk ≤ 11)
  | .sha3256 h tk => decide (h < 1024) && decide (tk ≤ 11)
  | .sha3384 h tk => decide (h < 1024) && decide (tk ≤ 11)
  | .sha3512 h tk => decide (h < 1024) && decide (tk ≤ 11)
  | .shake128 h tk => decide (h < 1024) && decide (tk ≤ 11)
  | .shake256 h tk => decide (h < 1024) && decide (tk ≤ 11)
  | .hashSqueeze h tk => decide (h < 1024) && decide (tk ≤ 11)
  | .hashEngineDispatch _ _ _ => true
  | .hpkSelftestDone _ _ => true
  | .pklRsaPrivate h tk m => decide (h < 1024) && decide (tk ≤ 11) && decide (m < 262144)
  | .pklRsaPublic h tk m => decide (h < 1024) && decide (tk ≤ 11) && decide (m < 262144)
  | .pklEcdsaSign h tk m => decide (h < 1024) && decide (tk ≤ 11) && decide (m < 262144)
  | .pklEcdsaVerify h tk m => decide (h < 1024) && decide (tk ≤ 11) && decide (m < 262144)
  | .pklEcKeyGeneration h tk m => decide (h < 1024) && decide (tk ≤ 11) && decide (m < 262144)
  | .pklEcdh h tk m => decide (h < 1024) && decide (tk ≤ 11) && decide (m < 262144)
  | .pklEd25519Sign h tk m => decide (h < 1024) && decide (tk ≤ 11) && decide (m < 262144)
  | .pklEd25519Verify h tk m => decide (h < 1024) && decide (tk ≤ 11) && decide (m < 262144)
  | .pklX25519 h tk m => decide (h < 1024) && decide (tk ≤ 11) && decide (m < 262144)
  | .pklMlkemKeyGeneration h tk m => decide (h < 1024) && decide (tk ≤ 11) && decide (m < 262144)
  | .pklMlkemEncapsulation h tk m => decide (h < 1024) && decide (tk ≤ 11) && decide (m < 262144)
  | .pklMlkemDecapsulation h tk m => decide (h < 1024) && decide (tk ≤ 11) && decide (m < 262144)
  | .pklMldsaSign h tk m => decide (h < 1024) && decide (tk ≤ 11) && decide (m < 262144)
  | .pklMldsaVerify h tk m => decide (h < 1024) && decide (tk ≤ 11) && decide (m < 262144)
  | .pklRawModularMultiply h tk m => decide (h < 1024) && decide (tk ≤ 11) && decide (m < 262144)
  | .pklRawNtt h tk m => decide (h < 1024) && decide (tk ≤ 11) && decide (m < 262144)
  | .pklRawInverseNtt h tk m => decide (h < 1024) && decide (tk ≤ 11) && decide (m < 262144)
  | .pklUnitDispatch _ _ cause => decide (cause < 2048)
  | .pklClockGate => true
  | .pklClockRestart => true
  | .deriveValue h tk m => decide (h < 1024) && decide (tk ≤ 11) && decide (m < 512)
  | .deriveHandle h tk m => decide (h < 1024) && decide (tk ≤ 11) && decide (m < 512)
  | .info h tk m => decide (h < 1024) && decide (tk ≤ 11) && decide (m < 512)
  | .keyGenerate => true
  | .keyDelete => true
  | .keySetAttr => true
  | .keyQuery => true
  | .vaultStaging e => decide (e < 4096)
  | .vaultCommitVisible e => decide (e < 4096)
  | .retiringCopyDrain e => decide (e < 4096)
  | .faultedSlotClear slot => decide (slot < 65536)
  | .rootRederivation => true
  | .vaultDerivation => true
  | .lookup h tk m loc => decide (h < 1024) && decide (tk ≤ 11) && decide (m < 4) && decide (loc < 128)
  | .hostRead h tk _ => decide (h < 1024) && decide (tk ≤ 11)
  | .hostWrite h tk => decide (h < 1024) && decide (tk ≤ 11)
  | .hostFill h tk => decide (h < 1024) && decide (tk ≤ 11)
  | .xksSave m => decide (m < 512)
  | .xksLoad _ m => decide (m < 512)
  | .xksCopy m r => decide (m ≤ 2) && decide (r < 512)
  | .xksDelete m => decide (m < 512)
  | .xksTransferEnd => true
  | .dramPllUnlock => true
  | .dramPllRelock m => decide (m < 512)
  | .dramRelockTimeout => true
  | .dramTraining _ m => decide (m < 512)
  | .repetitionCountFail src => decide (src < 2)
  | .adaptiveProportionFail src => decide (src < 2)
  | .startupTestDone _ _ => true
  | .retestTimerExpiry => true
  | .conditionedBlock => true
  | .drbgInstantiateDone _ => true
  | .drbgReseedDue _ => true
  | .drbgReseedDone _ => true
  | .nvsRecordWrite _ => true
  | .nvsOperationDone => true
  | .counterIncrement _ => true
  | .counterAdd _ => true
  | .counterRaise _ => true
  | .journalReclaim => true
  | .nvsJournalRecovery => true
  | .lifetimePeriod => true
  | .mramScrub _ _ => true
  | .sramScrubPass _ => true
  | .coreRail _ det _ _ => decide (det < 4)
  | .ioRail _ det _ _ => decide (det < 4)
  | .railRecovery _ => true
  | .railFreezeTimeout _ => true
  | .clkFreq det _ _ => decide (det < 4)
  | .clkGlitch _ det _ _ => decide (det < 4)
  | .tempLow det _ _ => decide (det < 4)
  | .tempHigh det _ _ => decide (det < 4)
  | .light det _ _ => decide (det < 4)
  | .magnetic det _ _ => decide (det < 4)
  | .mesh det _ _ _ => decide (det < 4)
  | .tampIn p det _ => decide (p < 8) && decide (det < 4)
  | .debugAccess _ => true
  | .tileFaultReport _ => true
  | .faultWindowExpiry => true
  | .panic _ _ _ => true
  | .managementPanic _ _ _ => true
  | .wardenSelfcheck _ _ => true
  | .backupLoss _ => true
  | .lockDelivery => true
  | .eraseDelivery => true
  | .eraseComplete => true
  | .vbatLow => true
  | .vbatLowClear => true
  | .detectorBist _ _ => true
  | .bistComplete _ => true
  | .provision _ => true
  | .debugEnter _ => true
  | .debugExit => true
  | .decommission _ => true
  | .statusQuery => true
  | .configSubmit _ => true
  | .imageAdmit _ => true
  | .imageRetire => true
  | .patchInstall _ => true
  | .codesignInstall => true
  | .codesignRevoke => true
  | .xksImageAdvance => true
  | .tr34KrdCreate => true
  | .tr34KrdDelete => true
  | .tr34KdhCa => true
  | .ceremonyOpen => true
  | .ceremonyCollect => true
  | .ceremonyTimeout => true
  | .unlock => true
  | .restoreBegin => true
  | .restoreEnd => true
  | .flagClear => true
  | .timeSet => true
  | .archiveKeyCreate => true
  | .archiveWindowEnd => true
  | .backupWrite => true
  | .auditRead => true
  | .bondEnrol => true
  | .bondStart => true
  | .bondRoster => true
  | .bondLeave => true
  | .bondStatus => true
  | .watchdogExpiry => true
  | .cardActivation p => decide (p < 2)
  | .atrReceive p _ => decide (p < 2)
  | .atrTimeout p => decide (p < 2)
  | .ppsResponse p _ => decide (p < 2)
  | .ppsTimeout p => decide (p < 2)
  | .t1BlockReceive p _ _ _ _ => decide (p < 2)
  | .t1BlockTimeout p => decide (p < 2)
  | .sWtxRequest p _ => decide (p < 2)
  | .sAbortRequest p => decide (p < 2)
  | .sIfsRequest p _ => decide (p < 2)
  | .cardResponseTimeout p => decide (p < 2)
  | .cardRemoval p => decide (p < 2)
  | .select p => decide (p < 2)
  | .getInfo p => decide (p < 2)
  | .openSession p => decide (p < 2)
  | .signAuth p => decide (p < 2)
  | .putShare p => decide (p < 2)
  | .getShare p => decide (p < 2)
  | .closeSession p => decide (p < 2)
  | .getResponse p => decide (p < 2)
  | .sdCardInit _ _ _ _ _ _ _ _ => true
  | .sdTuning _ => true
  | .sdBlockWrite _ => true
  | .sdBlockRead _ _ => true
  | .sdBusyEnd => true
  | .sdBusyTimeout => true
  | .sdCardRemoval _ => true
  | .hello fr _ => fr.wf
  | .helloReply fr _ => fr.wf
  | .finish fr _ => fr.wf
  | .sessionRetry _ _ => true
  | .join fr _ _ _ _ => fr.wf
  | .joinAccept fr _ _ _ _ _ => fr.wf
  | .sync fr _ => fr.wf
  | .syncEnd fr _ _ => fr.wf
  | .heartbeat fr _ _ => fr.wf
  | .heartbeatAck fr _ _ => fr.wf
  | .heartbeatInterval => true
  | .frameForward fr _ => fr.wf
  | .prepare fr _ slot _ _ => fr.wf && decide (slot < 65536)
  | .prepared fr _ _ => fr.wf
  | .commit fr _ => fr.wf
  | .applied fr _ _ => fr.wf
  | .abort fr _ => fr.wf
  | .leaseRequest fr _ => fr.wf
  | .leaseGrant fr _ => fr.wf
  | .leaseHeld fr _ => fr.wf
  | .leaseState fr _ _ _ _ => fr.wf
  | .leaseStateAck fr _ => fr.wf
  | .standbyDesignate fr _ _ _ => fr.wf
  | .standbyAccept fr _ => fr.wf
  | .promoted fr _ _ => fr.wf
  | .nak fr _ _ _ => fr.wf
  | .unlockRelay fr _ _ => fr.wf
  | .unlockResult fr _ => fr.wf
  | .reset fr => fr.wf
  | .retransmitTimer => true
  | .memberLost m => decide (m ≤ 2)
  | .cutOff => true
  | .promotion => true
  | .mortarLinkUp p _ _ => decide (p < 2)
  | .mortarLinkDown p => decide (p < 2)
  | .relayEnable _ _ => true
  | .relayInboundDoorbell _ _ => true
  | .relayOutboundDoorbell _ _ => true
  | .relayInboundEntry _ _ _ _ _ => true
  | .relayOutboundEntry => true
  | .powerOn => true
  | .porRelease => true
  | .powerLoss _ => true
  | .resetInN _ _ _ => true
  | .perstN _ => true
  | .resetCmdCold _ _ => true
  | .resetCmdWarm _ _ => true
  | .hotReset => true
  | .stretchEnd => true
  | .fuseLoad => true
  | .rootPllLock => true
  | .wardenRom => true
  | .kiln _ _ _ _ _ => true
  | .configValidation => true
  | .resetOutRelease => true
  | .dataPlaneEnable => true
  | .blockResetHold _ _ => true
  | .blockResetRelease _ _ => true
  | .blockReleaseTestsDone b _ m => decide (b < 64) && decide (m < 512)
  | .maintenanceEnter _ _ => true
  | .maintenanceExit _ _ => true
  | .snapshotCapture _ _ => true
  | .telemetrySample _ _ _ _ => true
  | .i3cPrivateRead _ _ _ => true
  | .i3cPrivateWrite _ _ => true
  | .entdaa _ => true
  | .setdasa _ _ => true
  | .rstdaa => true
  | .enec _ => true
  | .disec _ => true
  | .getpid => true
  | .getbcr => true
  | .getdcr => true
  | .getstatus => true
  | .getmwl => true
  | .getmrl => true
  | .pcieLinkUp _ _ _ => true
  | .pcieLinkDown => true

end Sys2Proof
end

