-- ==== Sys2Proof/Safety.lean ====
section
/-! DEFINITION. What counts as a safe run: the canonical form of everything numbered, the fuses that never un-blow, and the latches that
only an authorised request clears. -/

namespace Sys2Proof.Machine

/-- Fuses only blow (R328): none is lost between `a` and `b`. -/
def Fuses.le (a b : Fuses) : Prop :=
  (a.provision = true → b.provision = true) ∧ a.debug ≤ b.debug ∧ (a.decommission = true → b.decommission = true)
    ∧ (a.programmed = true → b.programmed = true)

/-- The requests that may clear a latch: PROVISION (R330), UNLOCK, also one that a bond member relays (R338, R386), and RESTORE_END
(R340). -/
def Instr.mayClearLatch : Instr → Prop
  | .provision _ | .unlock | .restoreEnd => True
  | _ => False

/-- The backup domain and the fuses are in form: the time-stamp fits its 63 bits and its clock's fraction stays below one sub-second
(R316); the alarm ring has 16 places, listed in canonical form, and its entry count and the count last reviewed fit 16 bits (R319, R320); at
most 8 debug fuses are blown, and a provisioned part has its class bank programmed (R328, R330). -/
def Chip.inForm (c : Chip) : Prop :=
  c.bd.time < 2 ^ 63 ∧ c.bd.phase < 10 ^ 8 ∧ twf (fun _ => ((0 : Word), (0 : Word))) c.bd.ring = true ∧ (∀ e ∈ c.bd.ring, e.1 < 16) ∧
    c.bd.newest < 2 ^ 16 ∧ c.bd.reviewed < 2 ^ 16 ∧ c.fz.debug ≤ 8 ∧ (c.fz.provision = true → c.fz.programmed = true)

/-- A run of `n` steps none of which stops. -/
inductive Runs : Nat → State → State → Prop where
  | zero (s : State) : Runs 0 s s
  | succ (n : Nat) (s t u : State) : step s = .next t → Runs n t u → Runs (n + 1) s u

end Sys2Proof.Machine
end

