-- ==== Sys2Proof/Certificates/Slice0/Obligations.lean ====
section
/-! DEFINITION. The statements for the provers, and the few abbreviations that they share. A statement about a command says the next state that exec
answers, whole: what it does not name is as before. -/

namespace Sys2Proof.Machine

/-- An intact PLAIN word (R137, R150). -/
abbrev GWord.isPlain (w : GWord) : Prop := w.tag = .plain ∧ w.res = BitVec.ofNat 3 (w.data.toNat % 7)

/-- An intact word that carries data, PLAIN or GLAZED (R137, R150). -/
abbrev GWord.isData (w : GWord) : Prop := (w.tag = .plain ∨ w.tag = .glazed) ∧ w.res = BitVec.ofNat 3 (w.data.toNat % 7)

/-- The thread gives its command up: registers, slice and results that arrived are gone, requests not back stay (R135). -/
abbrev Thr.givenUp (t : Thr) : Thr :=
  { t with cmd := none, g := [], sl := [], result := 0, wait := .none, rel := false, seqBlocks := 0, commits := [], writes := [], zeroising := true,
           toks := t.toks.filter (fun x => x.2.pending) }

/-- The state with the chip `c`: what waits in the queue stays. -/
abbrev State.setChip (s : State) (c : Chip) : State := { s with chip := c }

/-- Thread `h` stands, nothing holding it, at the entry of the program of library function `f` for the command `c` of entry `e`, whose input area is
`inp`: `bs`, where it is longer than INPUT_PREFETCH (R134, R182, R185). -/
abbrev Dev.LibReady (d : Dev) (f h e : Nat) (c : Cmd) (bs inp : List Byte) : Prop :=
  (d.thr h).cmd = some e ∧ c = d.cmd e ∧ dFunction c.desc = f ∧ d.atEntry h c = true ∧ d.libInput c bs = some inp ∧ d.lockStatus = none

/-- The units are in service and fault in no request, the keys `ks` of the positions that `needs` names are found, of the right kind and with the uses that `us` takes of
them, and, where the function draws, instance D delivers; `d2` is the device after the uses and the draw (R96 to R98, R230). -/
abbrev Dev.KeysGiven (d : Dev) (h : Nat) (c : Cmd) (us : List KeyUse) (units : List Nat) (draws : Bool) (needs : List Need) (d2 : Dev)
    (ks : List KeyRef) : Prop :=
  d.libUnits units = none ∧ libFault us units = none ∧ d.xks.waiting = false ∧ d.libDraws draws = none ∧ (d.libKeys h c us needs).2 = .ok ks ∧
    ((d.libKeys h c us needs).1.libUses us ((needs.map Need.pos).zip ks)).2 = true ∧
    d2 = (let y := ((d.libKeys h c us needs).1.libUses us ((needs.map Need.pos).zip ks)).1
      if draws then y.draw 1 2 16 else y)

/-- The request `r`, of code `code`, stands at the front of the queue of a free Warden that may serve it now; `dry` where it writes nothing to the store
(R282, R306, R324 to R326). -/
abbrev Chip.Serves (c : Chip) (code : Nat) (dry : Bool) (r : WReq) : Prop :=
  c.dev.wdn.queue.head? = some r ∧ c.dev.wdnFree = true ∧ r.code = code ∧ (c.dev.nvs.frozen && !dry) = false ∧ c.stateRefusal code = none ∧
    r.headOk = true

/-- The request `r` under the quorum of the recorded set: refused as the first check of R334 that fails says; else its audit entry, which must be durable,
then the counter block `ctr` goes up by one, then `f` (R334, R335, R351). -/
abbrev Chip.underQuorum (c : Chip) (r : WReq) (bulk : List Byte) (ctr : Nat) (f : Chip → Chip) : Chip :=
  match c.dev.authCheck r bulk ctr [(c.dev.wdn.setM, c.dev.wdn.keys)] with
  | some status => c.reply r status
  | none => if c.dev.canAudit then f ((c.auditReq r stOk).onDev fun d => d.nvsNow (.increment ctr)) else c.reply r stQuota

/-- The frame is accepted, the device, then `d1`, being under no Lock, and its EPOCH is the device's (R380, R383, R386, R396). -/
abbrev Dev.Accepts (d : Dev) (fr : Frame) (d1 : Dev) : Prop := d.frameIn fr = (d1, true) ∧ d1.tmp.lock = false ∧ fr.epoch = d1.rd Fld.MTR_EPOCH_EPOCH

/-- The state with the device `d`, the vault changes that have ended answered. -/
abbrev State.mortarTo (s : State) (d : Dev) : State := s.setChip (({ s.chip with dev := d } : Chip).answerAll)

end Sys2Proof.Machine

open Sys2Proof Sys2Proof.Machine

/-- The queue of waiting commands; what an empty one does is the model's choice (assumptions 1 and 2; R304, R312, R316). -/
def Obligations.StepRunsTheFrontCommand : Prop :=
  ∀ s : State,
    (∀ (i : Instr) (rest : List Instr), s.pending = i :: rest → step s = exec i { s with pending := rest }) ∧
    (s.pending = [] → step s = .next (s.setChip ⟨{ s.chip.dev with tmp := { s.chip.dev.tmp with now := s.chip.dev.tmp.now + 1 } },
      { s.chip.bd with time := (s.chip.bd.time + (s.chip.bd.phase + 32768) / 10 ^ 8) % 2 ^ 63, phase := (s.chip.bd.phase + 32768) % 10 ^ 8 }, s.chip.fz⟩))

/-- No command stops the block, and none changes the queue (assumption 3). -/
def Obligations.EveryCommandCompletes : Prop :=
  ∀ (i : Instr) (s : State), ∃ t : State, exec i s = .next t ∧ t.pending = s.pending

/-- Chip.inForm (Safety.lean) holds at reset (R316, R318 to R320, R328). -/
def Obligations.ResetIsInForm : Prop := State.reset.chip.inForm

/-- Chip.inForm (Safety.lean) is an invariant of every step (R316, R318 to R320, R328, R330, R331). -/
def Obligations.EveryStepKeepsTheForm : Prop := ∀ s t : State, s.chip.inForm → step s = .next t → t.chip.inForm

/-- Fuses only blow, and only the lifecycle requests blow them (R308, R328 to R331). -/
def Obligations.FusesOnlyBlow : Prop :=
  ∀ (i : Instr) (s t : State), exec i s = .next t →
    Fuses.le s.chip.fz t.chip.fz ∧
    ((∀ b, i ≠ .provision b) → (∀ b, i ≠ .debugEnter b) → i ≠ .debugExit → (∀ b, i ≠ .decommission b) → t.chip.fz = s.chip.fz)

/-- The latches of the backup domain (R301, R318, R330, R338, R340, R399). -/
def Obligations.OnlyNamedRequestsClearLatches : Prop :=
  ∀ (i : Instr) (s t : State), exec i s = .next t →
    (s.chip.bd.locked = true → t.chip.bd.locked = false → Instr.mayClearLatch i) ∧
    (s.chip.bd.erased = true → t.chip.bd.erased = false → Instr.mayClearLatch i ∧ i ≠ .unlock)

/-- The Clazeir codec, both ways (R157, R158). -/
def Obligations.ClazeirWordsRoundTrip : Prop :=
  (∀ i : Insn, i.wf = true → decodeInsn (encodeInsn i) = some i) ∧
  (∀ (w : BitVec 32) (i : Insn), decodeInsn w = some i → i.wf = true ∧ encodeInsn i = w)

/-- The state right after power-on of a new part (R318, R328, R330, R398, R406, R438; assumptions 6 and 1). -/
def Obligations.ResetValues : Prop :=
  ∀ d : Dev, d = State.reset.chip.dev →
    d.rd Fld.PLT_RESET_CAUSE_SOURCE = 1 ∧ d.rd Fld.PLT_RESET_CAUSE_REACH = 2 ∧ (∀ a, a ≠ Fld.PLT_RESET_CAUSE_SOURCE.reg → d.reg a = regReset a) ∧
    d.rd Fld.PLT_RESET_STATUS_STEP = 0 ∧ d.plt.reach = 2 ∧ d.plt.mainOn = true ∧ d.seq = 0 ∧ d.dsp.cmds = [] ∧ d.dsp.ctxs = [] ∧ d.thrs = [] ∧ d.vlt.slots = [] ∧
    d.prog.images = [] ∧ d.wdn.queue = [] ∧ d.wdn.running = false ∧ d.mtr.cert = [] ∧ d.out = [] ∧ State.reset.chip.bd.locked = true ∧
    State.reset.chip.bd.erased = true ∧ State.reset.chip.bd.bk = none ∧ State.reset.chip.bd.newest = 1 ∧ State.reset.chip.bd.flags = 2 ^ 21 ∧
    getF (State.reset.chip.bd.entry 1).2 16 5 = 21 ∧ State.reset.chip.lifecycle = 0 ∧ d.tmp.lock = false ∧ d.tmp.erased = false ∧ State.reset.pending = []

/-- R131, of the register file and of instructions whose destination is g0. -/
def Obligations.RegisterZeroReadsZeroAndDiscards : Prop :=
  (∀ t : Thr, gr t 0 = ⟨0, .plain, 0⟩) ∧ (∀ (t : Thr) (w : GWord), gw t 0 w = t) ∧
  (∀ (s : State) (h : Nat) (rs1 : BitVec 5) (imm : BitVec 16) (t : Thr) (a : GWord), t = s.chip.dev.thr h → a = gr t rs1 → a.isData →
    ∀ x ∈ [(KOp.addk, Instr.addk), (.andk, .andk), (.ork, .ork), (.xork, .xork)], s.chip.dev.runs h (.k x.1 0 rs1 imm) = true →
      exec (x.2 h 0 rs1 imm) s = .next (s.onDev fun d => d.setThr h { t with pc := t.pc + 4 }))

/-- R431. -/
def Obligations.PanicThroughManagementPort : Prop :=
  ∀ (s : State) (c : Chip) (w : Word), c = s.chip →
    (c.dev.plt.mainOn = true → c.dev.plt.por = false → getF w 48 16 = 0x9400 → getF w 0 48 = 1 → c.dev.tmp.armed.contains 19 = true →
      ∀ x : Chip, x = { c with dev := { c.dev with tmp := { c.dev.tmp with batch := c.dev.tmp.batch ++ [⟨19, 0, 1, c.bd.time, false⟩] } } } →
        exec (.managementPanic .i3c w true) s = .next (s.setChip x) ∧ exec (.managementPanic .i3c w false) s = .next (s.setChip (x.watch Chip.judge))) ∧
    (∀ fn src same, c.dev.pltReached (.host fn src) 0x78 = true → exec (.managementPanic (.host fn src) w same) s = .next (s.onDev fun d => d.wr Fld.PLT_STATUS_BAD_KEY 1))

/-- SQ_DOORBELL, CQ_DOORBELL (R5, R51, R52). -/
def Obligations.DoorbellsMoveTheRings : Prop :=
  ∀ (s : State) (d : Dev) (n : Nat) (st : Option Nat) (i v : Nat), d = s.chip.dev → d.reachable n st = true → d.serving = true →
    (i < d.rd (Fld.PART_COURSES_SQ_COUNT n) →
      (∀ size, size ≠ 8 → exec (.sqDoorbell n st i size v) s = .next (s.onDev fun d => (d.wr Fld.HIU_STATUS_NARROW_WRITE 1).eventAt Fld.HIU_EVSEQ_SEQ)) ∧
      (v < 65536 → d.rd (Fld.HIU_SQ_STATE_ENABLE n i) = 1 →
        (v < 2 ^ d.rd (Fld.HIU_SQ_CFG_SIZE_LOG2 n i) →
          exec (.sqDoorbell n st i 8 v) s = .next (s.onDev fun d => d.wr (Fld.HIU_SQ_STATE_TAIL n i) v)) ∧
        (2 ^ d.rd (Fld.HIU_SQ_CFG_SIZE_LOG2 n i) ≤ v → d.rd (Fld.HIU_SQ_STATE_ERR_CODE n i) = 0 →
          exec (.sqDoorbell n st i 8 v) s =
            .next (s.onDev fun d => ((d.wr (Fld.HIU_SQ_STATE_ERR_CODE n i) 1).eventAt (Fld.HIU_SQ_EVSEQ_SEQ n i)).fire n 0)))) ∧
    (i < d.rd (Fld.PART_COURSES_CQ_COUNT n) →
      (∀ size, size ≠ 8 → exec (.cqDoorbell n st i size v) s = .next (s.onDev fun d => (d.wr Fld.HIU_STATUS_NARROW_WRITE 1).eventAt Fld.HIU_EVSEQ_SEQ)) ∧
      (∀ size head tail, size = 2 ^ d.rd (Fld.HIU_CQ_CFG_SIZE_LOG2 n i) → head = d.rd (Fld.HIU_CQ_STATE_HEAD n i) →
        tail = d.rd (Fld.HIU_CQ_STATE_TAIL n i) → head < size → tail < size → v < 65536 → d.rd (Fld.HIU_CQ_STATE_ENABLE n i) = 1 →
        (v < size → (v + size - head) % size ≤ (tail + size - head) % size →
          exec (.cqDoorbell n st i 8 v) s = .next (s.onDev fun d =>
            let d := d.wr (Fld.HIU_CQ_STATE_HEAD n i) v
            if d.cqFull n i then d else d.wr (Fld.HIU_CQ_STATE_FULL n i) 0)) ∧
        ((size ≤ v ∨ (tail + size - head) % size < (v + size - head) % size) → d.rd (Fld.HIU_CQ_STATE_ERR_CODE n i) = 0 →
          exec (.cqDoorbell n st i 8 v) s =
            .next (s.onDev fun d => ((d.wr (Fld.HIU_CQ_STATE_ERR_CODE n i) 1).eventAt (Fld.HIU_CQ_EVSEQ_SEQ n i)).fire n 0))))

/-- SQ_ENABLE, CQ_ENABLE, SQ_DISABLE, CQ_DISABLE, SQ_PAUSE, INT_ENABLE (R50, R51, R63). -/
def Obligations.CoursesEnableDisablePause : Prop :=
  ∀ (s : State) (d : Dev) (n : Nat) (st : Option Nat) (i : Nat), d = s.chip.dev → n < 64 →
    (∀ d', d.bar0 n st 0x1000 = true → i < d.rd (Fld.PART_COURSES_SQ_COUNT n) → d.rd (Fld.HIU_SQ_STATE_ENABLE n i) = 0 →
      d' = ((d.wr (Fld.HIU_SQ_STATE_HEAD n i) 0).wr (Fld.HIU_SQ_STATE_TAIL n i) 0).wr (Fld.HIU_SQ_STATE_ERR_CODE n i) 0 →
      (d'.sqReady n i = true → exec (.sqEnable n st i) s = .next (s.onDev fun _ => d'.wr (Fld.HIU_SQ_STATE_ENABLE n i) 1)) ∧
      (d'.sqReady n i = false → exec (.sqEnable n st i) s = .next (s.onDev fun _ =>
        ((d'.wr (Fld.HIU_SQ_STATE_ERR_CODE n i) 3).eventAt (Fld.HIU_SQ_EVSEQ_SEQ n i)).fire n 0))) ∧
    (∀ d', d.bar0 n st 0x3000 = true → i < d.rd (Fld.PART_COURSES_CQ_COUNT n) → d.rd (Fld.HIU_CQ_STATE_ENABLE n i) = 0 →
      d' = ((((d.wr (Fld.HIU_CQ_STATE_HEAD n i) 0).wr (Fld.HIU_CQ_STATE_TAIL n i) 0).wr (Fld.HIU_CQ_STATE_ERR_CODE n i) 0).wr
        (Fld.HIU_CQ_STATE_PHASE n i) 1).setCq n i ⟨[], 0, false⟩ →
      (d'.cqReady n i = true → exec (.cqEnable n st i) s = .next (s.onDev fun _ => d'.wr (Fld.HIU_CQ_STATE_ENABLE n i) 1)) ∧
      (d'.cqReady n i = false → exec (.cqEnable n st i) s = .next (s.onDev fun _ =>
        ((d'.wr (Fld.HIU_CQ_STATE_ERR_CODE n i) 3).eventAt (Fld.HIU_CQ_EVSEQ_SEQ n i)).fire n 0))) ∧
    (d.bar0 n st 0x1000 = true → d.rd (Fld.HIU_SQ_STATE_ENABLE n i) = 1 →
      exec (.sqDisable n st i) s = .next (s.onDev fun d => (d.wr (Fld.HIU_SQ_STATE_ENABLE n i) 0).boundary (Fld.HIU_SQ_CFG_WEIGHT n i).reg)) ∧
    (d.bar0 n st 0x3000 = true → d.rd (Fld.HIU_CQ_STATE_ENABLE n i) = 1 →
      ((∃ k < d.rd (Fld.PART_COURSES_SQ_COUNT n), d.rd (Fld.HIU_SQ_STATE_ENABLE n k) = 1 ∧ d.rd (Fld.HIU_SQ_CFG_CQ n k) = i) →
        exec (.cqDisable n st i) s = .next (s.onDev fun d => d.wr (Fld.HIU_CQ_STATE_CFG_REJECT n i) 1)) ∧
      ((∀ k < d.rd (Fld.PART_COURSES_SQ_COUNT n), d.rd (Fld.HIU_SQ_STATE_ENABLE n k) = 0 ∨ d.rd (Fld.HIU_SQ_CFG_CQ n k) ≠ i) →
        exec (.cqDisable n st i) s = .next (s.onDev fun d => (((((d.cq n i).waiting.foldl Dev.dropCmd d).setCq n i
          ⟨[], 0, false⟩).wr (Fld.HIU_CQ_STATE_ENABLE n i) 0).wr (Fld.HIU_CQ_STATE_FULL n i) 0).boundary (Fld.HIU_CQ_CFG_COAL_COUNT n i).reg))) ∧
    (∀ on : Bool, d.bar0 n st 0x1000 = true → i < d.rd (Fld.PART_COURSES_SQ_COUNT n) →
      exec (.sqPause n st i on) s = .next (s.onDev fun d => d.wr (Fld.HIU_SQ_STATE_PAUSE n i) (if on then 1 else 0))) ∧
    (∀ (on : Bool) (d' : Dev), d.bar0 n st 0x3000 = true → i < d.rd (Fld.PART_COURSES_CQ_COUNT n) → d.rd (Fld.HIU_CQ_CFG_INT_EN n i) = (if on then 0 else 1) →
      d' = (d.wr (Fld.HIU_CQ_CFG_INT_EN n i) (if on then 1 else 0)).setCq n i ⟨(d.cq n i).waiting, 0, false⟩ →
      ((on = false ∨ d'.rd (Fld.HIU_CQ_STATE_HEAD n i) = d'.rd (Fld.HIU_CQ_STATE_TAIL n i)) →
        exec (.intEnable n st i on) s = .next (s.onDev fun _ => d')) ∧
      (on = true → d'.rd (Fld.HIU_CQ_STATE_HEAD n i) ≠ d'.rd (Fld.HIU_CQ_STATE_TAIL n i) → exec (.intEnable n st i on) s = .next (s.onDev fun _ =>
        ((d'.fire n (d'.rd (Fld.HIU_CQ_CFG_VECTOR n i))).setCq n i ⟨(d'.cq n i).waiting, 0, false⟩).boundary
          (Fld.HIU_CQ_CFG_COAL_COUNT n i).reg)))

/-- PARTITION_RESET, VF_FLR, VF_DISABLE, IDE_STREAM_INSECURE, FUNCTION_LEVEL_RESET_END (R34, R36, R46, R399). -/
def Obligations.FunctionLevelResetReachesOnePartition : Prop :=
  (∀ (d d' : Dev) (n : Nat), n < 64 → (d.plt.reach = 0 ∨ d.held = true) → d.rd (Fld.PART_STATUS_RESETTING n) = 0 → d' = ((d.wardenFlr n).flr n false).flrReach n →
    d.flrFull n false = d'.wdnTidy ∧ d'.epoch n = (d.epoch n + 1) % 2 ^ 32 ∧ d'.rd (Fld.PART_STATUS_RESETTING n) = 1 ∧ (d'.fn n).held = [] ∧
    (∀ a, isCourseReg n a = true → d'.reg a = regReset a) ∧
    (∀ x ∈ d'.dsp.cmds, x.2.part = n → x.2.st = .running ∨ x.2.st = .released ∨ 8192 ≤ x.1) ∧
    (∀ k, k < 64 → k ≠ n → d'.epoch k = d.epoch k ∧ d'.rd (Fld.PART_STATUS_RESETTING k) = d.rd (Fld.PART_STATUS_RESETTING k) ∧
      (d'.fn k) = d.fn k ∧ (∀ a, isCourseReg k a = true → d'.reg a = d.reg a) ∧ ∀ x ∈ d.dsp.cmds, x.2.part = k → x ∈ d'.dsp.cmds)) ∧
  ∀ (s : State) (d : Dev), d = s.chip.dev →
    (∀ n st, n < 64 → d.bar0 0 st (0x10000 + n * 0x40) = true → exec (.partitionReset st n) s = .next (s.onDev fun d => d.flrFull n false)) ∧
    (∀ n, n ≠ 0 → d.fnExists n = true → (d.plt.reach = 0 ∨ d.held = true) →
      exec (.vfFlr n) s = .next (s.onDev fun d => (d.flrFull n false).setFn n ⟨false, false, false, false, []⟩)) ∧
    (∀ num, d.hiu.vfEnable = true → num < d.hiu.numVfs → exec (.vfDisable num) s = .next (s.onDev fun d =>
      let d' := ((List.range 64).filter fun n => num < n ∧ n ≤ d.hiu.numVfs).foldl
        (fun x n => (x.flrFull n false).setFn n ⟨false, false, false, false, []⟩) d
      { d' with hiu := { d'.hiu with vfEnable := num != 0, numVfs := num } })) ∧
    (∀ k, k < 4 → (d.rd Fld.HIU_STATUS_IDE_SECURE).testBit k = true → ∀ check, exec (.ideStreamInsecure (k, check)) s = .next (s.onDev fun d =>
      ((List.range 64).filter fun n => d.rd (Fld.PART_STATUS_IDE_REQUIRED n) = 1 ∧ d.rd (Fld.PART_STATUS_IDE_STREAM n) = k).foldl
        (fun x n => x.flrFull n true) ((if check then d.emit (.aer 0) else d).wr Fld.HIU_STATUS_IDE_SECURE (d.rd Fld.HIU_STATUS_IDE_SECURE - 2 ^ k)))) ∧
    (∀ n, d.rd (Fld.PART_STATUS_RESETTING n) = 1 → exec (.functionLevelResetEnd n) s =
      .next (s.onDev fun d => (d.wr (Fld.PART_STATUS_RESETTING n) 0).fire n 0))

/-- PARTITION_ENABLE, VF_ENABLE_SET, IDE_KM_KEY_INSTALL, BUS_MASTER_ENABLE_CHANGE, POWER_STATE_CHANGE, MSIX_CONTROL_WRITE, MSIX_TABLE_WRITE,
DOE_DISCOVERY (R30, R33, R35, R36, R39, R41, R47, R62). -/
def Obligations.FunctionAndLinkEventsTakeEffect : Prop :=
  ∀ (s : State) (d : Dev) (n : Nat), d = s.chip.dev →
    (∀ st (on : Bool), n < 64 → d.bar0 0 st (0x10000 + n * 0x40) = true →
      exec (.partitionEnable st n on) s = .next (s.onDev fun d => d.wr (Fld.PART_CTRL_ENABLE n) (if on then 1 else 0))) ∧
    (∀ num, 1 ≤ num → num ≤ 63 → (d.hiu.vfEnable = false ∨ d.hiu.numVfs < num) →
      exec (.vfEnableSet num) s = .next (s.onDev fun d => { d with hiu := { d.hiu with vfEnable := true, numVfs := num } })) ∧
    (∀ k bits, k < 4 → d.wdn.spdm.session = 2 → bits = d.rd Fld.HIU_STATUS_IDE_SECURE → exec (.ideKmKeyInstall k) s = .next (s.onDev fun d =>
      let d := { d with hiu := { d.hiu with ideKeys := tput (fun _ => 0) d.hiu.ideKeys k (tget (fun _ => 0) d.hiu.ideKeys k + 1) } }
      if bits.testBit k then d else d.wr Fld.HIU_STATUS_IDE_SECURE (bits + 2 ^ k))) ∧
    (d.fnExists n = true →
      (∀ on, exec (.busMasterEnableChange n on) s = .next (s.onDev fun d => (d.setFn n { d.fn n with bme := on }).flush n)) ∧
      (∀ d3, exec (.powerStateChange n d3) s = .next (s.onDev fun d => (d.setFn n { d.fn n with d3 := d3 }).flush n)) ∧
      (∀ en mask, exec (.msixControlWrite n en mask) s =
        .next (s.onDev fun d => (d.setFn n { d.fn n with msixEn := en, fmask := mask }).drainVecs n))) ∧
    (∀ st off size v k, d.bar4 n st = true → k = off / 16 →
      (size = 4 → off % 4 = 0 → k < vecCount n → exec (.msixTableWrite n st off size v) s = .next (s.onDev fun d =>
        (d.setVec n k ((d.vec n k).write32 (off % 16 / 4) (v % 2 ^ 32))).drainVec n k)) ∧
      (size = 8 → off % 8 = 0 → k < vecCount n → exec (.msixTableWrite n st off size v) s = .next (s.onDev fun d =>
        (d.setVec n k (((d.vec n k).write32 (off % 16 / 4) (v % 2 ^ 32)).write32 (off % 16 / 4 + 1) (v / 2 ^ 32 % 2 ^ 32))).drainVec n k)) ∧
      ((size ≠ 4 ∧ size ≠ 8 ∨ off % size ≠ 0) → exec (.msixTableWrite n st off size v) s =
        .next (s.onDev fun d => (d.wr Fld.HIU_STATUS_NARROW_WRITE 1).eventAt Fld.HIU_EVSEQ_SEQ))) ∧
    (∀ len i, (len ≤ 16384 → i ≤ 2 → exec (.doeDiscovery len i) s = .next (s.onDev fun d =>
        { d with out := d.out ++ [(none, .doe 0 [1, 0, BitVec.ofNat 8 i, if i < 2 then BitVec.ofNat 8 (i + 1) else 0])] })) ∧
      (16384 < len → exec (.doeDiscovery len i) s = .next (s.onDev fun d => { d with hiu := { d.hiu with doeError := true } }))) ∧
    (∀ (x : Dev), x.canSend n = true → (∀ h ∈ (x.fn n).held, ∀ m v, h = (none, .msix m v) → x.vecOpen m v = true) →
      (x.flush n).out = x.out ++ (x.fn n).held.flatMap (fun h => (x.packets h.2).map fun p => (p.fn.bind x.streamOf, p)) ∧
        ((x.flush n).fn n).held = [] ∧ (x.flush n).regs = x.regs) ∧
    (∀ (x : Dev) k, x.vecOpen n k = false → x.leaves (none, .msix n k) = x.setVec n k { x.vec n k with pend := true }) ∧
    (∀ (x : Dev), x.canSend n = false → x.flush n = x) ∧
    (∀ (x : Dev) k, (x.vec n k).pend = true → x.vecOpen n k = true → x.canSend n = true →
      (x.drainVec n k).out = x.out ++ [(x.streamOf n, .msix n k)] ∧ ((x.drainVec n k).vec n k).pend = false) ∧
    (∀ (x : Dev) k, ((x.vec n k).pend = false ∨ x.vecOpen n k = false) → x.drainVec n k = x)

/-- REGISTER_WRITE, RC_READ, RNG_DATA_READ, RNG_DATA_LOAD (R4, R5, R8, R42, R275, R416, R417). -/
def Obligations.RegisterAccessesFollowTheAccessTypes : Prop :=
  (∀ (s : State) (c : Chip) (n off a : Nat) (st : Option Nat) (w : Word) (r : RegRow), c = s.chip → regKey n off = some a → regRow a = some r →
    off % 8 = 0 → (n = 0 ∨ off ≠ 0) →
    (c.dev.bar0 n st off = true →
      (c.dev.noCourse a = false → (a < 0xC1000 ∨ 0xC2000 ≤ a ∨ c.dev.rd Fld.WDN_MBOX_STATUS_BUSY = 0) →
        exec (.registerWrite (.host n st) off 8 w) s =
          .next { s with chip := (c.onDev fun d => d.storeFields a r w).actFields (.host n st) a w }) ∧
      (∀ size, size ≠ 8 → exec (.registerWrite (.host n st) off size w) s =
        .next (s.onDev fun d => (d.wr Fld.HIU_STATUS_NARROW_WRITE 1).eventAt Fld.HIU_EVSEQ_SEQ)) ∧
      (a ≠ rngDataReg n → exec (.rcRead (.host n st) off 8) s = .next (s.onDev fun d =>
        let d' := { d with out := d.out ++ [(none, .regData (n * 0x100000 + off) (c.readReg a false))] }
        if r.rc = 0 then d' else d'.setReg a (mergeW (d.reg a) r.reset r.rc)))) ∧
    (c.dev.bar0 n st off = false → (∀ size, exec (.registerWrite (.host n st) off size w) s = .next s) ∧
      exec (.rcRead (.host n st) off 8) s = .next (s.onDev fun d =>
        { d with out := d.out ++ [(none, if d.answers n st then .regData (n * 0x100000 + off) 0 else .unsupported n)] }))) ∧
  (∀ (s : State) (n off : Nat) (st : Option Nat), (∀ size, s.chip.dev.answers n st = true → exec (.rcRead (.bar2 n st) off size) s =
      .next (s.onDev fun d => { d with out := d.out ++ [(none, .barData n 2 off 0)] })) ∧
    (s.chip.dev.bar4 n st = true → off % 4 = 0 → exec (.rcRead (.bar4 n st) off 4) s =
      .next (s.onDev fun d => { d with out := d.out ++ [(none, .barData n 4 off (BitVec.ofNat 64 (d.bar4Word n off)))] }))) ∧
  (∀ (s : State) (off a : Nat) (w : Word) (r : RegRow), a = 0xF0000 + off → off < 0x8000 → off % 8 = 0 → regRow a = some r →
    s.chip.dev.pltReached .i3c off = true → exec (.registerWrite .i3c off 8 w) s =
      .next { s with chip := (s.chip.onDev fun d => d.storeFields a r w).actFields .i3c a w }) ∧
  (∀ (d : Dev) (a : Nat) (r : RegRow) (w v : Word), v = inRange a w →
    (d.ownerEnabled a = false → d.storeFields a r w = d.setReg a (mergeW (d.reg a) v r.rw &&& ~~~ (v &&& r.w1c))) ∧
    (d.ownerEnabled a = true → (rejectOf a).reg ≠ a →
      (d.storeFields a r w).reg a = mergeW (d.reg a) v (r.rw &&& ~~~ r.sBits) &&& ~~~ (v &&& r.w1c) ∧
      ((d.reg a ^^^ v) &&& r.rw &&& r.sBits ≠ 0 → (d.storeFields a r w).rd (rejectOf a) = 1) ∧
      ((d.reg a ^^^ v) &&& r.rw &&& r.hBits ≠ 0 → ∀ f : Fld, f.reg = a → (d.storeFields a r w).eff f = d.eff f))) ∧
  ∀ (s : State) (d : Dev) (n off : Nat) (st : Option Nat), d = s.chip.dev → n < 64 → off = (if n = 0 then 0x90000 else 0x8000) →
    (d.bar0 n st off = true →
      (d.rngBlocked = false → d.rd (rngValid n) = 1 → exec (.rngDataRead n st 8) s = .next (s.onDev fun d =>
        let e := if d.rngState = 1 then 0 else 1
        { (d.wr (rngData n) 0).wr (rngValid n) 0 with
          out := d.out ++ [(none, .regData (rngDataReg n) (setF (setF (setF 0 0 32 (d.rd (rngData n))) 62 1 e) 63 1 1))] })) ∧
      ((d.rngBlocked = true ∨ d.rd (rngValid n) = 0) → exec (.rngDataRead n st 8) s = .next (s.onDev fun d =>
        let e := if d.rngState = 1 then 0 else 1
        { (d.wr (rngEmptyRead n) 1).inc Fld.RNG_COUNTS_EMPTY_READS 1 with out := d.out ++ [(none, .regData (rngDataReg n) (setF 0 62 1 e))] }))) ∧
    (d.rngState = 1 → d.rngServes 2 = true → d.rngBlocked = false → d.serving = true → d.fnExists n = true →
      d.rd (rngValid n) = 0 → exec (.rngDataLoad n) s = .next (s.onDev fun d =>
        { (d.wr (rngData n) (Config.freeWord d.nfree).toNat).wr (rngValid n) 1 with nfree := d.nfree + 1, rng := d.rng.generate 2 4 }))

/-- SPDM_GET_VERSION, SPDM_GET_CAPABILITIES, SPDM_NEGOTIATE_ALGORITHMS, SPDM_GET_DIGESTS, SPDM_GET_CERTIFICATE (R35, R349, R350; the octets of the
responses are PRESUMED, assumption 29). -/
def Obligations.SpdmNegotiationAndCertificates : Prop :=
  ∀ (s : State) (p : Spdm) (req : List Byte), s.chip.dev.wdn.running = true → p = s.chip.dev.wdn.spdm → 4 ≤ req.length → req.length ≤ 16384 →
    (leAt req 1 1 = 0x84 → ∃ rsp, exec (.spdmGetVersion req) s = .next (s.onDev fun d =>
        { d with wdn := { d.wdn with spdm := { Spdm.reset with version := true, vca := req ++ rsp } }, out := d.out ++ [(none, .doe 1 rsp)] }) ∧
      rsp.take 2 = [0x10, 0x04] ∧ rsp.drop 5 = [1, 0, 0x12]) ∧
    (leAt req 1 1 = 0xE1 → p.version = true → p.caps = false → ∃ rsp, exec (.spdmGetCapabilities req) s = .next (s.onDev fun d =>
        { d with wdn := { d.wdn with spdm := { p with caps := true, vca := p.vca ++ req ++ rsp } }, out := d.out ++ [(none, .doe 1 rsp)] }) ∧
      rsp.take 2 = [0x12, 0x61] ∧ leAt rsp 12 4 = 16384 ∧ leAt rsp 16 4 = 16384) ∧
    (∀ asym hash dhe aead, leAt req 1 1 = 0xE3 → p.caps = true → p.algs = false →
      (asym.testBit 7 = true → hash.testBit 1 = true → ∃ rsp, exec (.spdmNegotiateAlgorithms req asym hash dhe aead) s = .next (s.onDev fun d =>
          { d with wdn := { d.wdn with spdm := { p with algs := true, vca := p.vca ++ req ++ rsp } }, out := d.out ++ [(none, .doe 1 rsp)] }) ∧
        rsp.take 2 = [0x12, 0x63] ∧ leAt rsp 12 4 = 0x80 ∧ leAt rsp 16 4 = 2) ∧
      ((asym.testBit 7 = false ∨ hash.testBit 1 = false) → exec (.spdmNegotiateAlgorithms req asym hash dhe aead) s =
        .next (s.onDev fun d => { d with out := d.out ++ [(none, .doe 1 [0x12, 0x7F, 1, 0])] }))) ∧
    (∀ ch, ch = s.chip.dev.certChain → p.algs = true →
      (leAt req 1 1 = 0x81 → ∀ rsp, rsp = (if ch = [] then [0x12, 0x01, 0, 0] else [0x12, 0x01, 0, 1] ++ Config.sha384 ch) →
        exec (.spdmGetDigests req) s = .next (s.onDev fun d =>
          { d with wdn := { d.wdn with spdm := { p with certs := p.certs ++ req ++ rsp } }, out := d.out ++ [(none, .doe 1 rsp)] })) ∧
      (∀ off n rsp, leAt req 1 1 = 0x82 → leAt req 2 1 % 16 = 0 → off = leAt req 4 2 → off < ch.length → n = min (leAt req 6 2) (ch.length - off) →
        rsp = [0x12, 0x02, 0, 0] ++ leBytes 2 n ++ leBytes 2 (ch.length - off - n) ++ slice ch off n →
        exec (.spdmGetCertificate req) s = .next (s.onDev fun d =>
          { d with wdn := { d.wdn with spdm := { p with certs := p.certs ++ req ++ rsp } }, out := d.out ++ [(none, .doe 1 rsp)] }))) ∧
    (leAt req 1 1 = 0x81 → p.algs = false → exec (.spdmGetDigests req) s =
      .next (s.onDev fun d => { d with out := d.out ++ [(none, .doe 1 [0x12, 0x7F, 4, 0])] })) ∧
    (∀ long, 16384 < long.length → exec (.spdmGetVersion long) s = .next (s.onDev fun d => { d with hiu := { d.hiu with doeError := true } }))

/-- SPDM_CHALLENGE, SPDM_GET_MEASUREMENTS, SPDM_KEY_EXCHANGE, SPDM_FINISH, SPDM_END_SESSION (R35, R349, R350; the octets of the responses are
PRESUMED, assumptions 29 and 67). -/
def Obligations.SpdmAuthenticationAndSession : Prop :=
  ∀ (s : State) (c : Chip) (p : Spdm) (req : List Byte), c = s.chip → c.dev.wdn.running = true → p = c.dev.wdn.spdm → req.length ≤ 16384 →
    (leAt req 1 1 = 0x83 → p.algs = true → req.length = 36 → leAt req 2 1 = 0 → c.dev.certChain ≠ [] →
      ∃ head sig, exec (.spdmChallenge req) s = .next (s.onDev fun d =>
          { d with wdn := { d.wdn with spdm := { p with certs := [] } }, out := d.out ++ [(none, .doe 1 (head ++ sig))], nfree := d.nfree + 1 }) ∧
        head.take 4 = [0x12, 0x03, 0, 1] ∧
        sig = slice (Config.sign 0 c.dev.attestSeed (asciiBytes "challenge_auth" ++ Config.sha384 (p.vca ++ p.certs ++ req ++ head))) 0 96) ∧
    (∀ op is, leAt req 1 1 = 0xE0 → p.algs = true → 4 ≤ req.length → op = leAt req 3 1 → (op ≤ 7 ∨ op = 255) →
      is = (if op = 0 then [] else if op = 255 then [1, 2, 3, 4, 5, 6, 7] else [op]) →
      ∃ head sig, exec (.spdmGetMeasurements req) s = .next (s.onDev fun d =>
          { d with wdn := { d.wdn with spdm := { p with meas := if (leAt req 2 1).testBit 0 then [] else p.meas ++ req ++ head } },
                   out := d.out ++ [(none, .doe 1 (head ++ sig))], nfree := d.nfree + 1 }) ∧
        head.take 2 = [0x12, 0x60] ∧ (head.drop 8).take (is.map c.measureBlock).flatten.length = (is.map c.measureBlock).flatten ∧
        sig = (if (leAt req 2 1).testBit 0 then
          slice (Config.sign 0 c.dev.attestSeed (asciiBytes "measurements" ++ Config.sha384 (p.vca ++ (p.meas ++ req ++ head)))) 0 96 else [])) ∧
    (leAt req 1 1 = 0xE4 → p.algs = true → p.session = 0 → 138 ≤ req.length → leAt req 3 1 % 16 = 0 → c.dev.certChain ≠ [] →
      ∃ head sig mac t secret, exec (.spdmKeyExchange req) s = .next (s.onDev fun d =>
          { d with wdn := { d.wdn with spdm := { p with session := 1, kex := t ++ mac, secret := secret,
                                                        sid := slice req 4 2 ++ Config.freeBytes (c.dev.nfree + 1) 2, rx := 0, tx := 0 } },
                   out := d.out ++ [(none, .doe 1 (head ++ sig ++ mac))], nfree := d.nfree + 3 }) ∧
        t = p.vca ++ Config.sha384 c.dev.certChain ++ req ++ head ++ sig ∧
        secret = handshakeSecrets (Config.agree (Config.freeBytes c.dev.nfree 48) (slice req 40 96)) t ∧
        mac = verifyData (slice secret 48 48) t ∧
        sig = slice (Config.sign 0 c.dev.attestSeed (asciiBytes "key_exchange_rsp" ++
          Config.sha384 (p.vca ++ Config.sha384 c.dev.certChain ++ req ++ head))) 0 96) ∧
    (let say : List Byte → Dev → Dev := (fun msg d => { d with wdn := { d.wdn with spdm := { d.wdn.spdm with tx := p.tx + 1 } }, out := d.out ++ [(none, .doe 2 (p.seal msg))] })
     let fail : Byte → Dev → Dev := (fun code d => { d with wdn := { d.wdn with spdm := p.ended }, out := d.out ++ [(none, .doe 1 [0x12, 0x7F, code, 0])] })
     let run : Nat → Nat → (List Byte → Dev → Dev) → Dev → Dev := (fun code phase f d => match p.unseal req with
        | none => fail 6 d
        | some m =>
          let d := { d with wdn := { d.wdn with spdm := { p with rx := p.rx + 1 } } }
          if leAt m 1 1 ≠ code ∨ m.length < 4 then say [0x12, 0x7F, 1, 0] d else if p.session ≠ phase then say [0x12, 0x7F, 4, 0] d else f m d)
     p.session ≠ 0 →
      (req.take 4 = p.sid →
        exec (.spdmFinish req) s = .next (s.onDev (run 0xE5 1 fun m d =>
          if m.length = 52 ∧ slice m 4 48 = verifyData (slice p.secret 0 48) (p.kex ++ slice m 0 4) then
            (let x := say [0x12, 0x65, 0, 0] d;
             { x with wdn := { x.wdn with spdm := { p with session := 2, kex := [], rx := 0, tx := 0,
                                                           secret := dataSecrets (p.secret.drop 96) (p.kex ++ m ++ [0x12, 0x65, 0, 0]) } } })
          else fail 6 d)) ∧
        exec (.spdmEndSession req) s = .next (s.onDev (run 0xEC 2 fun _ d =>
          let x := say [0x12, 0x6C, 0, 0] d;
          { x with wdn := { x.wdn with spdm := p.ended } }))) ∧
      (req.take 4 ≠ p.sid → ∀ i ∈ [Instr.spdmFinish req, .spdmEndSession req],
        exec i s = .next (s.onDev fun d => { d with out := d.out ++ [(none, .doe 1 [0x12, 0x7F, 2, 0])] })))

/-- DESCRIPTOR_FETCH, DESCRIPTOR_READ_COMPLETION, PALLET_FETCH, PALLET_READ_COMPLETION, READ_FAILURE, READ_COMPLETION_TIMEOUT, INPUT_PREFETCH (R32, R45,
R53 to R58, R134). -/
def Obligations.DescriptorsArePrefetchedCheckedAndStaged : Prop :=
  ∀ (s : State) (d : Dev) (c : Cmd) (e : Nat), d = s.chip.dev → c = d.cmd e →
    (∀ n i next, d.mayFetch n i = true → d.itsTurn n i = true → d.outstanding < 2048 → e < 8192 → c.st = .free → d.staged n < d.rd (Fld.PART_QUOTA_STAGING n) →
      next = (d.rd (Fld.HIU_SQ_STATE_HEAD n i) + d.pendingReads n i) % 2 ^ d.rd (Fld.HIU_SQ_CFG_SIZE_LOG2 n i) →
      next ≠ d.rd (Fld.HIU_SQ_STATE_TAIL n i) → exec (.descriptorFetch n i e) s = .next (s.onDev fun d =>
        (((d.serve n i).setCmd e { Cmd.reset with st := .fetching, part := n, sq := i, epoch := d.epoch n, order := d.dsp.nextOrder + 1 }).bumpOrder).emit
          (.memRead n (d.rd (Fld.HIU_SQ_BASE_BASE n i) * 4096 + next * 64) 64))) ∧
    (∀ n i k, d.courseDone n i = true → k < d.rd (Fld.PART_COURSES_SQ_COUNT n) → d.hasWork n k = true → d.courseDone n k = false →
      exec (.descriptorFetch n i e) s = .next s) ∧
    (∀ w d', c.st = .fetching → d.isOldest e = true → d' = d.headAdvance c.part c.sq →
      (dPallet w = true → palletOk w = true → exec (.descriptorReadCompletion e w) s =
        .next (s.onDev fun _ => d'.setCmd e { c with st := .palletWait, desc := w })) ∧
      (dPallet w = true → palletOk w = false → exec (.descriptorReadCompletion e w) s = .next (s.onDev fun _ =>
        d'.setCmd e { c with desc := w, st := .ended, status := 0x0101, result := 0, counted := false, fcount := 0 })) ∧
      (dPallet w = false → d'.descCheck c.part c.sq c.inPallet w = none → exec (.descriptorReadCompletion e w) s = .next (s.onDev fun _ =>
        d'.bumpOrder.setCmd e { c with desc := w, order := d'.dsp.nextOrder + 1, st := .staged, ready := dInLen w == 0 || 256 < dInLen w })) ∧
      (∀ st, dPallet w = false → d'.descCheck c.part c.sq c.inPallet w = some st → exec (.descriptorReadCompletion e w) s = .next (s.onDev fun _ =>
        d'.bumpOrder.setCmd e { c with desc := w, order := d'.dsp.nextOrder + 1, st := .ended, status := st, result := 0, counted := false, fcount := 0 }))) ∧
    (∀ es count, c.st = .palletWait → d.canSend c.part = true → d.partEnabled c.part = true → count = dField c.desc 6 2 → es.length + 1 = count →
      es.Nodup → (∀ x ∈ es, x < 8192 ∧ (d.cmd x).st = .free) → d.staged c.part + es.length ≤ d.rd (Fld.PART_QUOTA_STAGING c.part) → d.bit (Fld.HIU_SQ_STATE_ERR_CODE c.part c.sq) = false →
      d.outstanding + (d.packets (.memRead c.part (dField c.desc 0x10 8) (count * 64))).length ≤ 2048 →
      exec (.palletFetch e es) s = .next (s.onDev fun d =>
        (((es.zipIdx 1).foldl (fun x p => x.setCmd p.1 { c with st := .palletRead, pidx := p.2, inPallet := true }) d).setCmd e
          { c with st := .palletRead }).emit (.memRead c.part (dField c.desc 0x10 8) (count * 64)))) ∧
    (∀ ws, c.st = .palletRead → c.inPallet = false → d.isOldest e = true → ws.length = dField c.desc 6 2 →
      exec (.palletReadCompletion e ws) s = .next (s.onDev fun d =>
        (List.zip ((List.range ws.length).map fun k => d.palletEntry e k) ws.zipIdx).foldl (fun x p => match p.1 with
          | none => x
          | some k => (x.setCmd k { x.cmd k with inPallet := true, pidx := p.2.2 }).handOver k p.2.1) d)) ∧
    (∀ i ∈ [Instr.readFailure e, .readCompletionTimeout e],
      (c.st = .fetching → exec i s = .next (s.onDev fun d =>
        let kept := d.dsp.cmds.filter (fun x => x.2.part != c.part || x.2.sq != c.sq || x.2.st != .fetching || decide (x.2.order < c.order))
        (((({ d with out := d.out ++ [(none, .aer c.part)], dsp := { d.dsp with cmds := kept } } : Dev).wr
          (Fld.HIU_SQ_STATE_ERR_CODE c.part c.sq) 2).eventAt (Fld.HIU_SQ_EVSEQ_SEQ c.part c.sq)).fire c.part 0).wdnTidy)) ∧
      (c.st = .palletRead → c.inPallet = false → ∃ d' : Dev, exec i s = .next (s.onDev fun _ => d'.wdnTidy) ∧ (d'.cmd e).st = .ended ∧
        (d'.cmd e).status = 0x0101 ∧ (d'.cmd e).inPallet = false ∧ d'.out = d.out ++ [(none, .aer c.part)] ∧
        ∀ x ∈ d'.dsp.cmds, x.1 ≠ e → x.2.st = .palletRead → x.2.inPallet = true → x.2.order ≠ c.order) ∧
      ((c.st = .staged ∨ c.st = .admitted) → dInLen c.desc ≠ 0 → c.ready = false → ∃ d' : Dev, exec i s = .next (s.onDev fun _ => d'.wdnTidy) ∧
        (d'.cmd e).st = .ended ∧ (d'.cmd e).status = 0x0101 ∧ d'.out = d.out ++ [(none, .aer c.part)])) ∧
    (∀ x : Dev, x.wdn.queue = [] → x.wdnTidy = x) ∧
    (∀ bs, (c.st = .staged ∨ c.st = .admitted) → c.ready = false → bs.length = dInLen c.desc → d.canSend c.part = true →
      exec (.inputPrefetch e bs) s = .next (s.onDev fun d =>
        (d.setCmd e { c with prefetch := bytesBv 2048 bs, ready := true }).emit (.memRead c.part (dInAddr c.desc) (dInLen c.desc))))

/-- COMMAND_ADMIT, THREAD_ASSIGN, CONTEXT_SET, CONTEXT_GET (R66 to R71, R83, R87, R134, R135). -/
def Obligations.CommandsAreAdmittedAndRunAndContextsKept : Prop :=
  ∀ (s : State) (d : Dev) (c : Cmd) (e f k : Nat), d = s.chip.dev → c = d.cmd e → f = dFunction c.desc → k = dContext c.desc →
    (c.st = .staged →
      (c.epoch ≠ d.epoch c.part → (d.thrs.any fun t => t.2.cmd == some e) = false → exec (.commandAdmit e) s = .next (s.onDev fun d => d.setCmd e Cmd.reset)) ∧
      (c.epoch = d.epoch c.part →
        ((d.tmp.erased = true ∨ d.tmp.erasing = true) → exec (.commandAdmit e) s = .next (s.onDev fun d =>
          d.setCmd e { c with st := .ended, status := 0x0703, result := 0, counted := false, fcount := 0 })) ∧
        (d.tmp.erased = false → d.tmp.erasing = false →
          (d.tmp.lock = true → exec (.commandAdmit e) s = .next (s.onDev fun d =>
            d.setCmd e { c with st := .ended, status := 0x0701, result := 0, counted := false, fcount := 0 })) ∧
          (d.tmp.lock = false → isFence f = false → d.behindFence c = true → exec (.commandAdmit e) s = .next s) ∧
          (d.tmp.lock = false → isFence f = false → d.behindFence c = false → c.bad = none → d.ctxMeet c = false →
            (∀ x, d.admitCheck c = some x → exec (.commandAdmit e) s = .next (s.onDev fun d =>
              d.setCmd e { c with st := .ended, status := x, result := 0, counted := false, fcount := 0 })) ∧
            (d.admitCheck c = none → d.rd (Fld.PART_QUOTA_INFLIGHT c.part) ≤ d.inflight c.part → exec (.commandAdmit e) s = .next s) ∧
            (d.admitCheck c = none → d.inflight c.part < d.rd (Fld.PART_QUOTA_INFLIGHT c.part) → isTileFn f = true → d.funcEntry f = none →
              exec (.commandAdmit e) s = .next (s.onDev fun d => d.setCmd e { c with st := .ended, status := 0x0102, result := 0, counted := false, fcount := 0 })) ∧
            (d.admitCheck c = none → d.inflight c.part < d.rd (Fld.PART_QUOTA_INFLIGHT c.part) → (isTileFn f = false ∨ d.funcEntry f ≠ none) → (isTileFn f = false ∨ d.tilesAvailable ≠ 0) →
              ∃ d', exec (.commandAdmit e) s = .next (s.onDev fun _ => d') ∧ d'.cmd e = { c with
                st := .admitted, counted := true, adm := d.dsp.nextAdm + 1, ctx := (if noContext f then 0 else d.ctx k), image := d.funcEntry f } ∧
                (∀ x, x ≠ e → d'.cmd x = d.cmd x) ∧ d'.dsp.nextAdm = d.dsp.nextAdm + 1 ∧ d'.thrs = d.thrs ∧ d'.out = d.out ∧
                d'.wdn.queue = (if f = 0x70 ∨ f = 0x71 ∨ f = 0x78 ∨ f = 0x79 then d.wdn.queue ++ [kmForm e c.part f (dParams c.desc) d.wdn.alarms] else d.wdn.queue)))))) ∧
    (∀ (h entry im : Nat) (cached : Bool), d.isOldestAdmitted e = true → c.ready = true → d.thrFree h = true → d.tmp.lock = false →
      c.image = some (im, entry) → exec (.threadAssign e h cached) s = .next (s.onDev fun d =>
        ((d.boundary Fld.TILE_RUN_LIMIT_LIMIT.reg).setCmd e { c with st := .running }).setThr h
          { cmd := some e, epoch := d.rd (Fld.TILE_EPOCH_EPOCH (h / 16)), pc := BitVec.ofNat 64 entry, g := [], sl := [], result := 0, toks := [],
            wait := (if cached then .none else .icache), rel := false, seqBlocks := 0, limit := d.rd Fld.TILE_RUN_LIMIT_LIMIT, commits := [],
            zeroising := false, writes := [], ecc := false })) ∧
    (∀ input w, c.st = .admitted → f = 0x10 → dField c.desc 0x28 24 = 0 → dFuncFlags c.desc = 0 → dOutAddr c.desc = 0 → dOutLen c.desc = 0 →
      dInLen c.desc = 128 → input = bvBytes 128 (c.prefetch.setWidth 1024) → c.ready = true → w = bytesBv 1024 input →
      (ctxImageOk w = true → ∃ d', exec (.contextSet e input) s = .next (s.onDev fun _ => d') ∧ d'.seq = d.seq + 1 ∧
        d'.ctx k = ctxStored w c.part d'.seq ∧ d'.ctxBad k = false ∧ (∀ x, x ≠ k → d'.ctx x = d.ctx x) ∧ d'.regs = d.regs ∧
        d'.cmd e = { c with st := .released, status := 0, result := d'.seq.setWidth 128 } ∧ (∀ x, x ≠ e → d'.cmd x = d.cmd x)) ∧
      (ctxImageOk w = false → exec (.contextSet e input) s = .next (s.onDev fun d =>
        d.setCmd e { c with st := .ended, status := 0x0101, result := 0 }))) ∧
    (c.st = .admitted → f = 0x11 → dField c.desc 0x28 24 = 0 → dFuncFlags c.desc = 0 → dInAddr c.desc = 0 → dInLen c.desc = 0 →
      dOutLen c.desc = 128 → d.canSend c.part = true → d.current e = true → exec (.contextGet e) s = .next (s.onDev fun d =>
        (d.emit (.memWrite c.part (dOutAddr c.desc) (bvBytes 128 c.ctx))).setCmd e
          { c with touched := true, st := .released, status := 0, result := BitVec.ofNat 128 (cWriteSeq c.ctx) }))

/-- FENCE_COURSE, FENCE_PARTITION, FENCE_KEYS, FENCE_COUNTERS, FENCE_BOND, FENCE_SATISFIED, COMPLETION_QUEUE, COMPLETION_WRITE, COAL_TIMER_EXPIRY (R59 to
R63, R74, R77 to R81, R84). -/
def Obligations.FencesCompleteInOrderAndCompletionsArePosted : Prop :=
  ∀ (s : State) (d : Dev) (c : Cmd) (e q : Nat), d = s.chip.dev → c = d.cmd e → c.epoch = d.epoch c.part → q = d.rd (Fld.HIU_SQ_CFG_CQ c.part c.sq) →
    (∀ x ∈ [(0xF000, Instr.fenceCourse e), (0xF001, .fencePartition e), (0xF002, .fenceKeys e), (0xF003, .fenceCounters e), (0xF004, .fenceBond e)],
      c.st = .staged → dFunction c.desc = x.1 → d.tmp.erased = false → d.tmp.erasing = false → d.tmp.lock = false →
      (fenceFieldsZero c.desc = true → d.fences c.part < 64 →
        exec x.2 s = .next (s.onDev fun d => d.setCmd e { c with st := .fence, adm := d.seq.toNat + 1 })) ∧
      (fenceFieldsZero c.desc = false → exec x.2 s = .next (s.onDev fun d =>
        d.setCmd e { c with st := .ended, status := 0x0101, result := 0, counted := false, fcount := 0 })) ∧
      (fenceFieldsZero c.desc = true → 64 ≤ d.fences c.part → exec x.2 s = .next (s.onDev fun d =>
        d.setCmd e { c with st := .ended, status := 0x0401, result := 0, counted := false, fcount := 0 }))) ∧
    (∀ r, c.st = .fence → d.earlierDone c = true → (dFunction c.desc = 0xF002 → d.keysSettled c = true) →
      (dFunction c.desc = 0xF003 → d.countersSettled c = true) → (dFunction c.desc = 0xF004 → d.bondSettled c = true) →
      r = fenceResult (d.seq + 1).toNat (d.fenceEpoch c) (d.fenceCount c) → exec (.fenceSatisfied e) s =
        .next (s.onDev fun d => (d.event.setCmd e { c with st := .ended, status := 0, result := r }).completionQueue e)) ∧
    (c.st = .released → c.status ≠ 0x0301 → (d.fn c.part).held.any (fun h => h.1 == some e) = false → d.rd (Fld.HIU_CQ_STATE_ENABLE c.part q) = 1 →
      exec (.completionQueue e) s = .next (s.onDev fun d => (d.event.setCmd e { c with st := .queued, seq := d.seq + 1 }).setCq c.part q
        { d.cq c.part q with waiting := (d.cq c.part q).waiting ++ [e] })) ∧
    (c.st = .released → d.rd (Fld.HIU_CQ_STATE_ENABLE c.part q) = 0 → c.status ≠ 0x0301 →
      (d.fn c.part).held.any (fun h => h.1 == some e) = false → exec (.completionQueue e) s = .next (s.onDev fun d => d.dropCmd e)) ∧
    (∀ x : Dev, (x.thrs.any fun t => t.2.cmd == some e) = false → x.dropCmd e = x.setCmd e Cmd.reset) ∧
    (∀ (x : Dev) h, tfind (fun _ t => t.cmd == some e) x.thrs = some h → e < 8192 →
      (x.dropCmd e).cmd e = Cmd.reset ∧ ((x.dropCmd e).thr h).cmd = some (8192 + h) ∧ ((x.dropCmd e).cmd (8192 + h)).image = (x.cmd e).image) ∧
    (∀ n i rest t size, (d.cq n i).waiting = e :: rest → d.canSend n = true → d.rd (Fld.HIU_CQ_STATE_ENABLE n i) = 1 →
      d.rd (Fld.HIU_CQ_STATE_ERR_CODE n i) = 0 → t = d.rd (Fld.HIU_CQ_STATE_TAIL n i) → size = 2 ^ d.rd (Fld.HIU_CQ_CFG_SIZE_LOG2 n i) →
      ((t + 1) % size = d.rd (Fld.HIU_CQ_STATE_HEAD n i) →
        exec (.completionWrite n i) s = .next (s.onDev fun d => d.wr (Fld.HIU_CQ_STATE_FULL n i) 1)) ∧
      ((t + 1) % size ≠ d.rd (Fld.HIU_CQ_STATE_HEAD n i) → exec (.completionWrite n i) s = .next (s.onDev fun d =>
        let bits := completionBits c (d.rd (Fld.HIU_SQ_STATE_HEAD n c.sq)) (d.rd (Fld.HIU_CQ_STATE_PHASE n i) = 1)
        let d := (((d.emit (.completion n i t (d.rd (Fld.HIU_CQ_BASE_BASE n i) * 4096 + t * 32) bits)).setCq n i { d.cq n i with waiting := rest }).dropCmd e).wr (Fld.HIU_CQ_STATE_TAIL n i)
          ((t + 1) % size)
        let d := if (t + 1) % size = 0 then d.wr (Fld.HIU_CQ_STATE_PHASE n i) (1 - d.rd (Fld.HIU_CQ_STATE_PHASE n i)) else d
        let d := if rest = [] then d.wr (Fld.HIU_CQ_STATE_FULL n i) 0 else d
        d.coalesce n i))) ∧
    (∀ n i, (d.cq n i).timer = true → d.rd (Fld.HIU_CQ_CFG_INT_EN n i) = 1 → exec (.coalTimerExpiry n i) s = .next (s.onDev fun d =>
      ((d.fire n (d.rd (Fld.HIU_CQ_CFG_VECTOR n i))).setCq n i { d.cq n i with count := 0, timer := false }).boundary
        (Fld.HIU_CQ_CFG_COAL_COUNT n i).reg))

/-- PIN_TRANSLATE, PIN_VERIFY, PIN_OFFSET_GENERATE, DUKPT_PIN_TRANSLATE, CSC_GENERATE, CSC_VERIFY (R97, R100 to R107, R111, R112, R115). -/
def Obligations.PinFunctionsGiveResult : Prop :=
  ∀ (s : State) (d d2 : Dev) (h e : Nat) (c : Cmd) (us : List KeyUse) (inp ps : List Byte), d = s.chip.dev → ps = dParams c.desc →
    (∀ p pan n k0 k1, d.LibReady 0x20 h e c [] inp → p = pinOpt (cOptions c.ctx) → pan = leAt ps 16 8 → n = dPanDigits c.desc →
      ctxRestZero c.ctx 2 17 0 = true → p.ok = true → noAreas c.desc = true → (p.src = 4 ∨ allZero (slice ps 8 8) = true) →
      panGiven (p.src == 1 && p.dst == 1) pan n = true →
      d.KeysGiven h c us [1] (pinDraws p.dst) [⟨0, useDec, some true, pinAlg p.src⟩, ⟨1, useEnc, some true, pinAlg p.dst⟩] d2 [k0, k1] →
      exec (.pinTranslate h us) s = .next (s.onDev fun _ =>
        let ns := pinOpen p.src k0.alg k0.key (slice ps 0 (pinBytes p.src)) pan n
        d2.libEnd h e (if pinFieldOk p.src (max d2.pinFloor p.lo) p.hi ns then
          ⟨0, pinSeal p.dst k1.alg k1.key (pinConv p.dst ns d2.word1 d2.word2) pan n, []⟩ else ⟨0x0303, [], []⟩))) ∧
    (∀ p pan n k0 k1 k2 w, d.LibReady 0x21 h e c [] inp → p = pvOpt c.ctx → pan = leAt ps 0 8 → n = dPanDigits c.desc → pvOk true c = true →
      dInLen c.desc = 32 → panOk pan n = true → p.start + p.vlen ≤ n → w = (if p.offEnc then blockLen k2.alg else 8) →
      allZero ((inp.drop (pinBytes p.src)).take (16 - pinBytes p.src)) = true → allZero (inp.drop (16 + w)) = true →
      d.KeysGiven h c us [1] false ([⟨0, useDec, some true, pinAlg p.src⟩, ⟨1, useDerive, none, isTdea⟩] ++
        (if p.offEnc then [⟨2, useDec, some true, anyCipher⟩] else [])) d2 ([k0, k1] ++ (if p.offEnc then [k2] else [])) →
      exec (.pinVerify h us) s = .next (s.onDev fun _ =>
        let ns := pinOpen p.src k0.alg k0.key (slice inp 0 (pinBytes p.src)) pan n
        let os := nibbles (if p.offEnc then decBlock k2.alg k2.key (slice inp 16 w) else slice inp 16 w)
        d2.libEnd h e ⟨if pinFieldOk p.src (max d2.pinFloor 4) 12 ns then
            (match offParse os p.len w (fun v => if p.offEnc then decide (10 ≤ v) else v == 15) with
              | none => 0x0303
              | some ds => if nib ns 1 = p.len ∧ (ns.drop 2).take p.len = digAdd (naturalPin p k1 pan n) ds p.len then 0 else 0x0302)
          else 0x0303, [], []⟩)) ∧
    (∀ p pan n k0 k1 k2, d.LibReady 0x22 h e c [] inp → p = pvOpt c.ctx → pan = leAt ps 0 8 → n = dPanDigits c.desc → pvOk false c = true →
      dInLen c.desc = 16 → panOk pan n = true → p.start + p.vlen ≤ n → allZero (inp.drop (pinBytes p.src)) = true →
      d.KeysGiven h c us [1] true [⟨0, useDec, some true, pinAlg p.src⟩, ⟨1, useDerive, none, isTdea⟩, ⟨2, useEnc, some true, anyCipher⟩] d2 [k0, k1, k2] →
      exec (.pinOffsetGenerate h us) s = .next (s.onDev fun _ =>
        let ns := pinOpen p.src k0.alg k0.key (slice inp 0 (pinBytes p.src)) pan n
        let ds := digSub ((ns.drop 2).take p.len) (naturalPin p k1 pan n) p.len
        d2.libEnd h e (if pinFieldOk p.src (max d2.pinFloor 4) 12 ns ∧ nib ns 1 = p.len then
          ⟨0, encBlock k2.alg k2.key (packNibbles (offPack ds p.len (blockLen k2.alg) d2.word1 d2.word2)), []⟩ else ⟨0x0303, [], []⟩))) ∧
    (∀ p pan n k0 k1 key alg, d.LibReady 0x40 h e c [] inp → p = pinOpt (cOptions c.ctx) → pan = leAt inp 0x20 8 → n = leAt inp 0x28 1 →
      optsIn (cOptions c.ctx) 0xDFFFF = true → keysZero c.ctx 2 = true → allZero ((cData c.ctx).drop 4) = true → p.ok = true → dFuncFlags c.desc = 0 →
      allZero ps = true → noOutput c.desc = true → cOptions c.ctx / 2 ^ 18 % 4 ≠ 3 → dInLen c.desc = 48 → allZero (slice inp 12 4) = true →
      allZero (slice inp 0x29 7) = true → (p.src = 4 ∨ allZero (slice inp 0x18 8) = true) →
      d.KeysGiven h c us [1] (pinDraws p.dst)
        [⟨0, useDerive, some false, fun a => aesOr2Tdea a && pinAlg p.src a⟩, ⟨1, useEnc, some true, pinAlg p.dst⟩] d2 [k0, k1] →
      panGiven (p.src == 1 && p.dst == 1) pan n = true → dukptKey k0 c (slice inp 0 12) 0x1000 1 = .ok (key, alg) →
      exec (.dukptPinTranslate h us) s = .next (s.onDev fun _ =>
        let ns := pinOpen p.src alg key (slice inp 16 (pinBytes p.src)) pan n
        d2.libEnd h e (if pinFieldOk p.src (max d2.pinFloor p.lo) p.hi ns then
          ⟨0, pinSeal p.dst k1.alg k1.key (pinConv p.dst ns d2.word1 d2.word2) pan n, []⟩ else ⟨0x0303, [], []⟩))) ∧
    (∀ pan n ex sv k, pan = leAt ps 0 8 → n = dPanDigits c.desc → ex = nibbles (slice ps 8 2) → sv = nibbles (slice ps 10 2) →
      ctxRestZero c.ctx 1 0 0 = true → noAreas c.desc = true → panOk pan n = true → (∀ x ∈ ex ++ sv, x ≤ 9) → nib sv 0 = 0 →
      d.KeysGiven h c us [1] false [⟨0, useEnc, some false, fun a => a == 4⟩] d2 [k] →
      (d.LibReady 0x58 h e c [] inp → allZero (ps.drop 12) = true → exec (.cscGenerate h us) s =
        .next (s.onDev fun _ => d2.libEnd h e ⟨0, packNibbles (0 :: cscDigits k.key pan n ex sv), []⟩)) ∧
      (∀ cs, d.LibReady 0x59 h e c [] inp → allZero (ps.drop 14) = true → cs = nibbles (slice ps 12 2) → (∀ x ∈ cs, x ≤ 9) → nib cs 0 = 0 →
        exec (.cscVerify h us) s = .next (s.onDev fun _ =>
          d2.libEnd h e ⟨if cs.drop 1 = cscDigits k.key pan n ex sv then 0 else 0x0302, [], []⟩)))

/-- ARQC_VERIFY, ISSUER_SCRIPT, DUKPT_DATA, MAC_GENERATE, MAC_VERIFY, FF1_TOKENISE, FF1_DETOKENISE, GCM_ENCRYPT, GCM_DECRYPT, RANDOM (R97, R99, R108 to
R111, R113 to R116, R121 to R124). -/
def Obligations.CardAndDataFunctionsGiveResult : Prop :=
  ∀ (s : State) (d d2 : Dev) (h e : Nat) (c : Cmd) (us : List KeyUse) (bs inp ps : List Byte) (o : Nat) (k : KeyRef), d = s.chip.dev → ps = dParams c.desc →
    o = cOptions c.ctx →
    (∀ n, d.LibReady 0x30 h e c bs inp → n = leAt ps 0 2 → ctxRestZero c.ctx 1 2 0 = true → o ≠ 3 → dFuncFlags c.desc = 0 → allZero (ps.drop 2) = true →
      1 ≤ n → n ≤ 32 → dInLen c.desc = 128 * n → dOutLen c.desc = 16 * n → d.KeysGiven h c us [1] false [⟨0, useDerive, none, aesOr2Tdea⟩] d2 [k] →
      (o = 1 → isAes k.alg = false) → exec (.arqcVerify h bs us) s = .next (s.onDev fun _ =>
        (d2.libRead c).libEnd h e (match arqcRecords o k.alg k.key inp n 0 with
          | .error x => ⟨x, [], []⟩
          | .ok rs =>
            let count (p : Nat → Bool) := leBytes 4 (rs.countP (fun r => p r.1))
            ⟨0, count (· == 0) ++ count (· == 0x0302) ++ count (fun x => x != 0 && x != 0x0302), rs.flatMap arqcOut⟩))) ∧
    (∀ len ml (two : Bool) k1, d.LibReady 0x31 h e c bs inp → len = leAt inp 0x14 2 → ml = leAt inp 0x18 1 → two = (leAt inp 0x17 1 != 0) →
      ctxRestZero c.ctx 2 0 0 = true → dFuncFlags c.desc = 0 → allZero ps = true → 5 ≤ len → len ≤ 239 → dInLen c.desc = 32 + len →
      allZero (slice inp 0x19 7) = true → 4 ≤ ml → ml ≤ 8 → panOk (leAt inp 0 8) (leAt inp 8 1) = true → leAt inp 9 1 ≤ 99 →
      d.KeysGiven h c us [1] false ([⟨0, useDerive, some false, aesOr2Tdea⟩] ++ (if two then [⟨1, useDerive, some false, aesOr2Tdea⟩] else [])) d2
        ([k] ++ (if two then [k1] else [])) → (two = true → isAes k.alg = isAes k1.alg) → exec (.issuerScript h bs us) s = .next (s.onDev fun _ =>
        (d2.libRead c).libEnd h e (match scriptBuild k (if two then some k1 else none) inp (dOutLen c.desc) with
          | .error x => ⟨x, [], []⟩
          | .ok out => ⟨0, leBytes 4 out.length, out⟩))) ∧
    (∀ ml n (mac : Bool) key alg, d.LibReady 0x41 h e c bs inp → ml = o / 2 ^ 24 % 32 → mac = (dFuncFlags c.desc == 1) → n = dInLen c.desc - 16 - ml →
      optsIn o 0x1F0C0000 = true → keysZero c.ctx 1 = true → allZero ((cData c.ctx).drop 4) = true → dFuncFlags c.desc < 2 → allZero ps = true →
      (if mac then 4 ≤ ml ∧ ml ≤ 16 ∧ noOutput c.desc = true else ml = 0) → o / 2 ^ 18 % 4 ≠ 3 → 17 + ml ≤ dInLen c.desc → n ≤ 65536 →
      (mac = false → n % 8 = 0 ∧ dOutLen c.desc = n) → d.KeysGiven h c us [1] false [⟨0, useDerive, some false, aesOr2Tdea⟩] d2 [k] →
      (mac = true → isAes k.alg = true ∨ ml ≤ 8) → (mac = false → n % blockLen k.alg = 0) → allZero (slice inp 12 4) = true →
      dukptKey k c (slice inp 0 12) (if mac then 0x2000 else 0x3000) (if mac then 2 else 3) = .ok (key, alg) →
      exec (.dukptData h bs us) s = .next (s.onDev fun _ => (d2.libRead c).libEnd h e
        (if mac then ⟨if (emvMac alg key (slice inp 16 n)).take ml = inp.drop (16 + n) then 0 else 0x0302, [], []⟩
         else ⟨0, [], cbcDec alg key (slice inp 16 n)⟩))) ∧
    (∀ a pad ml, a = o % 4 → pad = o / 16 % 4 → ml = o / 256 % 32 → optsIn o 0x1F33 = true → keysZero c.ctx 1 = true → allZero (cData c.ctx) = true →
      dFuncFlags c.desc = 0 → a ≠ 3 → (if a = 0 then pad = 0 else pad = 1 ∨ pad = 2) → 4 ≤ ml → ml ≤ (if a = 0 then 16 else 8) → noOutput c.desc = true →
      1 ≤ dInLen c.desc → dInLen c.desc ≤ 1048576 → d.KeysGiven h c us [1] false [⟨0, useEnc, some false, macAlgOk a⟩] d2 [k] →
      (d.LibReady 0x50 h e c bs inp → allZero ps = true → exec (.macGenerate h bs us) s =
        .next (s.onDev fun _ => (d2.libRead c).libEnd h e ⟨0, (macOf a pad k inp).take ml, []⟩)) ∧
      (d.LibReady 0x51 h e c bs inp → allZero (ps.drop ml) = true → exec (.macVerify h bs us) s = .next (s.onDev fun _ =>
        let m := (macOf a pad k inp).take ml
        (d2.libRead c).libEnd h e ⟨if ps.take m.length = m then 0 else 0x0302, [], []⟩))) ∧
    (∀ lead tail tl pan n, lead = o % 16 → tail = o / 16 % 16 → tl = o / 256 % 32 → pan = leAt ps 0 8 → n = dPanDigits c.desc →
      ctxRestZero c.ctx 1 13 tl = true → lead ≤ 8 → tail ≤ 4 → tl ≤ 16 → noAreas c.desc = true → allZero (ps.drop 8) = true → panOk pan n = true →
      lead + tail + 6 ≤ n → d.KeysGiven h c us [1] false [⟨0, useEnc, some false, isAes⟩] d2 [k] →
      ∀ x ∈ [(0x60, Instr.ff1Tokenise h us, Config.ff1Enc), (0x61, .ff1Detokenise h us, Config.ff1Dec)], d.LibReady x.1 h e c [] inp →
        exec x.2.1 s = .next (s.onDev fun _ =>
          let ds := decDigits n pan
          let out := ds.take lead ++ x.2.2 k.key ((cData c.ctx).take tl) ((ds.drop lead).take (n - lead - tail)) ++ ds.drop (n - tail)
          d2.libEnd h e ⟨0, leBytes 8 (ofDigits out), []⟩)) ∧
    (∀ aad, d.LibReady 0x80 h e c bs inp → ctxRestZero c.ctx 1 0 0 = true → dFuncFlags c.desc = 0 → aad = leAt ps 0 4 → allZero (ps.drop 4) = true →
      gcmLens (dInLen c.desc) (dOutLen c.desc) aad 0 16 = true → d.nonceWaits = true → exec (.gcmEncrypt h bs us) s = .next (s.onDev fun d => d.libNonceWait h)) ∧
    (∀ aad n, ctxRestZero c.ctx 1 0 0 = true → dFuncFlags c.desc = 0 → d.KeysGiven h c us [1] false [⟨0, useEnc, some false, isAes⟩] d2 [k] →
      (d.LibReady 0x80 h e c bs inp → aad = leAt ps 0 4 → allZero (ps.drop 4) = true → gcmLens (dInLen c.desc) (dOutLen c.desc) aad 0 16 = true →
        d.nonceWaits = false → d2.libNonce.2 = some (.ok n) → exec (.gcmEncrypt h bs us) s = .next (s.onDev fun _ =>
          let ct := gcmCtr k.key n (inp.drop aad)
          (d2.libNonce.1.libRead c).libEnd h e ⟨0, n, ct ++ gcmTag k.key n (inp.take aad) ct⟩)) ∧
      (d.LibReady 0x81 h e c bs inp → aad = leAt ps 12 4 → n = slice ps 0 12 → allZero (ps.drop 16) = true →
        gcmLens (dInLen c.desc) (dOutLen c.desc) aad 16 0 = true → exec (.gcmDecrypt h bs us) s = .next (s.onDev fun _ =>
          let m := dInLen c.desc - aad - 16
          let ct := slice inp aad m
          (d2.libRead c).libEnd h e ⟨if gcmTag k.key n (inp.take aad) ct = inp.drop (aad + m) then 0 else 0x0301, [], gcmCtr k.key n ct⟩))) ∧
    (∀ n, d.LibReady 0x90 h e c [] inp → n = dOutLen c.desc → noInput c.desc = true → allZero ps = true → 8 ≤ n →
      n ≤ 1048576 → n % 8 = 0 → d.blockHeld 3 = false → d.rngFailed = false → d.rngReady 2 = true →
      (dFuncFlags c.desc = 0 → d.rngServes 2 = true → exec (.random h) s = .next (s.onDev fun d =>
        ({ d with nfree := d.nfree + 1, rng := d.rng.generate 2 n } : Dev).libEnd h e ⟨0, [], randomBytes d.nfree n⟩)) ∧
      (dFuncFlags c.desc = 1 → d.rng.hostDone.contains (16 * c.order + 15) = true → exec (.random h) s = .next (s.onDev fun d =>
        let r := { d.rng with hostDone := d.rng.hostDone.filter (· != 16 * c.order + 15) }
        ({ d with nfree := d.nfree + 1, rng := r.generate 2 n } : Dev).libEnd h e
          ⟨0, [], randomBytes d.nfree n⟩)))

/-- ECDSA_SIGN, MLDSA_SIGN, ECDSA_VERIFY, MLDSA_VERIFY, RSA_SIGN, MLKEM_ENCAPS, MLKEM_DECAPS, CUSTOMER_FUNCTION (R67, R96 to R98, R125 to R127, R213). -/
def Obligations.SignatureAndKemFunctionsGiveResult : Prop :=
  ∀ (s : State) (d d2 : Dev) (h e : Nat) (c : Cmd) (us : List KeyUse) (bs inp ps : List Byte) (o : Nat) (k : KeyRef), d = s.chip.dev → ps = dParams c.desc →
    o = cOptions c.ctx →
    (∀ x ∈ [(false, 0xA0, Instr.ecdsaSign h bs us), (true, 0xA2, Instr.mldsaSign h bs us)], ∀ (p : SigOpt) (len : Nat), d.LibReady x.2.1 h e c bs inp →
      p = sigOpt o → len = (if x.1 then sigLen p.alg else 2 * curveLen p.alg) → keysZero c.ctx 1 = true → sigOptOk x.1 true c.ctx = true →
      dFuncFlags c.desc = 0 → allZero ps = true → sigMsgOk p (dInLen c.desc) = true → dOutLen c.desc = len →
      d.KeysGiven h c us [if x.1 then 4 else 3] (!p.det) [⟨0, useEnc, some false, fun a => a == (if x.1 then 0x10 + p.alg else 7 + p.alg)⟩] d2 [k] →
      exec x.2.2 s = .next (s.onDev fun _ =>
        let block := if x.1 then pklBlock (p.det.toNat + 2 * p.pre.toNat) p.hash (sigCtx c.ctx).length inp.length [sigCtx c.ctx, inp]
          else pklBlock p.det.toNat p.hash 0 0 [if p.pre then inp else libHash p.hash inp]
        (d2.libRead c).libEnd h e
          (match pklCompute (if x.1 then 0x0D else 0x03) p.alg block k.key (if p.det then [] else Config.freeBytes (d2.nfree - 1) 66) with
          | none => ⟨0x0303, [], []⟩
          | some out => ⟨0, [], slice out 0 len⟩))) ∧
    (∀ x ∈ [(false, 0xA1, Instr.ecdsaVerify h bs us), (true, 0xA3, Instr.mldsaVerify h bs us)], ∀ (p : SigOpt) (n kl sl : Nat),
      d.LibReady x.2.1 h e c bs inp → p = sigOpt o → n = leAt ps 0 4 → kl = (if x.1 then pkLen p.alg else 1 + 2 * curveLen p.alg) →
      sl = (if x.1 then sigLen p.alg else 2 * curveLen p.alg) → keysZero c.ctx 0 = true → sigOptOk x.1 false c.ctx = true → dFuncFlags c.desc = 0 →
      allZero (ps.drop 4) = true → noOutput c.desc = true → sigMsgOk p n = true → dInLen c.desc = kl + sl + n →
      d.KeysGiven h c us [if x.1 then 4 else 3] false [] d2 [] →
      exec x.2.2 s = .next (s.onDev fun _ =>
        let pk := slice inp 0 kl
        let sg := slice inp kl sl
        let msg := slice inp (kl + sl) n
        let block := if x.1 then pklBlock (2 * p.pre.toNat) p.hash (sigCtx c.ctx).length n [pk, sg, sigCtx c.ctx, msg]
          else pklBlock 0 p.hash 0 0 [if p.pre then msg else libHash p.hash msg, pk, slice sg 0 (curveLen p.alg), slice sg (curveLen p.alg) (curveLen p.alg)]
        (d2.libRead c).libEnd h e (match pklCompute (if x.1 then 0x0E else 0x04) p.alg block [] [] with
          | none => ⟨0x0303, [], []⟩
          | some out => ⟨if leAt out 0 8 == 1 then 0 else 0x0302, [], []⟩))) ∧
    (∀ (p : SigOpt) (n len : Nat), d.LibReady 0xA4 h e c bs inp → p = sigOpt o → n = leAt ps 0 4 → len = dOutLen c.desc → cKey c.ctx 0 = 0 →
      keysZero c.ctx 2 = true → o < 2 ^ 9 → p.alg = 7 ∨ p.alg = 8 → 1 ≤ p.hash → p.hash ≤ 3 → allZero (cData c.ctx) = true → dFuncFlags c.desc = 0 →
      allZero (ps.drop 4) = true → n ≠ 0 → dInLen c.desc = n + hashLenOf p.hash → len % 32 = 0 → 256 ≤ len → len ≤ 1024 →
      d.KeysGiven h c us [3] (p.alg == 8) [⟨1, useWrap, some false, fun a => a == 3⟩] d2 [k] →
      exec (.rsaSign h bs us) s = .next (s.onDev fun _ =>
        let salt := if p.alg = 8 then Config.freeBytes (d2.nfree - 1) 64 else []
        let block := pklBlock 0 0 0 n [inp.take n, Config.rsaEncode p.alg p.hash (inp.drop n) len salt]
        let d3 := d2.libRead c
        match Config.rsaModulus k.key (inp.take n) with
        | none => d3.libEnd h e ⟨0x0303, [], []⟩
        | some m => if m ≠ len then d3.libEnd h e ⟨0x0103, [], []⟩ else if crtOk (len / 32) block k.key = false then (d3.laneFault 3).libEnd h e ⟨0x0601, [], []⟩ else
          d3.libEnd h e (match pklCompute 0x01 (len / 32) block k.key [] with
            | none => ⟨0x0303, [], []⟩
            | some out => ⟨0, [], slice out 0 len⟩))) ∧
    (∀ x ∈ [(false, 0xB0, Instr.mlkemEncaps h bs us), (true, 0xB1, Instr.mlkemDecaps h bs us)], ∀ (i : Nat) (hd : Word) (ks : List KeyRef) (d1 : Dev),
      d.LibReady x.2.1 h e c bs inp → hd = bytesBv 64 (slice ps 0 8) → i = hRec hd → keysZero c.ctx x.1.toNat = true → 9 ≤ o → o ≤ 11 →
      allZero (cData c.ctx) = true → dFuncFlags c.desc = 0 → allZero (ps.drop 8) = true → (x.1 = true → noOutput c.desc = true) →
      dInLen c.desc = (if x.1 then ctLen o else ekLen o) → dOutLen c.desc = (if x.1 then 0 else ctLen o) → d.libUnits [4, 5] = none → d.xks.waiting = false →
      d.targetCheck c.part hd (useAt us 4).read = (d1, none) → ks = (if x.1 then [k] else []) →
      d1.KeysGiven h c us [4, 5] (!x.1) (if x.1 then [⟨0, useDec, some false, fun a => a == 7 + o⟩] else []) d2 ks →
      exec x.2.2 s = .next (s.onDev fun _ =>
        let d3 := d2.libRead c
        match pklCompute (if x.1 then 0x0C else 0x0B) o (pklBlock 0 0 0 0 [inp]) (kAt ks 0).key (if x.1 then [] else Config.freeBytes (d3.nfree - 1) 66) with
        | none => d3.libEnd h e ⟨0x0303, [], []⟩
        | some out =>
          let g := ((d3.xrec i).gen + 1) % 2 ^ 16
          let a := installAttr (if x.1 then 0x0C else 0x0B) o c.part 0
          let d4 := d3.setXrec i ⟨slice out 0 32, a, g, keyCheckValue (aAlg a) (slice out 0 32)⟩
          d4.libEnd h e ⟨0, bvBytes 8 (mkHandle 2 i (d4.xrec i).gen), slice out 32 (if x.1 then 0 else ctLen o)⟩)) ∧
    (∀ (cached : Bool) (c1 : Cmd), c1 = d.cmd e → 0x800 ≤ dFunction c1.desc → dFunction c1.desc < 0x1000 →
      (c1.st = .staged → exec (.customerFunction e h cached) s = exec (.threadAssign e h cached) (s.onDev fun d => d.commandAdmit e)) ∧
      (c1.st ≠ .staged → ∀ im entry, d.isOldestAdmitted e = true → c1.ready = true → d.thrFree h = true → d.tmp.lock = false →
        c1.image = some (im, entry) → exec (.customerFunction e h cached) s = .next (s.onDev fun d =>
          ((d.boundary Fld.TILE_RUN_LIMIT_LIMIT.reg).setCmd e { c1 with st := .running }).setThr h { Thr.reset with
            cmd := some e, epoch := (d.boundary Fld.TILE_RUN_LIMIT_LIMIT.reg).rd (Fld.TILE_EPOCH_EPOCH (h / 16)), pc := BitVec.ofNat 64 entry,
            wait := if cached then .none else .icache, limit := (d.boundary Fld.TILE_RUN_LIMIT_LIMIT.reg).rd Fld.TILE_RUN_LIMIT_LIMIT })))

/-- KEYBLOCK_IMPORT, KEYBLOCK_EXPORT, TR34_NONCE, TR34_NONCE_EXPIRY, TR34_IMPORT, WARDEN_REQUEST (R92, R93, R96, R117 to R120, R230, R236, R325). -/
def Obligations.KeyManagementFunctionsGiveResult : Prop :=
  ∀ (s : State) (d : Dev) (e : Nat) (x : Cmd) (p bs : List Byte) (n : Nat) (hd : Word), d = s.chip.dev → x = d.cmd e → p = dParams x.desc → n = x.part →
    hd = bytesBv 64 (slice p 0 8) →
    (∀ m k d1, d.kmTurn e 0x70 = true → bs.length = dInLen x.desc → importDescOk x.desc = true → ctxRestZero x.ctx 1 0 0 = true → 16 ≤ bs.length →
      bs.length ≤ 4096 → d.wardenKey n (cKey x.ctx 0) m = (d1, .ok k) → aUsage k.attr = 2 → isAes (aAlg k.attr) = true ∨ isTdea (aAlg k.attr) = true →
      exec (.keyblockImport e bs m) s = .next (s.setChip (
        let c1 : Chip := { s.chip with dev := d1.readIn e }
        if usesLeft k.attr = false then c1.finishCmd e 0x0205
        else if kbHeaderOk (isAes (aAlg k.attr)) bs = false then c1.finishCmd e 0x0303
        else match Config.keyBlockOpen k.key bs with
          | none => c1.finishCmd e 0x0301
          | some key => match kbAttr n (hSlot hd) (slice bs 0 16) key (leAt p 8 1) (leAt p 9 1 == 1) with
            | none => c1.finishCmd e 0x0203
            | some a =>
              if (match Config.keyBlockKc bs with
                | some v => v != slice (bvBytes 8 (keyCheckValue (aAlg a) (storedKey (aAlg a) key))) 0 v.length
                | none => false) then (c1.onDev fun d => d.inc Fld.VLT_CHANGES_ABANDONED 1).finishCmd e 0x0301
              else match c1.dev.importTarget n hd with
                | some st => c1.finishCmd e st
                | none => (c1.onDev fun d => d.takeUse k).install e 0x70 bs key a (hSlot hd)))) ∧
    (∀ m m1 k w d1 d2, d.kmTurn e 0x71 = true → dFuncFlags x.desc = 0 → allZero (p.drop 5) = true → noInput x.desc = true → ctxRestZero x.ctx 2 0 0 = true →
      d.wardenKey n (cKey x.ctx 0) m = (d1, .ok k) → d1.wardenKey n (cKey x.ctx 1) m1 = (d2, .ok w) → aUsage k.attr = 2 →
      isAes (aAlg k.attr) = true ∨ isTdea (aAlg k.attr) = true → isAes (aAlg w.attr) = true ∨ isTdea (aAlg w.attr) = true → aExportable w.attr = true →
      keyStrength (aAlg w.attr) ≤ keyStrength (aAlg k.attr) → kbMap (leAt p 0 1) (leAt p 1 1) (leAt p 2 1) (aUsage w.attr) = some (aUsage w.attr, aGlaze w.attr) →
      usesLeft k.attr = true → usesLeft w.attr = true → exec (.keyblockExport e m m1) s = .next (s.onDev fun _ =>
        let d3 := d2.modCmd e fun y => { y with st := .running }
        let hdr := asciiBytes (if isAes (aAlg k.attr) then "D" else "B") ++ slice p 0 2 ++ asciiBytes (if isAes (aAlg w.attr) then "A" else "T") ++ slice p 2 3
          ++ asciiBytes "N" ++ asciiBytes "KC"
        let blk := Config.keyBlockWrap k.key hdr w.key
        if dOutLen x.desc < blk.length then d3.kmDone e 0x0103 0
        else (((d3.takeUse k).takeUse w).sendOut n e (.memWrite n (dOutAddr x.desc) blk)).kmDone e 0 blk.length)) ∧
    (d.kmTurn e 0x78 = true → dFuncFlags x.desc = 0 → allZero p = true → noInput x.desc = true → noOutput x.desc = true → d.rngFailed = false →
      d.rngServes 0 = true → d.canAudit = true → exec (.tr34Nonce e) s = .next (s.setChip (
        ((s.chip.audit 0x78 0 n 1 (Config.sha384 (bvBytes 64 x.desc))).onDev fun d1 =>
          { d1 with nfree := d1.nfree + 1, rng := d1.rng.generate 0 16, wdn := { d1.wdn with nonces := tput (fun _ => none) d1.wdn.nonces n (some d.nfree) } }).finishCmd e 0
            (ofLe (Config.freeBytes d.nfree 16)))))  ∧
    (exec (.tr34NonceExpiry n) s = .next (s.onDev fun d => { d with wdn := { d.wdn with nonces := tput (fun _ => none) d.wdn.nonces n none } })) ∧
    (d.kmTurn e 0x79 = true → bs.length = dInLen x.desc → importDescOk x.desc = true → ctxRestZero x.ctx 0 4 0 = true → 64 ≤ bs.length →
      bs.length ≤ 8192 → exec (.tr34Import e bs) s = .next (s.setChip (match d.krdKey n (cOptions x.ctx % 16), d.stateOf (0x600 + n) with
      | some priv, some ca =>
        let two := Config.tr34TwoPass bs
        let c1 := s.chip.onDev fun d => if two then (d.readIn e).tr34Expiry n else d.readIn e
        match Config.tr34Open priv (ca.drop 8) bs with
        | none => c1.finishCmd e 0x0301
        | some t =>
          if (match two, tget (fun _ => none) d.wdn.nonces n with
            | true, none => true
            | true, some k => slice t 8 16 != Config.freeBytes k 16
            | false, _ => decide (leAt t 0 8 ≤ leAt ca 0 8)) then c1.finishCmd e 0x0301
          else match kbAttr n (hSlot hd) (slice t 24 16) (t.drop 40) (leAt p 8 1) (leAt p 9 1 == 1) with
            | none => c1.finishCmd e 0x0203
            | some a => match c1.dev.importTarget n hd with
              | some st => c1.finishCmd e st
              | none => (if two then c1 else c1.onDev fun d => d.wardenState (0x600 + n) (slice t 0 8 ++ ca.drop 8)).install e 0x79 bs (t.drop 40) a (hSlot hd)
      | _, _ => s.chip.finishCmd e 0x0204))) ∧
    (∀ r, r = WReq.mk 1 e bs 0 → d.wardenCmd e 0x7F = true → bs.length = dInLen x.desc → d.wdn.running = true → d.canSend n = true →
      wardenRequestDesc x = none → wardenRequestRefusal x r = none → exec (.wardenRequest e bs) s = .next (s.onDev fun d =>
        ((d.emit (.memRead n (dInAddr x.desc) (dInLen x.desc))).setCmd e { x with st := .running }).enqueue r))

/-- ADD to SETGEU (R161, R138): the value of the operation into rd, GLAZED exactly when an operand is, with its residue. -/
def Obligations.RegisterOperationsGiveResult : Prop :=
  ∀ row ∈ ([(Instr.add, ROp.add, fun a b => a + b), (Instr.sub, ROp.sub, fun a b => a - b), (Instr.and, ROp.and, fun a b => a &&& b),
      (Instr.or, ROp.or, fun a b => a ||| b), (Instr.xor, ROp.xor, fun a b => a ^^^ b), (Instr.andn, ROp.andn, fun a b => a &&& ~~~ b),
      (Instr.shl, ROp.shl, fun a b => a <<< (b &&& 63)), (Instr.shrz, ROp.shrz, fun a b => a >>> (b &&& 63)),
      (Instr.shrs, ROp.shrs, fun a b => a.sshiftRight (b &&& 63).toNat),
      (Instr.seteq, ROp.seteq, fun a b => if a = b then 1 else 0), (Instr.setne, ROp.setne, fun a b => if a = b then 0 else 1),
      (Instr.setlt, ROp.setlt, fun a b => if a.toInt < b.toInt then 1 else 0), (Instr.setge, ROp.setge, fun a b => if b.toInt ≤ a.toInt then 1 else 0),
      (Instr.setltu, ROp.setltu, fun a b => if a < b then 1 else 0), (Instr.setgeu, ROp.setgeu, fun a b => if b ≤ a then 1 else 0)] :
      List ((Nat → BitVec 5 → BitVec 5 → BitVec 5 → Instr) × ROp × (Word → Word → Word))),
  ∀ (s : State) (h : Nat) (rd rs1 rs2 : BitVec 5) (t : Thr) (a b : GWord),
    s.chip.dev.runs h (.r row.2.1 rd rs1 rs2) = true → t = s.chip.dev.thr h → a = gr t rs1 → b = gr t rs2 →
    a.res = BitVec.ofNat 3 (a.data.toNat % 7) → b.res = BitVec.ofNat 3 (b.data.toNat % 7) →
    (a.tag = .plain ∨ a.tag = .glazed) → (b.tag = .plain ∨ b.tag = .glazed) →
    exec (row.1 h rd rs1 rs2) s = .next (s.onDev fun d => d.setThr h { gw t rd
      { data := row.2.2 a.data b.data, tag := if a.tag = .glazed ∨ b.tag = .glazed then .glazed else .plain,
        res := BitVec.ofNat 3 ((row.2.2 a.data b.data).toNat % 7) } with pc := t.pc + 4 })

/-- ADDK to SETLTUK (R162, R138): the value of the operation into rd with rs1's tag and the residue of the value. -/
def Obligations.ConstantOperationsGiveResult : Prop :=
  ∀ row ∈ ([(Instr.addk, KOp.addk, fun a k => a + k.signExtend 64), (Instr.andk, KOp.andk, fun a k => a &&& k.setWidth 64),
      (Instr.ork, KOp.ork, fun a k => a ||| k.setWidth 64), (Instr.xork, KOp.xork, fun a k => a ^^^ k.setWidth 64),
      (Instr.shlk, KOp.shlk, fun a k => a <<< (k.extractLsb' 0 6).toNat), (Instr.shrzk, KOp.shrzk, fun a k => a >>> (k.extractLsb' 0 6).toNat),
      (Instr.shrsk, KOp.shrsk, fun a k => a.sshiftRight (k.extractLsb' 0 6).toNat),
      (Instr.ksh, KOp.ksh, fun a k => (a.extractLsb' 0 48 ++ k : BitVec 64)),
      (Instr.setltk, KOp.setltk, fun a k => if a.toInt < k.toInt then 1 else 0),
      (Instr.setltuk, KOp.setltuk, fun a k => if a < k.signExtend 64 then 1 else 0)] :
      List ((Nat → BitVec 5 → BitVec 5 → BitVec 16 → Instr) × KOp × (Word → BitVec 16 → Word))),
  ∀ (s : State) (h : Nat) (rd rs1 : BitVec 5) (imm : BitVec 16) (t : Thr) (a : GWord),
    s.chip.dev.runs h (.k row.2.1 rd rs1 imm) = true → t = s.chip.dev.thr h → a = gr t rs1 →
    a.res = BitVec.ofNat 3 (a.data.toNat % 7) → (a.tag = .plain ∨ a.tag = .glazed) →
    exec (row.1 h rd rs1 imm) s = .next (s.onDev fun d => d.setThr h { gw t rd
      { data := row.2.2 a.data imm, tag := a.tag, res := BitVec.ofNat 3 ((row.2.2 a.data imm).toNat % 7) } with pc := t.pc + 4 })

/-- MUL, MULX, DIVR (R161, R138, R157). -/
def Obligations.MultiplyAndDivideGiveResult : Prop :=
  ∀ (s : State) (h : Nat) (rd rs1 rs2 : BitVec 5) (t : Thr) (a b : GWord), t = s.chip.dev.thr h → a = gr t rs1 → b = gr t rs2 →
    a.res = BitVec.ofNat 3 (a.data.toNat % 7) → b.res = BitVec.ofNat 3 (b.data.toNat % 7) → a.tag = .plain → b.tag = .plain →
    (s.chip.dev.runs h (.r .mul rd rs1 rs2) = true →
      exec (.mul h rd rs1 rs2) s = .next (s.onDev fun d => d.setThr h { gw t rd (.plain (a.data * b.data)) with pc := t.pc + 4 })) ∧
    (s.chip.dev.runs h (.r .mulx rd rs1 rs2) = true → ∃ lo hi : Word, lo.toNat + 2 ^ 64 * hi.toNat = a.data.toNat * b.data.toNat ∧
      exec (.mulx h rd rs1 rs2) s = .next (s.onDev fun d => d.setThr h { gwPair t rd (.plain lo) (.plain hi) with pc := t.pc + 4 })) ∧
    (s.chip.dev.runs h (.r .divr rd rs1 rs2) = true → ∃ q r : Word, a.data.toNat = q.toNat * b.data.toNat + r.toNat ∧
      (b.data ≠ 0 → r < b.data) ∧ (b.data = 0 → q = 0 ∧ r = a.data) ∧
      exec (.divr h rd rs1 rs2) s = .next (s.onDev fun d => d.setThr h { gwPair t rd (.plain q) (.plain r) with pc := t.pc + 4 }))

/-- LD, LW, LH, LB (R163, R133, R140). -/
def Obligations.LoadsReadTheDataSpace : Prop :=
  ∀ row ∈ ([(Instr.ld, Width.w8, 8), (Instr.lw, Width.w4, 4), (Instr.lh, Width.w2, 2), (Instr.lb, Width.w1, 1)] :
      List ((Nat → BitVec 5 → BitVec 5 → BitVec 16 → Instr) × Width × Nat)),
  ∀ (s : State) (h e : Nat) (rd rs1 : BitVec 5) (imm : BitVec 16) (t : Thr) (b v : GWord) (ea : Nat),
    s.chip.dev.runs h (.load row.2.1 rd rs1 imm) = true → t = s.chip.dev.thr h → t.cmd = some e → b = gr t rs1 →
    b.res = BitVec.ofNat 3 (b.data.toNat % 7) → b.tag = .plain →
    ea = (b.data + imm.signExtend 64).toNat / row.2.2 * row.2.2 →
    ((ea < 0x4000 ∧ v = sliceWord t (ea / 8)) ∨
      (0x10000 ≤ ea ∧ ea < 0x10200 ∧ v = windowWord (s.chip.dev.cmd e) t ((ea - 0x10000) / 8 * 8)) ∨
      (0x20000 ≤ ea ∧ ea < 0x20008 ∧ v = threadId h (s.chip.dev.cmd e))) →
    ((v.tag = .poison ∧ v.res ≠ 7) ∨ (v.tag ≠ .poison ∧ v.res = BitVec.ofNat 3 (v.data.toNat % 7))) →
    ∃ x : GWord, exec (row.1 h rd rs1 imm) s = .next (s.onDev fun d => d.setThr h { gw t rd x with pc := t.pc + 4 }) ∧
      x.tag = v.tag ∧ x.data.toNat = v.data.toNat / 2 ^ (8 * (ea % 8)) % 2 ^ (8 * row.2.2) ∧
      (v.tag = .poison → x.res = v.res) ∧ (v.tag ≠ .poison → x.res = BitVec.ofNat 3 (x.data.toNat % 7))

/-- ST, SW, SH, SB (R163, R133, R134, R140). -/
def Obligations.StoresWriteSliceAndResult : Prop :=
  ∀ row ∈ ([(Instr.st, Width.w8, 8), (Instr.sw, Width.w4, 4), (Instr.sh, Width.w2, 2), (Instr.sb, Width.w1, 1)] :
      List ((Nat → BitVec 5 → BitVec 5 → BitVec 16 → Instr) × Width × Nat)),
  ∀ (s : State) (h : Nat) (rs2 rs1 : BitVec 5) (imm : BitVec 16) (t : Thr) (b v w : GWord) (ea k : Nat),
    s.chip.dev.runs h (.store row.2.1 rs2 rs1 imm) = true → t = s.chip.dev.thr h → b = gr t rs1 → v = gr t rs2 →
    b.res = BitVec.ofNat 3 (b.data.toNat % 7) → b.tag = .plain → resOk v = true →
    ea = (b.data + imm.signExtend 64).toNat / row.2.2 * row.2.2 →
    (ea < 0x4000 → w = sliceWord t (ea / 8) → k = 8 * (ea % 8) →
      (row.2.2 = 8 ∨ (resOk w = true ∧ (v.tag = .plain ∨ v.tag = .glazed) ∧ (w.tag = .plain ∨ w.tag = .glazed))) →
      ∃ x : GWord, exec (row.1 h rs2 rs1 imm) s = .next (s.onDev fun d => d.setThr h { setSlice t (ea / 8) x with pc := t.pc + 4 }) ∧
        (row.2.2 = 8 → x = v) ∧
        (row.2.2 ≠ 8 → x.tag = (if v.tag = .glazed ∨ w.tag = .glazed then .glazed else .plain) ∧ x.res = BitVec.ofNat 3 (x.data.toNat % 7) ∧
          ∀ i < 64, x.data.getLsbD i = if k ≤ i ∧ i < k + 8 * row.2.2 then v.data.getLsbD (i - k) else w.data.getLsbD i)) ∧
    (0x100C0 ≤ ea → ea < 0x100D0 → k = 8 * (ea - 0x100C0) → v.tag = .plain → t.rel = false →
      ∃ r : BitVec 128, exec (row.1 h rs2 rs1 imm) s = .next (s.onDev fun d => d.setThr h { t with result := r, pc := t.pc + 4 }) ∧
        ∀ i < 128, r.getLsbD i = if k ≤ i ∧ i < k + 8 * row.2.2 then v.data.getLsbD (i - k) else t.result.getLsbD i)

/-- BR, JUMP, JMPR (R164), MOV, GLZ, HMAKE (R165). -/
def Obligations.BranchesJumpsAndTagsGiveResult : Prop :=
  ∀ (s : State) (h : Nat) (rd rs1 rs2 : BitVec 5) (t : Thr) (a b : GWord), t = s.chip.dev.thr h → a = gr t rs1 → b = gr t rs2 →
    resOk a = true → resOk b = true →
    (∀ row ∈ ([(.eq, fun a b => a = b), (.ne, fun a b => a ≠ b), (.lt, fun a b => a.toInt < b.toInt), (.ge, fun a b => b.toInt ≤ a.toInt),
        (.ltu, fun a b => a < b), (.geu, fun a b => b ≤ a), (.always, fun _ _ => True)] : List (Cond × (Word → Word → Prop))),
      ∀ off : BitVec 13, s.chip.dev.runs h (.br row.1 rs1 rs2 off) = true → a.tag = .plain → b.tag = .plain →
        (row.2 a.data b.data → exec (.br h row.1 rs1 rs2 off) s =
          .next (s.onDev fun d => d.setThr h { t with pc := t.pc + 4 * off.signExtend 64 })) ∧
        (¬ row.2 a.data b.data → exec (.br h row.1 rs1 rs2 off) s = .next (s.onDev fun d => d.setThr h { t with pc := t.pc + 4 }))) ∧
    (∀ off : BitVec 21, s.chip.dev.runs h (.jump rd off) = true →
      exec (.jump h rd off) s = .next (s.onDev fun d => d.setThr h { gw t rd (.plain (t.pc + 4)) with pc := t.pc + 4 * off.signExtend 64 })) ∧
    (s.chip.dev.runs h (.jmpr rd rs1) = true → a.tag = .plain →
      exec (.jmpr h rd rs1) s = .next (s.onDev fun d => d.setThr h { gw t rd (.plain (t.pc + 4)) with pc := a.data &&& ~~~3 })) ∧
    (s.chip.dev.runs h (.tag .mov rd rs1) = true →
      exec (.mov h rd rs1) s = .next (s.onDev fun d => d.setThr h { gw t rd a with pc := t.pc + 4 })) ∧
    (s.chip.dev.runs h (.tag .glz rd rs1) = true → (a.tag = .plain ∨ a.tag = .glazed) →
      exec (.glz h rd rs1) s = .next (s.onDev fun d => d.setThr h { gw t rd { a with tag := .glazed } with pc := t.pc + 4 })) ∧
    (s.chip.dev.runs h (.tag .hmake rd rs1) = true → a.tag = .plain →
      exec (.hmake h rd rs1) s = .next (s.onDev fun d => d.setThr h { gw t rd { a with tag := .handle } with pc := t.pc + 4 }))

/-- The operations of the Sealed Operand Unit (R143, R144, R145, R166). `Config.freeWord` stands for the random fill. -/
def Obligations.SealedOperandUnitGivesResult : Prop :=
  ∀ (s : State) (h : Nat) (rd rs1 rs2 rs3 : BitVec 5) (t : Thr) (x y z : GWord) (n : Nat), t = s.chip.dev.thr h →
    x = gr t rs1 → y = gr t rs2 → z = gr t rs3 → n = z.data.toNat →
    (s.chip.dev.runs h (.sou .panfield rd rs1 rs2 rs3) = true → x.isPlain → y.isPlain → z.isPlain → (n = 0 ∨ n = 3 ∨ n = 4) →
      12 ≤ y.data.toNat → y.data.toNat ≤ 19 → x.data.toNat < 10 ^ y.data.toNat →
      exec (.panfield h rd rs1 rs2 rs3) s = .next (s.onDev fun d => d.setThr h
        { souWrite t rd (panField n x.data.toNat y.data.toNat) (n == 4) .plain with pc := t.pc + 4 })) ∧
    (∀ f, f = y.data.toNat → s.chip.dev.runs h (.sou .pinchk rd rs1 rs2 rs3) = true → y.isPlain → z.isPlain →
      (f = 0 ∨ f = 1 ∨ f = 3 → x.isData) → (f = 4 → (gr t (evenR rs1)).isData ∧ (gr t (oddR rs1)).isData) → (f = 0 ∨ f = 1 ∨ f = 3 ∨ f = 4) →
      exec (.pinchk h rd rs1 rs2 rs3) s = .next (s.onDev fun d => d.setThr h { gw t rd (.plain (if pinFieldOk f
        (max (d.rd Fld.TILE_SOU_CFG_PIN_FLOOR) (n % 16)) (n / 16 % 16) (souNibs t rs1 (f == 4)) then 0 else 1)) with pc := t.pc + 4 })) ∧
    (s.chip.dev.runs h (.sou .decim rd rs1 rs2 rs3) = true → x.isData → y.isPlain → z.isPlain → 4 ≤ n → n ≤ 12 →
      exec (.decim h rd rs1 rs2 rs3) s = .next (s.onDev fun d => d.setThr h { gw t rd
        (.fresh (nibWord (decim (wordNibbles y.data) (wordNibbles x.data) n)) .glazed) with pc := t.pc + 4 })) ∧
    (s.chip.dev.runs h (.sou .offadd rd rs1 rs2 rs3) = true → x.isData → y.isData → z.isPlain → 4 ≤ n → n ≤ 12 →
      exec (.offadd h rd rs1 rs2 rs3) s = .next (s.onDev fun d => d.setThr h { gw t rd
        (.fresh (nibWord ((List.range n).map fun i => (nib (wordNibbles x.data) i + nib (wordNibbles y.data) i) % 10)) .glazed) with pc := t.pc + 4 })) ∧
    (s.chip.dev.runs h (.sou .offsub rd rs1 rs2 rs3) = true → x.isData → y.isData → z.isPlain → 4 ≤ n → n ≤ 12 →
      exec (.offsub h rd rs1 rs2 rs3) s = .next (s.onDev fun d => d.setThr h { gw t rd
        (.fresh (nibWord ((List.range n).map fun i => (nib (wordNibbles x.data) i + 20 - nib (wordNibbles y.data) i) % 10)) .glazed) with pc := t.pc + 4 })) ∧
    (s.chip.dev.runs h (.sou .cmpeq rd rs1 rs2 rs3) = true → x.isData → y.isData → z.isPlain →
      exec (.cmpeq h rd rs1 rs2 rs3) s = .next (s.onDev fun d => d.setThr h { gw t rd
        (.plain (if x.data &&& z.data = y.data &&& z.data then 1 else 0)) with pc := t.pc + 4 })) ∧
    (s.chip.dev.runs h (.sou .maccmp rd rs1 rs2 rs3) = true → (gr t (evenR rs1)).isData → (gr t (oddR rs1)).isData →
      (gr t (evenR rs2)).isData → (gr t (oddR rs2)).isData → z.isPlain → 4 ≤ n → n ≤ 16 →
      exec (.maccmp h rd rs1 rs2 rs3) s = .next (s.onDev fun d => d.setThr h { gw t rd
        (.plain (if (pairBytes t rs1).take n = (pairBytes t rs2).take n then 1 else 0)) with pc := t.pc + 4 })) ∧
    (∀ f, f = y.data.toNat → s.chip.dev.runs h (.sou .pinconv rd rs1 rs2 rs3) = true → y.isPlain → z.isPlain →
      (f = 0 ∨ f = 1 ∨ f = 3 → x.isData) → (f = 4 → (gr t (evenR rs1)).isData ∧ (gr t (oddR rs1)).isData) → (f = 0 ∨ f = 1 ∨ f = 3 ∨ f = 4) →
      (n = 0 → exec (.pinconv h rd rs1 rs2 rs3) s = .next (s.onDev fun d => d.setThr h
        { souWrite t rd (pinConv 0 (souNibs t rs1 (f == 4)) 0 0) false .glazed with pc := t.pc + 4 })) ∧
      (n = 1 ∨ n = 3 ∨ n = 4 → s.chip.dev.rngFailed = false → s.chip.dev.rngServes 1 = true →
        s.chip.dev.rngBlocked = false → exec (.pinconv h rd rs1 rs2 rs3) s = .next (s.onDev fun d => (d.setThr h
        { souWrite t rd (pinConv n (souNibs t rs1 (f == 4)) (Config.freeWord d.nfree) (Config.freeWord (d.nfree + 1))) (n == 4) .glazed
          with pc := t.pc + 4 }).draw 1 2 16)) ∧
      (n = 1 ∨ n = 3 → s.chip.dev.rngFailed = true → exec (.pinconv h rd rs1 rs2 rs3) s =
        .next (s.onDev fun d => d.setThr h { gw t rd ⟨0, .poison, 2⟩ with pc := t.pc + 4 })) ∧
      (n = 4 → s.chip.dev.rngFailed = true → exec (.pinconv h rd rs1 rs2 rs3) s =
        .next (s.onDev fun d => d.setThr h { gwPair t rd ⟨0, .poison, 2⟩ ⟨0, .poison, 2⟩ with pc := t.pc + 4 }))) ∧
    (s.chip.dev.runs h (.sou .offpack rd rs1 rs2 rs3) = true → x.isData → y.isPlain → z.isPlain → 4 ≤ y.data.toNat → y.data.toNat ≤ 12 →
      (n = 8 ∨ n = 16) →
      (s.chip.dev.rngFailed = false → s.chip.dev.rngServes 1 = true → s.chip.dev.rngBlocked = false →
        exec (.offpack h rd rs1 rs2 rs3) s = .next (s.onDev fun d => (d.setThr h
        { souWrite t rd (offPack (wordNibbles x.data) y.data.toNat n (Config.freeWord d.nfree) (Config.freeWord (d.nfree + 1))) (n == 16) .glazed
          with pc := t.pc + 4 }).draw 1 2 16)) ∧
      (s.chip.dev.rngFailed = true → exec (.offpack h rd rs1 rs2 rs3) s = .next (s.onDev fun d => d.setThr h
        { (if n = 16 then gwPair t rd ⟨0, .poison, 2⟩ ⟨0, .poison, 2⟩ else gw t rd ⟨0, .poison, 2⟩) with pc := t.pc + 4 }))) ∧
    (s.chip.dev.runs h (.sou .zeroise rd rs1 rs2 0) = true → (rd ≠ 0 →
        exec (.zeroise h rd rs1 rs2 0) s = .next (s.onDev fun d => d.setThr h { gw t rd ⟨0, .plain, 0⟩ with pc := t.pc + 4 })) ∧
      (∀ a w, rd = 0 → x.isPlain → y.isPlain → x.data.toNat = 8 * a → w = y.data.toNat → 1 ≤ w → a + w ≤ 2048 →
        ∃ sl, exec (.zeroise h rd rs1 rs2 0) s = .next (s.onDev fun d => d.setThr h { t with sl := sl, pc := t.pc + 4 }) ∧
          ∀ k, sliceWord { t with sl := sl } k = if a ≤ k ∧ k < a + w then ⟨0, .plain, 0⟩ else sliceWord t k))

/-- ECALL, TWAIT, TWALL, RAND, CINC, CSYNC, RELEASE, DONE (R167 to R180). -/
def Obligations.TokenInstructionsTakeEffect : Prop :=
  ∀ (s : State) (d : Dev) (h e : Nat) (t : Thr), d = s.chip.dev → t = d.thr h → t.cmd = some e →
    (∀ (tk : BitVec 4) (ra rk rb rx : BitVec 5) (r : Req), d.runs h (.ecall tk ra rk rb rx) = true → r = sentReq t (d.cmd e) rk ra rb rx →
      (tok t tk.toNat).pending = false → ecallCauses t (d.cmd e) rk ra rb rx = [] →
      (d.tmp.lock = true → exec (.ecall h tk ra rk rb rx) s = .next (s.onDev fun d => d.endCommand h 0x0701)) ∧
      (d.tmp.lock = false → d.engineHeld r.eng = false → d.queueFull r = false →
        (r.assigned = true → exec (.ecall h tk ra rk rb rx) s = .next (s.onDev fun d => d.setThr h { setTok t tk.toNat (.sent r) with
          pc := t.pc + 4, writes := if r.dstk = 2 then t.writes ++ [(tk.toNat, none)] else t.writes })) ∧
        (r.assigned = false → exec (.ecall h tk ra rk rb rx) s = .next (s.onDev fun d => d.setThr h
          { setTok t tk.toNat (.done ⟨0x0101, GWord.zero, GWord.zero⟩ r.epoch .pair) with pc := t.pc + 4 })))) ∧
    (∀ (tk : BitVec 4) (ra : BitVec 5), d.runs h (.twait tk ra) = true →
      (tok t tk.toNat = .free → exec (.twait h tk ra) s =
        .next (s.onDev fun d => d.setThr h { (if ra = 0 ∨ ra = 1 then t else gwPair t ra GWord.zero GWord.zero) with pc := t.pc + 4 })) ∧
      (∀ v, tok t tk.toNat = .arrived v → exec (.twait h tk ra) s =
        .next (s.onDev fun d => d.setThr h { (if ra = 0 ∨ ra = 1 then setTok t tk.toNat .free else gwPair (setTok t tk.toNat .free) ra v.even v.odd) with pc := t.pc + 4 })) ∧
      ((tok t tk.toNat).pending = true → exec (.twait h tk ra) s =
        .next (s.onDev fun d => d.setThr h { t with pc := t.pc + 4, wait := .token tk.toNat ra }))) ∧
    (d.runs h .twall = true → exec (.twall h) s = .next (s.onDev fun d => d.setThr h
      { t with pc := t.pc + 4, wait := if noPending t then .none else .all })) ∧
    (∀ rd, d.runs h (.rand rd) = true → d.tmp.lock = false → d.blockHeld 3 = false →
      (d.rngFailed = false → exec (.rand h rd) s = .next (s.onDev fun d => d.setThr h { t with pc := t.pc + 4, wait := .rand rd })) ∧
      (d.rngFailed = true → exec (.rand h rd) s = .next (s.onDev fun d => d.setThr h { gw t rd ⟨0, .poison, 2⟩ with pc := t.pc + 4 }))) ∧
    (∀ (tk : BitVec 4) (rk : BitVec 5) (i : Nat), d.runs h (.cinc tk rk) = true → (tok t tk.toNat).pending = false → (gr t rk).isPlain →
      i = (gr t rk).data.toNat → d.tmp.lock = false →
      (65536 ≤ i → exec (.cinc h tk rk) s = .next (s.onDev fun d => d.setThr h
        { setTok t tk.toNat (.done ⟨0x0101, GWord.zero, GWord.zero⟩ t.epoch .pair) with pc := t.pc + 4 })) ∧
      (i < 65536 → d.ownsCounter (d.cmd e).part i = false → exec (.cinc h tk rk) s = .next (s.onDev fun d => d.setThr h
        { setTok t tk.toNat (.done ⟨0x0202, GWord.zero, GWord.zero⟩ t.epoch .pair) with pc := t.pc + 4 })) ∧
      (i < 65536 → d.ownsCounter (d.cmd e).part i = true → d.ctrDamaged i = false → 2 ^ 48 ≤ d.ctrValue i + d.ctrIssued i + 1 →
        exec (.cinc h tk rk) s = .next (s.onDev fun d => d.setThr h
        { setTok t tk.toNat (.done ⟨0x0403, GWord.zero, GWord.zero⟩ t.epoch .pair) with pc := t.pc + 4 })) ∧
      (i < 65536 → d.ownsCounter (d.cmd e).part i = true → d.ctrDamaged i = false → d.ctrValue i + d.ctrIssued i + 1 < 2 ^ 48 →
        exec (.cinc h tk rk) s = .next (s.onDev fun d => (d.event.nvsAsk 2 (.increment i) (d.cmd e).part (d.cmd e).order).setThr h
        { setTok t tk.toNat (.done ⟨0, .plain (BitVec.ofNat 64 (d.ctrValue i + d.ctrIssued i + 1)), .plain (d.seq + 1)⟩ t.epoch .pair) with
          pc := t.pc + 4, commits := t.commits ++ [d.nvs.nextOp] }))) ∧
    (d.runs h .csync = true → exec (.csync h) s = .next (s.onDev fun d => d.setThr h
      { t with pc := t.pc + 4, wait := if t.commits = [] then .none else .counters })) ∧
    (∀ rs1 n, d.runs h (.release rs1) = true → n = (gr t rs1).data.toNat % 65536 → t.rel = false →
      (noPending t = true → (gr t rs1).isPlain → exec (.release h rs1) s = .next (s.onDev fun d => ((d.setCmd e { d.cmd e with
        st := .released, status := n, result := if n = 0 ∨ n = 0x0302 then t.result else 0 }).setThr h { t with pc := t.pc + 4, rel := true }))) ∧
      (noPending t = false → exec (.release h rs1) s = .next (s.onDev fun d => d.setThr h
        { t with pc := t.pc + 4, wait := .release rs1 }))) ∧
    (d.runs h .done = true → t.rel = true → exec (.done h) s = .next (s.onDev fun d => (d.setThr h t.givenUp).setCmd (pastEntry h) Cmd.reset))

/-- The events of threads and tiles (R130, R135, R147, R148, R153, R154, R168, R169, R176). `Config.freeWord` stands for the random word. -/
def Obligations.ThreadAndTileEventsTakeEffect : Prop :=
  ∀ (s : State) (d : Dev) (h e : Nat) (t : Thr), d = s.chip.dev → t = d.thr h →
    (∀ tk v dst, t.cmd = some e → tok t tk = .done v (d.rd (Fld.TILE_EPOCH_EPOCH (h / 16))) dst →
      ((∀ off bs, dst ≠ .output off bs) → v.status = 0 → t.wait = .none →
        exec (.engineResult h tk 0) s = .next (s.onDev fun d => d.setThr h (setTok t tk (.arrived v)))) ∧
      (∀ off bs, dst = .output off bs → v.status = 0 →
        exec (.engineResult h tk 0) s = .next (s.onDev fun d => ((d.toOutput h tk off bs).modThr h fun t => setTok t tk (.arrived v)).wake h)) ∧
      (∀ ra, (∀ off bs, dst ≠ .output off bs) → v.status = 0 → t.wait = .token tk ra → exec (.engineResult h tk 0) s =
        .next (s.onDev fun d => d.setThr h { (if ra = 0 ∨ ra = 1 then setTok (setTok t tk (.arrived v)) tk .free else
          gwPair (setTok (setTok t tk (.arrived v)) tk .free) ra v.even v.odd) with wait := .none })) ∧
      (v.status ≠ 0 → t.rel = false → exec (.engineResult h tk 0) s = .next (s.onDev fun d =>
        ((d.setCmd e { d.cmd e with st := .ended, status := v.status, result := 0 }).setThr h (setTok t tk .free).givenUp).setCmd (pastEntry h) Cmd.reset))) ∧
    (∀ rd, t.wait = .rand rd → d.rd Fld.RNG_HEALTH_STATE = 1 → d.rngServes 1 = true → d.rngBlocked = false →
      exec (.randResult h) s = .next (s.onDev fun d =>
        (d.setThr h { gw t rd (.plain (Config.freeWord d.nfree)) with wait := .none }).draw 1 1 8)) ∧
    (t.zeroising = true → toksFree t = true → exec (.threadZeroiseDone h) s =
      .next (s.onDev fun d => (d.setThr h { t with g := [], sl := [], zeroising := false }).scopedClear h)) ∧
    (t.cmd = some e → t.limit ≠ 0 → t.rel = false → exec (.runLimitExpiry h) s = .next (s.onDev fun d =>
      (((d.inc Fld.TILE_TRAPS_CONTAIN 1).setCmd e { d.cmd e with st := .ended, status := 0x0604, result := 0 }).setThr h t.givenUp).setCmd (pastEntry h) Cmd.reset)) ∧
    (∀ k < 64, d.rd (Fld.TILE_EPOCH_STATE k) = 1 →
      exec (.tileSelftestDone k true) s = .next (s.onDev fun d =>
        let d := (d.setBit Fld.TILE_SELFTEST_SELFTEST k false).setBit Fld.TILE_AVAIL_AVAIL k true
        let d := d.wr (Fld.TILE_EPOCH_STATE k) 0
        (d.wr (Fld.TILE_EPOCH_EPOCH k) (d.rd (Fld.TILE_EPOCH_EPOCH k) + 1)).event) ∧
      ∃ u, exec (.tileSelftestDone k false) s = .next u ∧ u.chip.dev.rd (Fld.TILE_EPOCH_STATE k) = 2 ∧ u.chip.dev.rd Fld.TILE_FAULT_CAUSE = 8 ∧
        u.chip.dev.rd Fld.TILE_FAULT_TILE = k ∧ u.chip.dev.rd Fld.TILE_FAULT_PERMANENT = 1 ∧ u.chip.dev.seq = d.seq + 1) ∧
    (d.fillMeets h = true → exec (.instructionCacheFill h true) s = .next (s.onDev fun d => d.setThr h { t with wait := .none }))

/-- R159, for every instruction command. -/
def Obligations.FetchOutsideCodeExecutesAsDone : Prop :=
  ∀ (s : State) (h e : Nat) (t : Thr) (rd rs1 rs2 rs3 ra rk rb rx : BitVec 5) (imm : BitVec 16) (c : Cond) (o13 : BitVec 13) (o21 : BitVec 21)
    (tk : BitVec 4), t = s.chip.dev.thr h → t.cmd = some e → s.chip.dev.unheld h = true → 4 * (s.chip.dev.codeOf e).length ≤ t.pc.toNat →
    ∀ i ∈ ([.add h rd rs1 rs2, .sub h rd rs1 rs2, .and h rd rs1 rs2, .or h rd rs1 rs2, .xor h rd rs1 rs2, .andn h rd rs1 rs2,
      .shl h rd rs1 rs2, .shrz h rd rs1 rs2, .shrs h rd rs1 rs2, .seteq h rd rs1 rs2, .setne h rd rs1 rs2, .setlt h rd rs1 rs2,
      .setge h rd rs1 rs2, .setltu h rd rs1 rs2, .setgeu h rd rs1 rs2, .mul h rd rs1 rs2, .mulx h rd rs1 rs2, .divr h rd rs1 rs2,
      .addk h rd rs1 imm, .andk h rd rs1 imm, .ork h rd rs1 imm, .xork h rd rs1 imm, .shlk h rd rs1 imm, .shrzk h rd rs1 imm,
      .shrsk h rd rs1 imm, .ksh h rd rs1 imm, .setltk h rd rs1 imm, .setltuk h rd rs1 imm, .ld h rd rs1 imm, .lw h rd rs1 imm,
      .lh h rd rs1 imm, .lb h rd rs1 imm, .st h rs2 rs1 imm, .sw h rs2 rs1 imm, .sh h rs2 rs1 imm, .sb h rs2 rs1 imm,
      .br h c rs1 rs2 o13, .jump h rd o21, .jmpr h rd rs1, .mov h rd rs1, .glz h rd rs1, .hmake h rd rs1, .panfield h rd rs1 rs2 rs3,
      .pinchk h rd rs1 rs2 rs3, .decim h rd rs1 rs2 rs3, .offadd h rd rs1 rs2 rs3, .offsub h rd rs1 rs2 rs3, .cmpeq h rd rs1 rs2 rs3,
      .maccmp h rd rs1 rs2 rs3, .pinconv h rd rs1 rs2 rs3, .offpack h rd rs1 rs2 rs3, .zeroise h rd rs1 rs2 rs3,
      .ecall h tk ra rk rb rx, .twait h tk ra, .twall h, .rand h rd, .cinc h tk rk, .csync h, .release h rs1, .done h] : List Instr),
      (t.rel = false → exec i s = .next (s.onDev fun d => (((d.inc Fld.TILE_TRAPS_CONTAIN 1).setCmd e
        { d.cmd e with st := .ended, status := 0x0604, result := 0 }).setThr h t.givenUp).setCmd (pastEntry h) Cmd.reset)) ∧
      (t.rel = true → exec i s = .next (s.onDev fun d => (d.setThr h t.givenUp).setCmd (pastEntry h) Cmd.reset))

/-- CIPHER_ENCRYPT, CIPHER_DECRYPT, GHASH, NONCE, WINDOW_COMMIT_DURABLE, NEED_LEASE_RETRY, LEASE_TAKE, LEASE_EXPIRY, WARDEN_LEASE_GRANT, CORE_DISPATCH,
CORE_SELFTEST_DONE (R185 to R199). -/
def Obligations.CipherClusterServesRequests : Prop :=
  ∀ (s : State) (d : Dev) (h tk : Nat) (r : Req), d = s.chip.dev →
    (∀ x ∈ [(1, fun m => Instr.cipherEncrypt h tk m), (2, fun m => .cipherDecrypt h tk m), (3, fun m => .ghash h tk m)], ∀ m k d1,
      d.sentTo 1 x.1 h tk = some r → d.lockStatus = none → d.noCore = false → d.ciph.queue.length < 4096 → d.keyFetch h r.part r.key m = (d1, .ok k) →
      cipherAttrOk x.1 k.attr = true → usesLeft k.attr = true → r.cipherFields (d.thr h) (d.thrCmd h) (blockLen (aAlg k.attr)) = none →
      exec (x.2 m) s = .next (s.onDev fun _ =>
        let y := (d1.takeUse k).modThr h fun t => setTok t tk (.queued r k.key k.attr (d1.takeUse k).seq.toNat)
        let y := y.modThr h fun t => if r.srck = 3 then { t with seqBlocks := t.seqBlocks + r.count } else t
        { y with ciph := { y.ciph with queue := y.ciph.queue ++ [(16 * h + tk, 0)] } })) ∧
    (d.sentTo 1 4 h tk = some r → d.ciph.waitNonce.contains (16 * h + tk) = false → d.lockStatus = none → r.formOk [0] [0] = true → r.count = 1 →
      (d.valuesLeft ≠ 0 → d.bit Fld.CIPH_NONCE_ID_VALID = true → d.nonceNext < d.mark → exec (.nonce h tk) s = .next (s.onDev fun d =>
        let bs := beBytes 4 (d.rd Fld.CIPH_NONCE_ID_ID) ++ beBytes 8 d.nonceNext ++ [0, 0, 0, 0]
        let ws := bytesWords bs .plain
        let d1 := d.tokDone h tk r ⟨0, ws.getD 0 GWord.zero, ws.getD 1 GWord.zero⟩
        let d2 := d1.wr Fld.CIPH_NONCE_NEXT_NEXT (d1.nonceNext + 1)
        if d2.valuesLeft = 0 then d2.nextLease else d2.windowDue)) ∧
      (d.valuesLeft ≠ 0 → d.bit Fld.CIPH_NONCE_ID_VALID = true → d.mark ≤ d.nonceNext → exec (.nonce h tk) s = .next (s.onDev fun d =>
        { d with ciph := { d.ciph with waitNonce := d.ciph.waitNonce ++ [16 * h + tk] } }.windowDue)) ∧
      (d.valuesLeft = 0 ∨ d.bit Fld.CIPH_NONCE_ID_VALID = false → exec (.nonce h tk) s = .next (s.onDev fun d =>
        (d.inc Fld.CIPH_COUNTS_EXHAUSTED 1).tokFail h tk r 0x0403))) ∧
    (∀ id, d.ciph.commitOp = some id → d.nvs.failed.contains id = false → d.nvsDurable id = true → d.activeValid = true → d.ciph.commitMark = d.mark + 4096 →
      exec .windowCommitDurable s = .next (s.onDev fun d =>
        ((({ d with ciph := { d.ciph with commitOp := none } } : Dev).wr Fld.CIPH_JOURNAL_MARK_MARK (d.mark + 4096)).forWaiting Dev.nonceServe Dev.libAgain).windowDue)) ∧
    (d.valuesLeft = 0 → d.nextValid = false → d.ciph.commitOp = none → exec .needLeaseRetry s = .next (s.onDev fun d =>
      let d1 := d.askRecord 2 0 3 0 (leBytes 8 (2 ^ 64 - 1) ++ leBytes 8 d.mark ++ leBytes 8 1)
      { d1 with ciph := { d1.ciph with commitOp := some d.nvs.nextOp, commitMark := d.mark } })) ∧
    (∀ l g, d.grantOf l = some g → grantLease g = l →
      (d.activeValid = true → d.activeLease = l → exec (.leaseTake l) s = .next (s.onDev fun d => d.wr Fld.CIPH_LEASE_EXPIRY_SECONDS (grantExpiry g))) ∧
      (d.nextValid = false → d.ciph.burned.contains l = false → grantExpiry g ≠ 1 → (d.activeValid = true → d.activeLease < l) → d.mark ≤ leaseFirst l →
        d.valuesLeft ≠ 0 → (((d.wr Fld.CIPH_LEASE_NEXT_NUMBER l).wr Fld.CIPH_LEASE_NEXT_VALID 1).eventAt Fld.CIPH_LEASE_EVSEQ_SEQ).valuesLeft ≠ 0 →
        exec (.leaseTake l) s = .next (s.onDev fun d =>
          let d1 := ((d.wr Fld.CIPH_LEASE_NEXT_NUMBER l).wr Fld.CIPH_LEASE_NEXT_VALID 1).eventAt Fld.CIPH_LEASE_EVSEQ_SEQ
          { d1 with ciph := { d1.ciph with nextId := grantId g, nextBond := grantBond g, nextExpiry := grantExpiry g } }))) ∧
    (d.activeValid = true → d.nextValid = false → expired s.chip.bd.timeValid s.chip.seconds (d.rd Fld.CIPH_LEASE_EXPIRY_SECONDS) = true →
      exec .leaseExpiry s = .next (s.onDev fun d =>
        let d1 := (d.inc Fld.CIPH_COUNTS_BURNED 1).eventAt Fld.CIPH_LEASE_EVSEQ_SEQ
        let d2 : Dev := { d1 with ciph := { d1.ciph with burned := d1.ciph.burned ++ [d.activeLease] } }
        d2.nextLease.forWaiting Dev.nonceServe Dev.libAgain)) ∧
    (∀ w, d.newestRec 0 3 0 = some w → leAt w.payload 16 8 % 2 = 1 → d.ciph.answered < w.seq → d.nextValid = false → d.rd Fld.MTR_EPOCH_MEMBER_ID = 0 → d.enrolled = false →
      d.nvsRefuses (.increment 1) = false → d.nvs.frozen = false → d.ctrDamaged 1 = false → exec .wardenLeaseGrant s = .next (s.onDev fun d =>
        let d1 := { d with ciph := { d.ciph with answered := w.seq } }.nvsNow (.increment 1)
        let l := d1.ctrValue 1
        d1.nvsNow (.record ⟨0, 2, l % 2 ^ 32, leBytes 8 l ++ leBytes 4 d1.ownNonceId ++ leBytes 4 0 ++ leBytes 8 0 ++ List.replicate 8 0, 0, 0, true, false⟩))) ∧
    (∀ c e key attr area par k, d.coreAvailable c = true → d.pickEntry (tget (fun _ => none) d.ciph.cache c) = some e → h = e / 16 → tk = e % 16 →
      d.queuedTok h tk = some (r, key, attr) → (d.thr h).cmd.isNone = false →
      (r.areaReads 8 = [] ∨ area.length = dInLen (d.thrCmd h).desc ∧ d.canSend r.part = true) → d.sliceBad h r (blockLen (aAlg attr)) = false →
      let d1 : Dev := { d with ciph := { d.ciph with queue := dequeue d.ciph.queue e, cache := tput (fun _ => none) d.ciph.cache c (some (reqTag r)) } }
      (par = 0 → r.eng ≠ 4 → r.op ≠ 3 → exec (.coreDispatch c area par k) s = .next (s.onDev fun _ =>
        let x := runBlocks (cipherBlock r key attr (d1.thr h) area) r.count 0
        (d1.readAreas h r.part (r.areaReads (blockLen (aAlg attr)))).cipherResult h tk r (blockLen (aAlg attr)) x.1 x.2)) ∧
      (par = 0 → r.eng ≠ 4 → r.op = 3 → exec (.coreDispatch c area par k) s = .next (s.onDev fun _ =>
        let t := d1.thr h
        let d2 := d1.readAreas h r.part (r.areaReads (blockLen (aAlg attr)))
        let x := runGhash r (Config.aesEnc key 0) t area r.count 0 (bytesBv 128 (wordsBytes (r.accIn t))) (anyGlazed (r.accIn t))
        let ws := bytesWords (bvBytes 16 x.1) (if x.2.1 then .glazed else .plain)
        match (badWord (r.accIn t)).or x.2.2 with
        | some st => d2.tokFail h tk r st
        | none => d2.tokDone h tk r ⟨0, ws.getD 0 GWord.zero, ws.getD 1 GWord.zero⟩)) ∧
      (par ≠ 0 → exec (.coreDispatch c area par k) s = .next (s.onDev fun _ => (d1.coreRun h tk r key attr area par k).coreFault c par))) ∧
    (∀ c, (d.rd Fld.CIPH_SELFTEST_SELFTEST).testBit c = true →
      exec (.coreSelftestDone c true) s = .next (s.onDev fun d => (d.setBit Fld.CIPH_SELFTEST_SELFTEST c false).setBit Fld.CIPH_AVAIL_AVAIL c true) ∧
      exec (.coreSelftestDone c false) s = .next (s.onDev fun d =>
        (((((d.setBit Fld.CIPH_SELFTEST_SELFTEST c false).wr Fld.CIPH_FAULT_CORE c).wr Fld.CIPH_FAULT_CAUSE 3).wr Fld.CIPH_FAULT_PERMANENT 1).eventAt
          Fld.CIPH_FAULT_EVSEQ_SEQ).setBit Fld.CIPH_RETIRED_RETIRED c true))

/-- SHA_256, SHA_384, SHA_512, SHA3_256, SHA3_384, SHA3_512, SHAKE128, SHAKE256, HASH_SQUEEZE, HASH_ENGINE_DISPATCH, HPK_SELFTEST_DONE (R204 to R209,
R221). -/
def Obligations.HashRequestsAreQueuedAndRun : Prop :=
  ∀ (s : State) (d : Dev) (h tk : Nat) (r : Req), d = s.chip.dev →
    (∀ x ∈ [(1, Instr.sha256 h tk), (2, .sha384 h tk), (3, .sha512 h tk), (4, .sha3256 h tk), (5, .sha3384 h tk), (6, .sha3512 h tk), (7, .shake128 h tk),
        (8, .shake256 h tk)], d.sentTo 2 x.1 h tk = some r → hashSqueeze r = false → d.lockStatus = none → d.hpkServes r = true → d.queueFull r = false →
      r.hashRefusal (d.thr h) = none → exec x.2 s = .next (s.onDev fun d =>
        let y := d.modThr h fun t => setTok t tk (.queued r [] 0 s.chip.dev.seq.toNat)
        if x.1 ≤ 3 then { y with hpk := { y.hpk with sha2 := y.hpk.sha2 ++ [16 * h + tk] } }
        else { y with hpk := { y.hpk with sha3 := y.hpk.sha3 ++ [16 * h + tk] } })) ∧
    (d.sentTok h tk = some r → r.eng = 2 → r.op = 7 ∨ r.op = 8 → d.recordWaits h r = false → hashSqueeze r = true → d.lockStatus = none →
      d.hpkServes r = true → d.queueFull r = false → r.hashRefusal (d.thr h) = none → exec (.hashSqueeze h tk) s = .next (s.onDev fun d =>
        let y := d.modThr h fun t => setTok t tk (.queued r [] 0 s.chip.dev.seq.toNat)
        { y with hpk := { y.hpk with sha3 := y.hpk.sha3 ++ [16 * h + tk] } })) ∧
    (∀ u area e rest key a, u < 20 → d.unitAvailable u = true → (if u ≤ 15 then d.hpk.sha2 else d.hpk.sha3) = e :: rest → h = e / 16 → tk = e % 16 →
      d.queuedTok h tk = some (r, key, a) → (d.thr h).cmd.isNone = false → (r.srck = 2 → area.length = dInLen (d.thrCmd h).desc ∧ d.canSend r.part = true) →
      d.sliceBad h r 1 = false →
      let d0 : Dev := { d with hpk := if u ≤ 15 then { d.hpk with sha2 := rest } else { d.hpk with sha3 := rest } }
      let d1 := if r.srck = 2 && r.count != 0 then d0.readAreas h r.part [(r.srcOff, r.count)] else d0
      let t := d0.thr h
      let src := if r.srck = 1 then sliceWords t r.srcOff r.count else []
      let st := sliceWords t r.dstOff 256
      let msg := if r.srck = 1 then (wordsBytes src).take r.count else if r.srck = 2 then slice area r.srcOff r.count else []
      exec (.hashEngineDispatch u area true) s = .next (s.onDev fun _ => (d1.tokFail h tk r 0x0601).unitFault u 4) ∧
      (badWord (src ++ (if hashFirst r then [] else st)) = none → exec (.hashEngineDispatch u area false) s = .next (s.onDev fun _ =>
        (d1.toSlice h r.dstOff (bytesWords (hashState r t msg) (if anyGlazed (src ++ st) then .glazed else .plain))).tokDone h tk r
          ⟨0, .plain 256, GWord.zero⟩))) ∧
    (∀ u, (d.rd Fld.HPK_SELFTEST_SELFTEST).testBit u = true →
      exec (.hpkSelftestDone u true) s = .next (s.onDev fun d => (d.setBit Fld.HPK_SELFTEST_SELFTEST u false).setBit Fld.HPK_AVAIL_AVAIL u true) ∧
      exec (.hpkSelftestDone u false) s = .next (s.onDev fun d =>
        (((((d.setBit Fld.HPK_SELFTEST_SELFTEST u false).wr Fld.HPK_FAULT_UNIT u).wr Fld.HPK_FAULT_CAUSE 6).wr Fld.HPK_FAULT_PERMANENT 1).eventAt
          Fld.HPK_FAULT_EVSEQ_SEQ).setBit Fld.HPK_RETIRED_RETIRED u true))

/-- The seventeen PKL requests, PKL_UNIT_DISPATCH, PKL_CLOCK_GATE, PKL_CLOCK_RESTART (R204, R210 to R217, R219 to R221). -/
def Obligations.PklRequestsAreQueuedAndRun : Prop :=
  ∀ (s : State) (d : Dev) (h tk : Nat) (r : Req), d = s.chip.dev →
    (∀ m, ∀ x ∈ [(0x01, Instr.pklRsaPrivate h tk m), (0x02, .pklRsaPublic h tk m), (0x03, .pklEcdsaSign h tk m), (0x04, .pklEcdsaVerify h tk m),
        (0x05, .pklEcKeyGeneration h tk m), (0x06, .pklEcdh h tk m), (0x07, .pklEd25519Sign h tk m), (0x08, .pklEd25519Verify h tk m), (0x09, .pklX25519 h tk m),
        (0x0A, .pklMlkemKeyGeneration h tk m), (0x0B, .pklMlkemEncapsulation h tk m), (0x0C, .pklMlkemDecapsulation h tk m), (0x0D, .pklMldsaSign h tk m),
        (0x0E, .pklMldsaVerify h tk m), (0x10, .pklRawModularMultiply h tk m), (0x11, .pklRawNtt h tk m), (0x12, .pklRawInverseNtt h tk m)], ∀ k d1 d2,
      d.sentTo 3 x.1 h tk = some r → d.lockStatus = none → d.hpkServes r = true → d.queueFull r = false → d.pklKey h r (m % 512) = (d1, .ok k) →
      d.sliceBad h r 1 = false → r.pklRefusal (d.thr h) (d.thrCmd h) = none → badWord ((sliceWords (d.thr h) r.srcOff r.count).drop (if pklTargeted x.1 then 1 else 0)) = none →
      (if pklTargeted x.1 then d1.targetCheck r.part (pklHdr (d.thr h) r.srcOff).target.data (m / 512) else (d1, none)) = (d2, none) →
      exec x.2 s = .next (s.onDev fun _ =>
        let y := (d2.takeUse k).modThr h fun t => setTok t tk (.queued r k.key k.attr (d2.takeUse k).seq.toNat)
        let wake := y.hpk.restarting || y.bit Fld.HPK_STATUS_PKL_GATED
        if laneOp x.1 then { y with hpk := { y.hpk with lane := y.hpk.lane ++ [16 * h + tk], restarting := wake } }
        else { y with hpk := { y.hpk with ntt := y.hpk.ntt ++ [16 * h + tk], restarting := wake } })) ∧
    (∀ u area e rest key a (p : PklHdr), 20 ≤ u → u < 32 → d.unitAvailable u = true → d.bit Fld.HPK_STATUS_PKL_GATED = false →
      (if u ≤ 27 then d.hpk.lane else d.hpk.ntt) = e :: rest → h = e / 16 → tk = e % 16 → d.queuedTok h tk = some (r, key, a) →
      p = pklHdr (d.thr h) r.srcOff → (d.thr h).cmd.isNone = false → d.xks.waiting = false →
      d.sliceBad h r 1 = false →
      let reads := p.msgSrc == 1 && pklMessage r.op
      (reads = true → area.length = dInLen (d.thrCmd h).desc ∧ d.canSend r.part = true) →
      let d0 : Dev := { d with hpk := if u ≤ 27 then { d.hpk with lane := rest } else { d.hpk with ntt := rest } }
      let d1 := if d0.hpk.lane.isEmpty && d0.hpk.ntt.isEmpty then d0.boundary Fld.HPK_CFG_GATE_IDLE.reg else d0
      let d2 := if reads then d1.readAreas h r.part [(p.msgOff, p.msgLen)] else d1
      (∀ cause f, r.pklFaults (d.thr h) key (cause % 4) = f → f ≠ 0 →
        exec (.pklUnitDispatch u area cause) s = .next (s.onDev fun _ => (d2.tokFail h tk r 0x0601).unitFault u f)) ∧
      (∀ m, r.pklFaults (d.thr h) key 0 = 0 → r.pklReread (d.thr h) (d.thrCmd h) = none → (pklDraws r.op p = true → d.rngFailed = false ∧ d.fillWaits = false) →
        exec (.pklUnitDispatch u area (4 * m)) s = .next (s.onDev fun _ =>
        let hd := pklHdr (d2.thr h) r.srcOff
        let d3 := if pklDraws r.op hd then d2.draw 1 1 66 else d2
        let ws := sliceWords (d2.thr h) r.srcOff r.count
        let n := pklResLen r.op r.mode hd.limbs
        (match pklCompute r.op r.mode ((wordsBytes ws).take r.count ++ (if reads then slice area p.msgOff p.msgLen else [])) key
            (if pklDraws r.op hd then Config.freeBytes (d3.nfree - 1) 66 else []) with
          | none => d3.tokFail h tk r 0x0303
          | some out => if pklTargeted r.op = false then d3.deliver h tk r (bytesWords (slice out 0 n) (pklTag r.op ws)) n
            else match d3.targetCheck r.part hd.target.data m with
              | (d3, some st) => d3.tokFail h tk r st
              | (d3, none) =>
                let i := hRec hd.target.data
                let sl := secretLen r.op r.mode
                let at' := installAttr r.op r.mode r.part hd.usage
                let d4 := d3.setXrec i ⟨slice out 0 sl, at', ((d3.xrec i).gen + 1) % 2 ^ 16, keyCheckValue (aAlg at') (slice out 0 sl)⟩
                (d4.toSlice h r.dstOff (.fresh (mkHandle 2 i (d4.xrec i).gen) .handle :: bytesWords (slice out sl (n - 8)) (pklTag r.op ws))).tokDone h tk r
                  ⟨0, .plain (BitVec.ofNat 64 n), GWord.zero⟩).expandKey u r))) ∧
    (d.hpk.lane = [] → d.hpk.ntt = [] → d.eff Fld.HPK_CFG_GATE_IDLE ≠ 0 → exec .pklClockGate s = .next (s.onDev fun d => d.wr Fld.HPK_STATUS_PKL_GATED 1)) ∧
    (d.hpk.restarting = true → exec .pklClockRestart s = .next (s.onDev fun d =>
      { d.wr Fld.HPK_STATUS_PKL_GATED 0 with hpk := { d.hpk with restarting := false } }))

/-- DERIVE_VALUE, DERIVE_HANDLE, INFO, KEY_GENERATE, KEY_DELETE, KEY_SET_ATTR, KEY_QUERY, VAULT_STAGING, VAULT_COMMIT_VISIBLE, RETIRING_COPY_DRAIN,
FAULTED_SLOT_CLEAR, ROOT_REDERIVATION, VAULT_DERIVATION, and the derivation steps of CORE_DISPATCH (R16, R232, R236, R241 to R249, R421). -/
def Obligations.VaultRequestsAndChangesTakeEffect : Prop :=
  ∀ (s : State) (c : Chip) (d : Dev), c = s.chip → d = c.dev →
    (∀ h tk m r k d1 (data : List Byte) n, d.lockStatus = none → d.ciph.queue.length < 4096 → d.keyFetch h r.part r.key m = (d1, .ok k) →
      data = (wordsBytes [r.rb, r.rb1]).take r.count → aUsage k.attr = 3 → usesLeft k.attr = true → n = deriveSteps (r.mode % 16) data →
      (n ≠ 0 → (d1.takeUse k).blockHeld 1 = false ∧ (d1.takeUse k).noCore = false) →
      let y : Dev := if n = 0 then (d1.takeUse k).deriveDone h tk r k.key k.attr
        else
          let x := (d1.takeUse k).modThr h fun t => setTok t tk (.queued r k.key k.attr (d1.takeUse k).seq.toNat)
          { x with ciph := { x.ciph with queue := x.ciph.queue ++ [(16 * h + tk, 0)], steps := tput (fun _ => 0) x.ciph.steps (16 * h + tk) n } }
      (d.sentTo 4 1 h tk = some r → r.deriveRefusal (aAlg k.attr) (aGlaze k.attr) true (d1.scopedFull h) = none →
        exec (.deriveValue h tk m) s = .next (s.onDev fun _ => y)) ∧
      (d.sentTo 4 2 h tk = some r → r.deriveRefusal (aAlg k.attr) (aGlaze k.attr) false (d1.scopedFull h) = none →
        exec (.deriveHandle h tk m) s = .next (s.onDev fun _ => y))) ∧
    (∀ q e h tk r key attr area k, d.coreAvailable q = true → d.pickEntry (tget (fun _ => none) d.ciph.cache q) = some e → h = e / 16 → tk = e % 16 →
      d.queuedTok h tk = some (r, key, attr) → (d.thr h).cmd.isNone = false → r.eng = 4 → r.areaReads 8 = [] → r.areaReads (blockLen (aAlg attr)) = [] →
      d.sliceBad h r (blockLen (aAlg attr)) = false → exec (.coreDispatch q area 0 k) s = .next (s.onDev fun _ =>
        let n := tget (fun _ => 0) d.ciph.steps e
        let x0 : Dev := { d with ciph := { d.ciph with queue := dequeue d.ciph.queue e, cache := tput (fun _ => none) d.ciph.cache q (some (reqTag r)) } }
        let x : Dev := { x0 with ciph := { x0.ciph with steps := tput (fun _ => 0) x0.ciph.steps e (n - 1) } }
        if 1 < n then { x with ciph := { x.ciph with queue := x.ciph.queue ++ [(e, 0)] } } else x.deriveDone h tk r key attr)) ∧
    (∀ (x : Dev) h tk (r : Req) key attr (data : List Byte), data = (wordsBytes [r.rb, r.rb1]).take r.count →
      (r.op = 1 → x.deriveDone h tk r key attr =
        let out := (deriveBytes (r.mode % 16) (aAlg attr) key data).take 16
        let ws := bytesWords (slice out 0 16) .glazed
        x.tokDone h tk r ⟨0, ws.getD 0 GWord.zero, if out.length ≤ 8 then .fresh 0 .glazed else ws.getD 1 GWord.zero⟩) ∧
      (∀ i alg child gen, r.op = 2 → x.scopedFree h = some i → alg = childAlg (r.mode % 16) (aAlg attr) data →
        child = storedKey alg ((deriveBytes (r.mode % 16) (aAlg attr) key data).take (algBytes alg)) → gen = ((x.slot i).gen + 1) % 2 ^ 16 →
        x.deriveDone h tk r key attr =
          if alg = 4 ∧ tdeaEqual child = true then x.tokFail h tk r 0x0203
          else
            let a := BitVec.ofNat 64 (alg + r.mode / 16 * 2 ^ 8 + (childGlaze (r.mode % 16) data).toNat * 2 ^ 10 + 2 ^ 14 + 2 ^ 15 + aPart attr * 2 ^ 16)
            (x.setSlot i ⟨child, a, gen, keyCheckValue alg child⟩).tokDone h tk r ⟨0, .fresh (mkHandle 1 i gen) .handle, GWord.zero⟩)) ∧
    (∀ h tk m r k d1, d.sentTo 4 3 h tk = some r → d.lockStatus = none → d.keyFetch h r.part r.key m = (d1, .ok k) → r.formOk [0] [0] = true → r.mode = 0 →
      r.count = 0 → exec (.info h tk m) s = .next (s.onDev fun _ => d1.tokDone h tk r ⟨0, .plain k.attr, .plain (d1.kcvOf k)⟩)) ∧
    (∀ (r : WReq) (slot : Nat) (a : Word), slot = hSlot (bytesBv 64 (slice r.params 0 8)) → a = ownAttr r.requester (bytesBv 64 (slice r.params 8 8)) →
      (c.Serves 0x0301 false r → d.keyReqCheck r true true = none → loadAttrOk slot a = true → d.rngFailed = false → d.rngServes 0 = true → d.canAudit = true →
        exec .keyGenerate s = .next (s.setChip (
          let c1 := c.auditReq r 0
          (c1.change r (mkChange slot r.requester (newKey (aAlg a) c1.dev.nfree) a true (aPersistent (c1.dev.slot slot).attr || aPersistent a) 1)).onDev
            fun d => d.draw 0 2 (algBytes (aAlg a))))) ∧
      (c.Serves 0x0302 false r → d.keyReqCheck r true false = none → aPresent (d.slot slot).attr = true → d.canAudit = true →
        exec .keyDelete s = .next (s.setChip ((c.auditReq r 0).change r
          (mkChange slot (aPart (d.slot slot).attr) [] 0 true (aPersistent (d.slot slot).attr) 1)))) ∧
      (c.Serves 0x0303 false r → d.keyReqCheck r true true = none → aPresent (d.slot slot).attr = true → loadAttrOk slot a = true →
        setAttrOk slot (d.slot slot).attr a = true → d.canAudit = true → exec .keySetAttr s = .next (s.setChip ((c.auditReq r 0).change r
          (mkChange slot r.requester (d.slot slot).key a (aPersistent (d.slot slot).attr != aPersistent a) (aPersistent (d.slot slot).attr || aPersistent a) 1)))) ∧
      (c.Serves 0x0304 true r → d.keyReqCheck r false false = none → exec .keyQuery s = .next (s.setChip (c.reply r 0
        (bvBytes 8 (mkHandle 1 slot (d.slot slot).gen) ++ bvBytes 8 (d.slot slot).attr ++ bvBytes 8 (d.slot slot).kcv))))) ∧
    (∀ e v rest, d.vlt.waiting = v :: rest → e < 4096 → d.vstageUsed e = false →
      let d1 : Dev := { d with vlt := { d.vlt with waiting := rest } }
      (d.bondHolds v = false → v.persist = false → exec (.vaultStaging e) s = .next (s.setChip
        ((c.onDev fun _ => (d1.setVstage e { v with phase := .staged }).txNext).answerAll))) ∧
      (d.bondHolds v = false → v.persist = true → d.vlt.roots.kek = false → exec (.vaultStaging e) s = .next (s.setChip
        ((c.onDev fun _ => ((d1.changeDrop e).noteAnswer v 0x0703).txNext).answerAll))) ∧
      (d.bondHolds v = false → v.persist = true → d.vlt.roots.kek = true → exec (.vaultStaging e) s = .next (s.setChip
        ((c.onDev fun _ => (let x := d1.changeRecord e v
          if x.nvs.failed.contains (x.vstage e).op then (x.changeDrop e).noteAnswer v 0x0401 else x).txNext).answerAll))) ∧
      (d.bondHolds v = true → v.origin = 1 → exec (.vaultStaging e) s = .next (s.setChip
        ((c.onDev fun _ => (d1.setVstage e { v with phase := .bond }).txNext).answerAll))) ∧
      (d.bondHolds v = true → v.origin = 2 → exec (.vaultStaging e) s = .next (s.setChip
        ((c.onDev fun _ => ((d1.setVstage e { v with phase := .bond }).preparedHere e).txNext).answerAll)))) ∧
    (∀ e v, v = d.vstage e → d.vstageUsed e = true → d.changeReady v = true → exec (.vaultCommitVisible e) s = .next (s.setChip
      (let d1 := d.setSlot v.slot { v.new with gen := d.changeGen v }
       let d2 : Dev := { d1 with vlt := { d1.vlt with faulted := tput (fun _ => false) d1.vlt.faulted v.slot false } }
       let d3 := (d2.eventAt Fld.VLT_EVSEQ_SEQ).inc Fld.VLT_CHANGES_COMMITTED 1
       let d4 := d3.setVstage e { v with phase := .retiring, old := d.slot v.slot, commitSeq := d3.seq.toNat }
       (c.onDev fun _ => d4.noteAnswer v 0).answerAll.onDev Dev.txNext))) ∧
    (∀ e v, v = d.vstage e → v.phase = .retiring → d.slotInUse v.slot v.old.gen v.commitSeq = false → exec (.retiringCopyDrain e) s = .next (s.onDev fun d =>
      let d1 := d.setVstage e VStage.reset
      { d1 with ciph := { d1.ciph with cache := d1.ciph.cache.filter fun x => match x.2 with | some t => !t.ofSlot v.slot v.old.gen | none => true },
                hpk := { d1.hpk with ntCache := tmap (fun _ => []) (fun _ l => l.filter fun t => !t.ofSlot v.slot v.old.gen) d1.hpk.ntCache } })) ∧
    (∀ i, tget (fun _ => false) d.vlt.faulted i = true →
      (d.vlt.waiting ++ d.vlt.staging.map Prod.snd).any (fun v => v.slot == i && v.phase != .retiring) = false → aPersistent (d.slot i).attr = false →
      exec (.faultedSlotClear i) s = .next (s.onDev fun d =>
        { d with vlt := { d.vlt with waiting := d.vlt.waiting ++ [mkChange i (aPart (d.slot i).attr) [] 0 true false 0] } })) ∧
    (d.tmp.erasing = true ∨ d.tmp.erased = true → d.vlt.roots.storage = false → exec .rootRederivation s = .next (s.onDev fun d =>
      (({ d with vlt := { d.vlt with roots := { d.vlt.roots with storage := true, attest := true, mortar := true } } } : Dev).wr Fld.VLT_STATUS_DERIVED 1).wr
        Fld.VLT_STATUS_BK_PRESENT 0)) ∧
    (d.atStep 6 = true → d.bit Fld.VLT_STATUS_DERIVED = false → exec .vaultDerivation s = .next (s.onDev fun d =>
      let d1 := (d.wr Fld.VLT_STATUS_TEST_ROOT (c.lifecycle == 4).toNat).deriveFree
      let d2 := match c.bd.bk with
        | some n => ({ d1 with vlt := { d1.vlt with roots := { d1.vlt.roots with kek := true, partmk := true, bk := n } } } : Dev).wr Fld.VLT_STATUS_BK_PRESENT 1
        | none => d1.wr Fld.VLT_STATUS_BK_PRESENT 0
      let d3 := if d.plt.fresh = false then d2
        else if d2.rngState = rngFailedSt then
          ({ d2 with vlt := { d2.vlt with roots := { d2.vlt.roots with xks := false, salt := none } } } : Dev).wr Fld.VLT_STATUS_NO_XKS_KEY 1
        else (({ d2 with vlt := { d2.vlt with roots := { d2.vlt.roots with xks := true, salt := some d2.nfree } } } : Dev).wr
          Fld.VLT_STATUS_NO_XKS_KEY 0).draw 0 1 32
      (d3.wr Fld.VLT_STATUS_DERIVED 1).wr Fld.PLT_RESET_STATUS_STEP 7))

/-- LOOKUP, HOST_READ, HOST_WRITE, HOST_FILL, XKS_SAVE, XKS_LOAD, XKS_COPY, XKS_DELETE, XKS_TRANSFER_END, DRAM_PLL_UNLOCK, DRAM_PLL_RELOCK,
DRAM_RELOCK_TIMEOUT, DRAM_TRAINING (R136, R173, R174, R251, R256, R258, R262 to R265, R270, R414). -/
def Obligations.StoreAndHostRequestsTakeEffect : Prop :=
  ∀ (s : State) (d : Dev) (h tk : Nat) (r : Req), d = s.chip.dev →
    (∀ m loc k d1, d.sentTo 5 1 h tk = some r → d.lockStatus = none → r.formOk [0] [0] = true → r.mode = 0 → r.count = 0 → getF r.rb.data 27 5 = 0 →
      getF r.rb.data 48 16 = 0 → d.bit Fld.XKS_STATUS_NO_KEY = false →
      d.keyFetch h r.part (mkHandle 2 (getF r.rb.data 0 27) (getF r.rb.data 32 16)) (m + 4 * loc) = (d1, .ok k) →
      exec (.lookup h tk m loc) s = .next (s.onDev fun _ =>
        d1.tokDone h tk r ⟨0, .fresh (mkHandle 2 (getF r.rb.data 0 27) (getF r.rb.data 32 16)) .handle, GWord.zero⟩)) ∧
    (∀ bs, d.sentTo 6 1 h tk = some r → r.hostRefusal = none → bs.length = r.count → d.canSend r.part = true →
      exec (.hostRead h tk bs) s = .next (s.onDev fun d =>
        ((d.emit (.memRead r.part (dInAddr (d.thrCmd h).desc + r.srcOff) r.count)).toSlice h r.dstOff (bytesWords bs .plain)).tokDone h tk r
          ⟨0, .plain (BitVec.ofNat 64 r.count), GWord.zero⟩)) ∧
    (∀ ws, d.sentTo 6 2 h tk = some r → r.hostRefusal = none → d.sliceBad h r 1 = false → ws = (if r.srck = 0 then [r.rb, r.rb1] else sliceWords (d.thr h) r.srcOff r.count) →
      (∀ w ∈ ws, w.tag = .plain) → exec (.hostWrite h tk) s = .next (s.onDev fun d =>
        d.modThr h fun t => setTok t tk (.done ⟨0, .plain (BitVec.ofNat 64 r.count), GWord.zero⟩ r.epoch (.output r.dstOff ((wordsBytes ws).take r.count))))) ∧
    (d.sentTo 7 1 h tk = some r → r.formOk [0] [2] = true → 8 ≤ r.count → r.count ≤ 1048576 → r.count % 8 = 0 → d.rngFailed = false → d.lockStatus = none →
      d.rngReady 2 = true → r.mode = 0 → d.rngServes 2 = true → exec (.hostFill h tk) s = .next (s.onDev fun d =>
        (d.draw 2 1 r.count).modThr h fun t => setTok t tk (.done ⟨0, .plain (BitVec.ofNat 64 r.count), GWord.zero⟩ r.epoch
          (.output r.dstOff (Config.freeBytes d.nfree r.count))))) ∧
    (d.sentTo 7 1 h tk = some r → r.formOk [0] [2] = true → 8 ≤ r.count → r.count ≤ 1048576 → r.count % 8 = 0 → d.rngFailed = false → d.lockStatus = none →
      d.rngReady 2 = true → r.mode = 1 → d.rng.hostDone.contains (16 * r.order + tk) = true → exec (.hostFill h tk) s = .next (s.onDev fun d =>
        (({ d with rng := { d.rng with hostDone := d.rng.hostDone.filter (· != 16 * r.order + tk) } } : Dev).draw 2 1 r.count).modThr h fun t =>
          setTok t tk (.done ⟨0, .plain (BitVec.ofNat 64 r.count), GWord.zero⟩ r.epoch (.output r.dstOff (Config.freeBytes d.nfree r.count))))) ∧
    (∀ n i m d0 d1, n = d.rd Fld.XKS_XFER_CTRL_PARTITION → i = d.rd Fld.XKS_XFER_RANGE_FIRST + d.xks.xfer → d.xferRead i m = (d1, true) →
      d0 = d.emit (.memRead 0 (16 * d.rd Fld.XKS_XFER_ADDR_ADDR + 144 * d.xks.xfer) 144) →
      (d.xferRuns 1 = true → d.vlt.roots.partmk = true → exec (.xksSave m) s = .next (s.onDev fun d =>
        (d1.send 0 (.memWrite 0 (16 * d.rd Fld.XKS_XFER_ADDR_ADDR + 144 * d.xks.xfer) (d.recordImage n i))).xferNext 1)) ∧
      (d.xferRuns 2 = true → d.canSend 0 = true → ∀ img d1, d0.xferRead i m = (d1, true) →
        exec (.xksLoad (some img) m) s = .next (s.onDev fun _ => match d0.openImage n i img with
        | none => (d0.inc Fld.XKS_XFER_STATUS_REJECTED 1).xferNext 0
        | some p =>
          if aPresent (d1.xrec i).attr then (d1.inc Fld.XKS_XFER_STATUS_SKIPPED 1).xferNext 0
          else
            let attr := bytesBv 64 (slice p 0 8)
            let gen := leAt img 4 2
            (d1.xksWrite i n ((slice p 0x18 72).take (algBytes (aAlg attr))) attr (bytesBv 64 (slice p 0x10 8))
              (if (d1.xrec i).gen < gen then gen else (d1.xrec i).gen + 1)).xferNext 1)) ∧
      (d.xferRuns 4 = true → (d1.xrec i).gen = d.rd Fld.XKS_XFER_RANGE_GEN →
        exec (.xksDelete m) s = .next (s.onDev fun _ => (d1.xksWrite i n [] 0 0 ((d1.xrec i).gen + 1)).xferNext 1))) ∧
    (d.xferRuns 2 = true → d.canSend 0 = true → ∀ m, exec (.xksLoad none m) s = .next (s.onDev fun d =>
      ((d.emit (.memRead 0 (16 * d.rd Fld.XKS_XFER_ADDR_ADDR + 144 * d.xks.xfer) 144)).emit (.aer 0)).xferError 4)) ∧
    (∀ n i m m1 hd x d1 d2, n = d.rd Fld.XKS_XFER_CTRL_PARTITION → i = d.rd Fld.XKS_XFER_RANGE_FIRST + d.xks.xfer → hd = d.reg Fld.XKS_XFER_SLOT_HANDLE.reg →
      d.xferRuns 3 = true → d.copySource n hd = some x → d.slotRead hd m = (d1, none) → d1.xferRead i m1 = (d2, true) →
      (d2.xrec i).gen = d.rd Fld.XKS_XFER_RANGE_GEN → exec (.xksCopy m m1) s = .next (s.onDev fun _ =>
        (d2.xksWrite i n x.key x.attr x.kcv ((d2.xrec i).gen + 1)).xferNext 1)) ∧
    (d.bit Fld.XKS_XFER_STATUS_BUSY = true → d.rd Fld.XKS_XFER_STATUS_ERR ≠ 0 ∨ d.rd Fld.XKS_XFER_COUNT_COUNT ≤ d.xks.xfer →
      exec .xksTransferEnd s = .next (s.onDev fun d => (d.wr Fld.XKS_XFER_STATUS_BUSY 0).eventAt Fld.XKS_XFER_EVSEQ_SEQ)) ∧
    (d.bit Fld.PLT_CLOCKS_DRAM_LOCK = true → exec .dramPllUnlock s = .next (s.onDev fun d =>
      let d1 := ((d.wr Fld.PLT_CLOCKS_DRAM_LOCK 0).inc Fld.PLT_CLOCKS_DRAM_UNLOCKS 1).wr Fld.XKS_STATUS_READY 0
      { d1 with xks := { d1.xks with waiting := true } })) ∧
    (d.bit Fld.PLT_CLOCKS_DRAM_LOCK = false → d.xks.waiting = true ∨ d.xks.relockFailed = true →
      d.bit Fld.XKS_STATUS_NO_KEY = false → d.bit Fld.XKS_STATUS_ERASED = false → d.bit Fld.XKS_STATUS_FAILED = false → d.blockHeld 4 = false →
      let d1 : Dev := { d.wr Fld.PLT_CLOCKS_DRAM_LOCK 1 with xks := { d.xks with waiting := false, relockFailed := false } }
      exec (.dramPllRelock 0) s = .next (s.onDev fun _ => d1.wr Fld.XKS_STATUS_READY 1) ∧
      exec (.dramPllRelock 1) s = .next (s.onDev fun _ => (d1.inc Fld.XKS_COUNTS_REREAD 1).wr Fld.XKS_STATUS_READY 1) ∧
      exec (.dramPllRelock 3) s = .next (s.onDev fun _ => (d1.inc Fld.XKS_COUNTS_LINK_ECC 1).wr Fld.XKS_STATUS_READY 1) ∧
      (∀ m, 4 ≤ m ∨ m = 2 → exec (.dramPllRelock m) s = .next (s.onDev fun _ => d1.xksFail (m / 4 % 8) d1.levels.length 5))) ∧
    (d.xks.waiting = true → exec .dramRelockTimeout s = .next (s.onDev fun d =>
      { d with xks := { d.xks with waiting := false, relockFailed := true } })) ∧
    (∀ gb m, d.atStep 9 = true → d.held = false → exec (.dramTraining gb m) s = .next (s.setChip (s.chip.watch fun c => c.onDev fun d =>
      let d1 : Dev := if d.xks.cap = 0 then { d with xks := { d.xks with cap := gb } } else d
      let d1 := d1.wr Fld.XKS_GEOMETRY_CAPACITY d1.xks.cap
      if d1.cfgFits d1.wdn.config = false then
        ({ d1 with wdn := { d1.wdn with config := [], km := [] }, xks := { d1.xks with held := true } } : Dev).wr Fld.PLT_RESET_STATUS_HELD 1
      else
        let d2 := d1.wr Fld.PLT_CLOCKS_DRAM_LOCK 1
        let same := d2.xks.held = false ∨ d2.xks.fmt = cfgRecords d2.wdn.config ∧ d2.xks.ranges = d2.cfgRanges
        let d3 := if d2.bit Fld.VLT_STATUS_NO_XKS_KEY then d2.wr Fld.XKS_STATUS_NO_KEY 1
          else if d2.bit Fld.XKS_STATUS_ERASED = true ∨ d2.bit Fld.XKS_STATUS_FAILED = true then d2
          else if d2.xks.fmt ≠ 0 ∧ same then d2.reopen m else d2.formatNow
        ({ d3 with xks := { d3.xks with held := false } } : Dev).wr Fld.PLT_RESET_STATUS_STEP 10)))

/-- REPETITION_COUNT_FAIL, ADAPTIVE_PROPORTION_FAIL, STARTUP_TEST_DONE, RETEST_TIMER_EXPIRY, CONDITIONED_BLOCK, DRBG_INSTANTIATE_DONE, DRBG_RESEED_DUE,
DRBG_RESEED_DONE (R268 to R274). -/
def Obligations.NoisePathFollowsItsStates : Prop :=
  ∀ (s : State) (d : Dev) (fails : Nat → Nat → Dev), d = s.chip.dev → (∀ sources test, fails sources test = (
      let z := ((d.rngZero.wr Fld.RNG_HEALTH_FAIL_SOURCE sources).wr Fld.RNG_HEALTH_FAIL_TEST test).inc Fld.RNG_COUNTS_HEALTH_FAILS 1
      let z : Dev := { z with rng := { z.rng with testing := false } }
      let k := z.rd Fld.RNG_HEALTH_RERUNS
      (if k < 3 then ((z.wr Fld.RNG_HEALTH_RERUNS (k + 1)).wr Fld.RNG_HEALTH_STATE 2).eventAt Fld.RNG_EVSEQ_SEQ
        else (z.wr Fld.RNG_HEALTH_STATE 3).eventAt Fld.RNG_EVSEQ_SEQ).randFail.hostFail d.rng.hostWait)) →
    (d.rngTested = true → ∀ src, src < 2 → exec (.repetitionCountFail src) s = .next (s.onDev fun _ => fails (2 ^ src) 1) ∧
      exec (.adaptiveProportionFail src) s = .next (s.onDev fun _ => fails (2 ^ src) 2)) ∧
    ((d.rngState = 0 ∧ d.kilnRuns = true) ∨ (d.rngState = 2 ∧ d.rng.testing = true) →
      (∀ src, exec (.startupTestDone 0 src) s = .next (s.onDev fun d =>
        let z := ((({ d with rng := { d.rng with startup := false, testing := false } } : Dev).wr Fld.RNG_HEALTH_STATE 1).eventAt Fld.RNG_EVSEQ_SEQ)
        { z with rng := { z.rng with needC := true, needD := true, needH := true } })) ∧
      (∀ test src, test ≠ 0 → exec (.startupTestDone test src) s = .next (s.onDev fun _ => fails src test))) ∧
    (d.rngState = 2 → exec .retestTimerExpiry s = .next (s.onDev fun d => { d with rng := { d.rng with testing := true } })) ∧
    (d.rngState = 1 → d.rng.needC = true ∨ d.rng.needD = true → exec .conditionedBlock s = .next (s.onDev fun d =>
      let v := lfsrRun d.rng.lfsr (Config.rawBits d.nfree) 1024
      { d.takeFree with rng := { d.rng with lfsr := v, blocks := (d.rng.blocks ++ [v]).drop (d.rng.blocks.length - 1) } })) ∧
    (∀ (i : Nat) (raw : List Bool) (took : Dev → Dev), d.rngState = 1 →
      ((i = 0 ∧ d.rng.needC = true ∧ d.rng.blocks.length = 2) ∨ (i = 1 ∧ d.rng.needD = true ∧ d.rng.needC = false ∧ d.rng.blocks.length = 2) ∨
        (i = 2 ∧ d.rng.needH = true ∧ d.rng.needC = false ∧ d.rng.needD = false ∧ 512 ≤ (debias (xorPairs raw)).length)) →
      (∀ x : Dev, took x = { x with rng := { x.rng with
        needC := x.rng.needC && i != 0, needD := x.rng.needD && i != 1, needH := x.rng.needH && i != 2, blocks := if i < 2 then [] else x.rng.blocks,
        counted := if i < 2 then x.rng.counted else false, calls := tput (fun _ => 0) x.rng.calls i 0, buf := tput (fun _ => 0) x.rng.buf i 0 } }) →
      (d.rngReady i = false → exec (.drbgInstantiateDone (i, raw)) s = .next (s.onDev fun d => (took d).wr (instReady i) 1)) ∧
      (d.rngReady i = true → exec (.drbgReseedDone (i, raw)) s = .next (s.onDev fun d =>
        if i < 2 then took d else { took d with rng := { (took d).rng with hostDone := d.rng.hostDone ++ d.rng.hostWait, hostWait := [] } }))) ∧
    (∀ i z, 65536 ≤ tget (fun _ => 0) d.rng.calls i → d.rngReady i = true →
      (i = 0 ∧ d.rng.needC = false ∧ z = { d with rng := { d.rng with needC := true } }) ∨
        (i = 1 ∧ d.rng.needD = false ∧ z = { d with rng := { d.rng with needD := true } }) ∨
        (i = 2 ∧ d.rng.needH = false ∧ z = { d with rng := { d.rng with needH := true } }) →
      exec (.drbgReseedDue i) s = .next (s.onDev fun _ =>
        if (z.rng.needC = true ∨ z.rng.needD = true) ∧ z.rng.needH = true ∧ z.rngReady 2 = true ∧ z.rng.counted = false then
          { z.inc Fld.RNG_COUNTS_HOST_WAITS 1 with rng := { z.rng with counted := true } }
        else z))

/-- NVS_RECORD_WRITE, NVS_OPERATION_DONE, COUNTER_INCREMENT, COUNTER_ADD, COUNTER_RAISE, JOURNAL_RECLAIM, NVS_JOURNAL_RECOVERY, LIFETIME_PERIOD,
MRAM_SCRUB, SRAM_SCRUB_PASS (R21, R281, R284 to R299, R420 to R423). -/
def Obligations.StoreOperationsRunToTheirEnd : Prop :=
  ∀ (s : State) (d : Dev), d = s.chip.dev →
    (d.nvs.frozen = false → ∀ k, ∀ x ∈ [(NvOp.isRecord, Instr.nvsRecordWrite k), (NvOp.isIncrement, .counterIncrement k), (NvOp.isAdd, .counterAdd k),
        (NvOp.isRaise, .counterRaise k)], ∀ o, x.1 o = true →
      (d.nvs.cur = none → d.nvsNext = some o → exec x.2 s = .next (s.onDev fun d =>
        { d with nvs := { d.nvs with waiting := d.nvs.waiting.filter (fun w => w.id != o.id), cur := some (o, min k (d.opWords o.kind - 1)) } })) ∧
      (∀ n, d.nvs.cur = some (o, n) → exec x.2 s = .next (s.onDev fun d =>
        { d with nvs := { d.nvs with cur := some (o, max n (min k (d.opWords o.kind - 1))) } }))) ∧
    (∀ o n, d.nvs.frozen = false → d.nvs.cur = some (o, n) →
      let d0 : Dev := { d with nvs := { d.nvs with cur := none } }
      (∀ r, o.kind = .record r → r.region = 0 → exec .nvsOperationDone s = .next (s.onDev fun _ =>
        let seq := d.rd Fld.NVS_RECORD_SEQ_SEQ + 1
        let r1 : Rec := { r with seq := seq, pos := d0.place r, valid := true, test := d.bit Fld.VLT_STATUS_TEST_ROOT }
        let al := if r.type = 5 then d.nvs.alarmRecs ++ [r.payload.take 16] else d.nvs.alarmRecs
        let d1 : Dev := { d0 with nvs := { d0.nvs with recs := d.nvs.recs ++ [r1], alarmRecs := al } }
        (((d1.wr Fld.NVS_RECORD_SEQ_SEQ seq).inc Fld.NVS_COUNTS_RECORDS 1).wr Fld.NVS_JOURNAL_WRITE_POINT ((r1.pos + r1.length) % 0x100000)).journalLive)) ∧
      (∀ r, o.kind = .record r → r.region ≠ 0 → exec .nvsOperationDone s = .next (s.onDev fun _ => d0.recordDone r)) ∧
      (∀ k, o.kind = .increment k → exec .nvsOperationDone s = .next (s.onDev fun _ => (d0.counterDone k (d.blk k).increment).commitDurable o)) ∧
      (∀ k v, o.kind = .add k v → exec .nvsOperationDone s = .next (s.onDev fun _ => d0.counterDone k ((d.blk k).add v))) ∧
      (∀ k v, o.kind = .raise k v → exec .nvsOperationDone s = .next (s.onDev fun _ => d0.counterDone k ((d.blk k).raise v)))) ∧
    (d.bit Fld.NVS_STATUS_RECOVERED = true → d.nvs.frozen = false → d.tmp.erasing = false → exec .journalReclaim s = .next (s.onDev fun d =>
      let d := d.nvsAhead
      let chunk := d.oldestChunk d.reclaimed
      let kept := chunk.filter d.recKept
      let d1 := kept.foldl (fun x r => x.recordDone r) d
      let d2 := (kept.filter (fun r => r.type == 1)).foldl (fun x r => x.writeCopy r.subject r.payload) d1
      { d2 with nvs := { d2.nvs with recs := d2.nvs.recs.filter (fun r => !chunk.contains r) } }.journalLive)) ∧
    (d.atStep 7 = true → d.nvs.frozen = false → exec .nvsJournalRecovery s = .next (s.onDev fun d =>
      let d1 := d.nvsRecover.loadImages d.plt.fresh
      (({ d1 with plt := { d1.plt with fresh := false },
                  ciph := { d1.ciph with answered := d1.grantSeq } } : Dev).imageEpochs.countResets.startChecks).wr Fld.PLT_RESET_STATUS_STEP 8)) ∧
    (d.bit Fld.NVS_STATUS_RECOVERED = true → exec .lifetimePeriod s = .next (s.onDev fun d =>
      let d1 := match d.plt.hottest with | some t => d.lifeAsk (.increment (4096 + tempBin t)) | none => d
      let d2 := d.plt.devs.foldl (fun x e => match e.2 with | some v => x.lifeAsk (.increment (4112 + 8 * e.1 + railBin v)) | none => x) d1
      let d3 := d.plt.life.foldl (fun x e => x.lifeAsk (.add (4096 + e.1) e.2)) d2
      let d4 := (if d.plt.highest = 0 then d3 else d3.lifeAsk (.raise 4636 d.plt.highest)).lifeAsk (.increment 4641)
      { d4 with plt := { d4.plt with hottest := none, devs := [], life := [], highest := 0 } })) ∧
    (∀ n bad, d.bit Fld.NVS_STATUS_RECOVERED = true → exec (.mramScrub n bad) s = .next (s.onDev fun d =>
      bad.foldl (fun x a => x.nvsUncorr a 2) (if n = 0 then d else (d.inc Fld.NVS_COUNTS_CORRECTED n).lifeAdd 282 n))) ∧
    (d.plt.mainOn = true → d.plt.por = false → ∀ xs, exec (.sramScrubPass xs) s = .next (s.setChip (xs.foldl Chip.scrubHit s.chip)))

/-- CORE_RAIL and IO_RAIL on the high side, CLK_FREQ, CLK_GLITCH, TEMP_LOW, TEMP_HIGH, LIGHT, MAGNETIC, MESH, TAMP_IN, DEBUG_ACCESS, PANIC,
MANAGEMENT_PANIC, WARDEN_SELFCHECK (R304 to R313, R317, R320, R323, R431): instruction, source, detectors, DETAIL, and when it fires. -/
def Obligations.SourcesRaiseTheirAlarms : Prop :=
  ∀ (s : State) (c : Chip), c = s.chip → ∀ (det detail trace p ns cause : Nat) (short caught same : Bool) (v : Via) (w : Word),
    (let raise : Nat → Nat → Nat → State := fun src det dt => s.setChip (
        let c1 : Chip := { c with dev := { c.dev with tmp := { c.dev.tmp with batch := c.dev.tmp.batch ++ [⟨src, det, dt, c.bd.time, false⟩] } } }
        if same then c1 else c1.watch Chip.judge)
     c.dev.plt.mainOn = true →
       (det % 4 ≠ 0 →
         (c.armed 0 = true → exec (.coreRail false det detail same) s = .next (raise 0 det detail)) ∧
         (c.armed 1 = true → exec (.ioRail false det detail same) s = .next (raise 1 det detail)) ∧
         (c.armed 2 = true → exec (.clkFreq det detail same) s = .next (raise 2 det detail)) ∧
         (c.armed 3 = true → exec (.clkGlitch false det detail same) s = .next (raise 3 det detail)) ∧
         (c.armed 4 = true → exec (.tempLow det detail same) s = .next (raise 4 det detail)) ∧
         (c.armed 5 = true → exec (.tempHigh det detail same) s = .next (raise 5 det detail)) ∧
         (c.armed 6 = true → exec (.light det detail same) s = .next (raise 6 det detail)) ∧
         (c.armed 7 = true → exec (.magnetic det detail same) s = .next (raise 7 det detail)) ∧
         (trace < 24 → exec (.mesh det trace short same) s = .next (raise 8 det (trace + (if short then 128 else 0)))) ∧
         (p < 8 → exec (.tampIn p det same) s = .next (raise (9 + p) det p))) ∧
       (c.armed 17 = true → exec (.debugAccess same) s = .next (raise 17 0 0)) ∧
       (c.armed 19 = true → 20 ≤ ns → exec (.panic ns caught same) s = .next (raise 19 0 0)) ∧
       (c.armed 19 = true → 10 ≤ ns → exec (.panic ns true same) s = .next (raise 19 0 0)) ∧
       (c.armed 19 = true → c.dev.plt.por = false → keyed w [1] = true → exec (.managementPanic .i3c w same) s = .next (raise 19 0 1)) ∧
       (c.armed 20 = true → cause = 1 ∨ cause = 2 → exec (.wardenSelfcheck cause same) s = .next (raise 20 0 cause))) ∧
    (det % 4 = 0 → ∀ i ∈ [Instr.clkFreq det detail same, .tempLow det detail same, .tempHigh det detail same, .light det detail same, .magnetic det detail same,
        .mesh det trace short same, .tampIn p det same, .panic 9 caught same], exec i s = .next s) ∧
    (∀ x ∈ [(Instr.coreRail false det detail same, 0, det, detail, decide (det % 4 ≠ 0)), (.ioRail false det detail same, 1, det, detail, decide (det % 4 ≠ 0)),
        (.clkFreq det detail same, 2, det, detail, decide (det % 4 ≠ 0)), (.clkGlitch false det detail same, 3, det, detail, decide (det % 4 ≠ 0)),
        (.tempLow det detail same, 4, det, detail, decide (det % 4 ≠ 0)), (.tempHigh det detail same, 5, det, detail, decide (det % 4 ≠ 0)),
        (.light det detail same, 6, det, detail, decide (det % 4 ≠ 0)), (.magnetic det detail same, 7, det, detail, decide (det % 4 ≠ 0)),
        (.mesh det trace short same, 8, det, trace + (if short then 128 else 0), decide (trace < 24) && decide (det % 4 ≠ 0)),
        (.tampIn p det same, 9 + p, det, p, decide (p < 8) && decide (det % 4 ≠ 0)), (.debugAccess same, 17, 0, 0, true),
        (.panic ns caught same, 19, 0, 0, decide (20 ≤ ns) || (decide (10 ≤ ns) && caught)),
        (.managementPanic v w same, 19, 0, 1, v == .i3c && (c.dev.plt.mainOn && !c.dev.plt.por) && keyed w [1]),
        (.wardenSelfcheck cause same, 20, 0, cause, cause == 1 || cause == 2)], x.2.2.2.2 = true →
      (c.dev.plt.mainOn = true → c.armed x.2.1 = true →
        (same = false → c.dev.tmp.batch = [] → c.dev.tmp.erasing = false → c.bd.locked = false →
          ∀ e, e = c.eraseClass x.2.1 → ∃ r : Chip, r = c.record (if e then 2 else 1) ⟨x.2.1, x.2.2.1, x.2.2.2.1, c.bd.time, false⟩ ∧
          r.bd.flags = c.bd.flags ||| BitVec.ofNat 64 (2 ^ x.2.1) ∧
          r.bd.newest = (c.bd.newest + 1) % 2 ^ 16 ∧
          r.bd.entry r.bd.newest = (timeWord c.bd.time false, infoWord x.2.2.1 x.2.2.2.1 (if e then 2 else 1) x.2.1 r.bd.newest) ∧
          exec x.1 s = .next (s.setChip ((r.onDev fun d => { d with tmp := { d.tmp with
            eraseDue := d.tmp.eraseDue || e, lockDue := d.tmp.lockDue || !e } }).sync c.dev)))) ∧
      (c.dev.plt.mainOn = true → c.armed x.2.1 = false → c.dev.tmp.batch = [] → exec x.1 s = .next s) ∧
      (c.dev.plt.mainOn = false → 8 ≤ x.2.1 ∧ x.2.1 ≤ 16 → ∃ b : Backup, b = c.bd.enter ⟨x.2.1, x.2.2.1, x.2.2.2.1, c.bd.time, false⟩ 2 true ∧
        b.flags = c.bd.flags ||| BitVec.ofNat 64 (2 ^ x.2.1) ∧
        exec x.1 s = .next (s.setChip { c with bd := { b with bk := none, locked := true, erased := true } }))) ∧
    (c.dev.bit Fld.PLT_CLOCKS_ROOT_LOCK = true → c.dev.plt.mainOn = true → c.armed 3 = true → det % 4 ≠ 0 →
      exec (.clkGlitch true det detail true) s = .next (s.onDev fun d =>
        let z := d.wr Fld.PLT_CLOCKS_ROOT_LOCK 0
        { z with tmp := { z.tmp with batch := z.tmp.batch ++ [⟨3, det, detail, c.bd.time, false⟩] } })) ∧
    (∀ k rest, c.dev.tmp.raised = k :: rest → c.dev.plt.mainOn = true → c.armed 20 = true → exec (.wardenSelfcheck 0 true) s = .next (s.onDev fun d =>
      { d with tmp := { d.tmp with raised := rest, batch := d.tmp.batch ++ [⟨20, 0, k, c.bd.time, false⟩] } })) ∧
    (c.dev.pltReached v 0x78 = true → v ≠ .i3c ∨ keyed w [1] = false → exec (.managementPanic v w same) s = .next (s.onDev fun d =>
      d.wr Fld.PLT_STATUS_BAD_KEY 1))

/-- CORE_RAIL and IO_RAIL on the low side, RAIL_RECOVERY, RAIL_FREEZE_TIMEOUT, TILE_FAULT_REPORT, FAULT_WINDOW_EXPIRY, LOCK_DELIVERY, ERASE_DELIVERY,
ERASE_COMPLETE, BACKUP_LOSS, VBAT_LOW, VBAT_LOW_CLEAR, DETECTOR_BIST, BIST_COMPLETE (R87, R300 to R318). -/
def Obligations.AlarmsAreDelivered : Prop :=
  ∀ (s : State) (c : Chip), c = s.chip → ∀ (det detail : Nat) (same : Bool),
    (let crosses : Nat → State := fun src => s.setChip (
        if c.dev.tmp.frozen then c.onDev (fun d => { d with tmp := { d.tmp with crossed := d.tmp.crossed ++ [⟨src, det, detail, c.bd.time, true⟩] } })
        else (c.watch fun x => x.onDev (fun d =>
          let d1 : Dev := { d with tmp := { d.tmp with frozen := true, crossed := [⟨src, det, detail, c.bd.time, true⟩] } }
          let d2 : Dev := match d1.nvs.cur with
            | some (o, k) => if d1.opWords o.kind ≤ k + 1 then ({ d1 with nvs := { d1.nvs with cur := none } } : Dev).nvsFinish o
              else { d1 with nvs := { d1.nvs with cur := some (o, k + 1) } }
            | none => d1
          { d2 with nvs := { d2.nvs with frozen := true } })).lockEffects)
     c.dev.plt.mainOn = true → det % 4 ≠ 0 →
       (c.armed 0 = true → exec (.coreRail true det detail same) s = .next (crosses 0)) ∧
       (c.armed 1 = true → exec (.ioRail true det detail same) s = .next (crosses 1))) ∧
    (c.dev.tmp.frozen = true → c.dev.tmp.crossed ≠ [] → ∀ t, t = s.setChip (
        let c1 := c.onDev (fun d => { d with tmp := { d.tmp with batch := d.tmp.batch ++ d.tmp.crossed, crossed := [] } })
        if same then c1 else c1.watch Chip.judge) →
      exec (.railRecovery same) s = .next t ∧ exec (.railFreezeTimeout same) s = .next t) ∧
    (∀ u rest, c.dev.tmp.reports = u :: rest →
      ∀ recent, recent = c.dev.tmp.window.filter (fun w => decide (c.dev.tmp.now < w.2 + 1000000)) → exec (.tileFaultReport same) s = .next (s.setChip (
        let c1 := c.onDev (fun d => { d with tmp := { d.tmp with reports := rest, window := recent ++ [(u, d.tmp.now)] } })
        match (recent.filter (fun w => w.1 != u)).getLast? with
        | some w => if c.armed 18 then (c1.onDev (fun d => (d.wr Fld.TMP_CLUSTER_FIRST_UNIT w.1).wr Fld.TMP_CLUSTER_SECOND_UNIT u)).alarm 18 0 (u % 256) same else c1
        | none => c1))) ∧
    (∀ w, c.dev.tmp.window.getLast? = some w → exec .faultWindowExpiry s = .next (s.setChip (
      (c.advance (w.2 + 1000000 - c.dev.tmp.now)).onDev (fun d => { d with tmp := { d.tmp with window := [] } })))) ∧
    (c.dev.tmp.batch = [] → c.dev.tmp.lockDue = true → exec .lockDelivery s = .next (s.setChip (
      let c1 := c.watch (fun c => { c with
        bd := { c.bd with locked := true }, dev := { c.dev with tmp := { c.dev.tmp with lockDue := false } }.unfreeze })
      if c1.dev.tmp.lock then
        let c2 := c1.onDev (fun d => ((((d.lockCommands.wdnTidy).cipherLock).hpkLock.bondLock).vaultLock Dev.noteAnswer stLocked).xksLock)
        ((c2.backupStop stLocked).answerAll).auditAlarm
      else c1))) ∧
    (c.dev.tmp.batch = [] → c.dev.tmp.eraseDue = true → exec .eraseDelivery s = .next (s.setChip (
      let c1 := c.watch (fun c => { c with
        bd := { c.bd with bk := none },
                       dev := { c.dev with tmp := { c.dev.tmp with eraseDue := false, lockDue := false, erasing := true } }.dropBk.unfreeze })
      let c2 := c1.onDev (fun d => ((((d.eraseCommands.threadsErase).stagingErase.cipherErase).hpkErase.vaultErase).rngErase).xksErase)
      let c3 := c2.onDev (fun d => ((d.nvsAbandon (fun k => !k.isAlarm)).bondErase).cardsErase)
      ((c3.backupStop stErased).wardenErase).auditAlarm))) ∧
    (c.dev.tmp.erasing = true → exec .eraseComplete s = .next (s.setChip (
      let c1 := c.watch (fun c => { c with
        bd := { c.bd with locked := true, erased := true }, dev := { c.dev with tmp := { c.dev.tmp with erasing := false } }.unfreeze })
      match c1.dev.plt.waiting with
      | some w => c1.assertReset w.1 w.2.1 w.2.2
      | none => c1))) ∧
    (c.dev.plt.mainOn = false → ∀ main, exec (.backupLoss main) s = .next (s.setChip { c with
      bd := ⟨true, true, none, 0x200000, [(1, (timeWord 0 (!main), infoWord 0 0 2 21 1))], 1, 0, 0, 0, false⟩ })) ∧
    exec .vbatLow s = .next (s.onDev fun d => { d with tmp := { d.tmp with vbatLow := true } }) ∧
    exec .vbatLowClear s = .next (s.onDev fun d => { d with tmp := { d.tmp with vbatLow := false } }) ∧
    (∀ st w, c.dev.bar0 0 st 0xB0028 = true → exec (.detectorBist st w) s = .next (s.onDev fun d =>
      let d1 := ((d.wr Fld.TMP_BIST_CTRL_SOURCE (getF w 0 5)).wr Fld.TMP_BIST_CTRL_DETECTOR (getF w 8 1)).wr Fld.TMP_BIST_CTRL_INDEX (getF w 16 8)
      if w.getLsbD 63 = false then d1
      else if d.tmp.bist.isSome = true ∨ 16 < getF w 0 5 then d1.wr Fld.TMP_STATUS_CFG_REJECT 1
      else
        let d2 := (d1.wr Fld.TMP_BIST_RESULT_DONE 0).wr Fld.TMP_BIST_RESULT_PASS 0
        { d2 with tmp := { d2.tmp with bist := some (getF w 0 5, getF w 8 1) } })) ∧
    (∀ src k, c.dev.tmp.bist = some (src, k) → ∀ r, exec (.bistComplete r) s = .next (s.onDev fun d =>
      let pass := decide (min r 0xFFFF ≤ detectCycles src) && decide (min r 0xFFFF < 0xFFFF)
      let d1 := ((d.wr Fld.TMP_BIST_RESULT_RESPONSE (min r 0xFFFF)).wr Fld.TMP_BIST_RESULT_DONE 1).wr Fld.TMP_BIST_RESULT_PASS pass.toNat
      { d1 with tmp := { d1.tmp with bist := none, raised := if pass then d.tmp.raised else d.tmp.raised ++ [0x20 + src] } }))

/-- PROVISION, DEBUG_ENTER, DEBUG_EXIT, DECOMMISSION, STATUS_QUERY, AUDIT_READ, WATCHDOG_EXPIRY (R323, R327 to R335, R351, R352). The signature checks are the
model's uninterpreted ones. -/
def Obligations.LifecycleRequestsBlowFuses : Prop :=
  ∀ (s : State) (c : Chip), c = s.chip →
    let fuse : Chip → WReq → Chip := fun c r => (let c1 := c.watch (fun c => { c with fz := { c.fz with debug := c.fz.debug + 1 } })
      (c1.reply r stOk ([BitVec.ofNat 8 c1.fz.debug] ++ List.replicate 7 0)).lifeReset)
    let gone : Chip → Chip := fun c => (
      let c1 := c.watch (fun c => ⟨({ c.dev with tmp := { c.dev.tmp with eraseDue := false, lockDue := false, erasing := true } } : Dev).dropBk,
        { c.bd with bk := none }, c.fz⟩)
      (c1.eraseEffects.onDev Dev.mramZero).watch (fun c => ({ c with fz := { c.fz with decommission := true } } : Chip).eraseDone))
    ∀ (r : WReq) (b : List Byte) (c1 : Chip), c1 = c.onDev (fun d => d.bulkRead r) → b.length = r.bulkLen →
    (c.Serves 0x0101 false r → r.provisionOk = true → c.dev.tmp.vbatLow = false → c.dev.rngFailed = false → c.dev.rngServes 0 = true → c.dev.canAudit = true →
      exec (.provision (some b)) s = .next (s.setChip (match c1.dev.vendorCheck r b 0 with
        | some status => c1.reply r status
        | none =>
          let c2 := c1.audit 0x0101 stOk 0 r.origin (c1.provisionDigest r)
          let c3 := c2.watch (fun c => ⟨(c.dev.draw 0 1 32).wardenState 2 (slice r.params 16 (r.par 8 4)),
            { c.bd with locked := false, erased := false, flags := 0, ring := [], newest := 0, reviewed := 0, bk := some c2.dev.nfree },
            { c.fz with provision := true, tampClass := r.par 0 1, programmed := true }⟩)
          (c3.reply r stOk c3.dev.deviceId).lifeReset))) ∧
    (c.Serves 0x0102 false r → r.paramLen = 0 →
      (8 ≤ c.fz.debug → exec (.debugEnter (some b)) s = .next (s.setChip (c1.reply r stUseLimit))) ∧
      (c.fz.debug < 8 → c.lifecycle = 3 ∨ c.lifecycle = 4 → exec (.debugEnter (some b)) s = .next (s.setChip (c1.reply r stBadDescriptor))) ∧
      (c.fz.debug < 8 → c.lifecycle ≠ 3 → c.lifecycle ≠ 4 → c.lifecycle ≠ 0 → exec (.debugEnter (some b)) s = .next (s.setChip (match c1.dev.vendorCheck r b c.fz.debug with
        | some status => c1.reply r status
        | none => c1.underQuorum r b 2 (fun c => fuse c r)))) ∧
      (c.fz.debug < 8 → c.lifecycle = 0 → r.authLen = 0 → c.dev.canAudit = true → exec (.debugEnter (some b)) s = .next (s.setChip (
        match c1.dev.vendorCheck r b c.fz.debug with
        | some status => c1.reply r status
        | none => fuse (c1.auditReq r stOk) r)))) ∧
    (c.Serves 0x0103 false r → r.plain 0 = true → c.dev.canAudit = true → exec .debugExit s = .next (s.setChip (fuse (c.auditReq r stOk) r))) ∧
    (c.Serves 0x0104 false r → r.paramLen = 0 →
      (c.lifecycle ≠ 0 → r.bulkLen = 0 → exec (.decommission none) s = .next (s.setChip (c.underQuorum r [] 2 (fun c => gone (c.reply r stOk))))) ∧
      (c.lifecycle = 0 → r.authLen = 0 → c.dev.canAudit = true → exec (.decommission (some b)) s = .next (s.setChip (match c1.dev.vendorCheck r b 0 with
        | some status => c1.reply r status
        | none => gone ((c1.auditReq r stOk).reply r stOk))))) ∧
    (c.Serves 0x0105 true r → r.plain 0 = true → exec .statusQuery s = .next (s.setChip (c.reply r stOk (
      c.dev.deviceId ++ [BitVec.ofNat 8 c.lifecycle, BitVec.ofNat 8 c.fz.debug, BitVec.ofNat 8 c.dev.wdn.setM, BitVec.ofNat 8 c.dev.wdn.setN]
        ++ leBytes 4 c.dev.configVersion ++ leBytes 8 (c.dev.ctrValue 0) ++ leBytes 8 (c.dev.ctrValue 2) ++ bvBytes 8 c.tmpState ++ bvBytes 8 c.bd.flags
        ++ bvBytes 8 c.timeWord ++ leBytes 8 (c.dev.ctrValue 3) ++ leBytes 4 (c.dev.rd Fld.WDN_LIFECYCLE_PATCH_VERSION) ++ leBytes 4 c.dev.bondEpoch
        ++ List.replicate 16 0)))) ∧
    (c.Serves 0x0501 true r → r.paramLen = 16 → r.authLen = 0 → r.origin ≠ 2 → exec .auditRead s = .next (s.setChip (
      let bs := c.dev.auditEntries (r.par 0 8) (min (r.par 8 8) (min (r.bulkLen / 128) 4096))
      let n := c.dev.ctrValue 3
      (c.onDev (fun d => if bs.isEmpty then d else d.send 0 (.memWrite 0 r.bulkAddr bs))).reply r stOk
        (leBytes 8 (bs.length / 128) ++ leBytes 8 n ++ slice (Config.sign 0 c.dev.attestSeed (c.dev.auditChain ++ leBytes 8 n)) 0 96)))) ∧
    (c.dev.wdn.running = true → exec .watchdogExpiry s = .next (s.setChip (c.assertReset 1 7 0)))

/-- CONFIG_SUBMIT, IMAGE_ADMIT, IMAGE_RETIRE, PATCH_INSTALL, CODESIGN_INSTALL, CODESIGN_REVOKE, XKS_IMAGE_ADVANCE, TR34_KRD_CREATE, TR34_KRD_DELETE,
TR34_KDH_CA (R182, R264, R334 to R348, R351). -/
def Obligations.ConfigurationImageAndCredentialRequests : Prop :=
  ∀ (s : State) (c : Chip), c = s.chip → ∀ (r : WReq) (b : List Byte) (c1 : Chip), c1 = c.onDev (fun d => d.bulkRead r) →
    (c.Serves 0x0201 false r → r.content (some b) = some b → 0 < r.bulkLen →
      exec (.configSubmit (some b)) s = .next (s.setChip (
        if c1.dev.cfgOk b = false then c1.reply r stFormat
        else if (match c1.dev.cfgNewest with | some x => decide (leAt b 4 4 ≤ leAt x.2.2 4 4) | none => false) = true then c1.reply r stStaleEpoch
        else match c1.dev.authCheck r b 2 (c1.dev.cfgAuthority b) with
        | some status => c1.reply r status
        | none => if c1.dev.canAudit then
            ((c1.auditReq r stOk).watch fun c => c.onDev fun d =>
              let d1 := d.nvsNow (.increment 2)
              let d2 := d1.nvsNow (.record ⟨d1.cfgTarget, 0x0010, 0, b, 0, 0, true, false⟩)
              let d3 := (d2.wardenState 1 (setPayload b)).takeSet (cfgM b) (cfgN b) (cfgKeys b)
              if d3.held then d3.wr Fld.PLT_RESET_STATUS_STEP 8 else d3.wr Fld.WDN_LIFECYCLE_CONFIG_PENDING 1).reply r stOk
              (leBytes 4 (leAt b 4 4) ++ [if (c1.auditReq r stOk).dev.held then 0 else 1, 0, 0, 0])
          else c1.reply r stQuota))) ∧
    (c.Serves 0x0202 false r → r.paramLen = 0 → r.authLen = 0 → b.length = r.bulkLen → exec (.imageAdmit (some b)) s = .next (s.setChip (
      match c1.dev.imageCheck b with
      | some x => c1.reply r x.1 x.2
      | none => if c1.dev.signFull then c1.reply r stQuota else if c1.dev.canAudit then
          ((c1.auditReq r stOk).onDev fun d => (d.nvsNow (.record ⟨1, 0x20, imgId b % 2 ^ 32, floorPayload b, 0, 0, true, false⟩)).placeImage b).reply r stOk
            (leBytes 8 (imgId b) ++ leBytes 4 (imgVersion b) ++ leBytes 2 (imgFuncs b) ++ [0, 0])
        else c1.reply r stQuota))) ∧
    (c.Serves 0x0203 false r → r.plain 8 = true → ∀ ks, ks = (c.dev.prog.images.filter (fun x => x.2.id.toNat == r.par 0 8)).map Prod.fst →
      (ks.all (fun k => !c.dev.inService k) = true → exec .imageRetire s = .next (s.setChip (c.reply r stOk (List.replicate 8 0)))) ∧
      (ks.all (fun k => !c.dev.inService k) = false → c.dev.canAudit = true → exec .imageRetire s = .next (s.setChip (
        let c2 := c.auditReq r stOk
        (c2.onDev fun d => ks.foldl (fun x k => x.retireImage k) d).reply r stOk
          (leBytes 2 ((ks.map c2.dev.entriesOf).foldl (· + ·) 0) ++ List.replicate 6 0))))) ∧
    (c.Serves 0x0204 false r → r.paramLen = 0 → b.length = r.bulkLen → ∀ n, n = 64 + leAt b 8 4 → exec (.patchInstall (some b)) s = .next (s.setChip (
      if patchOk b = false then c1.reply r stFormat
      else if (Config.verify 0 Config.vendorKey (slice b 0 n) (slice b n 96) && Config.verify 1 Config.vendorKey (slice b 0 n) (slice b (n + 96) 4627)) = false then
        c1.reply r stAuthFail
      else if leAt b 4 4 ≤ c1.dev.rd Fld.WDN_LIFECYCLE_PATCH_VERSION then c1.reply r stStaleEpoch
      else if c1.dev.signFull then c1.reply r stQuota
      else c1.underQuorum r b 2 fun c =>
        let c2 := c.onDev fun d => d.writePatch c.dev.inactiveBank b
        if (c2.dev.newestRec 1 0x22 c.dev.inactiveBank).map Rec.payload = some (slice b 0 64) then
          c2.reply r stOk ([BitVec.ofNat 8 c.dev.inactiveBank, 0, 0, 0] ++ leBytes 4 (leAt b 4 4))
        else c2.reply r stQuota))) ∧
    (∀ i, i = r.par 0 1 → r.bulkLen = 0 → 1 ≤ i → i ≤ 15 → r.par 1 7 = 0 →
      (c.Serves 0x0205 false r → r.paramLen = 2704 → r.par 105 7 = 0 → (c.dev.codesign i).1 ≠ 2 → c.dev.signFull = false → exec .codesignInstall s = .next (s.setChip (
        c.underQuorum r [] 2 fun c => (c.onDev fun d => d.nvsNow (.record ⟨1, 0x21, i, leBytes 8 1 ++ slice r.params 8 104 ++ slice r.params 112 2592,
          0, 0, true, false⟩)).reply r stOk (keyId (slice r.params 8 97))))) ∧
      (c.Serves 0x0206 false r → r.paramLen = 8 → ((c.dev.codesign i).1 = 0 → exec .codesignRevoke s = .next (s.setChip (c.reply r stKeyAbsent))) ∧
        ((c.dev.codesign i).1 ≠ 0 → c.dev.signFull = false → exec .codesignRevoke s = .next (s.setChip (c.underQuorum r [] 2 fun c =>
          let out := (c.dev.prog.images.filter (fun x => x.2.signer == i && c.dev.inService x.1)).map Prod.fst
          (c.onDev fun d => out.foldl (fun x k => x.retireImage k)
            (d.nvsNow (.record ⟨1, 0x21, i, leBytes 8 2 ++ (c.dev.codesign i).2.drop 8, 0, 0, true, false⟩))).reply r stOk
              (leBytes 2 out.length ++ List.replicate 6 0)))))) ∧
    (∀ n, n = r.par 0 1 → c.Serves 0x0305 false r → r.plain 8 = true → r.par 1 7 = 0 → n < 64 → r.origin ≠ 1 ∨ n = r.requester → c.dev.canAudit = true →
      exec .xksImageAdvance s = .next (s.setChip (
        let c2 := c.auditReq r stOk
        let e := c2.dev.rd (Fld.XKS_IMAGE_EPOCH_EPOCH n)
        (c2.onDev fun d => ((d.nvsNow (.record ⟨0, 4, n, leBytes 4 ((e + 1) % 2 ^ 32) ++ leBytes 4 e, 0, 0, true, false⟩)).wr
          (Fld.XKS_IMAGE_EPOCH_EPOCH n) ((e + 1) % 2 ^ 32)).wr (Fld.XKS_IMAGE_EPOCH_FLOOR n) e).reply r stOk (leBytes 4 ((e + 1) % 2 ^ 32) ++ leBytes 4 e)))) ∧
    (∀ i bits, i = r.par 0 1 → bits = r.par 2 2 → r.plain 8 = true → i < 16 → r.par 1 1 = 0 → c.dev.canAudit = true →
      (c.Serves 0x0306 false r → r.par 4 4 = 0 → bits = 2048 ∨ bits = 3072 → c.dev.rngFailed = false → c.dev.rngServes 0 = true →
        exec .tr34KrdCreate s = .next (s.setChip (
          let c2 := c.auditReq r stOk
          let seed := Config.freeBytes c2.dev.nfree 64
          (c2.onDev fun d => (d.wardenState (0x200 + 16 * r.requester + i) (Config.sivSeal (d.krdWrap r.requester) [] (Config.rsaPrivate bits seed))).draw 0 1 64).reply r
            stOk (leBytes 2 bits ++ List.replicate 6 0 ++ Config.rsaPublic bits seed)))) ∧
      (c.Serves 0x0307 false r → r.par 1 7 = 0 → exec .tr34KrdDelete s = .next (s.setChip (
        ((c.auditReq r stOk).onDev fun d => d.wardenState (0x200 + 16 * r.requester + i) []).reply r stOk)))) ∧
    (∀ n, n = r.par 0 4 → c.Serves 0x0308 false r → r.bulkLen = 0 → n ≤ 3000 → r.paramLen = 8 + (n + 7) / 8 * 8 → r.par 4 4 = 0 →
      allZero (r.params.drop (8 + n)) = true → exec .tr34KdhCa s = .next (s.setChip (
        if Config.certOk (slice r.params 8 n) = true then c.underQuorum r [] 2 fun c =>
          (c.onDev fun d => d.wardenState (0x600 + r.requester) (List.replicate 8 0 ++ slice r.params 8 n)).reply r stOk (Config.sha384 (slice r.params 8 n))
        else c.reply r stFormat)))

/-- CEREMONY_OPEN, CEREMONY_COLLECT, CEREMONY_TIMEOUT, UNLOCK, FLAG_CLEAR, TIME_SET, ARCHIVE_KEY_CREATE, ARCHIVE_WINDOW_END, BACKUP_WRITE, RESTORE_BEGIN,
RESTORE_END (R301, R316, R319, R334 to R340, R351, R368, R376). -/
def Obligations.CeremonyUnlockArchiveAndRestoreRequests : Prop :=
  ∀ (s : State) (c : Chip), c = s.chip → ∀ (r : WReq),
    let ask : Dev → Dev := fun d => ((d.modCc 0 (fun x => { x with refused := false })).modCc 1 (fun x => { x with refused := false })).cardsStart
    (c.Serves 0x0401 false r → r.plain 80 = true →
      (c.dev.wdn.ceremony.isSome = true → exec .ceremonyOpen s = .next (s.setChip (c.reply r stQuota))) ∧
      (c.dev.wdn.ceremony = none → c.dev.canAudit = true → exec .ceremonyOpen s = .next (s.setChip (((c.auditReq r stOk).onDev fun d =>
        ask { d.wr Fld.WDN_MBOX_STATUS_CEREMONY 1 with wdn := { d.wdn with ceremony := some ⟨r.params, []⟩ } }).reply r stOk)))) ∧
    (∀ w, c.dev.wdn.ceremony = some w →
      (c.Serves 0x0402 false r → r.plain 0 = true → c.dev.canAudit = true → exec .ceremonyCollect s = .next (s.setChip (((c.auditReq r stOk).onDev fun d =>
        { d.wr Fld.WDN_MBOX_STATUS_CEREMONY 0 with wdn := { d.wdn with ceremony := none } }).reply r stOk
          (w.head ++ (w.sigs.map (fun x => x.1 ++ x.2)).flatten)))) ∧
      exec .ceremonyTimeout s = .next (s.onDev fun d => { d.wr Fld.WDN_MBOX_STATUS_CEREMONY 0 with wdn := { d.wdn with ceremony := none } })) ∧
    (c.Serves 0x0403 false r → r.paramLen = 0 → r.bulkLen = 0 → c.bd.locked = true → exec .unlock s = .next (s.setChip (Chip.onDev (
      match c.dev.authCheck r [] 0 [(c.dev.wdn.setM, c.dev.wdn.keys)] with
      | some status => c.reply r status
      | none => if c.dev.canAudit then
          let c1 := (c.auditReq r stOk).onDev fun d => d.nvsNow (.increment 0)
          if c1.dev.wdn.alarms = r.s0 then
            let c2 := c1.watch fun c => { c with bd := { c.bd with locked := false } }
            c2.reply r stOk (leBytes 8 (c1.dev.ctrValue 0))
          else c1.reply r stLocked
        else c.reply r stQuota) Dev.bondResume))) ∧
    (c.Serves 0x0406 false r → r.paramLen = 16 → r.bulkLen = 0 → r.par 0 8 < 2 ^ 22 → r.par 10 6 = 0 → exec .flagClear s = .next (s.setChip (
      c.underQuorum r [] 2 fun c =>
        let w := c.bd.clearable (r.par 0 8) (r.par 8 2)
        ({ c with bd := { c.bd with flags := c.bd.flags &&& ~~~ w, reviewed := r.par 8 2 } } : Chip).reply r stOk
          (bvBytes 8 w ++ bvBytes 8 (c.bd.flags &&& BitVec.ofNat 64 (r.par 0 8) &&& ~~~ w))))) ∧
    (c.Serves 0x0407 false r → r.paramLen = 8 → r.bulkLen = 0 → r.par 0 8 < 2 ^ 48 → exec .timeSet s = .next (s.setChip (
      c.underQuorum r [] 2 fun c =>
        ({ c with bd := { c.bd with time := r.par 0 8 * 32768, phase := 0, timeValid := true } } : Chip).reply r stOk (bvBytes 8 c.timeWord)))) ∧
    (c.Serves 0x0408 false r → r.paramLen = 0 → r.bulkLen = 0 → c.dev.wdn.ceremony = none → c.dev.rngFailed = false → c.dev.rngServes 0 = true →
      exec .archiveKeyCreate s = .next (s.setChip (c.underQuorum r [] 2 fun c => c.onDev fun d =>
        ask ({ d.draw 0 2 32 with wdn := { d.wdn with arch := some ⟨r, d.nfree, d.archGen + 1, []⟩ } }.wr Fld.WDN_MBOX_STATUS_CEREMONY 1)))) ∧
    (∀ w, c.dev.wdn.arch = some w → c.dev.nvs.frozen = false → ∀ c1, c1 = c.onDev (fun d =>
        { d.wr Fld.WDN_MBOX_STATUS_CEREMONY 0 with wdn := { d.wdn with arch := none } }) →
      exec .archiveWindowEnd s = .next (s.setChip (
        if 0 < c.dev.wdn.setN ∧ c.dev.wdn.keys.all (fun k => w.written.contains (keyId k)) = true ∧ c.dev.vlt.roots.kek = true ∧ c1.dev.canAudit = true then
          ((c1.auditReq w.req stOk).onDev fun d => d.archRecord w.gen (Config.freeBytes w.key 32)).reply w.req stOk
            (leBytes 4 w.gen ++ [BitVec.ofNat 8 w.written.length, 0, 0, 0])
        else (c1.auditReq w.req stKeyAbsent).reply w.req stKeyAbsent))) ∧
    (∀ copies es count, copies = r.par 8 1 → es = c.dev.archEntries → count = 2 + (es.length + 6) / 7 → c.Serves 0x0409 false r → r.plain 16 = true →
      copies = 1 ∨ copies = 2 → r.par 9 7 = 0 → c.dev.rngFailed = false → c.dev.rngServes 0 = true → c.dev.sdState = 3 → c.dev.canAudit = true →
      r.par 0 8 + copies * count ≤ c.dev.rd Fld.CRD_SD_CARD_BLOCKS → exec .backupWrite s = .next (s.setChip (
        if c.dev.stateOf 3 = none then c.reply r stKeyAbsent [1]
        else if c.dev.archKey = none then c.reply r stKeyAbsent [2]
        else (c.auditReq r stOk).onDev fun d =>
          { d.draw 0 1 16 with wdn := { d.wdn with backup := some ⟨r, r.par 0 8, copies, count, d.nfree, es, 0, 0⟩ } }.setSd 4))) ∧
    (c.Serves 0x0404 false r → r.paramLen = 16 → r.bulkLen = 0 → r.par 12 1 = 1 ∨ r.par 12 1 = 2 → r.par 13 3 = 0 → 2 ≤ r.par 8 4 → c.dev.rngFailed = false →
      c.dev.rngServes 0 = true → exec .restoreBegin s = .next (s.setChip (c.underQuorum r [] 2 fun c =>
        let n := c.dev.nfree
        let c1 := ({ c with bd := { c.bd with bk := some n } } : Chip).onDev fun d =>
          { ((d.draw 0 1 32).deriveBk n).wr Fld.WDN_LIFECYCLE_RESTORING 1 with
            wdn := { d.wdn with restore := some ⟨some r, r.par 0 8, r.par 8 4, r.par 12 1, c.dev.wdn.alarms, [], 0, [], [], 0, 0, [], none, 0, 0⟩ } }
        if c1.dev.sdState = 3 then c1.onDev (fun d => d.setSd 5) else c1.restoreEnd stUnitReset (leBytes 8 (r.par 0 8))))) ∧
    (∀ x, c.dev.wdn.restore = some x → c.Serves 0x0405 false r → r.plain 0 = true →
      (c.dev.wdn.alarms ≠ x.s0 → exec .restoreEnd s = .next (s.setChip (((c.restoreEnd stErased []).reply r stErased).onDev Dev.bondResume))) ∧
      (c.dev.wdn.alarms = x.s0 → ∀ n, x.bad = some n → exec .restoreEnd s = .next (s.setChip (((c.restoreEnd stFormat []).reply r stFormat (leBytes 4 n)).onDev
        Dev.bondResume))) ∧
      (c.dev.wdn.alarms = x.s0 → x.bad = none → x.key ≠ [] → x.count ≤ x.nextSeq → x.loading = 0 → c.dev.canAudit = true →
        exec .restoreEnd s = .next (s.setChip (
          let c1 := (c.auditReq r stOk).onDev fun d => d.archRecord (beAt x.header 0x20 4) x.key
          let c2 := c1.watch fun c => { c with bd := { c.bd with erased := false, locked := false } }
          let c3 := (c2.onDev fun d => d.nvsNow (.increment 0)).restoreEnd stOk []
          (c3.reply r stOk (leBytes 4 x.loaded ++ [0, 0, 0, 0] ++ leBytes 8 (c3.dev.ctrValue 0))).onDev Dev.bondResume))))

/-- CARD_ACTIVATION, ATR_RECEIVE, ATR_TIMEOUT, PPS_RESPONSE, PPS_TIMEOUT, T1_BLOCK_RECEIVE, T1_BLOCK_TIMEOUT, S_WTX_REQUEST, S_ABORT_REQUEST, S_IFS_REQUEST,
CARD_RESPONSE_TIMEOUT, CARD_REMOVAL (R354 to R360). -/
def Obligations.CardLinkFollowsIso7816 : Prop :=
  ∀ (s : State) (d : Dev) (p : Nat) (x : CcPort) (bad again : Dev), d = s.chip.dev → p < 2 → x = d.cc p →
    bad = (if x.sends < 3 then
        ((d.setCc p { x with sends := x.sends + 1 }).inc (Fld.CRD_CC_COUNTS_RETRANSMIT p) 1).ccSend p (0x81 + x.nr % 2 * 16) []
      else if x.resynchs < 3 then ((d.setCc p { x with resynchs := x.resynchs + 1, ns := 0, nr := 0 }).inc (Fld.CRD_CC_COUNTS_RESYNCH p) 1).ccSend p 0xC0 []
      else d.ccRefuse p 6) →
    again = (if x.tries = 0 then (d.setCc p { x with tries := 1 }).ccOn p (d.rd (Fld.CRD_CC_STATUS_CLASS p)) else d.ccRefuse p 4) →
    (d.wdn.running = true → d.ccState p = 0 → d.ccHeld p = false → exec (.cardActivation p) s = .next (s.onDev fun _ =>
      let d1 := d.setCc p { x with present := true, tries := 0, refused := false }
      let d2 := ((d1.inc (Fld.CRD_CC_COUNTS_ACTIVATIONS p) 1).wr (Fld.CRD_CC_STATUS_CLASS p) 1).emit (.pin (ccPinName p) true)
      let d3 := ((d2.wr (Fld.CRD_CC_LINK_FI p) 372).wr (Fld.CRD_CC_LINK_DI p) 1).wr (Fld.CRD_CC_LINK_DIVIDER p) 25
      (d3.modCc p fun y => { y.idle with atr := [], keys := [], info := [] }).setCcState p 1)) ∧
    (d.ccState p = 1 → exec (.atrTimeout p) s = .next (s.onDev fun _ => d.ccRefuse p 1) ∧
      ∀ bs, (atrParse bs = none → exec (.atrReceive p bs) s = .next (s.onDev fun _ => d.ccRefuse p 1)) ∧
        ∀ gs, atrParse bs = some gs → (d.rd (Fld.CRD_CC_STATUS_CLASS p) = 1 → atrClass gs = none → exec (.atrReceive p bs) s = .next (s.onDev fun _ => d.ccRefuse p 2)) ∧
          ∀ cls, (if d.rd (Fld.CRD_CC_STATUS_CLASS p) = 1 then atrClass gs else some (d.rd (Fld.CRD_CC_STATUS_CLASS p))) = some cls →
            (d.rd (Fld.CRD_CC_STATUS_CLASS p) < cls → exec (.atrReceive p bs) s = .next (s.onDev fun _ => d.ccOn p cls)) ∧
            (cls ≤ d.rd (Fld.CRD_CC_STATUS_CLASS p) →
              ((atrProtocols gs).contains 1 = false → exec (.atrReceive p bs) s = .next (s.onDev fun _ => d.ccRefuse p 3)) ∧
              ((atrProtocols gs).contains 1 = true → ∀ d1, d1 = (d.setCc p { x with atr := bs }).setCcState p 2 →
                (∀ t, atrTa2 gs = some t → exec (.atrReceive p bs) s = .next (s.onDev fun _ =>
                  if t % 16 = 1 ∧ (fiOf (atrTa1 gs / 16)).isSome = true ∧ (diOf (atrTa1 gs % 16)).isSome = true then d1.ccIfs p gs (atrTa1 gs) else d1.ccRefuse p 5)) ∧
                (atrTa2 gs = none → exec (.atrReceive p bs) s = .next (s.onDev fun _ => d1.emit (.card p (d1.ppsRequest p gs))))))) ∧
    (d.ccState p = 2 → x.sends = 0 → exec (.ppsTimeout p) s = .next (s.onDev fun _ => again) ∧
      ∀ gs, atrParse x.atr = some gs → ∀ bs,
        (bs = d.ppsRequest p gs → exec (.ppsResponse p bs) s = .next (s.onDev fun _ => d.ccIfs p gs (d.ccTa1 p gs))) ∧
        (bs ≠ d.ppsRequest p gs → exec (.ppsResponse p bs) s = .next (s.onDev fun _ => again))) ∧
    (d.ccState p = 4 ∨ (d.ccState p = 2 ∧ x.sends ≠ 0) → x.ready = false → exec (.t1BlockTimeout p) s = .next (s.onDev fun _ => bad) ∧
      ∀ nad pcb inf ok, ok = false ∨ nad ≠ 0 ∨ 254 < inf.length → exec (.t1BlockReceive p nad pcb inf ok) s = .next (s.onDev fun _ => bad)) ∧
    (d.ccState p = 4 → x.ready = false → x.out.length ≤ 1 → ∀ inf (more : Bool), inf.length ≤ 254 → ∀ d1,
      d1 = d.setCc p { x with got := x.got ++ inf, nr := x.nr + 1, sends := 0, resynchs := 0, waited := 1, out := [] } →
      exec (.t1BlockReceive p 0 (x.nr % 2 * 64 + (if more then 32 else 0)) inf true) s = .next (s.onDev fun _ =>
        if more then d1.ccSend p (0x80 + (x.nr + 1) % 2 * 16) []
        else match x.parts with
          | a :: rest => if x.got ++ inf = [0x90, 0x00] then
              (d1.modCc p fun y => { y with ns := x.ns + 1, parts := rest, got := [], out := chunks (max 1 (d.rd (Fld.CRD_CC_LINK_IFSC p))) 64 a }).ccSendI p
            else d1.modCc p fun y => { y with ns := x.ns + 1, ready := true }
          | [] => d1.modCc p fun y => { y with ns := x.ns + 1, ready := true })) ∧
    (d.ccState p = 4 → x.ready = false →
      (2 ≤ x.out.length → exec (.t1BlockReceive p 0 (0x80 + (x.ns + 1) % 2 * 16) [] true) s = .next (s.onDev fun _ =>
        (d.setCc p { x with out := x.out.drop 1, ns := x.ns + 1, sends := 0 }).ccSendI p)) ∧
      (x.sends < 3 → exec (.t1BlockReceive p 0 (0x80 + x.ns % 2 * 16) [] true) s = .next (s.onDev fun _ =>
        (d.inc (Fld.CRD_CC_COUNTS_RETRANSMIT p) 1).ccSendI p)) ∧
      (∀ k, exec (.sWtxRequest p k) s = .next (s.onDev fun _ => (d.setCc p { x with waited := k }).ccSend p 0xE3 [BitVec.ofNat 8 k]))) ∧
    (d.ccState p = 2 → x.ready = false → x.sends ≠ 0 → exec (.t1BlockReceive p 0 0xE1 [254] true) s = .next (s.onDev fun _ =>
      ((d.setCc p x.idle).setCcState p 3).ccStart p) ∧
      exec (.t1BlockReceive p 0 0xE0 [] true) s = .next (s.onDev fun _ => (d.setCc p { x with sends := 1 }).ccSend p 0xC1 [254])) ∧
    (d.ccState p = 4 → x.ready = false → exec (.t1BlockReceive p 0 0xE0 [] true) s = .next (s.onDev fun _ => (d.setCc p { x with sends := 0, got := [] }).ccSendI p)) ∧
    (d.ccState p = 4 ∨ d.ccState p = 2 → ∀ k, exec (.sIfsRequest p k) s = .next (s.onDev fun _ =>
      if 1 ≤ k ∧ k ≤ 254 then (d.wr (Fld.CRD_CC_LINK_IFSC p) k).ccSend p 0xE1 [BitVec.ofNat 8 k] else bad)) ∧
    (d.ccState p = 4 → exec (.sAbortRequest p) s = .next (s.onDev fun _ => (d.ccSend p 0xE2 []).ccGiveUp p) ∧
      exec (.cardResponseTimeout p) s = .next (s.onDev fun _ => d.ccRefuse p 7)) ∧
    (x.present = true → exec (.cardRemoval p) s = .next (s.onDev fun _ =>
      let d1 := d.setCc p { CcPort.reset with present := false, tries := x.tries, refused := false }
      ((((d1.wr (Fld.CRD_CC_STATUS_CLASS p) 0).wr (Fld.CRD_CC_STATUS_SESSION p) 0).emit (.pin (ccPinName p) false)).wr (Fld.CRD_CC_STATUS_CAUSE p) 8).setCcState p 0))

/-- SELECT, GET_INFO, OPEN_SESSION, SIGN_AUTH, PUT_SHARE, GET_SHARE, CLOSE_SESSION, GET_RESPONSE (R361 to R368). -/
def Obligations.CardApplicationServesTheWarden : Prop :=
  ∀ (s : State) (c : Chip) (d : Dev) (p : Nat) (x : CcPort) (data : List Byte) (sw : Nat), c = s.chip → d = c.dev → x = d.cc p →
    (d.ccResponse p x.ins = some (data, sw) → sw / 256 = 0x61 → exec (.getResponse p) s = .next (s.onDev fun _ =>
      (d.setCc p { x with out := [[0, 0xC0, 0, 0, BitVec.ofNat 8 (sw % 256)]], got := data, ready := false, sends := 0 }).ccSendI p)) ∧
    (sw / 256 ≠ 0x61 →
      (d.ccResponse p 0xA4 = some (data, sw) → exec (.select p) s = .next (s.onDev fun _ =>
        if sw = 0x9000 then d.ccCommand p 0x10 [[0x80, 0x10, 0, 0, 0]] else d.ccGiveUp p)) ∧
      (d.ccResponse p 0x10 = some (data, sw) → d.wdn.ceremony ≠ none ∨ d.rngFailed = true ∨ d.rngServes 0 = true → exec (.getInfo p) s = .next (s.onDev fun _ =>
        if sw = 0x9000 ∧ data.length = 184 ∧ slice data 10 8 = keyId (slice data 18 97) then
          let d1 := (d.setCc p { x with info := data }).ccReady p
          match d.wdn.ceremony, d.wdn.arch with
          | some w, _ => if w.sigs.any (fun y => y.1 == slice data 10 8) then d1.ccGiveUp p else d1.ccCommand p 0x30 [apdu 0x80 0x30 0 0 w.head]
          | none, some w => if (d.custodian (slice data 10 8)).isSome && !w.written.contains (slice data 10 8) then d1.ccOpen p else d1.ccGiveUp p
          | none, none => if (d.custodian (slice data 10 8)).isSome && d.cardWork then d1.ccOpen p else d1.ccGiveUp p
        else d.ccGiveUp p)) ∧
      (d.ccResponse p 0x20 = some (data, sw) → exec (.openSession p) s = .next (s.onDev fun _ =>
        let msg := asciiBytes "CCS2" ++ devEph x.eph ++ slice data 0 97 ++ devNonce x.eph ++ slice data 97 16 ++ d.deviceId
        if sw = 0x9000 ∧ data.length = 209 ∧ Config.verify 0 (infoPub x.info) msg (slice data 113 96) = true then
          let k := kdf (slice (Config.agree (Config.freeBytes x.eph 48) (slice data 0 97)) 0 32) (asciiBytes "CARDSES") (devNonce x.eph ++ slice data 97 16) 512
          let d1 := ((d.setCc p { x with keys := k, cmdCount := 1, rspCount := 1 }).wr (Fld.CRD_CC_STATUS_SESSION p) 1).ccReady p
          match d.wdn.arch with
          | some w => d1.ccPut p w
          | none => d1.ccGet p 0
        else d.ccGiveUp p)) ∧
      (d.ccResponse p 0x30 = some (data, sw) →
        (d.wdn.ceremony = none → exec (.signAuth p) s = .next (s.onDev fun _ => d.ccGiveUp p)) ∧
        (∀ w, d.wdn.ceremony = some w → d.nvs.frozen = false → d.canAudit = true → exec (.signAuth p) s = .next (s.setChip (
          if sw = 0x9000 ∧ data.length = 96 ∧ Config.verify 0 (infoPub x.info) w.head data = true then
            (c.auditEvent 4).onDev fun d =>
              { d with wdn := { d.wdn with ceremony := some { w with sigs := w.sigs ++ [(infoKeyId x.info, data)] } } }.ccGiveUp p
          else c.onDev fun d => d.ccGiveUp p)))) ∧
      (d.ccResponse p 0x40 = some (data, sw) → exec (.putShare p) s = .next (s.onDev fun _ =>
        if sw = 0x9000 then
          match x.unprotect 0x40 x.slot data with
          | none => d.ccRefuse p 6
          | some _ =>
            let d1 := (d.setCc p { x with rspCount := x.rspCount + 1 }).ccReady p
            (match d.wdn.arch with
              | some w => { d1 with wdn := { d1.wdn with arch := some { w with written := w.written ++ [infoKeyId x.info] } } }
              | none => d1).ccClose p
        else if sw = 0x6988 then d.ccSessOver p else d.ccClose p)) ∧
      (let after : Chip → Chip := fun c => c.onDev fun d => if x.slot < 3 && d.cardWork then (d.ccReady p).ccGet p (x.slot + 1) else (d.ccReady p).ccClose p
       d.ccResponse p 0x42 = some (data, sw) → d.nvs.frozen = false → exec (.getShare p) s = .next (s.setChip (
          if sw = 0x9000 then
            match x.unprotect 0x42 x.slot data with
            | none => c.onDev fun d => d.ccRefuse p 6
            | some y => after ((c.onDev fun d => d.setCc p { x with rspCount := x.rspCount + 1 }).takeShare y)
          else if sw = 0x6988 then c.onDev fun d => d.ccSessOver p else after c))) ∧
      (d.ccResponse p 0x50 = some (data, sw) → exec (.closeSession p) s = .next (s.onDev fun _ =>
        ((d.setCc p { x with keys := [], cmdCount := 0, rspCount := 0, eph := 0 }).wr (Fld.CRD_CC_STATUS_SESSION p) 0).ccGiveUp p)))

/-- SD_CARD_INIT, SD_TUNING, SD_BLOCK_WRITE, SD_BLOCK_READ, SD_BUSY_END, SD_BUSY_TIMEOUT, SD_CARD_REMOVAL (R340, R353, R369 to R377). -/
def Obligations.BackupCardPortRunsItsSequence : Prop :=
  ∀ (s : State) (c : Chip) (d : Dev), c = s.chip → d = c.dev →
    (d.wdn.running = true → d.sdState = 0 → (d.rd Fld.PLT_BLOCK_RESET_HOLD).testBit 7 = false → ∀ cmd8 ready ccs s18a sw blocks sdxc top d1,
      d1 = ({ d.emit (.pin "SD_PWR_EN" true) with crd := { d.crd with sdPresent := true, sdTuned := false } } : Dev).setSd 1 →
      (cmd8 = false ∨ ready = false ∨ ccs = false → exec (.sdCardInit cmd8 ready ccs s18a sw blocks sdxc top) s = .next (s.onDev fun _ => d1.setSd 7)) ∧
      (∀ tries : Bool, tries = (s18a && !d.crd.sdLimit && decide (2 ≤ d1.rd Fld.CRD_SD_CFG_MAX_MODE)) →
        exec (.sdCardInit true true true s18a sw blocks sdxc top) s = .next (s.onDev fun _ =>
          let d2 : Dev := { d1 with crd := { d1.crd with sdLimit := d.crd.sdLimit || (tries && !sw) } }
          let d3 := ((d2.wr Fld.CRD_SD_CARD_BLOCKS blocks).wr Fld.CRD_SD_CARD_SDXC sdxc.toNat).wr Fld.CRD_SD_STATUS_V18 (tries && sw).toNat
          let m := d3.sdMode (tries && sw) top
          (d3.wr Fld.CRD_SD_STATUS_MODE m).setSd (if 4 ≤ m then 2 else 3)))) ∧
    (d.sdState = 2 → ∀ ok, exec (.sdTuning ok) s = .next (s.onDev fun _ =>
      let d1 := if d.crd.sdTuned then d.inc Fld.CRD_SD_COUNTS_RETUNE 1 else d
      let d2 : Dev := { d1 with crd := { d1.crd with sdTuned := true } }
      if ok then d2.setSd 3
      else (d2.wr Fld.CRD_SD_STATUS_MODE (d2.rd Fld.CRD_SD_STATUS_MODE - 1)).setSd (if 4 ≤ d2.rd Fld.CRD_SD_STATUS_MODE - 1 then 2 else 3))) ∧
    (∀ b, d.wdn.backup = some b →
      (d.sdState = 4 → d.crd.sdBusy = false → ∀ n, exec (.sdBlockWrite n) s = .next (s.setChip (match d.archKey with
        | none => c
        | some k => if 4 ≤ n then (c.onDev fun d => (d.sdCrc n).setSd 6).backupEnd b stUnitReset (leBytes 8 (b.start + b.copy * b.count + b.seq))
          else c.onDev fun d => { (d.sdCrc n).emit (.sd 24 (b.start + b.copy * b.count + b.seq) (c.archBlock b k)) with
            crd := { d.crd with sdBusy := true, sdLba := b.start + b.copy * b.count + b.seq } }))) ∧
      (d.crd.sdBusy = true → ∀ c1, c1 = c.onDev (fun d => { d with crd := { d.crd with sdBusy := false } }) →
        (∀ st, d.crd.sdStop = some st → exec .sdBusyEnd s = .next (s.setChip ((c1.onDev fun d => d.setSd 3).backupEnd b st []))) ∧
        (d.crd.sdStop = none → exec .sdBusyEnd s = .next (s.setChip (
          if b.seq + 1 < b.count then c1.onDev fun d => { d with wdn := { d.wdn with backup := some { b with seq := b.seq + 1 } } }
          else if b.copy + 1 < b.copies then c1.onDev fun d => { d with wdn := { d.wdn with backup := some { b with seq := 0, copy := b.copy + 1 } } }
          else (c1.onDev fun d => d.setSd 3).backupEnd b stOk (Config.freeBytes b.archive 16 ++ leBytes 4 b.count)))) ∧
        exec .sdBusyTimeout s = .next (s.setChip ((c1.onDev fun d => (d.inc Fld.CRD_SD_COUNTS_BUSY_TIMEOUT 1).setSd 6).backupEnd b stUnitReset
          (leBytes 8 (b.start + b.copy * b.count + b.seq))))) ∧
      (d.sdState ≠ 0 → d.crd.sdPresent = true → ∀ data : Bool, exec (.sdCardRemoval data) s = .next (s.setChip (
        (c.onDev fun d => (if d.crd.sdBusy then ((d.wr Fld.CRD_SD_STATUS_REMOVED_IN_BUSY 1).wr Fld.CRD_SD_BLOCK_LBA d.crd.sdLba).eventAt Fld.CRD_SD_EVSEQ_SEQ
          else if data then ((d.wr Fld.CRD_SD_STATUS_REMOVED_IN_DATA 1).wr Fld.CRD_SD_BLOCK_LBA (b.start + b.copy * b.count + b.seq)).eventAt Fld.CRD_SD_EVSEQ_SEQ
          else (d.wr Fld.CRD_SD_STATUS_REMOVED 1).eventAt Fld.CRD_SD_EVSEQ_SEQ).sdEmpty).backupEnd b stUnitReset (leBytes 8 (b.start + b.copy * b.count + b.seq)))))) ∧
    (d.wdn.backup = none → d.wdn.restore = none → d.sdState ≠ 0 → d.crd.sdPresent = true → ∀ data, exec (.sdCardRemoval data) s = .next (s.onDev fun _ =>
      ((d.wr Fld.CRD_SD_STATUS_REMOVED 1).eventAt Fld.CRD_SD_EVSEQ_SEQ).sdEmpty)) ∧
    (∀ x bs n lba c1, d.wdn.restore = some x → d.sdState = 5 → lba = x.start + x.copy * x.count + x.nextSeq → c1 = c.onDev (fun d => (d.sdCrc n).emit (.sd 17 lba [])) →
      (4 ≤ n → exec (.sdBlockRead bs n) s = .next (s.setChip ((c.onDev fun d => (d.sdCrc n).setSd 6).restoreEnd stUnitReset (leBytes 8 lba)))) ∧
      (n < 4 → x.header = [] → ∀ r, x.req = some r → exec (.sdBlockRead bs n) s = .next (s.setChip (
        if headerFormed x x.copy bs = true then
          if slice bs 40 16 = c1.dev.deviceId then
            (c1.onDev fun d => { d with wdn := { d.wdn with restore := some { x with header := bs, headCopy := x.copy, req := none, copy := 0 } } }).onDev fun d =>
              (d.reply r stOk (slice bs 8 16 ++ leBytes 4 (beAt bs 56 4) ++ [0, 0, 0, 0])).cardsStart
          else (c1.onDev fun d => d.setSd 3).restoreEnd stFormat []
        else if x.copy + 1 < x.copies then c1.onDev fun d => { d with wdn := { d.wdn with restore := some { x with copy := 1 } } }
        else (c1.onDev fun d => d.setSd 3).restoreEnd stFormat []))) ∧
      (n < 4 → x.header ≠ [] → x.key ≠ [] → x.bad = none → x.nextSeq < x.count → exec (.sdBlockRead bs n) s = .next (s.setChip (match c1.dev.archValid x x.copy bs with
        | some pay =>
          let y := { x with blocks := x.blocks ++ [pay], nextSeq := x.nextSeq + 1, copy := 0 }
          if x.nextSeq + 1 < x.count then c1.onDev fun d => { d with wdn := { d.wdn with restore := some y } } else c1.onDev fun d => (d.loadArchive y).setSd 3
        | none =>
          if x.copy + 1 < x.copies then c1.onDev fun d => { d with wdn := { d.wdn with restore := some { x with copy := 1 } } }
          else c1.onDev fun d => ({ d with wdn := { d.wdn with restore := some { x with bad := some x.nextSeq } } } : Dev).setSd 3))))

/-- MORTAR_LINK_UP, MORTAR_LINK_DOWN, HELLO, HELLO_REPLY, FINISH, SESSION_RETRY, FRAME_FORWARD, RETRANSMIT_TIMER, and every message before it counts (R378 to R387,
R396). -/
def Obligations.MortarFramesAndSessions : Prop :=
  ∀ (s : State) (d : Dev), d = s.chip.dev →
    (∀ p lanes peer, d.wdn.running = true → p < 2 → d.portHeld p = false → d.held = false → d.rd (Fld.MTR_PORT_LINK p) < 2 →
      exec (.mortarLinkUp p lanes peer) s = .next (s.mortarTo (
        let d1 := (((d.wr (Fld.MTR_PORT_LINK p) 2).wr (Fld.MTR_PORT_LANES p) (min lanes 4)).wr (Fld.MTR_PORT_PEER_ID p) peer).lifeAdd (543 + p) 1
        if d1.mtrUp && d1.ownMember < peer then d1.helloStart p peer else d1))) ∧
    (∀ p, p < 2 → exec (.mortarLinkDown p) s = .next (s.mortarTo (
      (((d.setSess p Sess.reset).wr (Fld.MTR_PORT_LINK p) 0).wr (Fld.MTR_PORT_LANES p) 0).wr (Fld.MTR_PORT_PEER_ID p) 0))) ∧
    (∀ fr pay d1 k, d.helloIn fr = true → d1 = (d.relayTaken fr).event → k = frameSess fr →
      (∀ n cert, n = certLength (pay.drop 16) → cert = slice pay 16 n → d.rngFailed = false → d.rngServes 0 = true → exec (.hello fr pay) s = .next (s.mortarTo (
        if pay.length = 16 + n + 97 + 1568 + 16 ∧ leAt pay 4 4 = 0 ∧ leAt cert 0x20 1 = fr.src ∧ (fr.port < 2 → fr.src ≤ d1.ownMember) ∧ d1.certAccept cert = true then
          let f := d1.nfree
          let pre := leBytes 4 (d1.rd Fld.MTR_EPOCH_EPOCH) ++ [0, 0, 0, 0] ++ leBytes 8 (d1.mtr.msgId + 1) ++ d1.mtr.cert
            ++ slice (Config.publicOf 0x09 (Config.freeBytes f 48)) 0 97
            ++ slice (Config.kemEncaps (slice pay (16 + n + 97) 1568) (Config.freeBytes (f + 1) 32)) 0 1568 ++ Config.freeBytes (f + 2) 16
          let t := Config.sha384 (pay ++ pre)
          let z := sessKeys (Config.agree (Config.freeBytes f 48) (slice pay (16 + n) 97))
            (Config.kemShared (slice pay (16 + n + 97) 1568) (Config.freeBytes (f + 1) 32)) t (slice pay (16 + n + 97 + 1568) 16 ++ Config.freeBytes (f + 2) 16)
          let d2 := (d1.draw 0 3 96).setSess k { Sess.reset with st := 2, peer := fr.src, cert := cert, hello := t, keys := z }
          d2.helloOut k fr.src 2 (pre ++ d2.bothSign (asciiBytes "MTR2") t)
        else (d1.setSess k Sess.reset).inc Fld.MTR_COUNTS_DROPPED 1))) ∧
      ((d1.sess k).st = 1 → ∀ n cert m t, n = certLength (pay.drop 16) → cert = slice pay 16 n → m = 16 + n + 97 + 1568 + 16 →
        t = Config.sha384 ((d1.sess k).hello ++ pay.take m) → exec (.helloReply fr pay) s = .next (s.mortarTo (
          if pay.length = m + 96 + 4627 ∧ leAt pay 4 4 = 0 ∧ leAt cert 0x20 1 = fr.src ∧ d1.certAccept cert = true ∧ bothVerify cert (asciiBytes "MTR2") t (pay.drop m) = true then
            let e := (d1.sess k).eph
            let z := sessKeys (Config.agree (Config.freeBytes e 48) (slice pay (16 + n) 97))
              (Config.kemDecaps (Config.freeBytes (e + 1) 64) (slice pay (16 + n + 97) 1568)) t (Config.freeBytes (e + 2) 16 ++ slice pay (16 + n + 97 + 1568) 16)
            let d2 := d1.sessOpen k fr.src cert z true
            d2.helloOut k fr.src 3 (leBytes 4 (d2.rd Fld.MTR_EPOCH_EPOCH) ++ [0, 0, 0, 0] ++ leBytes 8 (d2.mtr.msgId + 1) ++ d2.bothSign (asciiBytes "MTR3") t)
          else (d1.setSess k Sess.reset).inc Fld.MTR_COUNTS_DROPPED 1))) ∧
      ((d1.sess k).st = 2 → (d1.sess k).peer = fr.src → exec (.finish fr pay) s = .next (s.mortarTo (
        if pay.length = 16 + 96 + 4627 ∧ bothVerify (d1.sess k).cert (asciiBytes "MTR3") (d1.sess k).hello (pay.drop 16) = true then d1.sessOpen k fr.src (d1.sess k).cert (d1.sess k).keys false
        else (d1.setSess k Sess.reset).inc Fld.MTR_COUNTS_DROPPED 1)))) ∧
    (∀ k peer, d.mtrUp = true → (d.sess k).st = 0 →
      (k < 2 → d.rd (Fld.MTR_PORT_LINK k) = 2 → d.ownMember < d.rd (Fld.MTR_PORT_PEER_ID k) → d.portHeld k = false →
        exec (.sessionRetry k peer) s = .next (s.mortarTo (d.helloStart k (d.rd (Fld.MTR_PORT_PEER_ID k))))) ∧
      (k = 16 + peer → d.relayOn = true → exec (.sessionRetry k peer) s = .next (s.mortarTo (d.helloStart k peer)))) ∧
    (∀ fr bs d1, d.frameArrives fr = true → fr.dst ≠ d.ownMember → fr.port < 2 → d.framePasses fr = (d1, true) →
      (7 ≤ fr.hops → exec (.frameForward fr bs) s = .next (s.onDev fun _ => d1.inc Fld.MTR_COUNTS_DROPPED 1)) ∧
      (fr.hops < 7 → ∀ t, t = d1.sess (1 - fr.port) → t.st = 3 → exec (.frameForward fr bs) s = .next (s.onDev fun _ =>
        (d1.setSess (1 - fr.port) { t with tx := t.tx + 1 }).emit (.frame (1 - fr.port)
          (t.seal (leAt bs 0 1) (fr.hops + 1) fr.dst fr.src (bs.drop 16)))))) ∧
    (d.tmp.lock = false → d.tmp.erasing = false → d.held = false → exec .retransmitTimer s = .next (s.mortarTo (
      d.mtr.outstanding.foldl (fun x m => x.mtrSend m.dst m.kind m.fields) d))) ∧
    (∀ fr t, d.frameArrives fr = true → fr.dst = d.ownMember → fr.port < 2 → t = d.sess fr.port → ∀ a b l,
      ∀ i ∈ [Instr.prepare fr a b 0 l, .prepared fr a b, .commit fr a, .applied fr a b, .abort fr a, .leaseRequest fr a, .leaseHeld fr a, .heartbeatAck fr a b,
        .nak fr a b 0, .unlockResult fr a, .standbyAccept fr a, .join fr a b 0 0, .syncEnd fr a b],
        (fr.crc = false ∨ t.st ≠ 3 → exec i s = .next (s.mortarTo (d.inc Fld.MTR_COUNTS_DROPPED 1))) ∧
        (fr.crc = true → t.st = 3 → fr.tag = false ∨ fr.counter ≤ t.rx → exec i s = .next (s.mortarTo (
          let d1 := d.inc Fld.MTR_COUNTS_DROPPED 1
          if t.drops = 2 then d1.sessEnd fr.port else d1.setSess fr.port { t with drops := t.drops + 1 })))) ∧
    (∀ fr d1 e, d.frameIn fr = (d1, true) → d1.tmp.lock = false → e = d1.rd Fld.MTR_EPOCH_EPOCH → ∀ a b l,
      ∀ x ∈ [(Instr.prepare fr a b 0 l, 0x30, d1.fromManager fr && (d1.bondRole == 2 || d1.bondRole == 3)), (.prepared fr a b, 0x31, d1.bondRole == 1),
        (.commit fr a, 0x32, d1.fromManager fr && (d1.bondRole == 2 || d1.bondRole == 3)), (.applied fr a b, 0x33, d1.bondRole == 1),
        (.abort fr a, 0x34, d1.fromManager fr), (.leaseRequest fr a, 0x40, d1.bondRole == 1 && (d1.rosterId fr.src).isSome), (.leaseHeld fr a, 0x42, d1.bondRole == 1),
        (.leaseState fr a b 0 0, 0x43, d1.fromManager fr && d1.bondRole == 2), (.standbyAccept fr a, 0x51, d1.bondRole == 1)],
        (fr.epoch < e → exec x.1 s = .next (s.mortarTo (d1.mtrNak fr.src x.2.1 1 fr.msgId))) ∧
        (e < fr.epoch → exec x.1 s = .next (s.mortarTo (if d1.bondState = 1 then d1 else d1.enterJoining Dev.noteAnswer false))) ∧
        (fr.epoch = e → x.2.2 = false → exec x.1 s = .next (s.mortarTo (d1.mtrNak fr.src x.2.1 2 fr.msgId))))

/-- JOIN, JOIN_ACCEPT, SYNC, SYNC_END, HEARTBEAT, HEARTBEAT_ACK, HEARTBEAT_INTERVAL, MEMBER_LOST, CUT_OFF, PROMOTION, PROMOTED, NAK (R379, R386, R387, R391 to
R395). Roles: 1 manager, 2 standby, 3 worker; states: 1 JOINING, 2 SYNCING, 3 MEMBER, 4 CUT_OFF. -/
def Obligations.BondJoinsAndBeats : Prop :=
  ∀ (s : State) (d d1 : Dev) (fr : Frame), d = s.chip.dev →
    (d.Accepts fr d1 → d1.bondRole = 1 → d1.rosterId fr.src = none → ∀ a b h0 h1, exec (.join fr a b h0 h1) s = .next (s.mortarTo (d1.mtrNak fr.src 0x10 3 fr.msgId))) ∧
    (∀ id, d.Accepts fr d1 → d1.bondRole = 1 → fr.src ≠ d1.standbyId → d1.rosterId fr.src = some id →
      ∀ last highest h0 h1, exec (.join fr last highest h0 h1) s = .next (s.mortarTo (
        if (match d1.certOf fr.src with | some c => id == slice c 0x10 16 | none => true) = true then
          let burn (h : Nat) : Nat := if 2 ^ 63 ≤ h ∧ (d1.mtr.table.any fun t => t.member == fr.src && t.lease == h - 2 ^ 63) = false then h else 0
          let d2 : Dev := { d1 with mtr := { d1.mtr with lost := d1.mtr.lost.filter (· != fr.src) } }
          let d3 := if d2.rd Fld.MTR_LEASE_HIGH_WATER < highest then d2.wr Fld.MTR_LEASE_HIGH_WATER highest else d2
          let d4 := d3.setLive fr.src true
          (d4.mtrSend fr.src 0x11 ([3, d3.rd Fld.MTR_TXN_TXN, burn h0, burn h1] ++ d3.mtr.roster.flatMap (fun e => [e.1, ofLe e.2]))).resync fr.src last
        else d1.mtrNak fr.src 0x10 3 fr.msgId))) ∧
    (d.Accepts fr d1 → d1.fromManager fr = true →
      (d1.bondState = 1 → d1.mtr.joining = fr.src → ∀ role, role = 2 ∨ role = 3 → ∀ last b0 b1 roster,
        exec (.joinAccept fr role last b0 b1 roster) s = .next (s.mortarTo (
          let d2 := d1.mtrDone fr.src (fun m => m.kind == 0x10)
          let d3 := if 2 ^ 63 ≤ b0 then d2.burnLease (b0 - 2 ^ 63) else d2
          let d4 := if 2 ^ 63 ≤ b1 then d3.burnLease (b1 - 2 ^ 63) else d3
          let d5 : Dev := { d4 with mtr := { d4.mtr with roster := roster.filter (fun e => e.1 != 0), joining := 0, byReset := false, syncLast := last, named := [] } }
          ((d5.mtrSet role 2).bondRecord).syncCheck))) ∧
      (d1.bondState = 2 → ∀ images, images ≠ [] → images.length ≤ 200 → exec (.sync fr images) s = .next (s.mortarTo (
        let d2 := images.foldl (fun x i => if i.1 < 0x1C000 then x.changeAsk (imageChange x i.1 i.2 (some (leAt i.2 0x28 2)) 4) else x) d1
        { d2 with mtr := { d2.mtr with named := d2.mtr.named ++ images.map Prod.fst } }))) ∧
      (d1.bondState = 2 → d1.mtr.named.contains 0xFFFFFFFF = false → ∀ last slots, exec (.syncEnd fr last slots) s = .next (s.mortarTo (
        if d1.mtr.named.eraseDups.length = slots then
          let d2 := (d1.vlt.slots.filter fun x => decide (x.1 < 0x1C000) && aPresent x.2.attr && !d1.mtr.named.contains x.1).foldl
            (fun x y => x.changeAsk (mkChange y.1 (aPart y.2.attr) [] 0 true (aPersistent y.2.attr) 4)) d1
          ({ d2 with mtr := { d2.mtr with named := d2.mtr.named ++ [0xFFFFFFFF], syncLast := last } } : Dev).bondAnswer { VStage.reset with origin := 4 } stOk
        else
          let d2 := ({ d1 with mtr := { d1.mtr with joining := fr.src, named := [] } } : Dev).mtrSet d1.bondRole 1
          d2.mtrAsk fr.src 0x10 ([d1.rd Fld.MTR_TXN_TXN, d1.mtr.highest] ++ d1.heldFields)))) ∧
      (d1.mayAdopt fr = false → ∀ standby renew, exec (.heartbeat fr standby renew) s = .next (s.setChip (
        let c1 : Chip := { s.chip with dev := (if d1.bondState = 4 then d1.mtrSet d1.bondRole 3 else d1).wr Fld.MTR_EPOCH_STANDBY_ID standby }
        let c2 := if renew = 1 then c1.onDev (fun d => d.heldLeases.foldl (fun x l => (x.grantRecord l (c1.seconds + leAt c1.dev.wdn.config 0x1A 2)).leaseTake l) d) else c1
        c2.onDev fun d => d.mtrSend fr.src 0x21 ([d.bondState, d.rd Fld.MTR_TXN_TXN] ++ d.heldFields))))) ∧
    (d.frameIn fr = (d1, true) → d1.tmp.lock = false → d1.bondState = 1 → d1.mayLead fr.src = true → d1.rd Fld.MTR_EPOCH_EPOCH < fr.epoch →
      ∀ adopted : Dev, adopted = (let d2 := (d1.mtrEpoch fr.epoch).wr Fld.MTR_EPOCH_MANAGER_ID fr.src
        let d3 := ({ d2 with mtr := { d2.mtr with joining := fr.src } } : Dev).bondRecord
        d3.mtrAsk fr.src 0x10 ([d3.rd Fld.MTR_TXN_TXN, d3.mtr.highest] ++ d3.heldFields)) →
      (∀ standby renew, exec (.heartbeat fr standby renew) s = .next (s.onDev fun _ => adopted)) ∧
      (∀ last burns, exec (.promoted fr last burns) s = .next (s.mortarTo adopted))) ∧
    (d.Accepts fr d1 → d1.bondRole = 1 → (d1.rosterId fr.src).isSome = true → ∀ state last,
      (d1.mtr.lost.contains fr.src = true → exec (.heartbeatAck fr state last) s = .next (s.mortarTo (d1.mtrNak fr.src 0x21 4 fr.msgId))) ∧
      (d1.mtr.lost.contains fr.src = false → state ≠ 3 → exec (.heartbeatAck fr state last) s = .next (s.mortarTo (
        ((d1.setLive fr.src true).mtrDone fr.src (fun m => m.kind == 0x34)).designate)))) ∧
    (d.bondRole = 1 → d.tmp.lock = false → d.mtrUp = true → d.mtr.beats + 1 ≠ leAt d.wdn.config 0x1A 2 * 250 → exec .heartbeatInterval s = .next (s.onDev fun _ =>
      let d2 : Dev := { d with mtr := { d.mtr with beats := d.mtr.beats + 1 } }
      ((d2.mtr.roster.filter (fun e => e.1 != d2.ownMember)).foldl (fun x e => x.mtrSend e.1 0x20 [x.standbyId, 0, x.rd Fld.MTR_TXN_TXN]) d2).designate)) ∧
    (∀ m, d.bondRole = 1 → m ≠ d.ownMember → d.liveMembers.contains m = true → exec (.memberLost m) s = .next (s.mortarTo (
      let d1 := if m == d.standbyId then ((d.txAbort Dev.noteAnswer 0x0501).wr Fld.MTR_EPOCH_STANDBY_ID 0).wr Fld.MTR_STATUS_CAN_COMMIT 0 else d
      let d2 := (d1.setLive m false).inc Fld.MTR_COUNTS_LOST 1
      let leases := (d2.mtr.table.filter (fun t => t.member == m)).map Holding.lease
      let gone : Mtr := { d2.mtr with
        lost := d2.mtr.lost ++ [m]
        table := d2.mtr.table.filter (fun t => t.member != m)
        tx := d2.mtr.tx.map (fun t => { t with waiting := t.waiting.filter (· != m) })
        granting := match d2.mtr.granting with | some g => if g.1 = m || m == d.standbyId then none else some g | none => none
        requests := d2.mtr.requests.filter (fun r => r.1 != m)
        outstanding := d2.mtr.outstanding.filter (fun x => x.dst != m) }
      let d3 := (({ d2 with mtr := gone } : Dev).txApplied m (fun _ => true)).bondRecord
      let d4 := if d3.canCommit then leases.foldl (fun x l => x.mtrAsk x.standbyId 0x43 [x.rd Fld.MTR_LEASE_HIGH_WATER, m, 3, l]) d3 else d3
      ({ d4 with mtr := { d4.mtr with burning := if d4.canCommit then d4.mtr.burning ++ leases.map (fun l => (m, l)) else d4.mtr.burning } } : Dev).designate))) ∧
    (d.bondRole = 3 → d.bondState = 3 → d.tmp.lock = false → exec .cutOff s = .next (s.mortarTo ((d.inc Fld.MTR_COUNTS_MISSED 3).mtrSet 3 4))) ∧
    (d.bondRole = 2 → d.bondState = 3 → d.tmp.lock = false → d.canAudit = true → ∀ burns,
      burns = (d.mtr.table.filter (fun t => t.member == d.managerId || !d.liveMembers.contains t.member)).map (fun t => (t.member, t.lease)) →
      exec .promotion s = .next (s.mortarTo (
        let d2 := (d.dropPrepared fun _ => true).inc Fld.MTR_COUNTS_MISSED 3
        let d3 := d2.mtrEpoch ((d.dropPrepared fun _ => true).rd Fld.MTR_EPOCH_EPOCH + 1)
        let d4 := (d3.wr Fld.MTR_EPOCH_MANAGER_ID d3.ownMember).wr Fld.MTR_EPOCH_STANDBY_ID 0
        let d5 : Dev := { d4 with mtr := { d4.mtr with
          table := d4.mtr.table.filter (fun t => !burns.contains (t.member, t.lease)), lost := [d.managerId], beats := 0, want := 0, outstanding := [] } }
        let d6 := (d5.wr Fld.MTR_LIVE_LIVE 0).mtrSet 1 3
        let d7 := (d6.setLive d6.ownMember true).bondRecord
        let d8 := (burns.filter (fun b => b.1 == d7.ownMember)).foldl (fun x b => x.burnLease b.2) d7
        (d8.mtr.roster.filter (fun e => e.1 != d8.ownMember)).foldl (fun x e =>
          x.mtrSend e.1 0x52 ([x.rd Fld.MTR_TXN_TXN, burns.length] ++ burns.map Prod.snd)) d8))) ∧
    (d.frameIn fr = (d1, true) → d1.tmp.lock = false → d1.rd Fld.MTR_EPOCH_EPOCH < fr.epoch → d1.bondState = 3 ∨ d1.bondState = 4 → d1.bondRole = 3 →
      d1.mayLead fr.src = true → ∀ last burns, exec (.promoted fr last burns) s = .next (s.mortarTo (
        let d2 := (d1.mtrEpoch fr.epoch).dropPrepared (fun t => decide (last < t))
        let d3 := (d2.wr Fld.MTR_EPOCH_MANAGER_ID fr.src).wr Fld.MTR_EPOCH_STANDBY_ID 0
        let d4 : Dev := { d3 with mtr := { d3.mtr with outstanding := d3.mtr.outstanding.map fun m : Sent => if m.kind = 0x40 then Sent.mk fr.src m.kind m.fields else m } }
        let d5 := (d4.mtrSet 3 3).bondRecord
        (burns.filter d5.heldLeases.contains).foldl (fun x l => x.burnLease l) d5))) ∧
    (d.frameIn fr = (d1, true) → d1.tmp.lock = false → ∀ kind d2, d2 = d1.mtrDone fr.src (fun m => m.kind == kind) →
      (d2.rd Fld.MTR_EPOCH_EPOCH < fr.epoch → d2.bondState ≠ 1 → ∀ m, exec (.nak fr kind 1 m) s = .next (s.mortarTo (d2.enterJoining Dev.noteAnswer false))) ∧
      (kind = 0x21 → fr.src = d2.managerId → ∀ m, exec (.nak fr kind 4 m) s = .next (s.mortarTo ((d2.enterJoining Dev.noteAnswer false).adopt fr.src fr.epoch))) ∧
      (∀ m, m ≠ 0 → m ≠ d2.ownMember → m ≠ fr.src → exec (.nak fr kind 2 m) s = .next (s.mortarTo (
        (d1.mtr.outstanding.filter (fun x => x.dst == fr.src && x.kind == kind)).foldl (fun x y => x.mtrAsk m y.kind y.fields) d2))))

/-- PREPARE, PREPARED, COMMIT, APPLIED, ABORT (R385 to R389). Roles: 1 manager, 2 standby, 3 worker. -/
def Obligations.BondReplicatesKeyChanges : Prop :=
  ∀ (s : State) (d d1 : Dev) (fr : Frame) (txn : Nat), d = s.chip.dev → d.Accepts fr d1 →
    (d1.fromManager fr = true → d1.bondRole = 2 ∨ d1.bondRole = 3 →
      (∀ slot before img,
        (txn ≤ d1.rd Fld.MTR_TXN_TXN ∨ d1.mtr.prepared.map Prod.fst = some txn → exec (.prepare fr txn slot before img) s = .next (s.mortarTo (
          d1.mtrSend fr.src 0x31 [txn, stOk]))) ∧
        (d1.rd Fld.MTR_TXN_TXN < txn → d1.mtr.prepared = none → slot < 0x1C000 → before < 2 ^ 16 → d1.mtr.pendingImages = [] → d1.applying = false →
          ∀ v : VStage, v = imageChange d1 slot (slice img 0 64) none 2 → exec (.prepare fr txn slot before img) s = .next (s.mortarTo (
            let d2 : Dev := { d1 with mtr := { d1.mtr with pendingImages := [(txn, leBytes 4 slot ++ leBytes 2 before ++ [0, 0] ++ slice img 0 64)] } }
            if (d1.slot slot).gen = before then d2.changeAsk v
            else ({ d2 with mtr := { d2.mtr with pendingImages := [] } } : Dev).mtrSend d2.managerId 0x31 [txn, stStaleEpoch])))) ∧
      (txn ≤ d1.rd Fld.MTR_TXN_TXN → exec (.commit fr txn) s = .next (s.mortarTo (d1.mtrSend fr.src 0x33 [txn, stOk]))) ∧
      (∀ e, d1.rd Fld.MTR_TXN_TXN < txn → d1.mtr.prepared = some (txn, e) → (d1.vstage e).phase = .bond → exec (.commit fr txn) s = .next (s.mortarTo (
        let d2 : Dev := { d1 with seq := d1.seq + 1 }
        ({ d2 with mtr := { d2.mtr with unapplied := d2.mtr.unapplied ++ [⟨txn, e, [], 0, 0, d2.seq.toNat, [d2.ownMember], 2⟩] } } : Dev).changeGo Dev.noteAnswer e
          (d1.vstage e))))) ∧
    (d1.fromManager fr = true → exec (.abort fr txn) s = .next (s.mortarTo (
      let d2 := d1.dropPrepared (· == txn)
      d2.prepareNext d1.mtr.pendingImages.length))) ∧
    (d1.bondRole = 1 → ∀ status,
      (∀ d2, d2 = d1.mtrDone fr.src (fun m => m.kind == 0x30 && m.fields.head? == some txn) →
        (txn ≤ d2.rd Fld.MTR_TXN_TXN → exec (.prepared fr txn status) s = .next (s.mortarTo (if status = stOk then d2.mtrAsk fr.src 0x32 [txn] else d2))) ∧
        (∀ t, d2.rd Fld.MTR_TXN_TXN < txn → d2.mtr.tx = some t → t.txn = txn →
          (fr.src = d2.standbyId → status = stOk → t.phase = 0 → exec (.prepared fr txn status) s = .next (s.mortarTo (
            ({ d2 with mtr := { d2.mtr with tx := some { t with phase := 1 } } } : Dev).mtrAsk fr.src 0x32 [txn]))) ∧
          (fr.src = d2.standbyId → status ≠ stOk → exec (.prepared fr txn status) s = .next (s.mortarTo (d2.txAbort Dev.noteAnswer stStaleEpoch))) ∧
          (fr.src ≠ d2.standbyId → exec (.prepared fr txn status) s = .next (s.mortarTo (if status = stOk then d2
            else ({ d2 with mtr := { d2.mtr with tx := some { t with waiting := t.waiting.filter (· != fr.src) } } } : Dev).resync fr.src 0))))) ∧
      (∀ d2, d2 = d1.mtrDone fr.src (fun m => m.kind == 0x32 && m.fields.head? == some txn) →
        (d2.mtr.tx = none → exec (.applied fr txn stOk) s = .next (s.mortarTo (
          let left := (d2.mtr.unapplied.map fun t => if t.txn = txn then { t with waiting := t.waiting.filter (· != fr.src) } else t).filter (fun t => !t.waiting.isEmpty)
          { d2 with mtr := { d2.mtr with unapplied := left } }))) ∧
        (∀ t, d2.mtr.tx = some t → t.txn = txn → fr.src = d2.standbyId → t.phase = 1 →
          (status ≠ stOk → exec (.applied fr txn status) s = .next (s.mortarTo (d2.txAbort Dev.noteAnswer stStaleEpoch))) ∧
          (exec (.applied fr txn stOk) s = .next (s.mortarTo (
            let d3 := d2.wr Fld.MTR_TXN_TXN txn
            let d4 : Dev := { d3 with seq := d3.seq + 1 }
            let ws := t.waiting.filter (fun m => d4.liveWorkers.contains m)
            let u : MtrTx := { t with phase := 2, waiting := ws, seq := d4.seq.toNat }
            let d5 : Dev := { d4 with mtr := { d4.mtr with
              tx := none, hist := (d4.mtr.hist ++ [u]).drop (d4.mtr.hist.length + 1 - 4096),
              unapplied := if ws.isEmpty then d4.mtr.unapplied else d4.mtr.unapplied ++ [u] } }
            let d6 := ws.foldl (fun x m => x.mtrAsk m 0x32 [txn]) d5
            (d6.changeGo Dev.noteAnswer t.entry (d6.vstage t.entry)).txNext))))))

/-- LEASE_REQUEST, LEASE_GRANT, LEASE_HELD, LEASE_STATE, LEASE_STATE_ACK, STANDBY_DESIGNATE, STANDBY_ACCEPT, UNLOCK_RELAY, UNLOCK_RESULT, RESET (R384, R386,
R390, R391, R395, R396, R398). Roles: 1 manager, 2 standby, 3 worker; lease events: 1 granted, 2 held, 3 burned. -/
def Obligations.BondLeasesStandbyAndRelays : Prop :=
  ∀ (s : State) (d d1 : Dev) (fr : Frame), d = s.chip.dev →
    (d.Accepts fr d1 → d1.bondRole = 1 →
      (∀ high, (d1.rosterId fr.src).isSome = true →
        (∀ l d2, d1.mtr.requests = [] → d1.mtr.granting = none → d1.canCommit = true → l = max (d1.rd Fld.MTR_LEASE_HIGH_WATER) high + 1 →
          d2 = d1.wr Fld.MTR_LEASE_HIGH_WATER l → exec (.leaseRequest fr high) s = .next (s.mortarTo (
            let d3 := ({ d2 with mtr := { d2.mtr with granting := some (fr.src, l) } } : Dev).bondRecord
            d3.mtrAsk d3.standbyId 0x43 [l, fr.src, 1, l]))) ∧
        (d1.mtr.requests.any (fun r => r.1 == fr.src) = false → d1.mtr.granting.map Prod.fst ≠ some fr.src → d1.canCommit = false ∨ d1.mtr.granting.isSome = true →
          exec (.leaseRequest fr high) s = .next (s.mortarTo { d1 with mtr := { d1.mtr with requests := d1.mtr.requests ++ [(fr.src, high)] } }))) ∧
      (∀ l d2, d2 = d1.mtrDone fr.src (fun m => m.kind == 0x41 && m.fields.head? == some l) → exec (.leaseHeld fr l) s = .next (s.mortarTo (
        if d2.mtr.table.any (fun t => t.member == fr.src && t.lease == l) then
          let d3 := d2.tableAdd fr.src l 2
          if d3.canCommit then d3.mtrAsk d3.standbyId 0x43 [d3.rd Fld.MTR_LEASE_HIGH_WATER, fr.src, 2, l] else d3
        else d2))) ∧
      (∀ hw d2 d3, fr.src = d1.standbyId → d2 = d1.mtrDone fr.src (fun m => m.kind == 0x43 && (m.fields.head?.any fun h => decide (h ≤ hw))) →
        d3 = (if d2.mtr.outstanding.any (fun m => m.kind == 0x43) then d2 else { d2 with mtr := { d2.mtr with burning := [] } }) →
        (d3.mtr.granting = none → exec (.leaseStateAck fr hw) s = .next (s.onDev fun _ => d3)) ∧
        (∀ m l, d3.mtr.granting = some (m, l) → l ≤ hw → m ≠ d3.ownMember → exec (.leaseStateAck fr hw) s = .next (s.onDev fun _ =>
          ((({ d3 with mtr := { d3.mtr with granting := none } } : Dev).tableAdd m l 1).mtrAsk m 0x41 [l]).leaseServe))) ∧
      (∀ hw, d1.canCommit = false → d1.mtr.outstanding.any (fun m => m.dst == fr.src && m.kind == 0x50) = true → ∀ d2,
        d2 = ((d1.mtrDone fr.src (fun m => m.kind == 0x50)).wr Fld.MTR_EPOCH_STANDBY_ID fr.src).wr Fld.MTR_STATUS_CAN_COMMIT 1 →
        exec (.standbyAccept fr hw) s = .next (s.mortarTo ((({ d2 with mtr := { d2.mtr with want := 0 } } : Dev).liveShow.leaseServe).txNext)))) ∧
    (d.Accepts fr d1 → d1.fromManager fr = true →
      (∀ l, d1.heldLeases.contains l = true → exec (.leaseGrant fr l) s = .next (s.onDev fun _ => d1.mtrSend fr.src 0x42 [l])) ∧
      (∀ l, d1.heldLeases.contains l = false → d1.mtr.highest < l → d1.nextValid = false → d1.canAudit = true →
        exec (.leaseGrant fr l) s = .next (s.onDev fun _ =>
          let d2 : Dev := { d1 with mtr := { d1.mtr with highest := l } }
          let d3 := if d2.bondRole = 3 ∨ d2.bondRole = 0 then d2.wr Fld.MTR_LEASE_HIGH_WATER l else d2
          (((d3.bondRecord).grantRecord l (s.chip.bd.time / 32768 + leAt d1.wdn.config 0x1A 2)).mtrDone d3.managerId (fun m => m.kind == 0x40)).mtrSend fr.src 0x42 [l])) ∧
      (d1.bondRole = 2 → d1.canAudit = true → ∀ hw holder l d2, d2 = d1.wr Fld.MTR_LEASE_HIGH_WATER (max (d1.rd Fld.MTR_LEASE_HIGH_WATER) hw) →
        exec (.leaseState fr hw holder 3 l) s = .next (s.mortarTo (
          ({ d2 with mtr := { d2.mtr with table := d2.mtr.table.filter (fun t => !(t.member == holder && t.lease == l)) } } : Dev).bondRecord.mtrSend fr.src 0x44 [hw])) ∧
        (∀ ev, ev = 1 ∨ ev = 2 → exec (.leaseState fr hw holder ev l) s = .next (s.mortarTo ((d2.tableAdd holder l ev).bondRecord.mtrSend fr.src 0x44 [hw])))) ∧
      (d1.bondState = 3 → d1.canAudit = true → ∀ last, last ≤ d1.rd Fld.MTR_TXN_TXN → ∀ hw table d2,
        d2 = d1.wr Fld.MTR_LEASE_HIGH_WATER (max (d1.rd Fld.MTR_LEASE_HIGH_WATER) hw) → exec (.standbyDesignate fr hw last table) s = .next (s.mortarTo (
          let d3 := ({ d2 with mtr := { d2.mtr with table := table.map (fun t => Holding.mk t.1 t.2 1) } } : Dev).mtrSet 2 3
          let d4 := (d3.wr Fld.MTR_EPOCH_STANDBY_ID d2.ownMember).bondRecord
          (d4.mtr.roster.foldl (fun x e => x.setLive e.1 true) d4).mtrSend fr.src 0x51 [hw])))) ∧
    (d.frameIn fr = (d1, true) →
      (∀ token : List Byte, token.length % 8 = 0 → exec (.unlockRelay fr d1.deviceId token) s = .next (s.mortarTo (
        d1.enqueue ⟨3, fr.src, leBytes 2 0x0403 ++ [0, 0] ++ leBytes 2 0 ++ leBytes 2 token.length ++ List.replicate 24 0 ++ token, 0⟩))) ∧
      (∀ target token, target ≠ d1.deviceId → exec (.unlockRelay fr target token) s = .next (s.mortarTo d1)) ∧
      (∀ status, exec (.unlockResult fr status) s = .next (s.mortarTo ((d1.mtrDone fr.src (fun m => m.kind == 0x61)).emit (.warden (0x100 + fr.src) status []))))) ∧
    (d.Accepts fr d1 →
      (d1.bondRole = 3 → fr.src = d1.managerId → exec (.reset fr) s = .next (s.setChip (({ s.chip with dev := d1 } : Chip).assertReset 1 8 d1.managerId))) ∧
      (d1.bondRole = 1 ∨ d1.bondRole = 2 → exec (.reset fr) s = .next (s.onDev fun _ => d1.mtrNak fr.src 0x70 2 fr.msgId)))

/-- RELAY_ENABLE, RELAY_INBOUND_DOORBELL, RELAY_OUTBOUND_DOORBELL, RELAY_INBOUND_ENTRY, RELAY_OUTBOUND_ENTRY (R381); BOND_ENROL, BOND_START, BOND_ROSTER,
BOND_LEAVE, BOND_STATUS (R334, R335, R378, R395, R397, R398). -/
def Obligations.MortarRelayAndBondRequests : Prop :=
  ∀ (s : State) (c : Chip) (d : Dev), c = s.chip → d = s.chip.dev → ∀ (r : WReq) (src : Option Nat) (w : Word),
    (d.bar0 0 src 0xE0080 = true →
      (∀ d1, d.rd Fld.MTR_RELAY_CFG_ENABLE = 0 → d1 = ((d.wr Fld.MTR_RELAY_CFG_IN_SIZE_LOG2 (getF w 0 4)).wr Fld.MTR_RELAY_CFG_OUT_SIZE_LOG2 (getF w 4 4)).wr
          Fld.MTR_RELAY_CFG_VECTOR (getF w 16 11) →
        (w.getLsbD 63 = false → exec (.relayEnable src w) s = .next (s.onDev fun _ => (d1.wr Fld.MTR_RELAY_CFG_ENABLE 0).wr Fld.MTR_RELAY_STATE_ERR 0)) ∧
        (w.getLsbD 63 = true → exec (.relayEnable src w) s = .next (s.onDev fun _ =>
          let d2 := (((d1.wr Fld.MTR_RELAY_STATE_IN_HEAD 0).wr Fld.MTR_RELAY_STATE_OUT_TAIL 0).wr Fld.MTR_RELAY_STATE_PHASE 1).wr Fld.MTR_RELAY_CFG_ENABLE 1
          let d3 := ({ d2 with mtr := { d2.mtr with relay := [], relayIn := 0, relayOut := 0, relayGot := [] } } : Dev).relayShow
          if 4 ≤ getF w 0 4 ∧ getF w 0 4 ≤ 10 ∧ 4 ≤ getF w 4 4 ∧ getF w 4 4 ≤ 10 ∧ 2 ≤ getF w 16 11 then d3 else d3.wr Fld.MTR_RELAY_STATE_ERR 3))) ∧
      (d.rd Fld.MTR_RELAY_CFG_ENABLE = 1 → exec (.relayEnable src w) s = .next (s.onDev fun _ =>
        let d1 := if getF w 0 4 = d.rd Fld.MTR_RELAY_CFG_IN_SIZE_LOG2 ∧ getF w 4 4 = d.rd Fld.MTR_RELAY_CFG_OUT_SIZE_LOG2 ∧
          getF w 16 11 = d.rd Fld.MTR_RELAY_CFG_VECTOR then d else d.wr Fld.MTR_STATUS_CFG_REJECT 1
        if w.getLsbD 63 = true then d1 else (d1.wr Fld.MTR_RELAY_CFG_ENABLE 0).wr Fld.MTR_RELAY_STATE_ERR 0))) ∧
    (d.relayOn = true →
      (d.bar0 0 src 0xE0098 = true → w.getLsbD 32 = true → exec (.relayInboundDoorbell src w) s = .next (s.onDev fun d =>
        if getF w 0 16 < 2 ^ d.rd Fld.MTR_RELAY_CFG_IN_SIZE_LOG2 then { d with mtr := { d.mtr with relayIn := getF w 0 16 } } else d.wr Fld.MTR_RELAY_STATE_ERR 1)) ∧
      (d.bar0 0 src 0xE0098 = true → w.getLsbD 33 = true → ∀ n v, n = d.relaySize → v = getF w 16 16 → exec (.relayOutboundDoorbell src w) s = .next (s.onDev fun d =>
        if v < n ∧ ringDist n d.mtr.relayOut v ≤ ringDist n d.mtr.relayOut (d.rd Fld.MTR_RELAY_STATE_OUT_TAIL) then
          ({ d with mtr := { d.mtr with relayOut := v } } : Dev).relayShow
        else d.wr Fld.MTR_RELAY_STATE_ERR 1)) ∧
      (d.canSend 0 = true → ∀ h, h = d.rd Fld.MTR_RELAY_STATE_IN_HEAD → h ≠ d.mtr.relayIn → ∀ d1,
        d1 = d.emit (.memRead 0 (d.rd Fld.MTR_RELAY_IN_BASE_BASE * 4096 + 16384 * h) 16384) → ∀ len peer from_ clean,
        exec (.relayInboundEntry false len peer from_ clean) s = .next (s.onDev fun _ => d1.wr Fld.MTR_RELAY_STATE_ERR 2) ∧
        exec (.relayInboundEntry true len peer from_ clean) s = .next (s.onDev fun _ =>
          let d2 := d1.wr Fld.MTR_RELAY_STATE_IN_HEAD ((h + 1) % 2 ^ d1.rd Fld.MTR_RELAY_CFG_IN_SIZE_LOG2)
          if 16 ≤ len ∧ len ≤ 16368 ∧ peer = from_ ∧ clean = true then { d2 with mtr := { d2.mtr with relayGot := d2.mtr.relayGot ++ [from_] } }
          else d2.inc Fld.MTR_COUNTS_DROPPED 1)) ∧
      (∀ m rest, d.mtr.relay = m :: rest → d.canSend 0 = true → d.relayFull = false → ∀ t, t = d.rd Fld.MTR_RELAY_STATE_OUT_TAIL → ∀ d1,
        d1 = d.setSess (relaySess m.dst) { d.sess (relaySess m.dst) with tx := (d.sess (relaySess m.dst)).tx + 1 } →
        exec .relayOutboundEntry s = .next (s.onDev fun _ =>
          let f := d.wireFrame (d.sess (relaySess m.dst)) m.dst m.kind m.fields
          let d2 := ({ d1 with mtr := { d1.mtr with relay := rest } } : Dev).emit (.memWrite 0 (d.rd Fld.MTR_RELAY_OUT_BASE_BASE * 4096 + 16384 * t)
            (leBytes 2 f.length ++ [BitVec.ofNat 8 m.dst, BitVec.ofNat 8 (d.rd Fld.MTR_RELAY_STATE_PHASE)] ++ List.replicate 12 0 ++ f))
          let d3 := d2.wr Fld.MTR_RELAY_STATE_OUT_TAIL ((t + 1) % d2.relaySize)
          let d4 := if t + 1 = d3.relaySize then d3.wr Fld.MTR_RELAY_STATE_PHASE (1 - d3.rd Fld.MTR_RELAY_STATE_PHASE) else d3
          d4.relayShow.fire 0 (d4.rd Fld.MTR_RELAY_CFG_VECTOR)))) ∧
    (∀ b, c.Serves 0x0601 false r → b = r.params → r.paramLen = 2784 → r.bulkLen = 0 → allZero (slice b 0x22 6) = true → allZero (slice b 0xB9 7) = true →
      leAt b 0x21 1 < 2 → 1 ≤ leAt b 0x20 1 → leAt b 0x20 1 ≤ 64 → exec .bondEnrol s = .next (s.setChip (
        if slice b 0x10 16 = d.deviceId ∧ slice b 0x58 97 = d.mortarPub 0 ∧ slice b 0xC0 2592 = d.mortarPub 1 ∧ slice b 0x28 48 = d.profileDigest then
          c.underQuorum r [] 2 fun c => (c.onDev fun d =>
            let d1 := d.wardenState 0x0100 (b ++ r.auth)
            let d2 := ({ d1 with mtr := { d1.mtr with cert := b ++ r.auth } } : Dev).wr Fld.MTR_EPOCH_MEMBER_ID (leAt b 0x20 1)
            (d2.enterJoining Dev.noteAnswer false).mtrSet 0 1).reply r stOk
        else c.reply r stFormat))) ∧
    (c.Serves 0x0602 false r → r.paramLen = 1568 → r.bulkLen = 0 → r.par 25 7 = 0 → r.par 16 8 < 2 ^ 44 → d.bonded = true →
      exec .bondStart s = .next (s.setChip (
        if d.rosterOk (r.params.drop 32) = false then c.reply r stBadDescriptor
        else if slice r.params 0 16 ≠ slice d.mtr.cert 0 16 then c.reply r stFormat
        else c.underQuorum r [] 2 fun c => (c.onDev fun d =>
        let d1 := d.leaveRole Dev.noteAnswer stStaleEpoch
        let d2 := d1.mtrEpochOf d (if (d1.stateOf 0x0101).isSome then d1.rd Fld.MTR_EPOCH_EPOCH + 1 else 1)
        let d3 := (d2.wr Fld.MTR_EPOCH_MANAGER_ID d1.ownMember).wr Fld.MTR_EPOCH_STANDBY_ID 0
        let d4 : Dev := { d3 with mtr := { d3.mtr with
          roster := rosterOf (r.params.drop 32), table := [], want := r.par 24 1, joining := 0, byReset := false, lost := [], beats := 0 } }
        let d5 := (d4.wr Fld.MTR_LEASE_HIGH_WATER (r.par 16 8)).mtrSet 1 3
        (d5.setLive d5.ownMember true).bondRecord).reply r stOk))) ∧
    (c.Serves 0x0603 false r → r.paramLen = 1536 → r.bulkLen = 0 →
      (d.bondRole ≠ 1 ∨ r.epoch ≠ d.bondEpoch → exec .bondRoster s = .next (s.setChip (c.reply r stStaleEpoch))) ∧
      (d.bondRole = 1 → r.epoch = d.bondEpoch → exec .bondRoster s = .next (s.setChip (
        if d.rosterOk r.params = false then c.reply r stBadDescriptor else c.underQuorum r [] 2 fun c => (c.onDev fun d =>
        let d1 := (d.liveMembers.filter (fun m => !((rosterOf r.params).any (fun e => e.1 == m)))).foldl (fun x m => x.memberLost m) d
        { d1 with mtr := { d1.mtr with roster := rosterOf r.params } }).reply r stOk)))) ∧
    (c.Serves 0x0604 false r → r.paramLen = 0 → r.bulkLen = 0 → exec .bondLeave s = .next (s.setChip (c.underQuorum r [] 2 fun c => (c.onDev fun d =>
      let d1 := d.leaveRole Dev.noteAnswer stStaleEpoch
      let d2 := (d1.heldLeases.foldl (fun x l => x.burnLease l) d1).sessionsEnd false
      let d3 := (d2.wardenState 0x0100 []).wardenState 0x0101 []
      let d4 := (((d3.wr Fld.MTR_EPOCH_EPOCH 0).wr Fld.MTR_EPOCH_MEMBER_ID 0).wr Fld.MTR_EPOCH_MANAGER_ID 0).wr Fld.MTR_EPOCH_STANDBY_ID 0
      let d5 := (d4.wr Fld.MTR_LEASE_HIGH_WATER 0).wr Fld.MTR_TXN_TXN 0
      (({ d5 with mtr := { Mtr.reset with msgId := d5.mtr.msgId } } : Dev).mtrSet 0 0).abortBond d).reply r stOk))) ∧
    (c.Serves 0x0605 true r → r.plain 0 = true → exec .bondStatus s = .next (s.setChip (c.reply r stOk (
      bvBytes 8 (d.reg Fld.MTR_STATUS_ROLE.reg) ++ bvBytes 8 (d.reg Fld.MTR_EPOCH_EPOCH.reg) ++ bvBytes 8 (d.reg Fld.MTR_LIVE_LIVE.reg) ++
        bvBytes 8 (d.reg Fld.MTR_LEASE_HIGH_WATER.reg)))))

/-- POWER_ON, POR_RELEASE, POWER_LOSS, RESET_IN_N, PERST_N, RESET_CMD_COLD, RESET_CMD_WARM, HOT_RESET (R281, R306, R398 to R400, R406, R419, R438). -/
def Obligations.SuppliesAndResetSources : Prop :=
  ∀ (s : State) (c : Chip), c = s.chip →
    (c.dev.plt.mainOn = false → exec .powerOn s = .next (s.setChip ((c.onDev fun d =>
      { d with plt := { d.plt with mainOn := true, por := true, fresh := true }, tmp := { d.tmp with armed := [] } }).resetNow 2 1 0))) ∧
    (c.dev.plt.mainOn = true →
      exec .porRelease s = .next (s.onDev fun d => { d with plt := { d.plt with por := false } }) ∧
      (∀ o, c.dev.tmp.batch = [] → exec (.powerLoss o) s = .next (s.setChip (
        let t := c.dev.tmp
        let bd : Backup := if t.eraseDue = true ∨ t.erasing = true then { c.bd with bk := none, locked := true, erased := true }
          else if t.lockDue = true then { c.bd with locked := true } else c.bd
        let d1 := c.dev.nvsPowerLoss o
        let t1 : Tmp := { d1.tmp with
          frozen := false, crossed := [], lockDue := false, eraseDue := false, erasing := false, armed := [], window := [], reports := [], raised := [] }
        (Chip.resetNow ⟨{ d1 with tmp := t1, plt := { d1.plt with por := true, waiting := none } }, bd, c.fz⟩ 2 1 0).onDev
          fun d => { d with plt := { d.plt with mainOn := false, resets := [] } }))) ∧
      (∀ reach src origin, c.dev.tmp.erasing = true → c.assertReset reach src origin = (
        match c.dev.plt.waiting with
        | some w => if reach ≤ w.1 then c else c.onDev fun d => { d with plt := { d.plt with waiting := some (reach, src, origin) } }
        | none => c.onDev fun d => { d with plt := { d.plt with waiting := some (reach, src, origin) } })) ∧
      (c.dev.tmp.erasing = false →
        (∀ ns caught, c.dev.plt.rstIn = false →
          (1000 ≤ ns ∨ (100 < ns ∧ caught = true) → exec (.resetInN true ns caught) s = .next (s.setChip (
            (c.onDev fun d => { d with plt := { d.plt with rstIn := true } }).resetNow 2 2 0))) ∧
          (ns ≤ 100 ∨ (ns < 1000 ∧ caught = false) → exec (.resetInN true ns caught) s = .next s)) ∧
        (c.dev.plt.perst = false → exec (.perstN true) s = .next (s.setChip ((c.onDev fun d => { d with plt := { d.plt with perst := true } }).resetNow 2 3 0))) ∧
        (∀ v w org, c.dev.pltReached v 0 = true → org = (match v with | .i3c => 1 | _ => 0) →
          (getF w 48 16 = 0x9400 → getF w 0 48 = 2 → exec (.resetCmdCold v w) s = .next (s.setChip (c.resetNow 2 4 org))) ∧
          (getF w 48 16 = 0x9400 → getF w 0 48 = 1 → c.dev.plt.reach = 0 ∨ 5 ≤ c.dev.rd Fld.PLT_RESET_STATUS_STEP →
            exec (.resetCmdWarm v w) s = .next (s.setChip (c.resetNow 1 5 org))) ∧
          (getF w 48 16 ≠ 0x9400 ∨ (getF w 0 48 ≠ 1 ∧ getF w 0 48 ≠ 2) → ∀ i ∈ [Instr.resetCmdCold v w, .resetCmdWarm v w],
            exec i s = .next (s.onDev fun d => d.wr Fld.PLT_STATUS_BAD_KEY 1))) ∧
        (c.dev.plt.reach = 0 ∨ 5 ≤ c.dev.rd Fld.PLT_RESET_STATUS_STEP → exec .hotReset s = .next (s.setChip (c.resetNow 1 6 0))) ∧
        (c.dev.plt.reach ≠ 0 → c.dev.rd Fld.PLT_RESET_STATUS_STEP < 5 → exec .hotReset s = .next s))) ∧
    (∀ ns caught, exec (.resetInN false ns caught) s = .next (s.onDev fun d => { d with plt := { d.plt with rstIn := false } })) ∧
    exec (.perstN false) s = .next (s.onDev fun d => { d with plt := { d.plt with perst := false } }) ∧
    (∀ src org, src < 16 → org < 256 → ∀ d, d = c.dev →
      (∀ r, r = d.coldReset src org → (∀ a, a ≠ Fld.PLT_RESET_CAUSE_SOURCE.reg → r.reg a = regReset a) ∧ r.rd Fld.PLT_RESET_CAUSE_SOURCE = src ∧
        r.rd Fld.PLT_RESET_CAUSE_REACH = 2 ∧ r.rd Fld.PLT_RESET_CAUSE_ORIGIN = org ∧ r.seq = 0 ∧ r.hiu = Hiu.reset ∧ r.dsp = Dsp.reset ∧ r.thrs = [] ∧
        r.prog = Prog.reset ∧ r.ciph = Ciph.reset ∧ r.hpk = Hpk.reset ∧ r.vlt = Vlt.reset ∧ r.xks = Xks.reset ∧ r.rng = Rng.reset ∧ r.crd = Crd.reset ∧
        r.mtr = Mtr.reset ∧ r.nvs = d.nvsReset.nvs ∧ r.plt.rstOut = false ∧ r.plt.reach = 2) ∧
      (∀ r, r = d.warmReset src org → r.rd Fld.PLT_RESET_CAUSE_SOURCE = src ∧ r.rd Fld.PLT_RESET_CAUSE_REACH = 1 ∧ r.rd Fld.PLT_RESET_CAUSE_ORIGIN = org ∧
        r.prog = d.prog ∧ r.dsp.ctxs = d.dsp.ctxs ∧ r.dsp.cmds = [] ∧ r.thrs = [] ∧ r.vlt.staging = [] ∧ r.mtr.cert = d.mtr.cert ∧ r.plt.rstOut = false ∧
        r.plt.reach = 1 ∧ ∀ n, n < 64 → r.rd (Fld.PART_STATUS_EPOCH n) = (d.rd (Fld.PART_STATUS_EPOCH n) + 1) % 2 ^ (Fld.PART_STATUS_EPOCH n).width))

/-- STRETCH_END, FUSE_LOAD, ROOT_PLL_LOCK, WARDEN_ROM, KILN, CONFIG_VALIDATION, RESET_OUT_RELEASE, DATA_PLANE_ENABLE (R317, R323, R329, R342, R378, R400, R401,
R404, R405). -/
def Obligations.ReleaseStepsFollowInOrder : Prop :=
  ∀ (s : State) (d : Dev) (n : Nat), d = s.chip.dev → d.plt.mainOn = true → d.rd Fld.PLT_RESET_STATUS_STEP = n →
    let arm : Dev → List Nat → Dev := fun d l => { d with tmp := { d.tmp with armed := d.tmp.armed ++ l.filter (fun k => !d.tmp.armed.contains k) } }
    ∀ (tiles cores units dets : List Nat) (inject : Bool),
    (∀ x ∈ [(Instr.stretchEnd, 0), (.fuseLoad, 2), (.rootPllLock, 3), (.wardenRom, 4), (.kiln tiles cores units inject dets, 5), (.configValidation, 8)],
      n ≠ x.2 ∨ d.plt.reach = 0 → exec x.1 s = .next s) ∧
    (d.plt.reach ≠ 0 →
      (n = 0 → (d.plt.por = true ∨ d.plt.rstIn = true ∨ d.plt.perst = true → exec .stretchEnd s = .next s) ∧
        (d.plt.por = false → d.plt.rstIn = false → d.plt.perst = false →
          (d.plt.reach = 2 → exec .stretchEnd s = .next (s.onDev fun d => (arm d [0, 1, 2, 3, 4, 5, 6, 7, 19]).wr Fld.PLT_RESET_STATUS_STEP 2)) ∧
          (d.plt.reach = 1 → exec .stretchEnd s = .next (s.onDev fun d => d.wr Fld.PLT_RESET_STATUS_STEP 4)))) ∧
      (n = 2 → exec .fuseLoad s = .next (s.onDev fun d => (arm d [17]).wr Fld.PLT_RESET_STATUS_STEP 3)) ∧
      (n = 3 → exec .rootPllLock s = .next (s.onDev fun d => (d.wr Fld.PLT_CLOCKS_ROOT_LOCK 1).wr Fld.PLT_RESET_STATUS_STEP 4)) ∧
      (n = 4 → ∀ b v, (b, v) = (match d.patchBank 0, d.patchBank 1 with
          | some x, some y => if leAt x 4 4 < leAt y 4 4 then (2, leAt y 4 4) else (1, leAt x 4 4)
          | some x, none => (1, leAt x 4 4)
          | none, some y => (2, leAt y 4 4)
          | none, none => (0, 0)) →
        exec .wardenRom s = .next (s.onDev fun d =>
          let d1 := ((d.wr Fld.WDN_LIFECYCLE_PATCH b).wr Fld.WDN_LIFECYCLE_PATCH_VERSION v).wr Fld.WDN_LIFECYCLE_DEBUG_FUSES s.chip.fz.debug
          (arm { d1 with wdn := { d1.wdn with running := true } } [20]).wr Fld.PLT_RESET_STATUS_STEP 5)) ∧
      (n = 5 → d.rng.startup = false ∨ d.rngState = rngFailedSt → ∀ t1 t2 t3 t4,
        t1 = (List.range 64).foldl (fun x t => if (x.rd Fld.TILE_RETIRED_RETIRED).testBit t then x.wr (Fld.TILE_EPOCH_STATE t) 2
          else if tiles.contains t then ((((((x.wr Fld.TILE_FAULT_TILE t).wr Fld.TILE_FAULT_THREAD 0).wr Fld.TILE_FAULT_CAUSE 8).wr
            Fld.TILE_FAULT_PERMANENT 1).eventAt Fld.TILE_FAULT_EVSEQ_SEQ).tileOut t true)
          else (x.setBit Fld.TILE_AVAIL_AVAIL t true).wr (Fld.TILE_EPOCH_STATE t) 0) d →
        t2 = (List.range 48).foldl (fun x k => if (x.rd Fld.CIPH_RETIRED_RETIRED).testBit k then x
          else (x.setBit Fld.CIPH_SELFTEST_SELFTEST k true).coreTested k (!cores.contains k)) t1 →
        t3 = (List.range 32).foldl (fun x u => if (x.rd Fld.HPK_RETIRED_RETIRED).testBit u then x
          else (x.setBit Fld.HPK_SELFTEST_SELFTEST u true).unitTested u (!units.contains u)) t2 →
        t4 = { t3 with tmp := { t3.tmp with raised := t3.tmp.raised ++ (dets.filter (fun k => decide (k ≤ 16))).map (0x20 + ·) } } →
        exec (.kiln tiles cores units inject dets) s = .next (s.onDev fun _ =>
          let code := if t4.rngState = rngFailedSt then 1 else if (dets.filter (fun k => decide (k ≤ 16))).isEmpty = false then 2 else if inject = true then 3
            else if t4.tilesAvailable = 0 ∨ t4.noCore = true ∨ t4.anyUnit 0 15 = false ∨ t4.anyUnit 16 19 = false ∨ t4.anyUnit 20 27 = false ∨ t4.anyUnit 28 31 = false
            then 4 else 0
          let t5 := (t4.wr Fld.PLT_RESET_STATUS_KILN_FAIL 1).wr Fld.PLT_RESET_STATUS_KILN_TEST code
          (if code = 0 then t4 else { t5 with
            tmp := { t5.tmp with raised := t5.tmp.raised ++ [0x10 + code] }, plt := { t5.plt with resets := t5.plt.resets ++ [503] } }).wr Fld.PLT_RESET_STATUS_STEP 6)) ∧
      (n = 8 → ∀ d1 d2, d1 = (d.loadSet).wr Fld.WDN_LIFECYCLE_CONFIG_PENDING 0 →
        d2 = ((match d1.cfgNewest with
          | some (_, _, p) => (d1.cfgLoad p).wr Fld.PLT_RESET_STATUS_HELD 0
          | none => ({ d1 with wdn := { d1.wdn with config := [], km := [] }, xks := { d1.xks with held := true } } : Dev).wr Fld.PLT_RESET_STATUS_HELD 1).bondLoad).wr Fld.PLT_RESET_STATUS_STEP 9 →
        exec .configValidation s = .next (s.setChip ((s.chip.watch fun c => { c with dev := if d2.held = true then d2.sessionsEnd true else d2 }).onDev fun d =>
          s.chip.bd.entries.foldl (fun x e => x.alarmRecord e) d))) ∧
      (d.plt.rstOut = false → n = 10 ∨ (n = 9 ∧ d.held = true) → exec .resetOutRelease s = .next (s.onDev fun d =>
        (({ d with plt := { d.plt with rstOut := true } } : Dev).emit (.pin "RESET_OUT_N" true)).wr Fld.PLT_RESET_STATUS_STEP 11)) ∧
      (n ≠ 10 → n ≠ 9 → exec .resetOutRelease s = .next s) ∧
      (n = 11 → d.held = false →
        (s.chip.lifecycle = 5 → exec .dataPlaneEnable s = .next s) ∧
        (s.chip.lifecycle ≠ 5 → exec .dataPlaneEnable s = .next (s.setChip (s.chip.watch fun c => c.onDev fun d =>
          let d1 := (arm { d with plt := { d.plt with reach := 0 } } [18]).wr Fld.PLT_RESET_STATUS_STEP 12
          let d2 := d1.leaseRecover c.bd.timeValid (c.bd.time / 32768)
          if d2.bonded = false then d2 else if d2.tmp.lock = true ∨ d2.tmp.erased = true then d2.mtrSet 0 5 else d2.enterJoining Dev.noteAnswer true)))) ∧
      (n ≠ 11 → n ≠ 10 → exec .dataPlaneEnable s = .next s))

/-- BLOCK_RESET_HOLD, BLOCK_RESET_RELEASE, BLOCK_RELEASE_TESTS_DONE, MAINTENANCE_ENTER, MAINTENANCE_EXIT (R154, R196, R360, R373, R409 to R412, R419). Blocks: 0
tiles, 1 cipher, 2 hash and public key, 3 RNG, 4 store, 5 and 6 card contacts, 7 backup card, 8 and 9 Mortar ports. -/
def Obligations.BlockResetsAndMaintenance : Prop :=
  ∀ (s : State) (d : Dev), d = s.chip.dev → ∀ (v : Via) (w : Word),
    (∀ key, key = (getF w 48 16 = 0x9400 ∧ getF w 0 48 ∈ [1, 2, 3]) → d.pltReached v (pltOff Fld.PLT_MAINT_ACTIVE) = true →
      (¬ key → ∀ i ∈ [Instr.maintenanceEnter v w, .maintenanceExit v w], exec i s = .next (s.onDev fun d => d.wr Fld.PLT_STATUS_BAD_KEY 1)) ∧
      (key → w.getLsbD 0 = true → exec (.maintenanceEnter v w) s = .next (s.onDev fun d =>
        if (List.range 64).all (fun n => !d.partEnabled n) = true ∧ d.countCmds (fun c => c.st != .free) = 0 then d.wr Fld.PLT_MAINT_ACTIVE 1 else d.wr Fld.PLT_STATUS_CFG_REJECT 1)) ∧
      (key → w.getLsbD 1 = true → exec (.maintenanceExit v w) s = .next (s.onDev fun d =>
        if d.rd Fld.PLT_BLOCK_RESET_HOLD = 0 then d.wr Fld.PLT_MAINT_ACTIVE 0 else d.wr Fld.PLT_STATUS_CFG_REJECT 1))) ∧
    (d.pltReached v (pltOff Fld.PLT_BLOCK_RESET_HOLD) = true → ∀ ups downs : List Nat,
      ups = (List.range 10).filter (fun b => w.getLsbD b && !d.blockHeld b) → downs = (List.range 10).filter (fun b => !w.getLsbD b && d.blockHeld b) →
      (ups ≠ [] → d.held = false → d.rd Fld.PLT_MAINT_ACTIVE = 0 → exec (.blockResetHold v w) s = .next (s.onDev fun d => d.wr Fld.PLT_STATUS_CFG_REJECT 1)) ∧
      (downs ≠ [] → d.held = false → d.rd Fld.PLT_MAINT_ACTIVE = 0 → exec (.blockResetRelease v w) s = .next (s.onDev fun d => d.wr Fld.PLT_STATUS_CFG_REJECT 1)) ∧
      (d.held = true ∨ d.rd Fld.PLT_MAINT_ACTIVE = 1 →
        (let f : Chip → Nat → Chip := fun c b =>
            (let c1 := c.onDev fun d => (d.setBit Fld.PLT_BLOCK_RESET_HOLD b true).setBit Fld.PLT_BLOCK_RESET_READY b false
            match b with
            | 0 => c1.onDev fun d =>
              let d1 := (d.thrs.map Prod.fst).foldl (fun x h => x.endCommand h stUnitReset) d
              let d2 : Dev := { (d.thrs.map Prod.fst).foldl (fun x h => x.scopedClear h) d1 with thrs := [] }
              let d3 := (List.range 64).foldl (fun x t =>
                (if (x.rd Fld.TILE_RETIRED_RETIRED).testBit t then x else x.wr (Fld.TILE_EPOCH_STATE t) 3).tileEpochUp t) d2
              (((d3.wr Fld.TILE_AVAIL_AVAIL 0).wr Fld.TILE_SELFTEST_SELFTEST 0).boundary Fld.TILE_RUN_LIMIT_LIMIT.reg).noTiles
            | 1 => c1.onDev fun d =>
              let d1 := (d.failReqs (fun q r => r.eng == 1 || (q && r.eng == 4))).nvsAbandon NvKind.isWindow
              let d2 : Dev := { d1 with ciph := { d1.ciph with queue := [], steps := [], cache := [], waitNonce := [], commitOp := none } }
              ((d2.wr Fld.CIPH_AVAIL_AVAIL 0).wr Fld.CIPH_SELFTEST_SELFTEST 0).boundary Fld.CIPH_CFG_REFILL_AT.reg
            | 2 => c1.onDev fun d => (((d.failReqs (fun _ r => r.eng == 2 || r.eng == 3)).hpkClear).wr Fld.HPK_AVAIL_AVAIL 0).wr Fld.HPK_SELFTEST_SELFTEST 0
            | 3 => c1.onDev fun d => (((d.thrs.filter (fun x => match x.2.wait with | .rand _ => true | _ => false)).map Prod.fst).foldl
                (fun x h => x.endCommand h stUnitReset) (d.failReqs (fun _ r => r.eng == 7))).rngRestart
            | 4 => c1.onDev fun d => ((d.failReqs (fun _ r => r.eng == 5)).xferError 7).wr Fld.XKS_STATUS_READY 0
            | 5 => c1.cardHold 0
            | 6 => c1.cardHold 1
            | 7 => ((match (c1.onDev Dev.sdEmpty).dev.wdn.backup with
                | some b => (c1.onDev Dev.sdEmpty).backupEnd b stUnitReset (leBytes 8 b.lba)
                | none => c1.onDev Dev.sdEmpty).restoreEnd stUnitReset [])
            | 8 => c1.onDev fun d => d.portDown 0
            | _ => c1.onDev fun d => d.portDown 1)
         exec (.blockResetHold v w) s = .next (s.setChip (ups.foldl f s.chip))) ∧
        (let g : Dev → Nat → Dev := fun d b =>
            (let d1 := d.setBit Fld.PLT_BLOCK_RESET_HOLD b false
            let tests (retired test : Fld) (n : Nat) : Dev := (List.range n).foldl (fun x k => if (x.rd retired).testBit k then x else x.setBit test k true) d1
            match b with
            | 0 => (List.range 64).foldl (fun x t => if (x.rd Fld.TILE_RETIRED_RETIRED).testBit t then x else x.tileOut t false) d1
            | 1 => tests Fld.CIPH_RETIRED_RETIRED Fld.CIPH_SELFTEST_SELFTEST 48
            | 2 => tests Fld.HPK_RETIRED_RETIRED Fld.HPK_SELFTEST_SELFTEST 32
            | 3 => d1.rngRestart
            | 8 => d1.wr (Fld.MTR_PORT_LINK 0) 1
            | 9 => d1.wr (Fld.MTR_PORT_LINK 1) 1
            | _ => d1)
         exec (.blockResetRelease v w) s = .next (s.onDev fun d => downs.foldl g d)))) ∧
    (∀ b bad m, b < 10 → d.blockHeld b = false → (d.rd Fld.PLT_BLOCK_RESET_READY).testBit b = false → (b = 3 → d.rngState ≠ rngStart) →
      exec (.blockReleaseTestsDone b bad m) s = .next (s.onDev fun d =>
        let d1 : Dev := match b with
        | 0 => (List.range 64).foldl (fun (x : Dev) t => if (x.rd Fld.TILE_SELFTEST_SELFTEST).testBit t then x.tileTested t (!bad.contains t) else x) d
        | 1 => ((List.range 48).foldl (fun (x : Dev) k => x.coreTested k (!bad.contains k)) d).leaseRecover s.chip.bd.timeValid (s.chip.bd.time / 32768)
        | 2 => (List.range 32).foldl (fun (x : Dev) u => x.unitTested u (!bad.contains u)) d
        | 4 => d.xksVerify m
        | _ => d
        d1.setBit Fld.PLT_BLOCK_RESET_READY b true))

/-- I3C_PRIVATE_READ, I3C_PRIVATE_WRITE, ENTDAA, SETDASA, RSTDAA, ENEC, DISEC, GETPID, GETBCR, GETDCR, GETSTATUS, GETMWL, GETMRL (R427 to R429). What GETSTATUS,
GETMWL and GETMRL return, and that no address is assigned before step 5, are the model's choices (assumption 31). -/
def Obligations.ManagementPortAnswers : Prop :=
  ∀ (s : State) (d : Dev) (dyn : Nat), d = s.chip.dev → d.plt.mainOn = true → d.plt.por = false → dyn = d.rd Fld.PLT_I3C_STATUS_DYN_ADDR →
    (∀ (i2c : Bool) (c : Chip), (if i2c then dyn = 0 else dyn ≠ 0) →
        c = s.chip.onDev (fun d => if i2c then d.wr Fld.PLT_I3C_STATUS_I2C 1 else d) →
      (∀ off n, off % 8 = 0 →
        exec (.i3cPrivateRead off n i2c) s = .next (s.setChip ((Chip.i3cBytes 64 n off c).1.onDev fun d => d.emit (.i3c (Chip.i3cBytes 64 n off c).2))) ∧
        (n = 8 → exec (.i3cPrivateRead off n i2c) s = .next (s.setChip (
          (if off < 0x8000 then c.onDev (fun d => d.clearRc (0xF0000 + off)) else c).onDev fun d => d.emit (.i3c (leBytes 8 (c.i3cValue off).toNat))))) ∧
        (1 ≤ n → n < 8 → exec (.i3cPrivateRead off n i2c) s = .next (s.setChip (
          c.onDev fun d => d.emit (.i3c ((leBytes 8 (c.i3cValue off).toNat).take n))))) ∧
        ∀ k x, 8 < n → ∀ x1, x1 = (if off < 0x8000 then x.onDev (fun d => d.clearRc (0xF0000 + off)) else x) →
          Chip.i3cBytes (k + 1) n off x =
            ((Chip.i3cBytes k (n - 8) (off + 8) x1).1, leBytes 8 (x.i3cValue off).toNat ++ (Chip.i3cBytes k (n - 8) (off + 8) x1).2)) ∧
      (∀ off n, off % 8 ≠ 0 → exec (.i3cPrivateRead off n i2c) s = .next (s.setChip (c.onDev fun d => d.wr Fld.PLT_I3C_STATUS_BAD_ACCESS 1))) ∧
      (∀ bs off, off = leAt bs 1 2 →
        (bs.length = 11 → leAt bs 0 1 = 2 → off % 8 = 0 → exec (.i3cPrivateWrite bs i2c) s = .next (s.setChip (
          if 0x8000 ≤ off then c.onDev (fun d => d.i3cWrite off (bytesBv 64 (slice bs 3 8))) else c.writeReg .i3c (0xF0000 + off) (bytesBv 64 (slice bs 3 8))))) ∧
        (bs.length = 3 → leAt bs 0 1 = 1 → off % 8 = 0 → exec (.i3cPrivateWrite bs i2c) s = .next (s.setChip c)) ∧
        (¬ (bs.length = 11 ∧ leAt bs 0 1 = 2 ∧ off % 8 = 0) → ¬ (bs.length = 3 ∧ leAt bs 0 1 = 1 ∧ off % 8 = 0) →
          exec (.i3cPrivateWrite bs i2c) s = .next (s.setChip (c.onDev fun d => d.wr Fld.PLT_I3C_STATUS_BAD_ACCESS 1))))) ∧
    (∀ (i2c : Bool) (off n : Nat) (bs : List Byte), (if i2c then dyn ≠ 0 else dyn = 0) →
      exec (.i3cPrivateRead off n i2c) s = .next s ∧ exec (.i3cPrivateWrite bs i2c) s = .next s) ∧
    (∀ addr, (dyn = 0 → 5 ≤ d.rd Fld.PLT_RESET_STATUS_STEP → addr < 128 → addr ≠ 0 →
        exec (.entdaa addr) s = .next (s.onDev fun d => (d.wr Fld.PLT_I3C_STATUS_DYN_ADDR addr).wr Fld.PLT_I3C_STATUS_I2C 0) ∧
        exec (.setdasa 0x4A addr) s = .next (s.onDev fun d => (d.wr Fld.PLT_I3C_STATUS_DYN_ADDR addr).wr Fld.PLT_I3C_STATUS_I2C 0)) ∧
      (dyn ≠ 0 → exec (.entdaa addr) s = .next s ∧ ∀ stat, exec (.setdasa stat addr) s = .next s) ∧ (∀ stat, stat ≠ 0x4A → exec (.setdasa stat addr) s = .next s)) ∧
    exec .rstdaa s = .next (s.onDev fun d => d.wr Fld.PLT_I3C_STATUS_DYN_ADDR 0) ∧
    (∀ ev, (ev.testBit 0 = true → exec (.enec ev) s = .next (s.onDev fun d => { d with plt := { d.plt with ibi := true } }) ∧
        exec (.disec ev) s = .next (s.onDev fun d => { d with plt := { d.plt with ibi := false } })) ∧
      (ev.testBit 0 = false → exec (.enec ev) s = .next s ∧ exec (.disec ev) s = .next s)) ∧
    (dyn ≠ 0 →
      exec .getpid s = .next (s.onDev fun d => d.emit (.i3c (beBytes 2 Config.mipiManufacturer.toNat ++ [0x94, 0x00] ++ beBytes 2 Config.mipiInstance.toNat))) ∧
      exec .getbcr s = .next (s.onDev fun d => d.emit (.i3c [0x06])) ∧ exec .getdcr s = .next (s.onDev fun d => d.emit (.i3c [0x00])) ∧
      exec .getstatus s = .next (s.onDev fun d => { d.emit (.i3c (Config.freeBytes d.nfree 2)) with nfree := d.nfree + 1 }) ∧
      exec .getmwl s = .next (s.onDev fun d => d.emit (.i3c [0, 11])) ∧ exec .getmrl s = .next (s.onDev fun d => d.emit (.i3c [2, 0, 1]))) ∧
    (dyn = 0 → ∀ i ∈ [Instr.getpid, .getbcr, .getdcr, .getstatus, .getmwl, .getmrl], exec i s = .next s)

/-- SNAPSHOT_CAPTURE, TELEMETRY_SAMPLE, PCIE_LINK_UP, PCIE_LINK_DOWN (R22, R28, R402, R424 to R426, R429, R432). -/
def Obligations.SnapshotTelemetryAndPcieLink : Prop :=
  ∀ (s : State) (d : Dev), d = s.chip.dev →
    (∀ v w, d.pltReached v (pltOff Fld.PLT_SNAP_CTRL_CAPTURE) = true →
      (w.getLsbD 0 = false → exec (.snapshotCapture v w) s = .next s) ∧
      (w.getLsbD 0 = true → ∀ words, words = d.seq :: snapRegs.map (fun a => s.chip.readReg a false) →
        exec (.snapshotCapture v w) s = .next (s.onDev fun d => (words.zipIdx).foldl (fun x y => x.setReg (Fld.PLT_SNAP_WORD y.2).reg y.1) d) ∧
        (∀ t, exec (.snapshotCapture v w) s = .next t → ∀ k a, k < words.length → words[k]? = some a → t.chip.dev.reg (Fld.PLT_SNAP_WORD k).reg = a))) ∧
    (∀ temps mvs devs counts : List (BitVec 16),
      (d.plt.mainOn = false ∨ d.plt.por = true → exec (.telemetrySample temps mvs devs counts) s = .next s) ∧
      (d.plt.mainOn = true → d.plt.por = false →
        exec (.telemetrySample temps mvs devs counts) s = .next (s.onDev fun d =>
          let temp (x : Dev) (i : Nat) : Dev :=
            let t := (temps.getD i 0).toInt
            let x1 : Dev := { x.wr (Fld.PLT_TEMP_TJ i) (temps.getD i 0).toNat with
              plt := { x.plt with hottest := some (match x.plt.hottest with | some h => max h t | none => t) } }
            if (16 * x1.rd Fld.PLT_TELEM_WARN_TEMP_C : Nat) < t then (x1.wr Fld.PLT_TELEM_STATUS_TEMP 1).ibi 1 else x1
          let volt (x : Dev) (i : Nat) : Dev :=
            let v := (devs.getD i 0).toInt
            let x1 := (x.wr (Fld.PLT_VOLT_MV i) (mvs.getD i 0).toNat).wr (Fld.PLT_VOLT_DEV i) (devs.getD i 0).toNat
            let x2 : Dev := { x1 with plt := { x1.plt with devs := tput (fun _ => none) x1.plt.devs i (match tget (fun _ => none) x1.plt.devs i with
              | some o => if o.natAbs < v.natAbs then some v else some o
              | none => some v) } }
            if 10 * x2.rd Fld.PLT_TELEM_WARN_VOLT_PCT < v.natAbs then (x2.wr Fld.PLT_TELEM_STATUS_VOLT 1).ibi 1 else x2
          (List.range 32).foldl (fun x i => x.wr (Fld.PLT_PROC_COUNT i) (counts.getD i 0).toNat)
            ((List.range 24).foldl volt ((List.range 16).foldl temp d))))) ∧
    (d.plt.mainOn = true → d.plt.por = false → d.plt.reach ≠ 2 ∨ 4 ≤ d.rd Fld.PLT_RESET_STATUS_STEP →
      (∀ width rate flit, exec (.pcieLinkUp width rate flit) s = .next (s.onDev fun d =>
        let d1 := ((d.wr Fld.HIU_STATUS_LINK_WIDTH width).wr Fld.HIU_STATUS_LINK_RATE rate).wr Fld.HIU_STATUS_FLIT flit.toNat
        { d1 with plt := { d1.plt with life := tput (fun _ => 0) d1.plt.life 541 (tget (fun _ => 0) d1.plt.life 541 + 1) } })) ∧
      exec .pcieLinkDown s = .next (s.onDev fun d =>
        let d1 := ((d.wr Fld.HIU_STATUS_LINK_WIDTH 0).wr Fld.HIU_STATUS_LINK_RATE 0).wr Fld.HIU_STATUS_FLIT 0
        { d1 with plt := { d1.plt with life := tput (fun _ => 0) d1.plt.life 542 (tget (fun _ => 0) d1.plt.life 542 + 1) } })) ∧
    (d.plt.mainOn = false ∨ d.plt.por = true ∨ (d.plt.reach = 2 ∧ d.rd Fld.PLT_RESET_STATUS_STEP < 4) →
      (∀ width rate flit, exec (.pcieLinkUp width rate flit) s = .next s) ∧ exec .pcieLinkDown s = .next s)
end

