-- ==== Sys2Proof/Laws/Bits.lean ====
section
/-! SUPPORT. Bit fields: what a field reads as after it, or another field, has been written. -/

namespace Sys2Proof.Machine

theorem getLsbD_maskF (lo width i : Nat) : (maskF lo width).getLsbD i = (decide (i < 64) && decide (lo ≤ i) && decide (i < lo + width)) := by
  simp only [maskF, BitVec.getLsbD_shiftLeft, BitVec.getLsbD_setWidth, BitVec.getLsbD_allOnes]
  by_cases h1 : i < 64 <;> by_cases h2 : lo ≤ i <;> by_cases h3 : i < lo + width <;> simp [h1, h2, h3] <;> omega

theorem getLsbD_setF (w : Word) (lo width v i : Nat) :
    (setF w lo width v).getLsbD i =
      (decide (i < 64) && (if lo ≤ i ∧ i < lo + width then v.testBit (i - lo) else w.getLsbD i)) := by
  simp only [setF, BitVec.getLsbD_or, BitVec.getLsbD_and, BitVec.getLsbD_not, getLsbD_maskF, BitVec.getLsbD_shiftLeft,
    BitVec.getLsbD_setWidth, BitVec.getLsbD_ofNat]
  by_cases h1 : i < 64
  · by_cases h2 : lo ≤ i
    · by_cases h3 : i < lo + width
      · simp [h1, h2, h3, Nat.not_lt.mpr h2, show i - lo < 64 by omega, show i - lo < width by omega]
      · simp [h1, h2, h3, Nat.not_lt.mpr h2, show ¬ i - lo < width by omega]
    · simp [h1, h2, Nat.lt_of_not_le h2]
  · simp [h1, BitVec.getLsbD_of_ge w i (by omega)]

/-- A field reads as the value written to it, cut to its width. -/
theorem getF_setF_same (w : Word) (lo width v : Nat) (h : lo + width ≤ 64) : getF (setF w lo width v) lo width = v % 2 ^ width := by
  apply Nat.eq_of_testBit_eq
  intro i
  rw [getF, BitVec.testBit_toNat, BitVec.getLsbD_extractLsb', getLsbD_setF, Nat.testBit_mod_two_pow]
  by_cases hi : i < width
  · simp [hi, show lo + i < 64 by omega]
  · simp [hi]

/-- A field that no bit of the written one overlaps keeps its value. -/
theorem getF_setF_ne (w : Word) (lo width v lo' width' : Nat) (h : lo' + width' ≤ lo ∨ lo + width ≤ lo') :
    getF (setF w lo width v) lo' width' = getF w lo' width' := by
  apply Nat.eq_of_testBit_eq
  intro i
  rw [getF, getF, BitVec.testBit_toNat, BitVec.testBit_toNat, BitVec.getLsbD_extractLsb', BitVec.getLsbD_extractLsb', getLsbD_setF]
  by_cases hi : i < width'
  · have hn : ¬ (lo ≤ lo' + i ∧ lo' + i < lo + width) := by omega
    simp only [hi, decide_true, Bool.true_and, hn, if_false]
    by_cases h64 : lo' + i < 64
    · simp [h64]
    · simp [h64, BitVec.getLsbD_of_ge w (lo' + i) (by omega)]
  · simp [hi]

end Sys2Proof.Machine
end

