-- ==== Sys2Proof/Laws/State.lean ====
section
/-! SUPPORT. What each update of the state leaves alone, one lemma for each field, and the state a command's outcome holds. -/

namespace Sys2Proof.Machine

variable (s : State) (c : Chip) (d : Dev)

/-! ## The state of the block -/

@[simp] theorem onChip_eq (f : Chip → Chip) : onChip s f = .next { s with chip := f s.chip } := rfl
@[simp] theorem onDev_eq (f : Dev → Dev) : onDev s f = .next (s.onDev f) := rfl
@[simp] theorem State.onDev_dev (f : Dev → Dev) : (s.onDev f).chip.dev = f s.chip.dev := rfl
@[simp] theorem State.onDev_bd (f : Dev → Dev) : (s.onDev f).chip.bd = s.chip.bd := rfl
@[simp] theorem State.onDev_fz (f : Dev → Dev) : (s.onDev f).chip.fz = s.chip.fz := rfl
@[simp] theorem State.onDev_pending (f : Dev → Dev) : (s.onDev f).pending = s.pending := rfl
@[simp] theorem Chip.onDev_dev (f : Dev → Dev) : (c.onDev f).dev = f c.dev := rfl
@[simp] theorem Chip.onDev_bd (f : Dev → Dev) : (c.onDev f).bd = c.bd := rfl
@[simp] theorem Chip.onDev_fz (f : Dev → Dev) : (c.onDev f).fz = c.fz := rfl

/-- Only the device that the state holds decides what an effect on it gives. -/
theorem State.onDev_congr {f g : Dev → Dev} (h : f s.chip.dev = g s.chip.dev) : s.onDev f = s.onDev g := by
  simp [State.onDev, Chip.onDev, h]

/-- Two effects that agree on the device that the state holds have the same outcome. -/
theorem onDev_outcome {f g : Dev → Dev} (h : f s.chip.dev = g s.chip.dev) : onDev s f = .next (s.onDev g) := by
  rw [onDev_eq, State.onDev_congr s h]

/-- A command on the chip that concerns the device alone. -/
theorem onChip_outcome {f : Chip → Chip} {g : Dev → Dev} (h : f s.chip = s.chip.onDev g) : onChip s f = .next (s.onDev g) := by
  simp [onChip, h, State.onDev]

/-! ## The device -/

@[simp] theorem Dev.setReg_heff (a : Nat) (w : Word) : (d.setReg a w).heff = d.heff := rfl
@[simp] theorem Dev.setReg_seq (a : Nat) (w : Word) : (d.setReg a w).seq = d.seq := rfl
@[simp] theorem Dev.setReg_hiu (a : Nat) (w : Word) : (d.setReg a w).hiu = d.hiu := rfl
@[simp] theorem Dev.setReg_dsp (a : Nat) (w : Word) : (d.setReg a w).dsp = d.dsp := rfl
@[simp] theorem Dev.setReg_thrs (a : Nat) (w : Word) : (d.setReg a w).thrs = d.thrs := rfl
@[simp] theorem Dev.setReg_prog (a : Nat) (w : Word) : (d.setReg a w).prog = d.prog := rfl
@[simp] theorem Dev.setReg_ciph (a : Nat) (w : Word) : (d.setReg a w).ciph = d.ciph := rfl
@[simp] theorem Dev.setReg_hpk (a : Nat) (w : Word) : (d.setReg a w).hpk = d.hpk := rfl
@[simp] theorem Dev.setReg_vlt (a : Nat) (w : Word) : (d.setReg a w).vlt = d.vlt := rfl
@[simp] theorem Dev.setReg_xks (a : Nat) (w : Word) : (d.setReg a w).xks = d.xks := rfl
@[simp] theorem Dev.setReg_rng (a : Nat) (w : Word) : (d.setReg a w).rng = d.rng := rfl
@[simp] theorem Dev.setReg_nvs (a : Nat) (w : Word) : (d.setReg a w).nvs = d.nvs := rfl
@[simp] theorem Dev.setReg_tmp (a : Nat) (w : Word) : (d.setReg a w).tmp = d.tmp := rfl
@[simp] theorem Dev.setReg_wdn (a : Nat) (w : Word) : (d.setReg a w).wdn = d.wdn := rfl
@[simp] theorem Dev.setReg_crd (a : Nat) (w : Word) : (d.setReg a w).crd = d.crd := rfl
@[simp] theorem Dev.setReg_mtr (a : Nat) (w : Word) : (d.setReg a w).mtr = d.mtr := rfl
@[simp] theorem Dev.setReg_plt (a : Nat) (w : Word) : (d.setReg a w).plt = d.plt := rfl
@[simp] theorem Dev.setReg_out (a : Nat) (w : Word) : (d.setReg a w).out = d.out := rfl
@[simp] theorem Dev.setReg_nfree (a : Nat) (w : Word) : (d.setReg a w).nfree = d.nfree := rfl

@[simp] theorem Dev.wr_heff (f : Fld) (v : Nat) : (d.wr f v).heff = d.heff := rfl
@[simp] theorem Dev.wr_seq (f : Fld) (v : Nat) : (d.wr f v).seq = d.seq := rfl
@[simp] theorem Dev.wr_hiu (f : Fld) (v : Nat) : (d.wr f v).hiu = d.hiu := rfl
@[simp] theorem Dev.wr_dsp (f : Fld) (v : Nat) : (d.wr f v).dsp = d.dsp := rfl
@[simp] theorem Dev.wr_thrs (f : Fld) (v : Nat) : (d.wr f v).thrs = d.thrs := rfl
@[simp] theorem Dev.wr_prog (f : Fld) (v : Nat) : (d.wr f v).prog = d.prog := rfl
@[simp] theorem Dev.wr_ciph (f : Fld) (v : Nat) : (d.wr f v).ciph = d.ciph := rfl
@[simp] theorem Dev.wr_hpk (f : Fld) (v : Nat) : (d.wr f v).hpk = d.hpk := rfl
@[simp] theorem Dev.wr_vlt (f : Fld) (v : Nat) : (d.wr f v).vlt = d.vlt := rfl
@[simp] theorem Dev.wr_xks (f : Fld) (v : Nat) : (d.wr f v).xks = d.xks := rfl
@[simp] theorem Dev.wr_rng (f : Fld) (v : Nat) : (d.wr f v).rng = d.rng := rfl
@[simp] theorem Dev.wr_nvs (f : Fld) (v : Nat) : (d.wr f v).nvs = d.nvs := rfl
@[simp] theorem Dev.wr_tmp (f : Fld) (v : Nat) : (d.wr f v).tmp = d.tmp := rfl
@[simp] theorem Dev.wr_wdn (f : Fld) (v : Nat) : (d.wr f v).wdn = d.wdn := rfl
@[simp] theorem Dev.wr_crd (f : Fld) (v : Nat) : (d.wr f v).crd = d.crd := rfl
@[simp] theorem Dev.wr_mtr (f : Fld) (v : Nat) : (d.wr f v).mtr = d.mtr := rfl
@[simp] theorem Dev.wr_plt (f : Fld) (v : Nat) : (d.wr f v).plt = d.plt := rfl
@[simp] theorem Dev.wr_out (f : Fld) (v : Nat) : (d.wr f v).out = d.out := rfl
@[simp] theorem Dev.wr_nfree (f : Fld) (v : Nat) : (d.wr f v).nfree = d.nfree := rfl

@[simp] theorem Dev.inc_heff (f : Fld) (n : Nat) : (d.inc f n).heff = d.heff := rfl
@[simp] theorem Dev.inc_seq (f : Fld) (n : Nat) : (d.inc f n).seq = d.seq := rfl
@[simp] theorem Dev.inc_hiu (f : Fld) (n : Nat) : (d.inc f n).hiu = d.hiu := rfl
@[simp] theorem Dev.inc_dsp (f : Fld) (n : Nat) : (d.inc f n).dsp = d.dsp := rfl
@[simp] theorem Dev.inc_thrs (f : Fld) (n : Nat) : (d.inc f n).thrs = d.thrs := rfl
@[simp] theorem Dev.inc_prog (f : Fld) (n : Nat) : (d.inc f n).prog = d.prog := rfl
@[simp] theorem Dev.inc_ciph (f : Fld) (n : Nat) : (d.inc f n).ciph = d.ciph := rfl
@[simp] theorem Dev.inc_hpk (f : Fld) (n : Nat) : (d.inc f n).hpk = d.hpk := rfl
@[simp] theorem Dev.inc_vlt (f : Fld) (n : Nat) : (d.inc f n).vlt = d.vlt := rfl
@[simp] theorem Dev.inc_xks (f : Fld) (n : Nat) : (d.inc f n).xks = d.xks := rfl
@[simp] theorem Dev.inc_rng (f : Fld) (n : Nat) : (d.inc f n).rng = d.rng := rfl
@[simp] theorem Dev.inc_nvs (f : Fld) (n : Nat) : (d.inc f n).nvs = d.nvs := rfl
@[simp] theorem Dev.inc_tmp (f : Fld) (n : Nat) : (d.inc f n).tmp = d.tmp := rfl
@[simp] theorem Dev.inc_wdn (f : Fld) (n : Nat) : (d.inc f n).wdn = d.wdn := rfl
@[simp] theorem Dev.inc_crd (f : Fld) (n : Nat) : (d.inc f n).crd = d.crd := rfl
@[simp] theorem Dev.inc_mtr (f : Fld) (n : Nat) : (d.inc f n).mtr = d.mtr := rfl
@[simp] theorem Dev.inc_plt (f : Fld) (n : Nat) : (d.inc f n).plt = d.plt := rfl
@[simp] theorem Dev.inc_out (f : Fld) (n : Nat) : (d.inc f n).out = d.out := rfl
@[simp] theorem Dev.inc_nfree (f : Fld) (n : Nat) : (d.inc f n).nfree = d.nfree := rfl

@[simp] theorem Dev.boundary_regs (a : Nat) : (d.boundary a).regs = d.regs := rfl
@[simp] theorem Dev.boundary_seq (a : Nat) : (d.boundary a).seq = d.seq := rfl
@[simp] theorem Dev.boundary_hiu (a : Nat) : (d.boundary a).hiu = d.hiu := rfl
@[simp] theorem Dev.boundary_dsp (a : Nat) : (d.boundary a).dsp = d.dsp := rfl
@[simp] theorem Dev.boundary_thrs (a : Nat) : (d.boundary a).thrs = d.thrs := rfl
@[simp] theorem Dev.boundary_prog (a : Nat) : (d.boundary a).prog = d.prog := rfl
@[simp] theorem Dev.boundary_ciph (a : Nat) : (d.boundary a).ciph = d.ciph := rfl
@[simp] theorem Dev.boundary_hpk (a : Nat) : (d.boundary a).hpk = d.hpk := rfl
@[simp] theorem Dev.boundary_vlt (a : Nat) : (d.boundary a).vlt = d.vlt := rfl
@[simp] theorem Dev.boundary_xks (a : Nat) : (d.boundary a).xks = d.xks := rfl
@[simp] theorem Dev.boundary_rng (a : Nat) : (d.boundary a).rng = d.rng := rfl
@[simp] theorem Dev.boundary_nvs (a : Nat) : (d.boundary a).nvs = d.nvs := rfl
@[simp] theorem Dev.boundary_tmp (a : Nat) : (d.boundary a).tmp = d.tmp := rfl
@[simp] theorem Dev.boundary_wdn (a : Nat) : (d.boundary a).wdn = d.wdn := rfl
@[simp] theorem Dev.boundary_crd (a : Nat) : (d.boundary a).crd = d.crd := rfl
@[simp] theorem Dev.boundary_mtr (a : Nat) : (d.boundary a).mtr = d.mtr := rfl
@[simp] theorem Dev.boundary_plt (a : Nat) : (d.boundary a).plt = d.plt := rfl
@[simp] theorem Dev.boundary_out (a : Nat) : (d.boundary a).out = d.out := rfl
@[simp] theorem Dev.boundary_nfree (a : Nat) : (d.boundary a).nfree = d.nfree := rfl

@[simp] theorem Dev.event_regs : (d.event).regs = d.regs := rfl
@[simp] theorem Dev.event_heff : (d.event).heff = d.heff := rfl
@[simp] theorem Dev.event_hiu : (d.event).hiu = d.hiu := rfl
@[simp] theorem Dev.event_dsp : (d.event).dsp = d.dsp := rfl
@[simp] theorem Dev.event_thrs : (d.event).thrs = d.thrs := rfl
@[simp] theorem Dev.event_prog : (d.event).prog = d.prog := rfl
@[simp] theorem Dev.event_ciph : (d.event).ciph = d.ciph := rfl
@[simp] theorem Dev.event_hpk : (d.event).hpk = d.hpk := rfl
@[simp] theorem Dev.event_vlt : (d.event).vlt = d.vlt := rfl
@[simp] theorem Dev.event_xks : (d.event).xks = d.xks := rfl
@[simp] theorem Dev.event_rng : (d.event).rng = d.rng := rfl
@[simp] theorem Dev.event_nvs : (d.event).nvs = d.nvs := rfl
@[simp] theorem Dev.event_tmp : (d.event).tmp = d.tmp := rfl
@[simp] theorem Dev.event_wdn : (d.event).wdn = d.wdn := rfl
@[simp] theorem Dev.event_crd : (d.event).crd = d.crd := rfl
@[simp] theorem Dev.event_mtr : (d.event).mtr = d.mtr := rfl
@[simp] theorem Dev.event_plt : (d.event).plt = d.plt := rfl
@[simp] theorem Dev.event_out : (d.event).out = d.out := rfl
@[simp] theorem Dev.event_nfree : (d.event).nfree = d.nfree := rfl

@[simp] theorem Dev.eventAt_heff (f : Fld) : (d.eventAt f).heff = d.heff := rfl
@[simp] theorem Dev.eventAt_hiu (f : Fld) : (d.eventAt f).hiu = d.hiu := rfl
@[simp] theorem Dev.eventAt_dsp (f : Fld) : (d.eventAt f).dsp = d.dsp := rfl
@[simp] theorem Dev.eventAt_thrs (f : Fld) : (d.eventAt f).thrs = d.thrs := rfl
@[simp] theorem Dev.eventAt_prog (f : Fld) : (d.eventAt f).prog = d.prog := rfl
@[simp] theorem Dev.eventAt_ciph (f : Fld) : (d.eventAt f).ciph = d.ciph := rfl
@[simp] theorem Dev.eventAt_hpk (f : Fld) : (d.eventAt f).hpk = d.hpk := rfl
@[simp] theorem Dev.eventAt_vlt (f : Fld) : (d.eventAt f).vlt = d.vlt := rfl
@[simp] theorem Dev.eventAt_xks (f : Fld) : (d.eventAt f).xks = d.xks := rfl
@[simp] theorem Dev.eventAt_rng (f : Fld) : (d.eventAt f).rng = d.rng := rfl
@[simp] theorem Dev.eventAt_nvs (f : Fld) : (d.eventAt f).nvs = d.nvs := rfl
@[simp] theorem Dev.eventAt_tmp (f : Fld) : (d.eventAt f).tmp = d.tmp := rfl
@[simp] theorem Dev.eventAt_wdn (f : Fld) : (d.eventAt f).wdn = d.wdn := rfl
@[simp] theorem Dev.eventAt_crd (f : Fld) : (d.eventAt f).crd = d.crd := rfl
@[simp] theorem Dev.eventAt_mtr (f : Fld) : (d.eventAt f).mtr = d.mtr := rfl
@[simp] theorem Dev.eventAt_plt (f : Fld) : (d.eventAt f).plt = d.plt := rfl
@[simp] theorem Dev.eventAt_out (f : Fld) : (d.eventAt f).out = d.out := rfl
@[simp] theorem Dev.eventAt_nfree (f : Fld) : (d.eventAt f).nfree = d.nfree := rfl

@[simp] theorem Dev.takeFree_regs : (d.takeFree).regs = d.regs := rfl
@[simp] theorem Dev.takeFree_heff : (d.takeFree).heff = d.heff := rfl
@[simp] theorem Dev.takeFree_seq : (d.takeFree).seq = d.seq := rfl
@[simp] theorem Dev.takeFree_hiu : (d.takeFree).hiu = d.hiu := rfl
@[simp] theorem Dev.takeFree_dsp : (d.takeFree).dsp = d.dsp := rfl
@[simp] theorem Dev.takeFree_thrs : (d.takeFree).thrs = d.thrs := rfl
@[simp] theorem Dev.takeFree_prog : (d.takeFree).prog = d.prog := rfl
@[simp] theorem Dev.takeFree_ciph : (d.takeFree).ciph = d.ciph := rfl
@[simp] theorem Dev.takeFree_hpk : (d.takeFree).hpk = d.hpk := rfl
@[simp] theorem Dev.takeFree_vlt : (d.takeFree).vlt = d.vlt := rfl
@[simp] theorem Dev.takeFree_xks : (d.takeFree).xks = d.xks := rfl
@[simp] theorem Dev.takeFree_rng : (d.takeFree).rng = d.rng := rfl
@[simp] theorem Dev.takeFree_nvs : (d.takeFree).nvs = d.nvs := rfl
@[simp] theorem Dev.takeFree_tmp : (d.takeFree).tmp = d.tmp := rfl
@[simp] theorem Dev.takeFree_wdn : (d.takeFree).wdn = d.wdn := rfl
@[simp] theorem Dev.takeFree_crd : (d.takeFree).crd = d.crd := rfl
@[simp] theorem Dev.takeFree_mtr : (d.takeFree).mtr = d.mtr := rfl
@[simp] theorem Dev.takeFree_plt : (d.takeFree).plt = d.plt := rfl
@[simp] theorem Dev.takeFree_out : (d.takeFree).out = d.out := rfl

@[simp] theorem Dev.emit_regs (o : Out) : (d.emit o).regs = d.regs := rfl
@[simp] theorem Dev.emit_heff (o : Out) : (d.emit o).heff = d.heff := rfl
@[simp] theorem Dev.emit_seq (o : Out) : (d.emit o).seq = d.seq := rfl
@[simp] theorem Dev.emit_hiu (o : Out) : (d.emit o).hiu = d.hiu := rfl
@[simp] theorem Dev.emit_dsp (o : Out) : (d.emit o).dsp = d.dsp := rfl
@[simp] theorem Dev.emit_thrs (o : Out) : (d.emit o).thrs = d.thrs := rfl
@[simp] theorem Dev.emit_prog (o : Out) : (d.emit o).prog = d.prog := rfl
@[simp] theorem Dev.emit_ciph (o : Out) : (d.emit o).ciph = d.ciph := rfl
@[simp] theorem Dev.emit_hpk (o : Out) : (d.emit o).hpk = d.hpk := rfl
@[simp] theorem Dev.emit_vlt (o : Out) : (d.emit o).vlt = d.vlt := rfl
@[simp] theorem Dev.emit_xks (o : Out) : (d.emit o).xks = d.xks := rfl
@[simp] theorem Dev.emit_rng (o : Out) : (d.emit o).rng = d.rng := rfl
@[simp] theorem Dev.emit_nvs (o : Out) : (d.emit o).nvs = d.nvs := rfl
@[simp] theorem Dev.emit_tmp (o : Out) : (d.emit o).tmp = d.tmp := rfl
@[simp] theorem Dev.emit_wdn (o : Out) : (d.emit o).wdn = d.wdn := rfl
@[simp] theorem Dev.emit_crd (o : Out) : (d.emit o).crd = d.crd := rfl
@[simp] theorem Dev.emit_mtr (o : Out) : (d.emit o).mtr = d.mtr := rfl
@[simp] theorem Dev.emit_plt (o : Out) : (d.emit o).plt = d.plt := rfl
@[simp] theorem Dev.emit_nfree (o : Out) : (d.emit o).nfree = d.nfree := rfl

@[simp] theorem Dev.setFn_regs (n : Nat) (x : Fn) : (d.setFn n x).regs = d.regs := rfl
@[simp] theorem Dev.setFn_heff (n : Nat) (x : Fn) : (d.setFn n x).heff = d.heff := rfl
@[simp] theorem Dev.setFn_seq (n : Nat) (x : Fn) : (d.setFn n x).seq = d.seq := rfl
@[simp] theorem Dev.setFn_dsp (n : Nat) (x : Fn) : (d.setFn n x).dsp = d.dsp := rfl
@[simp] theorem Dev.setFn_thrs (n : Nat) (x : Fn) : (d.setFn n x).thrs = d.thrs := rfl
@[simp] theorem Dev.setFn_prog (n : Nat) (x : Fn) : (d.setFn n x).prog = d.prog := rfl
@[simp] theorem Dev.setFn_ciph (n : Nat) (x : Fn) : (d.setFn n x).ciph = d.ciph := rfl
@[simp] theorem Dev.setFn_hpk (n : Nat) (x : Fn) : (d.setFn n x).hpk = d.hpk := rfl
@[simp] theorem Dev.setFn_vlt (n : Nat) (x : Fn) : (d.setFn n x).vlt = d.vlt := rfl
@[simp] theorem Dev.setFn_xks (n : Nat) (x : Fn) : (d.setFn n x).xks = d.xks := rfl
@[simp] theorem Dev.setFn_rng (n : Nat) (x : Fn) : (d.setFn n x).rng = d.rng := rfl
@[simp] theorem Dev.setFn_nvs (n : Nat) (x : Fn) : (d.setFn n x).nvs = d.nvs := rfl
@[simp] theorem Dev.setFn_tmp (n : Nat) (x : Fn) : (d.setFn n x).tmp = d.tmp := rfl
@[simp] theorem Dev.setFn_wdn (n : Nat) (x : Fn) : (d.setFn n x).wdn = d.wdn := rfl
@[simp] theorem Dev.setFn_crd (n : Nat) (x : Fn) : (d.setFn n x).crd = d.crd := rfl
@[simp] theorem Dev.setFn_mtr (n : Nat) (x : Fn) : (d.setFn n x).mtr = d.mtr := rfl
@[simp] theorem Dev.setFn_plt (n : Nat) (x : Fn) : (d.setFn n x).plt = d.plt := rfl
@[simp] theorem Dev.setFn_out (n : Nat) (x : Fn) : (d.setFn n x).out = d.out := rfl
@[simp] theorem Dev.setFn_nfree (n : Nat) (x : Fn) : (d.setFn n x).nfree = d.nfree := rfl

@[simp] theorem Dev.setCmd_regs (e : Nat) (x : Cmd) : (d.setCmd e x).regs = d.regs := rfl
@[simp] theorem Dev.setCmd_heff (e : Nat) (x : Cmd) : (d.setCmd e x).heff = d.heff := rfl
@[simp] theorem Dev.setCmd_seq (e : Nat) (x : Cmd) : (d.setCmd e x).seq = d.seq := rfl
@[simp] theorem Dev.setCmd_hiu (e : Nat) (x : Cmd) : (d.setCmd e x).hiu = d.hiu := rfl
@[simp] theorem Dev.setCmd_thrs (e : Nat) (x : Cmd) : (d.setCmd e x).thrs = d.thrs := rfl
@[simp] theorem Dev.setCmd_prog (e : Nat) (x : Cmd) : (d.setCmd e x).prog = d.prog := rfl
@[simp] theorem Dev.setCmd_ciph (e : Nat) (x : Cmd) : (d.setCmd e x).ciph = d.ciph := rfl
@[simp] theorem Dev.setCmd_hpk (e : Nat) (x : Cmd) : (d.setCmd e x).hpk = d.hpk := rfl
@[simp] theorem Dev.setCmd_vlt (e : Nat) (x : Cmd) : (d.setCmd e x).vlt = d.vlt := rfl
@[simp] theorem Dev.setCmd_xks (e : Nat) (x : Cmd) : (d.setCmd e x).xks = d.xks := rfl
@[simp] theorem Dev.setCmd_rng (e : Nat) (x : Cmd) : (d.setCmd e x).rng = d.rng := rfl
@[simp] theorem Dev.setCmd_nvs (e : Nat) (x : Cmd) : (d.setCmd e x).nvs = d.nvs := rfl
@[simp] theorem Dev.setCmd_tmp (e : Nat) (x : Cmd) : (d.setCmd e x).tmp = d.tmp := rfl
@[simp] theorem Dev.setCmd_wdn (e : Nat) (x : Cmd) : (d.setCmd e x).wdn = d.wdn := rfl
@[simp] theorem Dev.setCmd_crd (e : Nat) (x : Cmd) : (d.setCmd e x).crd = d.crd := rfl
@[simp] theorem Dev.setCmd_mtr (e : Nat) (x : Cmd) : (d.setCmd e x).mtr = d.mtr := rfl
@[simp] theorem Dev.setCmd_plt (e : Nat) (x : Cmd) : (d.setCmd e x).plt = d.plt := rfl
@[simp] theorem Dev.setCmd_out (e : Nat) (x : Cmd) : (d.setCmd e x).out = d.out := rfl
@[simp] theorem Dev.setCmd_nfree (e : Nat) (x : Cmd) : (d.setCmd e x).nfree = d.nfree := rfl

@[simp] theorem Dev.setVec_regs (n v : Nat) (x : Vec) : (d.setVec n v x).regs = d.regs := rfl
@[simp] theorem Dev.setVec_heff (n v : Nat) (x : Vec) : (d.setVec n v x).heff = d.heff := rfl
@[simp] theorem Dev.setVec_seq (n v : Nat) (x : Vec) : (d.setVec n v x).seq = d.seq := rfl
@[simp] theorem Dev.setVec_dsp (n v : Nat) (x : Vec) : (d.setVec n v x).dsp = d.dsp := rfl
@[simp] theorem Dev.setVec_thrs (n v : Nat) (x : Vec) : (d.setVec n v x).thrs = d.thrs := rfl
@[simp] theorem Dev.setVec_prog (n v : Nat) (x : Vec) : (d.setVec n v x).prog = d.prog := rfl
@[simp] theorem Dev.setVec_ciph (n v : Nat) (x : Vec) : (d.setVec n v x).ciph = d.ciph := rfl
@[simp] theorem Dev.setVec_hpk (n v : Nat) (x : Vec) : (d.setVec n v x).hpk = d.hpk := rfl
@[simp] theorem Dev.setVec_vlt (n v : Nat) (x : Vec) : (d.setVec n v x).vlt = d.vlt := rfl
@[simp] theorem Dev.setVec_xks (n v : Nat) (x : Vec) : (d.setVec n v x).xks = d.xks := rfl
@[simp] theorem Dev.setVec_rng (n v : Nat) (x : Vec) : (d.setVec n v x).rng = d.rng := rfl
@[simp] theorem Dev.setVec_nvs (n v : Nat) (x : Vec) : (d.setVec n v x).nvs = d.nvs := rfl
@[simp] theorem Dev.setVec_tmp (n v : Nat) (x : Vec) : (d.setVec n v x).tmp = d.tmp := rfl
@[simp] theorem Dev.setVec_wdn (n v : Nat) (x : Vec) : (d.setVec n v x).wdn = d.wdn := rfl
@[simp] theorem Dev.setVec_crd (n v : Nat) (x : Vec) : (d.setVec n v x).crd = d.crd := rfl
@[simp] theorem Dev.setVec_mtr (n v : Nat) (x : Vec) : (d.setVec n v x).mtr = d.mtr := rfl
@[simp] theorem Dev.setVec_plt (n v : Nat) (x : Vec) : (d.setVec n v x).plt = d.plt := rfl
@[simp] theorem Dev.setVec_out (n v : Nat) (x : Vec) : (d.setVec n v x).out = d.out := rfl
@[simp] theorem Dev.setVec_nfree (n v : Nat) (x : Vec) : (d.setVec n v x).nfree = d.nfree := rfl

@[simp] theorem Dev.setCq_regs (n i : Nat) (x : Cq) : (d.setCq n i x).regs = d.regs := rfl
@[simp] theorem Dev.setCq_heff (n i : Nat) (x : Cq) : (d.setCq n i x).heff = d.heff := rfl
@[simp] theorem Dev.setCq_seq (n i : Nat) (x : Cq) : (d.setCq n i x).seq = d.seq := rfl
@[simp] theorem Dev.setCq_dsp (n i : Nat) (x : Cq) : (d.setCq n i x).dsp = d.dsp := rfl
@[simp] theorem Dev.setCq_thrs (n i : Nat) (x : Cq) : (d.setCq n i x).thrs = d.thrs := rfl
@[simp] theorem Dev.setCq_prog (n i : Nat) (x : Cq) : (d.setCq n i x).prog = d.prog := rfl
@[simp] theorem Dev.setCq_ciph (n i : Nat) (x : Cq) : (d.setCq n i x).ciph = d.ciph := rfl
@[simp] theorem Dev.setCq_hpk (n i : Nat) (x : Cq) : (d.setCq n i x).hpk = d.hpk := rfl
@[simp] theorem Dev.setCq_vlt (n i : Nat) (x : Cq) : (d.setCq n i x).vlt = d.vlt := rfl
@[simp] theorem Dev.setCq_xks (n i : Nat) (x : Cq) : (d.setCq n i x).xks = d.xks := rfl
@[simp] theorem Dev.setCq_rng (n i : Nat) (x : Cq) : (d.setCq n i x).rng = d.rng := rfl
@[simp] theorem Dev.setCq_nvs (n i : Nat) (x : Cq) : (d.setCq n i x).nvs = d.nvs := rfl
@[simp] theorem Dev.setCq_tmp (n i : Nat) (x : Cq) : (d.setCq n i x).tmp = d.tmp := rfl
@[simp] theorem Dev.setCq_wdn (n i : Nat) (x : Cq) : (d.setCq n i x).wdn = d.wdn := rfl
@[simp] theorem Dev.setCq_crd (n i : Nat) (x : Cq) : (d.setCq n i x).crd = d.crd := rfl
@[simp] theorem Dev.setCq_mtr (n i : Nat) (x : Cq) : (d.setCq n i x).mtr = d.mtr := rfl
@[simp] theorem Dev.setCq_plt (n i : Nat) (x : Cq) : (d.setCq n i x).plt = d.plt := rfl
@[simp] theorem Dev.setCq_out (n i : Nat) (x : Cq) : (d.setCq n i x).out = d.out := rfl
@[simp] theorem Dev.setCq_nfree (n i : Nat) (x : Cq) : (d.setCq n i x).nfree = d.nfree := rfl

@[simp] theorem Dev.setThr_regs (h : Nat) (x : Thr) : (d.setThr h x).regs = d.regs := rfl
@[simp] theorem Dev.setThr_heff (h : Nat) (x : Thr) : (d.setThr h x).heff = d.heff := rfl
@[simp] theorem Dev.setThr_seq (h : Nat) (x : Thr) : (d.setThr h x).seq = d.seq := rfl
@[simp] theorem Dev.setThr_hiu (h : Nat) (x : Thr) : (d.setThr h x).hiu = d.hiu := rfl
@[simp] theorem Dev.setThr_dsp (h : Nat) (x : Thr) : (d.setThr h x).dsp = d.dsp := rfl
@[simp] theorem Dev.setThr_prog (h : Nat) (x : Thr) : (d.setThr h x).prog = d.prog := rfl
@[simp] theorem Dev.setThr_ciph (h : Nat) (x : Thr) : (d.setThr h x).ciph = d.ciph := rfl
@[simp] theorem Dev.setThr_hpk (h : Nat) (x : Thr) : (d.setThr h x).hpk = d.hpk := rfl
@[simp] theorem Dev.setThr_vlt (h : Nat) (x : Thr) : (d.setThr h x).vlt = d.vlt := rfl
@[simp] theorem Dev.setThr_xks (h : Nat) (x : Thr) : (d.setThr h x).xks = d.xks := rfl
@[simp] theorem Dev.setThr_rng (h : Nat) (x : Thr) : (d.setThr h x).rng = d.rng := rfl
@[simp] theorem Dev.setThr_nvs (h : Nat) (x : Thr) : (d.setThr h x).nvs = d.nvs := rfl
@[simp] theorem Dev.setThr_tmp (h : Nat) (x : Thr) : (d.setThr h x).tmp = d.tmp := rfl
@[simp] theorem Dev.setThr_wdn (h : Nat) (x : Thr) : (d.setThr h x).wdn = d.wdn := rfl
@[simp] theorem Dev.setThr_crd (h : Nat) (x : Thr) : (d.setThr h x).crd = d.crd := rfl
@[simp] theorem Dev.setThr_mtr (h : Nat) (x : Thr) : (d.setThr h x).mtr = d.mtr := rfl
@[simp] theorem Dev.setThr_plt (h : Nat) (x : Thr) : (d.setThr h x).plt = d.plt := rfl
@[simp] theorem Dev.setThr_out (h : Nat) (x : Thr) : (d.setThr h x).out = d.out := rfl
@[simp] theorem Dev.setThr_nfree (h : Nat) (x : Thr) : (d.setThr h x).nfree = d.nfree := rfl

/-! ## The units of the device -/

@[simp] theorem Dev.draw_regs (i k n : Nat) : (d.draw i k n).regs = d.regs := rfl
@[simp] theorem Dev.draw_heff (i k n : Nat) : (d.draw i k n).heff = d.heff := rfl
@[simp] theorem Dev.draw_seq (i k n : Nat) : (d.draw i k n).seq = d.seq := rfl
@[simp] theorem Dev.draw_hiu (i k n : Nat) : (d.draw i k n).hiu = d.hiu := rfl
@[simp] theorem Dev.draw_dsp (i k n : Nat) : (d.draw i k n).dsp = d.dsp := rfl
@[simp] theorem Dev.draw_thrs (i k n : Nat) : (d.draw i k n).thrs = d.thrs := rfl
@[simp] theorem Dev.draw_prog (i k n : Nat) : (d.draw i k n).prog = d.prog := rfl
@[simp] theorem Dev.draw_ciph (i k n : Nat) : (d.draw i k n).ciph = d.ciph := rfl
@[simp] theorem Dev.draw_hpk (i k n : Nat) : (d.draw i k n).hpk = d.hpk := rfl
@[simp] theorem Dev.draw_vlt (i k n : Nat) : (d.draw i k n).vlt = d.vlt := rfl
@[simp] theorem Dev.draw_xks (i k n : Nat) : (d.draw i k n).xks = d.xks := rfl
@[simp] theorem Dev.draw_nvs (i k n : Nat) : (d.draw i k n).nvs = d.nvs := rfl
@[simp] theorem Dev.draw_tmp (i k n : Nat) : (d.draw i k n).tmp = d.tmp := rfl
@[simp] theorem Dev.draw_wdn (i k n : Nat) : (d.draw i k n).wdn = d.wdn := rfl
@[simp] theorem Dev.draw_crd (i k n : Nat) : (d.draw i k n).crd = d.crd := rfl
@[simp] theorem Dev.draw_mtr (i k n : Nat) : (d.draw i k n).mtr = d.mtr := rfl
@[simp] theorem Dev.draw_plt (i k n : Nat) : (d.draw i k n).plt = d.plt := rfl
@[simp] theorem Dev.draw_out (i k n : Nat) : (d.draw i k n).out = d.out := rfl

@[simp] theorem Dev.generate_regs (i n : Nat) : (d.generate i n).regs = d.regs := rfl
@[simp] theorem Dev.generate_heff (i n : Nat) : (d.generate i n).heff = d.heff := rfl
@[simp] theorem Dev.generate_seq (i n : Nat) : (d.generate i n).seq = d.seq := rfl
@[simp] theorem Dev.generate_hiu (i n : Nat) : (d.generate i n).hiu = d.hiu := rfl
@[simp] theorem Dev.generate_dsp (i n : Nat) : (d.generate i n).dsp = d.dsp := rfl
@[simp] theorem Dev.generate_thrs (i n : Nat) : (d.generate i n).thrs = d.thrs := rfl
@[simp] theorem Dev.generate_prog (i n : Nat) : (d.generate i n).prog = d.prog := rfl
@[simp] theorem Dev.generate_ciph (i n : Nat) : (d.generate i n).ciph = d.ciph := rfl
@[simp] theorem Dev.generate_hpk (i n : Nat) : (d.generate i n).hpk = d.hpk := rfl
@[simp] theorem Dev.generate_vlt (i n : Nat) : (d.generate i n).vlt = d.vlt := rfl
@[simp] theorem Dev.generate_xks (i n : Nat) : (d.generate i n).xks = d.xks := rfl
@[simp] theorem Dev.generate_nvs (i n : Nat) : (d.generate i n).nvs = d.nvs := rfl
@[simp] theorem Dev.generate_tmp (i n : Nat) : (d.generate i n).tmp = d.tmp := rfl
@[simp] theorem Dev.generate_wdn (i n : Nat) : (d.generate i n).wdn = d.wdn := rfl
@[simp] theorem Dev.generate_crd (i n : Nat) : (d.generate i n).crd = d.crd := rfl
@[simp] theorem Dev.generate_mtr (i n : Nat) : (d.generate i n).mtr = d.mtr := rfl
@[simp] theorem Dev.generate_plt (i n : Nat) : (d.generate i n).plt = d.plt := rfl
@[simp] theorem Dev.generate_out (i n : Nat) : (d.generate i n).out = d.out := rfl
@[simp] theorem Dev.generate_nfree (i n : Nat) : (d.generate i n).nfree = d.nfree := rfl

@[simp] theorem Dev.setSpdm_regs (x : Spdm) : (d.setSpdm x).regs = d.regs := rfl
@[simp] theorem Dev.setSpdm_heff (x : Spdm) : (d.setSpdm x).heff = d.heff := rfl
@[simp] theorem Dev.setSpdm_seq (x : Spdm) : (d.setSpdm x).seq = d.seq := rfl
@[simp] theorem Dev.setSpdm_hiu (x : Spdm) : (d.setSpdm x).hiu = d.hiu := rfl
@[simp] theorem Dev.setSpdm_dsp (x : Spdm) : (d.setSpdm x).dsp = d.dsp := rfl
@[simp] theorem Dev.setSpdm_thrs (x : Spdm) : (d.setSpdm x).thrs = d.thrs := rfl
@[simp] theorem Dev.setSpdm_prog (x : Spdm) : (d.setSpdm x).prog = d.prog := rfl
@[simp] theorem Dev.setSpdm_ciph (x : Spdm) : (d.setSpdm x).ciph = d.ciph := rfl
@[simp] theorem Dev.setSpdm_hpk (x : Spdm) : (d.setSpdm x).hpk = d.hpk := rfl
@[simp] theorem Dev.setSpdm_vlt (x : Spdm) : (d.setSpdm x).vlt = d.vlt := rfl
@[simp] theorem Dev.setSpdm_xks (x : Spdm) : (d.setSpdm x).xks = d.xks := rfl
@[simp] theorem Dev.setSpdm_rng (x : Spdm) : (d.setSpdm x).rng = d.rng := rfl
@[simp] theorem Dev.setSpdm_nvs (x : Spdm) : (d.setSpdm x).nvs = d.nvs := rfl
@[simp] theorem Dev.setSpdm_tmp (x : Spdm) : (d.setSpdm x).tmp = d.tmp := rfl
@[simp] theorem Dev.setSpdm_crd (x : Spdm) : (d.setSpdm x).crd = d.crd := rfl
@[simp] theorem Dev.setSpdm_mtr (x : Spdm) : (d.setSpdm x).mtr = d.mtr := rfl
@[simp] theorem Dev.setSpdm_plt (x : Spdm) : (d.setSpdm x).plt = d.plt := rfl
@[simp] theorem Dev.setSpdm_out (x : Spdm) : (d.setSpdm x).out = d.out := rfl
@[simp] theorem Dev.setSpdm_nfree (x : Spdm) : (d.setSpdm x).nfree = d.nfree := rfl

@[simp] theorem Dev.kmDrop_regs : (d.kmDrop).regs = d.regs := rfl
@[simp] theorem Dev.kmDrop_heff : (d.kmDrop).heff = d.heff := rfl
@[simp] theorem Dev.kmDrop_seq : (d.kmDrop).seq = d.seq := rfl
@[simp] theorem Dev.kmDrop_hiu : (d.kmDrop).hiu = d.hiu := rfl
@[simp] theorem Dev.kmDrop_dsp : (d.kmDrop).dsp = d.dsp := rfl
@[simp] theorem Dev.kmDrop_thrs : (d.kmDrop).thrs = d.thrs := rfl
@[simp] theorem Dev.kmDrop_prog : (d.kmDrop).prog = d.prog := rfl
@[simp] theorem Dev.kmDrop_ciph : (d.kmDrop).ciph = d.ciph := rfl
@[simp] theorem Dev.kmDrop_hpk : (d.kmDrop).hpk = d.hpk := rfl
@[simp] theorem Dev.kmDrop_vlt : (d.kmDrop).vlt = d.vlt := rfl
@[simp] theorem Dev.kmDrop_xks : (d.kmDrop).xks = d.xks := rfl
@[simp] theorem Dev.kmDrop_rng : (d.kmDrop).rng = d.rng := rfl
@[simp] theorem Dev.kmDrop_nvs : (d.kmDrop).nvs = d.nvs := rfl
@[simp] theorem Dev.kmDrop_tmp : (d.kmDrop).tmp = d.tmp := rfl
@[simp] theorem Dev.kmDrop_crd : (d.kmDrop).crd = d.crd := rfl
@[simp] theorem Dev.kmDrop_mtr : (d.kmDrop).mtr = d.mtr := rfl
@[simp] theorem Dev.kmDrop_plt : (d.kmDrop).plt = d.plt := rfl
@[simp] theorem Dev.kmDrop_out : (d.kmDrop).out = d.out := rfl
@[simp] theorem Dev.kmDrop_nfree : (d.kmDrop).nfree = d.nfree := rfl

@[simp] theorem Dev.serve_regs (n i : Nat) : (d.serve n i).regs = d.regs := rfl
@[simp] theorem Dev.serve_heff (n i : Nat) : (d.serve n i).heff = d.heff := rfl
@[simp] theorem Dev.serve_seq (n i : Nat) : (d.serve n i).seq = d.seq := rfl
@[simp] theorem Dev.serve_dsp (n i : Nat) : (d.serve n i).dsp = d.dsp := rfl
@[simp] theorem Dev.serve_thrs (n i : Nat) : (d.serve n i).thrs = d.thrs := rfl
@[simp] theorem Dev.serve_prog (n i : Nat) : (d.serve n i).prog = d.prog := rfl
@[simp] theorem Dev.serve_ciph (n i : Nat) : (d.serve n i).ciph = d.ciph := rfl
@[simp] theorem Dev.serve_hpk (n i : Nat) : (d.serve n i).hpk = d.hpk := rfl
@[simp] theorem Dev.serve_vlt (n i : Nat) : (d.serve n i).vlt = d.vlt := rfl
@[simp] theorem Dev.serve_xks (n i : Nat) : (d.serve n i).xks = d.xks := rfl
@[simp] theorem Dev.serve_rng (n i : Nat) : (d.serve n i).rng = d.rng := rfl
@[simp] theorem Dev.serve_nvs (n i : Nat) : (d.serve n i).nvs = d.nvs := rfl
@[simp] theorem Dev.serve_tmp (n i : Nat) : (d.serve n i).tmp = d.tmp := rfl
@[simp] theorem Dev.serve_wdn (n i : Nat) : (d.serve n i).wdn = d.wdn := rfl
@[simp] theorem Dev.serve_crd (n i : Nat) : (d.serve n i).crd = d.crd := rfl
@[simp] theorem Dev.serve_mtr (n i : Nat) : (d.serve n i).mtr = d.mtr := rfl
@[simp] theorem Dev.serve_plt (n i : Nat) : (d.serve n i).plt = d.plt := rfl
@[simp] theorem Dev.serve_out (n i : Nat) : (d.serve n i).out = d.out := rfl
@[simp] theorem Dev.serve_nfree (n i : Nat) : (d.serve n i).nfree = d.nfree := rfl

@[simp] theorem Dev.setCc_regs (p : Nat) (x : CcPort) : (d.setCc p x).regs = d.regs := rfl
@[simp] theorem Dev.setCc_heff (p : Nat) (x : CcPort) : (d.setCc p x).heff = d.heff := rfl
@[simp] theorem Dev.setCc_seq (p : Nat) (x : CcPort) : (d.setCc p x).seq = d.seq := rfl
@[simp] theorem Dev.setCc_hiu (p : Nat) (x : CcPort) : (d.setCc p x).hiu = d.hiu := rfl
@[simp] theorem Dev.setCc_dsp (p : Nat) (x : CcPort) : (d.setCc p x).dsp = d.dsp := rfl
@[simp] theorem Dev.setCc_thrs (p : Nat) (x : CcPort) : (d.setCc p x).thrs = d.thrs := rfl
@[simp] theorem Dev.setCc_prog (p : Nat) (x : CcPort) : (d.setCc p x).prog = d.prog := rfl
@[simp] theorem Dev.setCc_ciph (p : Nat) (x : CcPort) : (d.setCc p x).ciph = d.ciph := rfl
@[simp] theorem Dev.setCc_hpk (p : Nat) (x : CcPort) : (d.setCc p x).hpk = d.hpk := rfl
@[simp] theorem Dev.setCc_vlt (p : Nat) (x : CcPort) : (d.setCc p x).vlt = d.vlt := rfl
@[simp] theorem Dev.setCc_xks (p : Nat) (x : CcPort) : (d.setCc p x).xks = d.xks := rfl
@[simp] theorem Dev.setCc_rng (p : Nat) (x : CcPort) : (d.setCc p x).rng = d.rng := rfl
@[simp] theorem Dev.setCc_nvs (p : Nat) (x : CcPort) : (d.setCc p x).nvs = d.nvs := rfl
@[simp] theorem Dev.setCc_tmp (p : Nat) (x : CcPort) : (d.setCc p x).tmp = d.tmp := rfl
@[simp] theorem Dev.setCc_wdn (p : Nat) (x : CcPort) : (d.setCc p x).wdn = d.wdn := rfl
@[simp] theorem Dev.setCc_mtr (p : Nat) (x : CcPort) : (d.setCc p x).mtr = d.mtr := rfl
@[simp] theorem Dev.setCc_plt (p : Nat) (x : CcPort) : (d.setCc p x).plt = d.plt := rfl
@[simp] theorem Dev.setCc_out (p : Nat) (x : CcPort) : (d.setCc p x).out = d.out := rfl
@[simp] theorem Dev.setCc_nfree (p : Nat) (x : CcPort) : (d.setCc p x).nfree = d.nfree := rfl

@[simp] theorem Dev.setSess_regs (k : Nat) (x : Sess) : (d.setSess k x).regs = d.regs := rfl
@[simp] theorem Dev.setSess_heff (k : Nat) (x : Sess) : (d.setSess k x).heff = d.heff := rfl
@[simp] theorem Dev.setSess_seq (k : Nat) (x : Sess) : (d.setSess k x).seq = d.seq := rfl
@[simp] theorem Dev.setSess_hiu (k : Nat) (x : Sess) : (d.setSess k x).hiu = d.hiu := rfl
@[simp] theorem Dev.setSess_dsp (k : Nat) (x : Sess) : (d.setSess k x).dsp = d.dsp := rfl
@[simp] theorem Dev.setSess_thrs (k : Nat) (x : Sess) : (d.setSess k x).thrs = d.thrs := rfl
@[simp] theorem Dev.setSess_prog (k : Nat) (x : Sess) : (d.setSess k x).prog = d.prog := rfl
@[simp] theorem Dev.setSess_ciph (k : Nat) (x : Sess) : (d.setSess k x).ciph = d.ciph := rfl
@[simp] theorem Dev.setSess_hpk (k : Nat) (x : Sess) : (d.setSess k x).hpk = d.hpk := rfl
@[simp] theorem Dev.setSess_vlt (k : Nat) (x : Sess) : (d.setSess k x).vlt = d.vlt := rfl
@[simp] theorem Dev.setSess_xks (k : Nat) (x : Sess) : (d.setSess k x).xks = d.xks := rfl
@[simp] theorem Dev.setSess_rng (k : Nat) (x : Sess) : (d.setSess k x).rng = d.rng := rfl
@[simp] theorem Dev.setSess_nvs (k : Nat) (x : Sess) : (d.setSess k x).nvs = d.nvs := rfl
@[simp] theorem Dev.setSess_tmp (k : Nat) (x : Sess) : (d.setSess k x).tmp = d.tmp := rfl
@[simp] theorem Dev.setSess_wdn (k : Nat) (x : Sess) : (d.setSess k x).wdn = d.wdn := rfl
@[simp] theorem Dev.setSess_crd (k : Nat) (x : Sess) : (d.setSess k x).crd = d.crd := rfl
@[simp] theorem Dev.setSess_plt (k : Nat) (x : Sess) : (d.setSess k x).plt = d.plt := rfl
@[simp] theorem Dev.setSess_out (k : Nat) (x : Sess) : (d.setSess k x).out = d.out := rfl
@[simp] theorem Dev.setSess_nfree (k : Nat) (x : Sess) : (d.setSess k x).nfree = d.nfree := rfl

@[simp] theorem Dev.setSlot_regs (k : Nat) (x : Slot) : (d.setSlot k x).regs = d.regs := rfl
@[simp] theorem Dev.setSlot_heff (k : Nat) (x : Slot) : (d.setSlot k x).heff = d.heff := rfl
@[simp] theorem Dev.setSlot_seq (k : Nat) (x : Slot) : (d.setSlot k x).seq = d.seq := rfl
@[simp] theorem Dev.setSlot_hiu (k : Nat) (x : Slot) : (d.setSlot k x).hiu = d.hiu := rfl
@[simp] theorem Dev.setSlot_dsp (k : Nat) (x : Slot) : (d.setSlot k x).dsp = d.dsp := rfl
@[simp] theorem Dev.setSlot_thrs (k : Nat) (x : Slot) : (d.setSlot k x).thrs = d.thrs := rfl
@[simp] theorem Dev.setSlot_prog (k : Nat) (x : Slot) : (d.setSlot k x).prog = d.prog := rfl
@[simp] theorem Dev.setSlot_ciph (k : Nat) (x : Slot) : (d.setSlot k x).ciph = d.ciph := rfl
@[simp] theorem Dev.setSlot_hpk (k : Nat) (x : Slot) : (d.setSlot k x).hpk = d.hpk := rfl
@[simp] theorem Dev.setSlot_xks (k : Nat) (x : Slot) : (d.setSlot k x).xks = d.xks := rfl
@[simp] theorem Dev.setSlot_rng (k : Nat) (x : Slot) : (d.setSlot k x).rng = d.rng := rfl
@[simp] theorem Dev.setSlot_nvs (k : Nat) (x : Slot) : (d.setSlot k x).nvs = d.nvs := rfl
@[simp] theorem Dev.setSlot_tmp (k : Nat) (x : Slot) : (d.setSlot k x).tmp = d.tmp := rfl
@[simp] theorem Dev.setSlot_wdn (k : Nat) (x : Slot) : (d.setSlot k x).wdn = d.wdn := rfl
@[simp] theorem Dev.setSlot_crd (k : Nat) (x : Slot) : (d.setSlot k x).crd = d.crd := rfl
@[simp] theorem Dev.setSlot_mtr (k : Nat) (x : Slot) : (d.setSlot k x).mtr = d.mtr := rfl
@[simp] theorem Dev.setSlot_plt (k : Nat) (x : Slot) : (d.setSlot k x).plt = d.plt := rfl
@[simp] theorem Dev.setSlot_out (k : Nat) (x : Slot) : (d.setSlot k x).out = d.out := rfl
@[simp] theorem Dev.setSlot_nfree (k : Nat) (x : Slot) : (d.setSlot k x).nfree = d.nfree := rfl

@[simp] theorem Dev.setXrec_heff (i : Nat) (x : XRec) : (d.setXrec i x).heff = d.heff := rfl
@[simp] theorem Dev.setXrec_hiu (i : Nat) (x : XRec) : (d.setXrec i x).hiu = d.hiu := rfl
@[simp] theorem Dev.setXrec_dsp (i : Nat) (x : XRec) : (d.setXrec i x).dsp = d.dsp := rfl
@[simp] theorem Dev.setXrec_thrs (i : Nat) (x : XRec) : (d.setXrec i x).thrs = d.thrs := rfl
@[simp] theorem Dev.setXrec_prog (i : Nat) (x : XRec) : (d.setXrec i x).prog = d.prog := rfl
@[simp] theorem Dev.setXrec_ciph (i : Nat) (x : XRec) : (d.setXrec i x).ciph = d.ciph := rfl
@[simp] theorem Dev.setXrec_hpk (i : Nat) (x : XRec) : (d.setXrec i x).hpk = d.hpk := rfl
@[simp] theorem Dev.setXrec_vlt (i : Nat) (x : XRec) : (d.setXrec i x).vlt = d.vlt := rfl
@[simp] theorem Dev.setXrec_rng (i : Nat) (x : XRec) : (d.setXrec i x).rng = d.rng := rfl
@[simp] theorem Dev.setXrec_nvs (i : Nat) (x : XRec) : (d.setXrec i x).nvs = d.nvs := rfl
@[simp] theorem Dev.setXrec_tmp (i : Nat) (x : XRec) : (d.setXrec i x).tmp = d.tmp := rfl
@[simp] theorem Dev.setXrec_wdn (i : Nat) (x : XRec) : (d.setXrec i x).wdn = d.wdn := rfl
@[simp] theorem Dev.setXrec_crd (i : Nat) (x : XRec) : (d.setXrec i x).crd = d.crd := rfl
@[simp] theorem Dev.setXrec_mtr (i : Nat) (x : XRec) : (d.setXrec i x).mtr = d.mtr := rfl
@[simp] theorem Dev.setXrec_plt (i : Nat) (x : XRec) : (d.setXrec i x).plt = d.plt := rfl
@[simp] theorem Dev.setXrec_out (i : Nat) (x : XRec) : (d.setXrec i x).out = d.out := rfl
@[simp] theorem Dev.setXrec_nfree (i : Nat) (x : XRec) : (d.setXrec i x).nfree = d.nfree := rfl

end Sys2Proof.Machine
end

