-- ==== Sys2Proof/Laws/Tab.lean ====
section
/-! SUPPORT. Sparse tables: a read after a write, the canonical form, and that every write keeps it. -/

namespace Sys2Proof.Machine

variable {α : Type} [DecidableEq α] {d : Nat → α}

omit [DecidableEq α] in
theorem tget_tins_same (e : Nat × α) (t : Tab α) (h : ∀ x ∈ t, x.1 ≠ e.1) : tget d (tins e t) e.1 = e.2 := by
  induction t with
  | nil => simp [tins, tget]
  | cons x t ih =>
    simp only [tins]
    split
    · simp [tget]
    · have hx : x.1 ≠ e.1 := h x (by simp)
      simp [tget, hx, ih (fun y hy => h y (by simp [hy]))]

omit [DecidableEq α] in
theorem tget_tins_ne (e : Nat × α) (t : Tab α) {k : Nat} (hk : k ≠ e.1) : tget d (tins e t) k = tget d t k := by
  induction t with
  | nil => simp [tins, tget, Ne.symm hk]
  | cons x t ih =>
    simp only [tins]
    split
    · simp [tget, Ne.symm hk]
    · simp [tget, ih]

omit [DecidableEq α] in
theorem tget_absent (t : Tab α) (k : Nat) (h : ∀ x ∈ t, x.1 ≠ k) : tget d t k = d k := by
  induction t with
  | nil => rfl
  | cons x t ih => simp [tget, h x (by simp), ih (fun y hy => h y (by simp [hy]))]

omit [DecidableEq α] in
theorem tget_filter_ne (t : Tab α) {k j : Nat} (hk : k ≠ j) : tget d (t.filter (fun e => e.1 != j)) k = tget d t k := by
  induction t with
  | nil => rfl
  | cons x t ih =>
    by_cases hx : x.1 = j
    · have : x.1 ≠ k := fun h => hk (h.symm.trans hx)
      simp [hx, tget, ih, Ne.symm hk]
    · simp [hx, tget, ih]

omit [DecidableEq α] in
theorem absent_filter (t : Tab α) (k : Nat) : ∀ x ∈ t.filter (fun e => e.1 != k), x.1 ≠ k := by
  intro x hx
  simpa using (List.mem_filter.mp hx).2

/-- A read after a write to the same number gives the value written. -/
@[simp] theorem tget_tput_same (t : Tab α) (k : Nat) (v : α) : tget d (tput d t k v) k = v := by
  unfold tput
  split
  · rename_i h
    rw [tget_absent _ _ (absent_filter t k), h]
  · exact tget_tins_same (k, v) _ (absent_filter t k)

/-- A write leaves every other number alone. -/
theorem tget_tput_ne (t : Tab α) {k j : Nat} (v : α) (hk : k ≠ j) : tget d (tput d t j v) k = tget d t k := by
  unfold tput
  split
  · exact tget_filter_ne t hk
  · rw [tget_tins_ne _ _ hk, tget_filter_ne t hk]

theorem twf_cons (e : Nat × α) (t : Tab α) :
    twf d (e :: t) = true ↔ (∀ x ∈ t, e.1 < x.1) ∧ e.2 ≠ d e.1 ∧ twf d t = true := by
  simp [twf, and_assoc]

theorem twf_filter (p : Nat × α → Bool) (t : Tab α) (h : twf d t = true) : twf d (t.filter p) = true := by
  induction t with
  | nil => rfl
  | cons x t ih =>
    obtain ⟨h1, h2, h3⟩ := (twf_cons x t).mp h
    by_cases hp : p x
    · simp only [hp, List.filter_cons_of_pos]
      exact (twf_cons _ _).mpr ⟨fun y hy => h1 y (List.mem_filter.mp hy).1, h2, ih h3⟩
    · simp only [hp, Bool.false_eq_true, not_false_eq_true, List.filter_cons_of_neg]
      exact ih h3

theorem mem_tins (e y : Nat × α) (t : Tab α) : y ∈ tins e t ↔ y = e ∨ y ∈ t := by
  induction t with
  | nil => simp [tins]
  | cons x t ih =>
    simp only [tins]
    split
    · simp
    · simp [ih]; tauto

theorem twf_tins (e : Nat × α) (t : Tab α) (he : e.2 ≠ d e.1) (hn : ∀ x ∈ t, x.1 ≠ e.1) (h : twf d t = true) :
    twf d (tins e t) = true := by
  induction t with
  | nil => simp [tins, twf, he]
  | cons x t ih =>
    obtain ⟨h1, h2, h3⟩ := (twf_cons x t).mp h
    simp only [tins]
    split
    · rename_i hlt
      refine (twf_cons _ _).mpr ⟨?_, he, h⟩
      intro y hy
      rcases List.mem_cons.mp hy with rfl | hy
      · exact hlt
      · exact lt_trans hlt (h1 y hy)
    · rename_i hlt
      have hx : x.1 < e.1 := lt_of_le_of_ne (Nat.le_of_not_lt hlt) (hn x (by simp))
      refine (twf_cons _ _).mpr ⟨?_, h2, ih (fun y hy => hn y (by simp [hy])) h3⟩
      intro y hy
      rcases (mem_tins e y t).mp hy with rfl | hy
      · exact hx
      · exact h1 y hy

/-- Every write keeps the canonical form. -/
theorem twf_tput (t : Tab α) (k : Nat) (v : α) (h : twf d t = true) : twf d (tput d t k v) = true := by
  unfold tput
  split
  · exact twf_filter _ t h
  · rename_i hv
    exact twf_tins (k, v) _ hv (absent_filter t k) (twf_filter _ t h)

theorem twf_tmod (t : Tab α) (k : Nat) (f : α → α) (h : twf d t = true) : twf d (tmod d t k f) = true :=
  twf_tput t k _ h

omit [DecidableEq α] in
theorem filter_tins (e : Nat × α) (t : Tab α) :
    (tins e t).filter (fun x => x.1 != e.1) = t.filter (fun x => x.1 != e.1) := by
  induction t with
  | nil => simp [tins]
  | cons x t ih => simp only [tins]; split <;> simp [ih, List.filter_cons]

/-- The second of two writes to a number stands. -/
@[simp] theorem tput_tput (t : Tab α) (k : Nat) (v w : α) : tput d (tput d t k v) k w = tput d t k w := by
  have h : (tput d t k v).filter (fun e => e.1 != k) = t.filter (fun e => e.1 != k) := by
    unfold tput
    simp only
    split
    · simp
    · rw [filter_tins (k, v)]; simp
  unfold tput at h ⊢
  simp only at h ⊢
  rw [h]

omit [DecidableEq α] in
/-- What a filter on the numbers leaves. -/
theorem tget_filter (t : Tab α) (p : Nat → Bool) (k : Nat) : tget d (t.filter (fun e => !p e.1)) k = if p k then d k else tget d t k := by
  induction t with
  | nil => simp [tget]
  | cons x t ih =>
    by_cases hx : x.1 = k
    · subst hx; by_cases hp : p x.1 <;> simp [hp, tget, ih]
    · by_cases hp : p x.1 <;> simp [hp, tget, ih, hx]

omit [DecidableEq α] in
@[simp] theorem tget_nil (k : Nat) : tget d ([] : Tab α) k = d k := rfl

end Sys2Proof.Machine
end

