-- ==== Sys2Proof/Laws/Ops.lean ====
section
/-! SUPPORT. What the shared operations over the device do: registers and their fields, staging entries, threads, functions. -/

namespace Sys2Proof.Machine

variable (d : Dev)

@[simp] theorem Dev.reg_setReg_same (a : Nat) (w : Word) : (d.setReg a w).reg a = w := tget_tput_same _ _ _

theorem Dev.reg_setReg_ne {a b : Nat} (w : Word) (h : b ≠ a) : (d.setReg a w).reg b = d.reg b := tget_tput_ne _ _ h

/-- A field reads as what was written to it, cut to its width. -/
theorem Dev.rd_wr_same (f : Fld) (v : Nat) (h : f.lo + f.width ≤ 64) : (d.wr f v).rd f = v % 2 ^ f.width := by
  simp [Dev.rd, Dev.wr, getF_setF_same _ _ _ _ h]

/-- A field of another register keeps its value. -/
theorem Dev.rd_wr_reg {f g : Fld} (v : Nat) (h : g.reg ≠ f.reg) : (d.wr f v).rd g = d.rd g := by
  simp [Dev.rd, Dev.wr, Dev.reg_setReg_ne _ _ h]

/-- A field of the same register that does not overlap keeps its value. -/
theorem Dev.rd_wr_field {f g : Fld} (v : Nat) (h : g.lo + g.width ≤ f.lo ∨ f.lo + f.width ≤ g.lo) : (d.wr f v).rd g = d.rd g := by
  by_cases hr : g.reg = f.reg
  · simp [Dev.rd, Dev.wr, hr, getF_setF_ne _ _ _ _ _ _ h]
  · exact Dev.rd_wr_reg d v hr

/-- A one-bit field as a truth value. -/
theorem Dev.bit_zero {f : Fld} (h : d.rd f = 0) : d.bit f = false := by unfold Dev.bit; rw [h]; rfl
theorem Dev.bit_one {f : Fld} (h : d.rd f = 1) : d.bit f = true := by unfold Dev.bit; rw [h]; rfl
theorem Dev.bit_ite {f : Fld} {b : Bool} (h : d.rd f = if b then 1 else 0) : d.bit f = b := by
  unfold Dev.bit; rw [h]; cases b <;> rfl

@[simp] theorem Dev.cmd_setCmd_same (e : Nat) (x : Cmd) : (d.setCmd e x).cmd e = x := tget_tput_same _ _ _
theorem Dev.cmd_setCmd_ne {e k : Nat} (x : Cmd) (h : k ≠ e) : (d.setCmd e x).cmd k = d.cmd k := tget_tput_ne _ _ h
@[simp] theorem Dev.thr_setThr_same (h : Nat) (x : Thr) : (d.setThr h x).thr h = x := tget_tput_same _ _ _
theorem Dev.thr_setThr_ne {h k : Nat} (x : Thr) (hk : k ≠ h) : (d.setThr h x).thr k = d.thr k := tget_tput_ne _ _ hk
@[simp] theorem Dev.fn_setFn_same (n : Nat) (x : Fn) : (d.setFn n x).fn n = x := tget_tput_same _ _ _
theorem Dev.fn_setFn_ne {n k : Nat} (x : Fn) (hk : k ≠ n) : (d.setFn n x).fn k = d.fn k := tget_tput_ne _ _ hk
@[simp] theorem Dev.setCmd_setCmd (e : Nat) (x y : Cmd) : (d.setCmd e x).setCmd e y = d.setCmd e y := by simp [Dev.setCmd]
@[simp] theorem Dev.setThr_setThr (h : Nat) (x y : Thr) : (d.setThr h x).setThr h y = d.setThr h y := by simp [Dev.setThr]

@[simp] theorem Dev.cc_setCc_same (p : Nat) (x : CcPort) : (d.setCc p x).cc p = x := tget_tput_same _ _ _
@[simp] theorem Dev.setCc_setCc (p : Nat) (x y : CcPort) : (d.setCc p x).setCc p y = d.setCc p y := by simp [Dev.setCc]
@[simp] theorem Dev.sess_setSess_same (k : Nat) (x : Sess) : (d.setSess k x).sess k = x := tget_tput_same _ _ _
@[simp] theorem Dev.setSess_setSess (k : Nat) (x y : Sess) : (d.setSess k x).setSess k y = d.setSess k y := by simp [Dev.setSess]
@[simp] theorem Dev.slot_setSlot_same (k : Nat) (x : Slot) : (d.setSlot k x).slot k = x := tget_tput_same _ _ _
theorem Dev.slot_setSlot_ne {k j : Nat} (x : Slot) (hk : k ≠ j) : (d.setSlot j x).slot k = d.slot k := tget_tput_ne _ _ hk
@[simp] theorem Dev.setFn_setFn (n : Nat) (x y : Fn) : (d.setFn n x).setFn n y = d.setFn n y := by simp [Dev.setFn]
@[simp] theorem Dev.setCq_setCq (n i : Nat) (x y : Cq) : (d.setCq n i x).setCq n i y = d.setCq n i y := by simp [Dev.setCq]
@[simp] theorem Dev.setReg_setReg (a : Nat) (x y : Word) : (d.setReg a x).setReg a y = d.setReg a y := by simp [Dev.setReg]

/-- What a reset of a set of registers leaves. -/
theorem Dev.reg_resetRegs (p : Nat → Bool) (a : Nat) : (d.resetRegs p).reg a = if p a then regReset a else d.reg a := by
  simp [Dev.reg, Dev.resetRegs, tget_filter]

@[simp] theorem Dev.event_seq : d.event.seq = d.seq + 1 := rfl
@[simp] theorem Dev.eventAt_seq (f : Fld) : (d.eventAt f).seq = d.seq + 1 := rfl

end Sys2Proof.Machine
end

