-- ==== Sys2Proof/Laws/Clazeir.lean ====
section
/-! SUPPORT. Running one Clazeir instruction: what it does when no cause of a trap is met, and what it does when one is. -/

namespace Sys2Proof.Machine

variable {d : Dev} {h : Nat} {i : Insn}

/-- A thread that runs an instruction holds a command, is held by nothing and stands inside its code section. -/
theorem Dev.runs_spec (hr : d.runs h i = true) :
    ∃ e, (d.thr h).cmd = some e ∧ d.unheld h = true ∧ d.inCode h e = true ∧ d.fetched h i = true := by
  simp only [Dev.runs, Bool.and_eq_true, beq_iff_eq] at hr
  obtain ⟨⟨hn, hw⟩, hp⟩ := hr
  unfold Dev.nextInsn at hn
  cases hc : (d.thr h).cmd with
  | none => simp [hc] at hn
  | some e =>
    simp only [hc, Option.bind_eq_some_iff] at hn
    obtain ⟨w, hw', hd⟩ := hn
    refine ⟨e, rfl, hw, ?_, ?_⟩
    · have := (List.getElem?_eq_some_iff.mp hw').1
      simp only [Dev.inCode, Bool.and_eq_true, decide_eq_true_eq, beq_iff_eq]
      omega
    · simp [Dev.fetched, hc, hw', hd]

/-- The instruction's effect, when no cause of a trap is met. -/
theorem Dev.executes_instr {e : Nat} {f : Dev → Nat → Thr → List Trap × Dev} (hr : d.runs h i = true) (he : (d.thr h).cmd = some e)
    (hc : pickTrap (f d e (d.thr h)).1 = none) : d.executes h i (fun d => d.instr h (f d)) = (f d e (d.thr h)).2 := by
  obtain ⟨e', he', hw, hin, hf⟩ := Dev.runs_spec hr
  obtain rfl : e' = e := by simpa [he'] using he
  simp [Dev.executes, hf, Dev.instr, he', hw, hin, hc]

/-- The trap that the causes decide. -/
theorem Dev.executes_trap {e : Nat} {f : Dev → Nat → Thr → List Trap × Dev} {t : Trap} (hr : d.runs h i = true)
    (he : (d.thr h).cmd = some e) (hc : pickTrap (f d e (d.thr h)).1 = some t) :
    d.executes h i (fun d => d.instr h (f d)) = d.trap h t := by
  obtain ⟨e', he', hw, hin, hf⟩ := Dev.runs_spec hr
  obtain rfl : e' = e := by simpa [he'] using he
  simp [Dev.executes, hf, Dev.instr, he', hw, hin, hc]

/-- What an instruction of its thread alone does, when no cause of a trap is met. -/
theorem Dev.executes_instrT {e : Nat} {f : Dev → Nat → Thr → List Trap × Thr} (hr : d.runs h i = true) (he : (d.thr h).cmd = some e)
    (hc : pickTrap (f d e (d.thr h)).1 = none) :
    d.executes h i (fun d => d.instrT h (f d)) = d.setThr h (f d e (d.thr h)).2 :=
  Dev.executes_instr (f := fun d e t => ((f d e t).1, d.setThr h (f d e t).2)) hr he hc

/-- A word that carries its residue is intact, whatever tag but POISON it has. -/
theorem resOk_data {w : GWord} (hr : w.res = BitVec.ofNat 3 (w.data.toNat % 7)) (ht : w.tag ≠ .poison) : resOk w = true := by
  simp [resOk, residue, hr, ht]

/-- An intact word of a tag that a data operation takes meets no cause. -/
theorem resC_ok {k : Nat} {w : GWord} (h : resOk w = true) : resC k w = [] := by simp [resC, h]
theorem dataC_ok {w : GWord} (h : w.tag = .plain ∨ w.tag = .glazed) : dataC w = [] := by
  rcases h with h | h <;> simp [dataC, h]
theorem plainC_ok {w : GWord} (h : w.tag = .plain) : plainC w = [] := by simp [plainC, h]

/-! ## The predicted residues are those of the results (R151) -/

theorem predictAdd_sum (a b : Word) (carry : Bool) (hc : carry = decide (2 ^ 64 ≤ a.toNat + b.toNat)) :
    predictAdd (a.toNat % 7) (b.toNat % 7) carry.toNat = (a + b).toNat % 7 := by
  have := a.isLt
  have := b.isLt
  subst hc
  rw [predictAdd, BitVec.toNat_add]
  by_cases h : 2 ^ 64 ≤ a.toNat + b.toNat <;> simp only [h, decide_true, decide_false, Bool.toNat_true, Bool.toNat_false] <;> omega

theorem predictSub_difference (a b : Word) (borrow : Bool) (hb : borrow = decide (a.toNat < b.toNat)) :
    predictSub (a.toNat % 7) (b.toNat % 7) borrow.toNat = (a - b).toNat % 7 := by
  have := a.isLt
  have := b.isLt
  subst hb
  rw [predictSub]
  by_cases h : a.toNat < b.toNat
  · have : (a - b).toNat = 2 ^ 64 - b.toNat + a.toNat := by rw [BitVec.toNat_sub, Nat.mod_eq_of_lt (by omega)]
    simp only [h, decide_true, Bool.toNat_true]
    omega
  · have : (a - b).toNat = a.toNat - b.toNat := BitVec.toNat_sub_of_le (by simpa [BitVec.le_def] using Nat.le_of_not_lt h)
    simp only [h, decide_false, Bool.toNat_false]
    omega

theorem productOk_halves (a b : Word) :
    productOk (a.toNat % 7) (b.toNat % 7) ((mulHigh a b).toNat % 7) ((a * b).toNat % 7) = true := by
  have ha := a.isLt
  have hb := b.isLt
  have hlt : a.toNat * b.toNat < 2 ^ 64 * 2 ^ 64 := Nat.mul_lt_mul'' ha hb
  have hd : a.toNat * b.toNat / 2 ^ 64 < 2 ^ 64 := Nat.div_lt_of_lt_mul hlt
  rw [productOk, beq_iff_eq, mulHigh, BitVec.toNat_ofNat, Nat.mod_eq_of_lt hd, BitVec.toNat_mul, ← Nat.mul_mod]
  have := Nat.div_add_mod (a.toNat * b.toNat) (2 ^ 64)
  omega

end Sys2Proof.Machine
end

