-- ==== Sys2Proof/Tests/Slice0.lean ====
section
/-! SUPPORT. Tests: a state that meets the hypotheses of each statement (wit_…), and small checks whose expected values come from the rules named
(test_…). -/

section
set_option Elab.async false

namespace Sys2Proof.Machine

/-- A state of the block with the device `d`. -/
def st (d : Dev) : State := ⟨⟨d, Backup.reset, Fuses.reset⟩, []⟩

/-- The command that the tests' thread 0 runs: staging entry 0, partition 0, image 1. -/
def tCmd : Cmd := { Cmd.reset with st := .running, order := 1, adm := 1, counted := true, ready := true, image := some (1, 0) }

/-- The state in which thread 0 runs `tCmd` with the code `code`, being otherwise `t`. -/
def tSt (code : List (BitVec 32)) (t : Thr) : State :=
  st (({ Dev.reset with prog := { Prog.reset with images := [(1, ⟨1, 1, 0, [], code⟩)] } }.setCmd 0 tCmd).setThr 0 { t with cmd := some 0 })

/-- A thread whose registers g1, g2, ... hold `ws`. -/
def tRegs (ws : List GWord) : Thr := { Thr.reset with g := (ws.zipIdx 1).map (fun x => (x.2, x.1)) }

/-- The operands of the tests: g1 = -3, GLAZED, and g2 = 5, PLAIN. -/
def tAlu : Thr := tRegs [.fresh (-3) .glazed, .plain 5, .fresh 9 .plain]

/-- A thread whose g1 is 9 and whose slice words 0 and 1 hold a PLAIN and a GLAZED word. -/
def tMem : Thr := { tRegs [.plain 9, .fresh 0x1234567890ABCDEF .glazed, .plain 0x100C0, .plain 0x20000] with sl := [(0, .plain 77), (1, .fresh 5 .glazed)] }

/-- An RNG whose instance D can supply fill, and one that is failed. -/
def tRngUp (s : State) : State := s.onDev fun d => { d.wr Fld.RNG_HEALTH_D_READY 1 with rng := { Rng.reset with startup := false } }
def tRngFail (s : State) : State := s.onDev fun d => { d.wr Fld.RNG_HEALTH_STATE 3 with rng := { Rng.reset with startup := false } }

end Sys2Proof.Machine
open Sys2Proof Sys2Proof.Machine
namespace Sys2Proof.Machine
/-- A device in service: release step 12 done, functions 0 and 1 there and masters, both partitions enabled with four courses of each kind and
quotas of 16. -/
def tSrv : Dev :=
  let d := Dev.reset.wr Fld.PLT_RESET_STATUS_STEP 12
  let d := (((d.wr (Fld.PART_COURSES_SQ_COUNT 0) 4).wr (Fld.PART_COURSES_CQ_COUNT 0) 4).wr (Fld.PART_CTRL_ENABLE 0) 1).wr (Fld.PART_QUOTA_STAGING 0) 16
  let d := (((d.wr (Fld.PART_COURSES_SQ_COUNT 1) 4).wr (Fld.PART_COURSES_CQ_COUNT 1) 4).wr (Fld.PART_CTRL_ENABLE 1) 1).wr (Fld.PART_QUOTA_STAGING 1) 16
  { d with hiu := { d.hiu with vfEnable := true, numVfs := 1, fns := [(0, ⟨true, false, true, false, []⟩), (1, ⟨true, false, true, false, []⟩)] },
           plt := { d.plt with reach := 0, fresh := false } }

/-- The same with submission course 1 of partition 0 posting to completion course 2, both enabled with rings of 16 entries. -/
def tCrs : Dev :=
  ((((((tSrv.wr (Fld.HIU_SQ_CFG_SIZE_LOG2 0 1) 4).wr (Fld.HIU_SQ_CFG_CQ 0 1) 2).wr (Fld.HIU_CQ_CFG_SIZE_LOG2 0 2) 4).wr (Fld.HIU_CQ_CFG_VECTOR 0 2) 5).wr
    (Fld.HIU_SQ_STATE_ENABLE 0 1) 1).wr (Fld.HIU_CQ_STATE_ENABLE 0 2) 1).wr (Fld.HIU_CQ_STATE_TAIL 0 2) 5
/-- Four descriptors: one of CONTEXT_GET, a valid pallet of two, a pallet of none, one with an unaligned input address. -/
def tDesc : BitVec 512 := BitVec.ofNat 512 (0x11 + 0x1000 * 2 ^ 192 + 128 * 2 ^ 288)
def tPal : BitVec 512 := BitVec.ofNat 512 (1 * 2 ^ 32 + 2 * 2 ^ 48 + 0x4000 * 2 ^ 128)
def tPal0 : BitVec 512 := BitVec.ofNat 512 (1 * 2 ^ 32 + 0x4000 * 2 ^ 128)
def tOdd : BitVec 512 := BitVec.ofNat 512 (0x11 + 0x1001 * 2 ^ 128 + 8 * 2 ^ 256)
/-- The attribute word of a key of partition 0. -/
def tAttr (alg usage glaze : Nat) : Word := BitVec.ofNat 64 (alg + 256 * usage + 1024 * glaze + 2 ^ 15)

/-- Thread 0 at the entry of library function `f`: its descriptor otherwise `desc`, OPTIONS `opts`, DATA `dat`, the keys of the attributes `attrs` (0: none)
in slots 1, 2, ..., the input area `inp`; cores, PKL units and instance D in service. -/
def tLib (f opts dat desc : Nat) (attrs : List Word) (inp : Nat) : State :=
  let ks := (attrs.zipIdx.map (fun x => if x.1 = 0 then 0 else (2 ^ 60 + x.2 + 1) * 2 ^ (64 * x.2))).sum
  tRngUp ((tSt [] Thr.reset).onDev fun d =>
    { ((((d.wr Fld.CIPH_AVAIL_AVAIL (2 ^ 64 - 1)).wr Fld.HPK_AVAIL_AVAIL (2 ^ 64 - 1)).wr Fld.RNG_HEALTH_STATE 1).setFn 0 ⟨true, false, true, false, []⟩).setCmd 0
        { tCmd with desc := BitVec.ofNat 512 (f + desc), ctx := BitVec.ofNat 1024 (ks + opts * 2 ^ 320 + dat * 2 ^ 384), prefetch := BitVec.ofNat 2048 inp } with
      vlt := { Vlt.reset with slots := (attrs.zipIdx 1).filterMap (fun x => if x.1 = 0 then none else some (x.2, ⟨[], x.1, 0, 0⟩)) } })

/-- A PAN of 16 digits in PARAMS from octet 16, or from octet 0. -/
def tPan16 : Nat := 4111111111111111 * 2 ^ 448 + 16 * 2 ^ 40
def tPan0 : Nat := 4111111111111111 * 2 ^ 320 + 16 * 2 ^ 40
def tUses : List KeyUse := [⟨0, 1, none⟩, ⟨0, 1, none⟩, ⟨0, 1, none⟩]

/-- The Extended Key Store ready with four records of partition 0. -/
def tXks (d : Dev) : Dev := ((d.wr Fld.XKS_GEOMETRY_RECORDS 4).wr Fld.XKS_STATUS_READY 1).wr (Fld.XKS_PART_RECORDS_COUNT 0) 4
/-- The storage keys derived and the journal recovered, so that an audit entry can be durable. -/
def tAudit (d : Dev) : Dev := { d.wr Fld.NVS_STATUS_RECOVERED 1 with vlt := { d.vlt with roots := { d.vlt.roots with storage := true } } }
/-- A request of thread 0 with request word `ra`, the key in slot 1 and the pair 7, 8. -/
def tReqOf (ra : Nat) : Req := ⟨BitVec.ofNat 64 ra, BitVec.ofNat 64 (2 ^ 60 + 1), .plain 7, .plain 8, GWord.zero, GWord.zero, 0, 1, 0⟩
/-- Thread 0 with token 1 as given; keys of the attributes `attrs` in slots 1, 2, ...; every engine in service. -/
def tEng (v : Tok) (attrs : List Word) : Dev := (tLib 0x20 0 0 (64 * 2 ^ 256 + 64 * 2 ^ 288) attrs 0).chip.dev.modThr 0 (fun t => setTok t 1 v)

/-- A chip in service whose free Warden has request `r` at the front of its queue; slot 5 of partition 0 holds an AES-256 key. -/
def tWdnOf (r : WReq) : Chip :=
  let d := (tRngUp (st (tAudit ((tSrv.wr (Fld.VLT_PART_SLOTS_SLOT_COUNT 0) 64).wr Fld.RNG_HEALTH_C_READY 1)))).chip.dev
  ⟨{ d with wdn := { Wdn.reset with running := true, queue := [r] }, vlt := { d.vlt with slots := [(5, ⟨[], tAttr 3 0 0, 0, 0⟩)] } },
    Backup.reset, Fuses.reset⟩

/-- The tests' chip in service with the sources 0 to 7, 17, 19 and 20 armed. -/
def tArmed : Chip := let c := tWdnOf ⟨0, 0, [], 0⟩
  ⟨{ c.dev with tmp := { Tmp.reset with armed := [0, 1, 2, 3, 4, 5, 6, 7, 17, 19, 20], raised := [0x21] } }.wr Fld.PLT_CLOCKS_ROOT_LOCK 1, { c.bd with locked := false }, c.fz⟩

/-- A mailbox request of the register origin: code, requester, lengths of parameters, authorisation and bulk area, then its parameters. -/
def tWreq (code req plen alen bulk : Nat) (params : List Byte) : WReq :=
  ⟨0, 0, leBytes 2 code ++ [BitVec.ofNat 8 req, 0] ++ leBytes 2 plen ++ leBytes 2 alen ++ List.replicate 16 0 ++ leBytes 4 bulk ++ [0, 0, 0, 0] ++ params, 0⟩
/-- The chip of `tWdnOf` in the lifecycle state OPERATIONAL. -/
def tOp (r : WReq) : Chip := { tWdnOf r with fz := { Fuses.reset with provision := true }, bd := { Backup.reset with locked := false, erased := false } }

/-- A device enrolled as member 2, its data plane enabled, port 0 up with session `t`, in role `role`, of manager `mgr`, at epoch 5. -/
def tMtr (role mgr : Nat) (t : Sess) : Dev :=
  let d := ((((((tArmed.dev.wr Fld.MTR_EPOCH_MEMBER_ID 2).wr Fld.MTR_EPOCH_MANAGER_ID mgr).wr Fld.MTR_EPOCH_EPOCH 5).wr Fld.MTR_STATUS_ROLE role).wr
    Fld.MTR_STATUS_STATE 3).wr (Fld.MTR_PORT_LINK 0) (if t.st = 3 then 3 else 2)).wr (Fld.MTR_PORT_PEER_ID 0) 7
  { d with mtr := { Mtr.reset with cert := [1], roster := [(1, [1]), (2, [2]), (3, [3])], sess := [(0, t)] } }
/-- A frame of member `src` at epoch `e` with counter `n`. -/
def tFr (src e n : Nat) : Frame := ⟨0, src, 2, 0, n, e, 9, true, true, true⟩
def tSess : Sess := ⟨3, 1, [], [], 0, 0, 0, 0, [], false⟩

end Sys2Proof.Machine

open Sys2Proof Sys2Proof.Machine

theorem wit_queue : State.reset.pending = [] ∧ ({ State.reset with pending := [.csync 0] } : State).pending = .csync 0 :: [] := by decide +kernel

theorem wit_latch : State.reset.chip.bd.locked = true ∧ State.reset.chip.bd.erased = true := ⟨rfl, rfl⟩

theorem wit_insn_wf : (Insn.br .always 0 0 8).wf = true ∧ (Insn.k .shlk 1 2 63).wf = true ∧ (Insn.ecall 11 1 2 3 4).wf = true := by decide +kernel

theorem wit_g0 : ∀ x ∈ [(KOp.addk, 0x01), (.andk, 0x02), (.ork, 0x03), (.xork, 0x04)], (tSt [encodeInsn (.k x.1 0 1 7)] tAlu).chip.dev.runs 0 (.k x.1 0 1 7) = true := by decide +kernel

theorem wit_management_panic : tArmed.dev.plt.mainOn = true ∧ tArmed.dev.plt.por = false ∧ getF 0x9400000000000001 48 16 = 0x9400 ∧ getF 0x9400000000000001 0 48 = 1 ∧
    tArmed.dev.tmp.armed.contains 19 = true ∧ tArmed.dev.pltReached (.host 0 none) 0x78 = true := by decide +kernel

theorem wit_doorbells : ∀ d ∈ [tCrs], d.reachable 0 none = true ∧ d.serving = true ∧ 1 < d.rd (Fld.PART_COURSES_SQ_COUNT 0) ∧
    d.rd (Fld.HIU_SQ_STATE_ENABLE 0 1) = 1 ∧ 2 ^ d.rd (Fld.HIU_SQ_CFG_SIZE_LOG2 0 1) = 16 ∧ d.rd (Fld.HIU_SQ_STATE_ERR_CODE 0 1) = 0 ∧
    2 < d.rd (Fld.PART_COURSES_CQ_COUNT 0) ∧ 2 ^ d.rd (Fld.HIU_CQ_CFG_SIZE_LOG2 0 2) = 16 ∧ d.rd (Fld.HIU_CQ_STATE_HEAD 0 2) = 0 ∧
    d.rd (Fld.HIU_CQ_STATE_TAIL 0 2) = 5 ∧ d.rd (Fld.HIU_CQ_STATE_ENABLE 0 2) = 1 ∧ d.rd (Fld.HIU_CQ_STATE_ERR_CODE 0 2) = 0 := by decide +kernel
theorem test_sq_doorbell_sets_tail : ∀ d ∈ [tCrs], (d.sqDoorbell 0 none 1 8 15).rd (Fld.HIU_SQ_STATE_TAIL 0 1) = 15 ∧
    (d.sqDoorbell 0 none 1 8 16).rd (Fld.HIU_SQ_STATE_ERR_CODE 0 1) = 1 := by decide +kernel

theorem wit_enable_courses : ∀ d ∈ [tCrs], ∀ d' ∈ [d.wr (Fld.HIU_SQ_CFG_SIZE_LOG2 0 0) 4 |>.wr (Fld.HIU_SQ_CFG_CQ 0 0) 2 |>.wr (Fld.HIU_CQ_CFG_SIZE_LOG2 0 3) 4 |>.wr
    (Fld.HIU_CQ_CFG_VECTOR 0 3) 6], d.bar0 0 none 0x1000 = true ∧ d.bar0 0 none 0x3000 = true ∧ 3 < d.rd (Fld.PART_COURSES_SQ_COUNT 0) ∧
    3 < d.rd (Fld.PART_COURSES_CQ_COUNT 0) ∧ d.rd (Fld.HIU_SQ_STATE_ENABLE 0 0) = 0 ∧ d.rd (Fld.HIU_CQ_STATE_ENABLE 0 3) = 0 ∧
    d'.rd (Fld.HIU_SQ_STATE_ENABLE 0 0) = 0 ∧ d'.rd (Fld.HIU_CQ_STATE_ENABLE 0 3) = 0 ∧
    (d'.sqClear 0 0).sqReady 0 0 = true ∧ (d.sqClear 0 0).sqReady 0 0 = false ∧ (d'.cqClear 0 3).cqReady 0 3 = true ∧ (d.cqClear 0 3).cqReady 0 3 = false := by
  decide +kernel
theorem wit_disable_pause_interrupt : ∀ d ∈ [tCrs], ∀ d' ∈ [d.wr (Fld.HIU_SQ_CFG_CQ 0 1) 0], d.bar0 0 none 0x1000 = true ∧ d.bar0 0 none 0x3000 = true ∧
    d.rd (Fld.HIU_SQ_STATE_ENABLE 0 1) = 1 ∧ d.rd (Fld.HIU_CQ_STATE_ENABLE 0 2) = 1 ∧ 1 < d.rd (Fld.PART_COURSES_SQ_COUNT 0) ∧ d.rd (Fld.HIU_SQ_CFG_CQ 0 1) = 2 ∧
    d'.bar0 0 none 0x3000 = true ∧ d'.rd (Fld.HIU_CQ_STATE_ENABLE 0 2) = 1 ∧
    (∀ k < d'.rd (Fld.PART_COURSES_SQ_COUNT 0), d'.rd (Fld.HIU_SQ_STATE_ENABLE 0 k) = 0 ∨ d'.rd (Fld.HIU_SQ_CFG_CQ 0 k) ≠ 2) ∧
    d.rd (Fld.HIU_CQ_CFG_INT_EN 0 2) = 0 ∧ d.rd (Fld.HIU_CQ_STATE_HEAD 0 2) ≠ d.rd (Fld.HIU_CQ_STATE_TAIL 0 2) ∧
    d.rd (Fld.HIU_CQ_CFG_INT_EN 0 3) = 0 ∧ d.rd (Fld.HIU_CQ_STATE_HEAD 0 3) = d.rd (Fld.HIU_CQ_STATE_TAIL 0 3) := by decide +kernel

theorem wit_function_level_reset : ∀ d ∈ [tCrs], ∀ d' ∈ [((d.wr Fld.HIU_STATUS_IDE_SECURE 5).wr (Fld.PART_STATUS_IDE_REQUIRED 1) 1).wr (Fld.PART_STATUS_IDE_STREAM 1) 2],
    d.plt.reach = 0 ∧ d.rd (Fld.PART_STATUS_RESETTING 0) = 0 ∧ d.rd (Fld.PART_STATUS_RESETTING 1) = 0 ∧ d.bar0 0 none (0x10000 + 0x40) = true ∧
    d.fnExists 1 = true ∧ d.hiu.vfEnable = true ∧ 0 < d.hiu.numVfs ∧ (d'.rd Fld.HIU_STATUS_IDE_SECURE).testBit 2 = true ∧
    (d'.ideLost 2 true).rd (Fld.PART_STATUS_RESETTING 1) = 1 ∧ (d.flrFull 0 false).rd (Fld.PART_STATUS_RESETTING 0) = 1 := by decide +kernel
theorem test_flr_ide_lost : ∀ d ∈ [((tCrs.wr Fld.HIU_STATUS_IDE_SECURE 5).wr (Fld.PART_STATUS_IDE_REQUIRED 1) 1).wr (Fld.PART_STATUS_IDE_STREAM 1) 2],
    (d.ideLost 2 false).rd (Fld.HIU_SQ_STATE_ERR_CODE 1 3) = 4 ∧ (d.ideLost 2 false).rd Fld.HIU_STATUS_IDE_SECURE = 1 := by decide +kernel

theorem wit_function_events : ∀ d ∈ [tCrs], ∀ d' ∈ [{ d with wdn := { d.wdn with spdm := { d.wdn.spdm with session := 2 } } }],
    d.bar0 0 none (0x10000 + 0x40) = true ∧ d.hiu.numVfs < 5 ∧ d'.wdn.spdm.session = 2 ∧ d.fnExists 1 = true ∧ d.bar4 1 none = true ∧ 31 < vecCount 1 := by decide +kernel
/-- Function 1 with MSI-X enabled, a pending vector 3 and a held write. -/
def tVec : Dev := (tSrv.setFn 1 ⟨true, false, true, false, [(none, .aer 1), (some 3, .memZero 1 4000 200)]⟩).setVec 1 3 ⟨0xFEE00000, 7, false, true⟩
theorem wit_flush_and_drain : tVec.canSend 1 = true ∧ (tVec.vec 1 3).pend = true ∧ tVec.vecOpen 1 3 = true ∧ (tVec.flush 1).out = [(none, .aer 1), (none, .memZero 1 4000 96), (none, .memZero 1 4096 104)] ∧
    (tVec.fn 1).held.all (fun h => h.1 != none || h.2 == .aer 1) = true ∧
    (tVec.drainVec 1 3).out = [(none, .msix 1 3)] ∧ (tVec.busMaster 1 false).canSend 1 = false ∧ (tVec.vec 1 4).pend = false ∧ tVec.vecOpen 0 4 = false := by decide +kernel

theorem wit_register_accesses : ∀ d ∈ [tCrs], regKey 0 0x1020 = some 0x1020 ∧ (regRow 0x1020).isSome = true ∧ d.bar0 0 none 0x1020 = true ∧ d.noCourse 0x1020 = false ∧
    d.rd Fld.WDN_MBOX_STATUS_BUSY = 0 ∧ d.bar0 0 (some 1) 0x200000 = true ∧ d.bar0 2 none 0x1020 = false ∧ regKey 2 0x1020 = some 0x201020 ∧
    (regRow 0x201020).isSome = true ∧ d.ownerEnabled 0x1020 = true ∧ d.ownerEnabled 0x1000 = false ∧ (rejectOf 0x1020).reg ≠ 0x1020 ∧
    (regRow 0xF0050).isSome = true ∧ { Dev.reset with plt := { Dev.reset.plt with mainOn := true, por := false } }.pltReached .i3c 0x50 = true := by decide +kernel
/-- Partition 1 holds a random value, its host instance is ready and the RNG runs. -/
def tRnd : Dev := { ((tSrv.wr (rngValid 1) 1).wr Fld.RNG_HEALTH_STATE 1).wr Fld.RNG_HEALTH_HOST_READY 1 with rng := { Rng.reset with needH := false } }
theorem wit_random_data : tRnd.bar0 1 none 0x8000 = true ∧ tRnd.rngBlocked = false ∧ tRnd.rd (rngValid 1) = 1 ∧ tRnd.rd (rngValid 0) = 0 ∧
    tRnd.bar0 0 none 0x90000 = true ∧ tRnd.rngState = 1 ∧ tRnd.rngServes 2 = true ∧ tRnd.answers 1 none = true ∧ tRnd.bar4 1 none = true ∧ tRnd.bar4Word 1 12 = 1 ∧ tRnd.serving = true ∧ tRnd.fnExists 0 = true := by decide +kernel
/-- The S-class field CQ of an enabled course keeps its value and CFG_REJECT sets; the H-class field WEIGHT is written and waits. -/
theorem test_course_write_while_enabled : ∀ d ∈ [tCrs], ∀ r ∈ [(regRow 0x1028).getD ⟨0, 0, 0, 0, 0, 0, 0, 0, 0, 0, 0⟩],
    ∀ x ∈ [d.storeFields 0x1028 r (BitVec.ofNat 64 (4 + 3 * 2 ^ 16 + 7 * 2 ^ 32))], x.rd (Fld.HIU_SQ_CFG_CQ 0 1) = 2 ∧
    x.rd (Fld.HIU_SQ_STATE_CFG_REJECT 0 1) = 1 ∧ x.rd (Fld.HIU_SQ_CFG_WEIGHT 0 1) = 7 ∧ x.eff (Fld.HIU_SQ_CFG_WEIGHT 0 1) = 1 := by decide +kernel

/-- A device whose Warden runs and which holds a device certificate, its SPDM negotiation at `p`. -/
def tSpdm (p : Spdm) : State :=
  st { Dev.reset with wdn := { Wdn.reset with running := true, spdm := p },
                      nvs := { Nvs.reset with recs := [⟨0, 7, 2, [1, 2, 3], 1, 0, true, false⟩] } }
theorem wit_spdm_negotiation : ∀ s ∈ [tSpdm ⟨true, false, false, 0, [], [], [], [], [], [], 0, 0⟩], ∀ t ∈ [tSpdm ⟨true, true, false, 0, [], [], [], [], [], [], 0, 0⟩],
    s.chip.dev.wdn.running = true ∧ leAt [0x10, 0x84, 0, 0] 1 1 = 0x84 ∧ leAt [0x12, 0xE1, 0, 0] 1 1 = 0xE1 ∧ leAt [0x12, 0xE3, 0, 0] 1 1 = 0xE3 ∧
    s.chip.spdm.version = true ∧ s.chip.spdm.caps = false ∧ t.chip.spdm.caps = true ∧ t.chip.spdm.algs = false ∧ (0x80 : Nat).testBit 7 = true ∧
    (2 : Nat).testBit 1 = true ∧ (List.replicate 16385 (0 : Byte)).length = 16385 := by decide +kernel
theorem wit_spdm_certificates : ∀ s ∈ [tSpdm ⟨true, true, true, 0, [], [], [], [], [], [], 0, 0⟩], ∀ req ∈ [([0x12, 0x82, 0, 0, 0, 0, 255, 255] : List Byte)],
    s.chip.dev.stateOf 2 = some [1, 2, 3] ∧ s.chip.spdm.algs = true ∧ leAt req 1 1 = 0x82 ∧ leAt req 2 1 % 16 = 0 ∧ leAt req 4 2 = 0 ∧
    leAt [0x12, 0x81, 0, 0] 1 1 = 0x81 := by decide +kernel
theorem wit_spdm_chain : 0 < (tSpdm ⟨true, true, true, 0, [], [], [], [], [], [], 0, 0⟩).chip.dev.certChain.length := by
  unfold Dev.certChain
  rw [show (tSpdm ⟨true, true, true, 0, [], [], [], [], [], [], 0, 0⟩).chip.dev.stateOf 2 = some [1, 2, 3] by decide +kernel]
  simp

/-- Requests of 4, 36 and 138 octets with a code, and a record. -/
def tReq (code : Byte) (n : Nat) : List Byte := [0x12, code, 0, 0] ++ List.replicate (n - 4) 0
theorem wit_spdm_requests : leAt (tReq 0x83 36) 1 1 = 0x83 ∧ (tReq 0x83 36).length = 36 ∧ leAt (tReq 0x83 36) 2 1 = 0 ∧ leAt (tReq 0xE0 4) 1 1 = 0xE0 ∧
    leAt (tReq 0xE0 4) 3 1 = 0 ∧ leAt [0x12, 0xE0, 1, 255] 3 1 = 255 ∧ leAt (tReq 0xE4 138) 1 1 = 0xE4 ∧ (tReq 0xE4 138).length = 138 ∧
    leAt (tReq 0xE4 138) 3 1 % 16 = 0 := by decide +kernel
/-- A record of the open session, and one of another. -/
theorem wit_spdm_records : ∀ p ∈ [{ Spdm.reset with session := 2, sid := [1, 2, 3, 4] }, { Spdm.reset with session := 1, sid := [1, 2, 3, 4] }],
    p.session ≠ 0 ∧ ([1, 2, 3, 4, 5, 0, 9] : List Byte).take 4 = p.sid ∧ ([1, 2, 3, 5, 0, 0] : List Byte).take 4 ≠ p.sid := by decide +kernel

theorem wit_descriptor_fetch : ∀ d ∈ [tCrs.wr (Fld.HIU_SQ_STATE_TAIL 0 1) 3], d.mayFetch 0 1 = true ∧ d.itsTurn 0 1 = true ∧ d.outstanding < 2048 ∧ (d.cmd 7).st = .free ∧
    d.staged 0 < d.rd (Fld.PART_QUOTA_STAGING 0) ∧ (d.rd (Fld.HIU_SQ_STATE_HEAD 0 1) + d.pendingReads 0 1) % 2 ^ d.rd (Fld.HIU_SQ_CFG_SIZE_LOG2 0 1) = 0 ∧
    d.rd (Fld.HIU_SQ_STATE_TAIL 0 1) = 3 := by decide +kernel
/-- Entry 7 being read from course 1. -/
def tFetching : Dev := tCrs.setCmd 7 { Cmd.reset with st := .fetching, sq := 1, order := 1 }
theorem wit_descriptor_read : (tFetching.cmd 7).st = .fetching ∧ tFetching.isOldest 7 = true ∧ dPallet tDesc = false ∧ dPallet tPal = true ∧
    palletOk tPal = true ∧ dPallet tPal0 = true ∧ palletOk tPal0 = false ∧ dPallet tOdd = false ∧
    (tFetching.headAdvance 0 1).descCheck 0 1 false tDesc = none ∧ (tFetching.headAdvance 0 1).descCheck 0 1 false tOdd = some 0x0104 := by decide +kernel
/-- Course 1 has had its share, while course 0 has work and none of its own. -/
def tTurns : Dev :=
  { ((((tCrs.wr (Fld.HIU_SQ_CFG_SIZE_LOG2 0 0) 4).wr (Fld.HIU_SQ_STATE_ENABLE 0 0) 1).wr (Fld.HIU_SQ_STATE_TAIL 0 0) 2).wr (Fld.HIU_SQ_STATE_TAIL 0 1) 3) with
    hiu := { tCrs.hiu with served := [(1, 1), (16384, 1)] } }
theorem wit_fetch_turns : tTurns.courseDone 0 1 = true ∧ 0 < tTurns.rd (Fld.PART_COURSES_SQ_COUNT 0) ∧ tTurns.hasWork 0 0 = true ∧
    tTurns.courseDone 0 0 = false := by decide +kernel
theorem wit_pallet : ∀ d ∈ [tCrs.setCmd 7 { Cmd.reset with st := .palletWait, sq := 1, order := 1, desc := tPal }], ∀ r ∈ [d.palletFetch 7 [9]],
    (d.cmd 7).st = .palletWait ∧ d.canSend 0 = true ∧ d.partEnabled 0 = true ∧ dField (d.cmd 7).desc 6 2 = 2 ∧ (d.cmd 9).st = .free ∧
    d.staged 0 + 1 ≤ d.rd (Fld.PART_QUOTA_STAGING 0) ∧ (r.cmd 7).st = .palletRead ∧ (r.cmd 7).inPallet = false ∧ r.isOldest 7 = true ∧
    ((r.palletArrives 7 [tDesc, tOdd]).cmd 7).st = .staged ∧ ((r.palletArrives 7 [tDesc, tOdd]).cmd 9).status = 0x0104 := by decide +kernel
theorem wit_input_read : ∀ d ∈ [tCrs.setCmd 7 { Cmd.reset with st := .staged, sq := 1, order := 1, desc := tOdd }], (d.cmd 7).st = .staged ∧
    dInLen (d.cmd 7).desc = 8 ∧ (d.cmd 7).ready = false ∧ d.canSend 0 = true := by decide +kernel

/-- Entry 7 staged from partition 0's course 1 with CONTEXT_GET, contexts 0 to 9, an INFLIGHT quota of 8 and all tiles serving. -/
def tStaged : Dev :=
  (((tCrs.wr (Fld.PART_CONTEXTS_CTX_COUNT 0) 10).wr (Fld.PART_QUOTA_INFLIGHT 0) 8).wr Fld.TILE_AVAIL_AVAIL (2 ^ 64 - 1)).setCmd 7
    { Cmd.reset with st := .staged, sq := 1, order := 5, desc := tDesc }
theorem wit_admission : ∀ d ∈ [tStaged], ∀ c ∈ [d.cmd 7], c.st = .staged ∧ c.epoch = d.epoch 0 ∧ (d.wr (Fld.PART_STATUS_EPOCH 0) 4).epoch 0 ≠ c.epoch ∧
    d.tmp.erased = false ∧ d.tmp.erasing = false ∧ d.tmp.lock = false ∧ isFence (dFunction c.desc) = false ∧ d.behindFence c = false ∧ c.bad = none ∧
    d.ctxMeet c = false ∧ d.admitCheck c = none ∧ d.inflight 0 < d.rd (Fld.PART_QUOTA_INFLIGHT 0) ∧ isTileFn (dFunction c.desc) = false ∧
    (d.wr (Fld.PART_QUOTA_INFLIGHT 0) 0).admitCheck c = some 0x0401 ∧ d.tilesAvailable ≠ 0 := by decide +kernel
theorem wit_admission_waits : ∀ d ∈ [tStaged.setCmd 8 { Cmd.reset with st := .fence, order := 2, adm := 1, desc := BitVec.ofNat 512 0xF001 }],
    ∀ q ∈ [(tStaged.wr (Fld.PART_QUOTA_INFLIGHT 0) 1).setCmd 8 { Cmd.reset with st := .running, counted := true }], d.behindFence (d.cmd 7) = true ∧
    q.admitCheck (q.cmd 7) = none ∧ q.rd (Fld.PART_QUOTA_INFLIGHT 0) ≤ q.inflight 0 := by decide +kernel
theorem wit_thread_assign : ∀ d ∈ [(tStaged.wr (Fld.TILE_EPOCH_STATE 2) 0).setCmd 7 { Cmd.reset with st := .admitted, adm := 3, ready := true, image := some (1, 0x40), desc := 0x20 }],
    d.isOldestAdmitted 7 = true ∧ (d.cmd 7).ready = true ∧ d.thrFree 33 = true ∧ d.tmp.lock = false ∧ (d.cmd 7).image = some (1, 0x40) := by decide +kernel
theorem wit_contexts : ∀ g ∈ [{ Cmd.reset with st := CmdSt.admitted, desc := tDesc }], ∀ w ∈ [{ Cmd.reset with
      st := CmdSt.admitted, desc := BitVec.ofNat 512 (0x10 + 0x1000 * 2 ^ 128 + 128 * 2 ^ 256) }], dFunction g.desc = 0x11 ∧ dOutLen g.desc = 128 ∧ dInAddr g.desc = 0 ∧ dInLen g.desc = 0 ∧
    dField g.desc 0x28 24 = 0 ∧ dFuncFlags g.desc = 0 ∧ tStaged.canSend 0 = true ∧ dFunction w.desc = 0x10 ∧ dInLen w.desc = 128 ∧
    dOutAddr w.desc = 0 ∧ dOutLen w.desc = 0 ∧ dField w.desc 0x28 24 = 0 ∧ dFuncFlags w.desc = 0 ∧ (bvBytes 128 (({ w with prefetch := 0, ready := true } : Cmd).prefetch.setWidth 1024)).length = 128 ∧ tStaged.current 7 = true ∧ (tStaged.thrs.any fun t => t.2.cmd == some 7) = false ∧
    ctxImageOk (bytesBv 1024 (List.replicate 128 0)) = true ∧ ctxImageOk (bytesBv 1024 (bvBytes 128 (((1 : BitVec 2048) <<< 1016).setWidth 1024))) = false := by decide +kernel
theorem wit_admission_unbound : ∀ d ∈ [tStaged.setCmd 7 { Cmd.reset with st := .staged, sq := 1, order := 5, desc := 0x90 }], ∀ c ∈ [d.cmd 7], c.st = .staged ∧
    c.epoch = d.epoch 0 ∧ d.admitCheck c = none ∧ d.inflight 0 < d.rd (Fld.PART_QUOTA_INFLIGHT 0) ∧ isTileFn (dFunction c.desc) = true ∧
    d.funcEntry (dFunction c.desc) = none ∧ d.behindFence c = false ∧ d.ctxMeet c = false := by decide +kernel

/-- Entry 7 holds a fence of partition 0's course 1; entry 8 a command released with its completion next; course 1 posts to completion course 2. -/
def tFence (w : Nat) (st : CmdSt) : Dev := tCrs.setCmd 7 { Cmd.reset with st := st, sq := 1, order := 5, adm := 1, desc := BitVec.ofNat 512 w }
theorem wit_fences : ∀ d ∈ [tFence 0xF003 .staged], ∀ b ∈ [tFence 0x1F003 .staged], ∀ w ∈ [tFence 0xF004 .fence], (d.cmd 7).st = .staged ∧
    dFunction (d.cmd 7).desc = 0xF003 ∧ (d.cmd 7).epoch = d.epoch 0 ∧ d.tmp.erased = false ∧ d.tmp.erasing = false ∧ d.tmp.lock = false ∧
    fenceFieldsZero (d.cmd 7).desc = true ∧ d.fences 0 < 64 ∧ fenceFieldsZero (b.cmd 7).desc = false ∧ (w.cmd 7).st = .fence ∧
    w.earlierDone (w.cmd 7) = true ∧ w.bondSettled (w.cmd 7) = true ∧ d.keysSettled (d.cmd 7) = true ∧ d.countersSettled (d.cmd 7) = true := by decide +kernel
theorem wit_sixty_four_fences : ∀ d ∈ [(List.range 64).foldl (fun x k => x.setCmd (k + 100) { Cmd.reset with st := .fence, adm := 1 }) (tFence 0xF001 .staged)],
    64 ≤ d.fences 0 ∧ (d.cmd 7).st = .staged := by decide +kernel
/-- A thread that has released the command of entry 7 and goes on keeps its image. -/
theorem test_past_release : ∀ d ∈ [(tCrs.setCmd 7 { Cmd.reset with st := .queued, image := some (2, 0x80) }).setThr 5 { Thr.reset with cmd := some 7, rel := true }],
    tfind (fun _ t => t.cmd == some 7) d.thrs = some 5 ∧ (d.dropCmd 7).cmd 7 = Cmd.reset ∧ ((d.dropCmd 7).cmd 8197).image = some (2, 0x80) := by decide +kernel
theorem wit_completions : ∀ d ∈ [(tCrs.setCmd 7 { Cmd.reset with st := .released, sq := 1 }).setCq 0 2 ⟨[9], 1, true⟩], ∀ q ∈ [d.rd (Fld.HIU_SQ_CFG_CQ 0 1)],
    (d.cmd 7).st = .released ∧ (d.cmd 7).status ≠ 0x0301 ∧ (d.fn 0).held.any (fun h => h.1 == some 7) = false ∧ q = 2 ∧
    d.rd (Fld.HIU_CQ_STATE_ENABLE 0 q) = 1 ∧ (d.wr (Fld.HIU_SQ_CFG_CQ 0 1) 3).rd (Fld.HIU_CQ_STATE_ENABLE 0 3) = 0 ∧ (d.cq 0 2).waiting = [9] ∧
    d.canSend 0 = true ∧ d.rd (Fld.HIU_CQ_STATE_ERR_CODE 0 2) = 0 ∧ d.rd (Fld.HIU_CQ_STATE_TAIL 0 2) = 5 ∧ d.rd (Fld.HIU_CQ_STATE_HEAD 0 2) = 0 ∧
    ((d.wr (Fld.HIU_CQ_STATE_TAIL 0 2) 15).rd (Fld.HIU_CQ_STATE_TAIL 0 2) + 1) % 16 = 0 ∧ (d.cq 0 2).timer = true ∧
    (d.wr (Fld.HIU_CQ_CFG_INT_EN 0 2) 1).rd (Fld.HIU_CQ_CFG_INT_EN 0 2) = 1 := by decide +kernel
/-- The last entry of the ring is written with PHASE 1, TAIL wraps to 0 and PHASE flips (R60). -/
theorem test_completion_wraps : ∀ d ∈ [((tCrs.setCmd 9 { Cmd.reset with st := .queued, sq := 1, status := 0x0501, desc := tDesc }).setCq 0 2 ⟨[9], 0, false⟩).wr
      (Fld.HIU_CQ_STATE_TAIL 0 2) 15 |>.wr (Fld.HIU_CQ_STATE_HEAD 0 2) 3 |>.wr (Fld.HIU_CQ_STATE_PHASE 0 2) 1 |>.wr (Fld.HIU_CQ_BASE_BASE 0 2) 3], ∀ x ∈ [d.completionWrite 0 2],
    x.rd (Fld.HIU_CQ_STATE_TAIL 0 2) = 0 ∧ x.rd (Fld.HIU_CQ_STATE_PHASE 0 2) = 0 ∧
    x.out = [(none, .completion 0 2 15 (3 * 4096 + 480) (BitVec.ofNat 256 (0x0501 * 2 ^ 64 + 1 * 2 ^ 80 + 1 * 2 ^ 120)))] := by decide +kernel

theorem wit_pin_translate : ∀ s ∈ [tLib 0x20 0 0 tPan16 [tAttr 4 1 1, tAttr 4 0 1] 0], ∀ d ∈ [s.chip.dev], ∀ c ∈ [d.cmd 0],
    ∀ x ∈ [d.libKeys 0 c tUses [⟨0, useDec, some true, pinAlg 0⟩, ⟨1, useEnc, some true, pinAlg 0⟩]],
    d.LibReady 0x20 0 0 c [] [] ∧ ctxRestZero c.ctx 2 17 0 = true ∧ (pinOpt (cOptions c.ctx)).ok = true ∧ noAreas c.desc = true ∧
    allZero (slice (dParams c.desc) 8 8) = true ∧ panGiven false (leAt (dParams c.desc) 16 8) (dPanDigits c.desc) = true ∧
    d.libUnits [1] = none ∧ d.xks.waiting = false ∧ d.libDraws (pinDraws 0) = none ∧ x.2 = .ok [⟨1, 1, [], tAttr 4 1 1⟩, ⟨1, 2, [], tAttr 4 0 1⟩] ∧
    (x.1.libUses tUses [(0, ⟨1, 1, [], tAttr 4 1 1⟩), (1, ⟨1, 2, [], tAttr 4 0 1⟩)]).2 = true := by decide +kernel
/-- DATA of PIN_VERIFY: the table 0123456789012345, START 2, LENGTH 10, PAD 15. -/
def tPv : Nat := 0x0F0A024523018967452301
theorem wit_pin_verify : ∀ s ∈ [tLib 0x21 0x400 tPv (tPan0 + 32 * 2 ^ 256) [tAttr 4 1 1, tAttr 4 3 0] 0], ∀ d ∈ [s.chip.dev], ∀ c ∈ [d.cmd 0],
    ∀ x ∈ [d.libKeys 0 c tUses [⟨0, useDec, some true, pinAlg 0⟩, ⟨1, useDerive, none, isTdea⟩]],
    d.LibReady 0x21 0 0 c [] (List.replicate 32 0) ∧ pvOk true c = true ∧ dInLen c.desc = 32 ∧ panOk (leAt (dParams c.desc) 0 8) (dPanDigits c.desc) = true ∧
    (pvOpt c.ctx).start + (pvOpt c.ctx).vlen ≤ dPanDigits c.desc ∧ (pvOpt c.ctx).offEnc = false ∧ d.libUnits [1] = none ∧ d.libDraws false = none ∧
    x.2 = .ok [⟨1, 1, [], tAttr 4 1 1⟩, ⟨1, 2, [], tAttr 4 3 0⟩] ∧
    (x.1.libUses tUses [(0, ⟨1, 1, [], tAttr 4 1 1⟩), (1, ⟨1, 2, [], tAttr 4 3 0⟩)]).2 = true := by decide +kernel
theorem wit_pin_verify_encrypted_offset : ∀ s ∈ [tLib 0x21 0x10400 tPv (tPan0 + 32 * 2 ^ 256) [tAttr 4 1 1, tAttr 4 3 0, tAttr 3 1 1] 0],
    ∀ d ∈ [s.chip.dev], ∀ c ∈ [d.cmd 0],
    ∀ x ∈ [d.libKeys 0 c tUses [⟨0, useDec, some true, pinAlg 0⟩, ⟨1, useDerive, none, isTdea⟩, ⟨2, useDec, some true, anyCipher⟩]],
    d.LibReady 0x21 0 0 c [] (List.replicate 32 0) ∧ pvOk true c = true ∧ (pvOpt c.ctx).offEnc = true ∧ blockLen 3 = 16 ∧
    x.2 = .ok [⟨1, 1, [], tAttr 4 1 1⟩, ⟨1, 2, [], tAttr 4 3 0⟩, ⟨1, 3, [], tAttr 3 1 1⟩] := by decide +kernel
theorem wit_pin_offset : ∀ s ∈ [tLib 0x22 0x400 tPv (tPan0 + 16 * 2 ^ 256) [tAttr 4 1 1, tAttr 4 3 0, tAttr 3 0 1] 0], ∀ d ∈ [s.chip.dev], ∀ c ∈ [d.cmd 0],
    ∀ x ∈ [d.libKeys 0 c tUses [⟨0, useDec, some true, pinAlg 0⟩, ⟨1, useDerive, none, isTdea⟩, ⟨2, useEnc, some true, anyCipher⟩]],
    d.LibReady 0x22 0 0 c [] (List.replicate 16 0) ∧ pvOk false c = true ∧ dInLen c.desc = 16 ∧ d.libDraws true = none ∧
    x.2 = .ok [⟨1, 1, [], tAttr 4 1 1⟩, ⟨1, 2, [], tAttr 4 3 0⟩, ⟨1, 3, [], tAttr 3 0 1⟩] := by decide +kernel
/-- A format 4 PIN block under AES DUKPT: counter 1, PAN of 16 digits at octet 0x20 of the input area. -/
theorem wit_dukpt_pin : ∀ s ∈ [tLib 0x40 0x44 0 (48 * 2 ^ 256) [tAttr 3 3 0, tAttr 3 0 1] (0x01 * 2 ^ 88 + 4111111111111111 * 2 ^ 256 + 16 * 2 ^ 320)],
    ∀ d ∈ [s.chip.dev], ∀ c ∈ [d.cmd 0], ∀ x ∈ [d.libKeys 0 c tUses [⟨0, useDerive, some false, fun a => aesOr2Tdea a && pinAlg 4 a⟩,
      ⟨1, useEnc, some true, pinAlg 4⟩]], d.LibReady 0x40 0 0 c [] ((bvBytes 256 c.prefetch).take 48) ∧ optsIn (cOptions c.ctx) 0xDFFFF = true ∧
    keysZero c.ctx 2 = true ∧ allZero ((cData c.ctx).drop 4) = true ∧ (pinOpt (cOptions c.ctx)).ok = true ∧ dFuncFlags c.desc = 0 ∧
    allZero (dParams c.desc) = true ∧ noOutput c.desc = true ∧ dInLen c.desc = 48 ∧
    x.2 = .ok [⟨1, 1, [], tAttr 3 3 0⟩, ⟨1, 2, [], tAttr 3 0 1⟩] := by decide +kernel
theorem wit_dukpt_input : ∀ inp ∈ [(bvBytes 256 (BitVec.ofNat 2048 (0x01 * 2 ^ 88 + 4111111111111111 * 2 ^ 256 + 16 * 2 ^ 320))).take 48],
    allZero (slice inp 12 4) = true ∧ allZero (slice inp 0x29 7) = true ∧ panGiven false (leAt inp 0x20 8) (leAt inp 0x28 1) = true ∧
    beAt (slice inp 0 12) 8 4 = 1 ∧ dukptWork 3 0x44 = some 1 := by decide +kernel
theorem wit_dukpt_key : (match dukptKey ⟨1, 1, [], tAttr 3 3 0⟩ { Cmd.reset with ctx := 0x44 <<< 320 } [0, 0, 0, 0, 0, 0, 0, 0, 0, 0, 0, 1] 0x1000 1 with
    | .ok x => x.2 == 1
    | .error _ => false) = true := by decide +kernel
theorem wit_csc_generate : ∀ s ∈ [tLib 0x58 0 0 (tPan0 + 0x2512 * 2 ^ 384 + 0x0102 * 2 ^ 400) [tAttr 4 0 0] 0], ∀ d ∈ [s.chip.dev], ∀ c ∈ [d.cmd 0],
    d.LibReady 0x58 0 0 c [] [] ∧ ctxRestZero c.ctx 1 0 0 = true ∧ noAreas c.desc = true ∧ panOk (leAt (dParams c.desc) 0 8) (dPanDigits c.desc) = true ∧
    nibbles (slice (dParams c.desc) 8 2) = [1, 2, 2, 5] ∧ nibbles (slice (dParams c.desc) 10 2) = [0, 2, 0, 1] ∧ allZero ((dParams c.desc).drop 12) = true ∧
    (d.libKeys 0 c tUses [⟨0, useEnc, some false, fun a => a == 4⟩]).2 = .ok [⟨1, 1, [], tAttr 4 0 0⟩] := by decide +kernel
theorem wit_csc_verify : ∀ t ∈ [tLib 0x59 0 0 (tPan0 + 0x2512 * 2 ^ 384 + 0x0102 * 2 ^ 400 + 0x4503 * 2 ^ 416) [tAttr 4 0 0] 0], ∀ c ∈ [t.chip.dev.cmd 0],
    t.chip.dev.LibReady 0x59 0 0 c [] [] ∧ allZero ((dParams c.desc).drop 14) = true ∧ nibbles (slice (dParams c.desc) 12 2) = [0, 3, 4, 5] := by
  decide +kernel

theorem wit_arqc : ∀ s ∈ [tLib 0x30 0 0 (2 ^ 320 + 128 * 2 ^ 256 + 16 * 2 ^ 288) [tAttr 4 3 0] 0], ∀ d ∈ [s.chip.dev], ∀ c ∈ [d.cmd 0],
    ∀ x ∈ [d.libKeys 0 c [] [⟨0, useDerive, none, aesOr2Tdea⟩]], d.LibReady 0x30 0 0 c [] (List.replicate 128 0) ∧ ctxRestZero c.ctx 1 2 0 = true ∧
    leAt (dParams c.desc) 0 2 = 1 ∧ dInLen c.desc = 128 ∧ dOutLen c.desc = 16 ∧ d.libUnits [1] = none ∧ x.2 = .ok [⟨1, 1, [], tAttr 4 3 0⟩] ∧
    (x.1.libUses [] [(0, ⟨1, 1, [], tAttr 4 3 0⟩)]).2 = true := by decide +kernel
/-- ISSUER_SCRIPT's input area: command of 5 octets, MAC_LEN 4. -/
def tScript (enc : Nat) : Nat := 4111111111111111 + 16 * 2 ^ 64 + 5 * 2 ^ 160 + enc * 2 ^ 184 + 4 * 2 ^ 192
theorem wit_issuer_script : ∀ s ∈ [tLib 0x31 0 0 (37 * 2 ^ 256 + 64 * 2 ^ 288) [tAttr 4 3 0] (tScript 0)], ∀ d ∈ [s.chip.dev], ∀ c ∈ [d.cmd 0],
    ∀ inp ∈ [(bvBytes 256 c.prefetch).take 37], d.LibReady 0x31 0 0 c [] inp ∧ ctxRestZero c.ctx 2 0 0 = true ∧ leAt inp 0x14 2 = 5 ∧
    leAt inp 0x17 1 = 0 ∧ leAt inp 0x18 1 = 4 ∧ panOk (leAt inp 0 8) (leAt inp 8 1) = true ∧
    (d.libKeys 0 c [] [⟨0, useDerive, some false, aesOr2Tdea⟩]).2 = .ok [⟨1, 1, [], tAttr 4 3 0⟩] := by decide +kernel
theorem wit_issuer_script_encrypted : ∀ s ∈ [tLib 0x31 0 0 (37 * 2 ^ 256 + 64 * 2 ^ 288) [tAttr 4 3 0, tAttr 4 3 0] (tScript 1)], ∀ d ∈ [s.chip.dev],
    ∀ c ∈ [d.cmd 0], ∀ inp ∈ [(bvBytes 256 c.prefetch).take 37], d.LibReady 0x31 0 0 c [] inp ∧ leAt inp 0x17 1 = 1 ∧
    (d.libKeys 0 c [] [⟨0, useDerive, some false, aesOr2Tdea⟩, ⟨1, useDerive, some false, aesOr2Tdea⟩]).2 =
      .ok [⟨1, 1, [], tAttr 4 3 0⟩, ⟨1, 2, [], tAttr 4 3 0⟩] := by decide +kernel
/-- DUKPT_DATA with the MAC flag (a MAC of 4 octets over one) and without (8 octets decrypted), counter 1 of an AES key serial number. -/
theorem wit_dukpt_mac : ∀ s ∈ [tLib 0x41 0x4040000 0 (2 ^ 40 + 21 * 2 ^ 256) [tAttr 3 3 0] (2 ^ 88)], ∀ d ∈ [s.chip.dev], ∀ c ∈ [d.cmd 0],
    ∀ inp ∈ [(bvBytes 256 c.prefetch).take 21], d.LibReady 0x41 0 0 c [] inp ∧ cOptions c.ctx / 2 ^ 24 % 32 = 4 ∧ dFuncFlags c.desc = 1 ∧
    optsIn (cOptions c.ctx) 0x1F0C0000 = true ∧ keysZero c.ctx 1 = true ∧ allZero (dParams c.desc) = true ∧ noOutput c.desc = true ∧
    (d.libKeys 0 c [] [⟨0, useDerive, some false, aesOr2Tdea⟩]).2 = .ok [⟨1, 1, [], tAttr 3 3 0⟩] := by decide +kernel
theorem wit_dukpt_data : ∀ s ∈ [tLib 0x41 0x40000 0 (32 * 2 ^ 256 + 16 * 2 ^ 288) [tAttr 3 3 0] (2 ^ 88)], ∀ d ∈ [s.chip.dev], ∀ c ∈ [d.cmd 0],
    ∀ inp ∈ [(bvBytes 256 c.prefetch).take 32], d.LibReady 0x41 0 0 c [] inp ∧ cOptions c.ctx / 2 ^ 24 % 32 = 0 ∧ dFuncFlags c.desc = 0 ∧
    optsIn (cOptions c.ctx) 0x1F0C0000 = true ∧ dOutLen c.desc = 16 ∧ allZero (slice inp 12 4) = true := by decide +kernel
theorem wit_dukpt_data_key : (match dukptKey ⟨1, 1, [], tAttr 3 3 0⟩ { Cmd.reset with ctx := 0x40000 <<< 320 } [0, 0, 0, 0, 0, 0, 0, 0, 0, 0, 0, 1] 0x3000 3 with
    | .ok x => x.2 == 2
    | .error _ => false) = true ∧
    (match dukptKey ⟨1, 1, [], tAttr 3 3 0⟩ { Cmd.reset with ctx := 0x4040000 <<< 320 } [0, 0, 0, 0, 0, 0, 0, 0, 0, 0, 0, 1] 0x2000 2 with
    | .ok x => x.2 == 2
    | .error _ => false) = true := by decide +kernel
theorem wit_mac_generate : ∀ s ∈ [tLib 0x50 0x1000 0 (3 * 2 ^ 256) [tAttr 3 0 0] 7], ∀ d ∈ [s.chip.dev], ∀ c ∈ [d.cmd 0],
    d.LibReady 0x50 0 0 c [] [7, 0, 0] ∧ optsIn (cOptions c.ctx) 0x1F33 = true ∧ cOptions c.ctx / 256 % 32 = 16 ∧ keysZero c.ctx 1 = true ∧
    allZero (cData c.ctx) = true ∧ noOutput c.desc = true ∧
    (d.libKeys 0 c [] [⟨0, useEnc, some false, macAlgOk 0⟩]).2 = .ok [⟨1, 1, [], tAttr 3 0 0⟩] := by decide +kernel
theorem wit_mac_verify : ∀ s ∈ [tLib 0x51 0x811 0 (3 * 2 ^ 256) [tAttr 4 0 0] 7], ∀ d ∈ [s.chip.dev], ∀ c ∈ [d.cmd 0],
    d.LibReady 0x51 0 0 c [] [7, 0, 0] ∧ cOptions c.ctx % 4 = 1 ∧ cOptions c.ctx / 16 % 4 = 1 ∧ allZero ((dParams c.desc).drop 8) = true ∧
    (d.libKeys 0 c [] [⟨0, useEnc, some false, macAlgOk 1⟩]).2 = .ok [⟨1, 1, [], tAttr 4 0 0⟩] := by decide +kernel
/-- FF1 with 6 digits kept in front and 4 behind, of 16. -/
theorem wit_ff1_tokenise : ∀ s ∈ [tLib 0x60 0x46 0 tPan0 [tAttr 3 0 0] 0], ∀ d ∈ [s.chip.dev], ∀ c ∈ [d.cmd 0],
    d.LibReady 0x60 0 0 c [] [] ∧ ctxRestZero c.ctx 1 13 0 = true ∧ noAreas c.desc = true ∧ panOk (leAt (dParams c.desc) 0 8) 16 = true ∧ dPanDigits c.desc = 16 ∧
    (d.libKeys 0 c [] [⟨0, useEnc, some false, isAes⟩]).2 = .ok [⟨1, 1, [], tAttr 3 0 0⟩] := by decide +kernel
theorem wit_ff1_detokenise : ∀ s ∈ [tLib 0x61 0x46 0 tPan0 [tAttr 3 0 0] 0], ∀ d ∈ [s.chip.dev], ∀ c ∈ [d.cmd 0], d.LibReady 0x61 0 0 c [] [] := by decide +kernel
theorem wit_gcm_encrypt : ∀ t ∈ [tLib 0x80 0 0 (8 * 2 ^ 256 + 24 * 2 ^ 288) [tAttr 3 0 0] 7], ∀ d ∈ [(((t.chip.dev.wr Fld.CIPH_NONCE_ID_VALID 1).wr
      Fld.CIPH_LEASE_ACTIVE_VALID 1).wr Fld.CIPH_JOURNAL_MARK_MARK 100).wr Fld.CIPH_NONCE_NEXT_NEXT 99], ∀ c ∈ [d.cmd 0],
    d.LibReady 0x80 0 0 c [] [7, 0, 0, 0, 0, 0, 0, 0] ∧ ctxRestZero c.ctx 1 0 0 = true ∧ gcmLens 8 24 0 0 16 = true ∧
    d.nonceWaits = false ∧ d.libNonce.2 = some (.ok ((nonceBytes 0 99).take 12)) ∧ (d.wr Fld.CIPH_NONCE_NEXT_NEXT 100).nonceWaits = true ∧ (d.libKeys 0 c [] [⟨0, useEnc, some false, isAes⟩]).2 = .ok [⟨1, 1, [], tAttr 3 0 0⟩] := by
  decide +kernel
theorem wit_gcm_decrypt : ∀ s ∈ [tLib 0x81 0 0 (24 * 2 ^ 256 + 8 * 2 ^ 288) [tAttr 3 0 0] 7], ∀ d ∈ [s.chip.dev], ∀ c ∈ [d.cmd 0],
    d.LibReady 0x81 0 0 c [] (7 :: List.replicate 23 0) ∧ ctxRestZero c.ctx 1 0 0 = true ∧ gcmLens 24 8 0 16 0 = true ∧
    allZero ((dParams c.desc).drop 16) = true := by decide +kernel
theorem wit_random : ∀ fl ∈ [(0 : Nat), 1], ∀ t ∈ [tLib 0x90 0 0 (fl * 2 ^ 40 + 8 * 2 ^ 288) [] 0],
    ∀ d ∈ [{ t.chip.dev.wr Fld.RNG_HEALTH_HOST_READY 1 with rng := { t.chip.dev.rng with hostDone := [15] } }], ∀ c ∈ [d.cmd 0],
    d.LibReady 0x90 0 0 c [] [] ∧ noInput c.desc = true ∧ dOutLen c.desc = 8 ∧ dFuncFlags c.desc = fl ∧ d.blockHeld 3 = false ∧ d.rngFailed = false ∧
    d.rngReady 2 = true ∧ d.rngServes 2 = true ∧ d.rng.hostDone.contains 15 = true := by decide +kernel

theorem wit_ecdsa_sign : ∀ s ∈ [tLib 0xA0 0x211 0 (3 * 2 ^ 256 + 64 * 2 ^ 288) [tAttr 8 0 0] 7], ∀ d ∈ [s.chip.dev], ∀ c ∈ [d.cmd 0],
    d.LibReady 0xA0 0 0 c [] [7, 0, 0] ∧ sigOpt (cOptions c.ctx) = ⟨1, 1, false, true⟩ ∧ keysZero c.ctx 1 = true ∧ sigOptOk false true c.ctx = true ∧
    allZero (dParams c.desc) = true ∧ sigMsgOk (sigOpt (cOptions c.ctx)) 3 = true ∧ dOutLen c.desc = 64 ∧ d.libUnits [3] = none ∧
    (d.libKeys 0 c [] [⟨0, useEnc, some false, fun a => a == 8⟩]).2 = .ok [⟨1, 1, [], tAttr 8 0 0⟩] := by decide +kernel
theorem wit_mldsa_sign : ∀ s ∈ [tLib 0xA2 4 0 (3 * 2 ^ 256 + 2420 * 2 ^ 288) [tAttr 0x14 0 0] 7], ∀ d ∈ [s.chip.dev], ∀ c ∈ [d.cmd 0],
    d.LibReady 0xA2 0 0 c [] [7, 0, 0] ∧ sigOptOk true true c.ctx = true ∧ dOutLen c.desc = 2420 ∧ d.libUnits [4] = none ∧ d.libDraws true = none ∧
    (d.libKeys 0 c [] [⟨0, useEnc, some false, fun a => a == 0x14⟩]).2 = .ok [⟨1, 1, [], tAttr 0x14 0 0⟩] := by decide +kernel
theorem wit_ecdsa_verify : ∀ s ∈ [tLib 0xA1 0x11 0 (2 ^ 320 + 130 * 2 ^ 256) [] 7], ∀ d ∈ [s.chip.dev], ∀ c ∈ [d.cmd 0],
    d.LibReady 0xA1 0 0 c [] (7 :: List.replicate 129 0) ∧ sigOptOk false false c.ctx = true ∧ leAt (dParams c.desc) 0 4 = 1 ∧ keysZero c.ctx 0 = true ∧
    noOutput c.desc = true ∧ dInLen c.desc = 65 + 64 + 1 := by decide +kernel
theorem wit_mldsa_verify : ∀ s ∈ [tLib 0xA3 4 0 (2 ^ 320 + 3733 * 2 ^ 256) [] 0], ∀ d ∈ [s.chip.dev], ∀ c ∈ [d.cmd 0],
    d.LibReady 0xA3 0 0 c (List.replicate 3733 5) (List.replicate 3733 5) ∧ sigOptOk true false c.ctx = true ∧ dInLen c.desc = 1312 + 2420 + 1 := by
  decide +kernel
theorem wit_rsa_sign : ∀ s ∈ [tLib 0xA4 0x17 0 (2 ^ 320 + 33 * 2 ^ 256 + 256 * 2 ^ 288) [0, tAttr 3 2 0] 7], ∀ d ∈ [s.chip.dev], ∀ c ∈ [d.cmd 0],
    d.LibReady 0xA4 0 0 c [] (7 :: List.replicate 32 0) ∧ cKey c.ctx 0 = 0 ∧ keysZero c.ctx 2 = true ∧ dOutLen c.desc = 256 ∧ leAt (dParams c.desc) 0 4 = 1 ∧
    hashLenOf 1 = 32 ∧ (d.libKeys 0 c [] [⟨1, useWrap, some false, fun a => a == 3⟩]).2 = .ok [⟨1, 2, [], tAttr 3 2 0⟩] := by decide +kernel
theorem wit_mlkem_encaps : ∀ t ∈ [tLib 0xB0 9 0 (2 ^ 381 + 3 * 2 ^ 320 + 800 * 2 ^ 256 + 768 * 2 ^ 288) [] 0], ∀ d ∈ [tXks t.chip.dev], ∀ c ∈ [d.cmd 0],
    d.LibReady 0xB0 0 0 c (List.replicate 800 5) (List.replicate 800 5) ∧ keysZero c.ctx 0 = true ∧ dInLen c.desc = ekLen 9 ∧ dOutLen c.desc = ctLen 9 ∧
    d.libUnits [4, 5] = none ∧ d.xks.waiting = false ∧ (d.targetCheck 0 (bytesBv 64 (slice (dParams c.desc) 0 8)) 0).2 = none ∧ (useAt [] 4).read = 0 ∧ hRec (bytesBv 64 (slice (dParams c.desc) 0 8)) = 3 ∧
    allZero ((dParams c.desc).drop 8) = true := by decide +kernel
theorem wit_mlkem_decaps : ∀ t ∈ [tLib 0xB1 9 0 (2 ^ 381 + 3 * 2 ^ 320 + 768 * 2 ^ 256) [tAttr 0x10 1 0] 0], ∀ d ∈ [tXks t.chip.dev], ∀ c ∈ [d.cmd 0],
    d.LibReady 0xB1 0 0 c (List.replicate 768 5) (List.replicate 768 5) ∧ keysZero c.ctx 1 = true ∧ dInLen c.desc = ctLen 9 ∧ noOutput c.desc = true ∧
    (d.libKeys 0 c [] [⟨0, useDec, some false, fun a => a == 0x10⟩]).2 = .ok [⟨1, 1, [], tAttr 0x10 1 0⟩] := by decide +kernel
theorem wit_customer : ∀ d ∈ [((Dev.reset.wr (Fld.TILE_EPOCH_STATE 2) 0).wr Fld.TILE_AVAIL_AVAIL 4).setCmd 7 { Cmd.reset with
      st := .admitted, adm := 3, ready := true, image := some (1, 0x40), desc := 0x800 }], d.isOldestAdmitted 7 = true ∧ (d.cmd 7).ready = true ∧
    d.thrFree 33 = true ∧ (d.cmd 7).image = some (1, 0x40) ∧ 0x800 ≤ dFunction (d.cmd 7).desc ∧ dFunction (d.cmd 7).desc < 0x1000 := by decide +kernel

/-- A device whose Warden is free, with command `f` of partition 0 admitted in entry 0. -/
def tKm (f opts desc : Nat) (attrs : List Word) : Dev :=
  let d := (tLib f opts 0 desc attrs 0).chip.dev
  { d.modCmd 0 (fun c => { c with st := .admitted }) with wdn := { Wdn.reset with running := true, queue := if kmFns.contains f then [kmForm 0 0 f [] 0] else [] } }
theorem wit_keyblock_import : ∀ d ∈ [tKm 0x70 0 (2 ^ 380 + 5 * 2 ^ 320 + 64 * 2 ^ 256) [tAttr 3 2 0]], d.kmTurn 0 0x70 = true ∧ dInLen (d.cmd 0).desc = 64 ∧
    importDescOk (d.cmd 0).desc = true ∧ ctxRestZero (d.cmd 0).ctx 1 0 0 = true ∧ usesLeft (tAttr 3 2 0) = true ∧ (d.wardenKey 0 (cKey (d.cmd 0).ctx 0) 0).2 = .ok ⟨1, 1, [], tAttr 3 2 0⟩ := by
  decide +kernel
/-- The attribute word of an exportable AES-256 encryption key with a GLAZED result, exported as P0, mode E. -/
theorem wit_keyblock_export : ∀ d ∈ [tKm 0x71 0 (0x453050 * 2 ^ 320) [tAttr 3 2 0, setF (tAttr 3 0 1) 11 1 1]], d.kmTurn 0 0x71 = true ∧
    dFuncFlags (d.cmd 0).desc = 0 ∧ allZero ((dParams (d.cmd 0).desc).drop 5) = true ∧ noInput (d.cmd 0).desc = true ∧ ctxRestZero (d.cmd 0).ctx 2 0 0 = true ∧
    (d.wardenKey 0 (cKey (d.cmd 0).ctx 1) 0).2 = .ok ⟨1, 2, [], setF (tAttr 3 0 1) 11 1 1⟩ ∧ aExportable (setF (tAttr 3 0 1) 11 1 1) = true ∧
    usesLeft (tAttr 3 2 0) = true ∧ usesLeft (setF (tAttr 3 0 1) 11 1 1) = true ∧ keyStrength 3 ≤ keyStrength 3 ∧ kbMap 0x50 0x30 0x45 0 = some (0, true) ∧ aUsage (setF (tAttr 3 0 1) 11 1 1) = 0 ∧ aGlaze (setF (tAttr 3 0 1) 11 1 1) = true := by
  decide +kernel
theorem wit_tr34_nonce : ∀ d ∈ [{ tAudit ((tKm 0x78 0 0 []).wr Fld.RNG_HEALTH_C_READY 1) with rng := { Rng.reset with needC := false } }], d.kmTurn 0 0x78 = true ∧ noInput (d.cmd 0).desc = true ∧
    noOutput (d.cmd 0).desc = true ∧ d.rngFailed = false ∧ d.rngServes 0 = true ∧ d.canAudit = true := by decide +kernel
theorem wit_tr34_import : ∀ d ∈ [tKm 0x79 3 (2 ^ 380 + 5 * 2 ^ 320 + 64 * 2 ^ 256) []], d.kmTurn 0 0x79 = true ∧ importDescOk (d.cmd 0).desc = true ∧
    ctxRestZero (d.cmd 0).ctx 0 4 0 = true ∧ dInLen (d.cmd 0).desc = 64 := by decide +kernel
theorem wit_warden_request : ∀ d ∈ [tKm 0x7F 0 (32 * 2 ^ 256 + 56 * 2 ^ 288) []], ∀ r ∈ [WReq.mk 1 0 (leBytes 2 0x301 ++ List.replicate 30 0) 0],
    d.wardenCmd 0 0x7F = true ∧ dInLen (d.cmd 0).desc = 32 ∧ d.wdn.running = true ∧ d.canSend 0 = true ∧ wardenRequestDesc (d.cmd 0) = none ∧ wardenRequestRefusal (d.cmd 0) r = none := by
  decide +kernel

theorem wit_register_operations : ∀ o ∈ [ROp.add, .sub, .and, .or, .xor, .andn, .shl, .shrz, .shrs, .seteq, .setne, .setlt, .setge,
    .setltu, .setgeu], ∀ s ∈ [tSt [encodeInsn (.r o 4 1 2)] tAlu], ∀ t ∈ [s.chip.dev.thr 0], s.chip.dev.runs 0 (.r o 4 1 2) = true ∧
    (gr t 1).res = BitVec.ofNat 3 ((gr t 1).data.toNat % 7) ∧ (gr t 2).res = BitVec.ofNat 3 ((gr t 2).data.toNat % 7) ∧
    (gr t 1).tag = .glazed ∧ (gr t 2).tag = .plain := by decide +kernel

theorem wit_constant_operations : ∀ o ∈ [KOp.addk, .andk, .ork, .xork, .shlk, .shrzk, .shrsk, .ksh, .setltk, .setltuk],
    ∀ s ∈ [tSt [encodeInsn (.k o 4 1 21)] tAlu], s.chip.dev.runs 0 (.k o 4 1 21) = true ∧
    (gr (s.chip.dev.thr 0) 1).res = BitVec.ofNat 3 ((gr (s.chip.dev.thr 0) 1).data.toNat % 7) ∧ (gr (s.chip.dev.thr 0) 1).tag = .glazed := by decide +kernel

theorem wit_multiply_divide : ∀ o ∈ [ROp.mul, .mulx, .divr], ∀ r ∈ [(2 : BitVec 5), 0], ∀ s ∈ [tSt [encodeInsn (.r o 4 3 r)] tAlu], ∀ t ∈ [s.chip.dev.thr 0],
    s.chip.dev.runs 0 (.r o 4 3 r) = true ∧ (gr t 3).res = BitVec.ofNat 3 ((gr t 3).data.toNat % 7) ∧
    (gr t r).res = BitVec.ofNat 3 ((gr t r).data.toNat % 7) ∧ (gr t 3).tag = .plain ∧ (gr t r).tag = .plain := by decide +kernel

theorem wit_loads : ∀ w ∈ [(Width.w8, 8), (.w4, 4), (.w2, 2), (.w1, 1)], 
    ∀ s ∈ [tSt [encodeInsn (.load w.1 4 1 7)] tMem], ∀ t ∈ [s.chip.dev.thr 0], s.chip.dev.runs 0 (.load w.1 4 1 7) = true ∧ t.cmd = some 0 ∧
    (gr t 1).res = BitVec.ofNat 3 ((gr t 1).data.toNat % 7) ∧ (gr t 1).tag = .plain ∧
    ((gr t 1).data + (7 : BitVec 16).signExtend 64).toNat / w.2 * w.2 < 0x4000 ∧
    (sliceWord t 2).res = BitVec.ofNat 3 ((sliceWord t 2).data.toNat % 7) := by decide +kernel
theorem wit_load_window_and_thread_id : ∀ r ∈ [(3 : BitVec 5), 4], ∀ s ∈ [tSt [encodeInsn (.load .w8 5 r 0)] tMem], ∀ t ∈ [s.chip.dev.thr 0],
    s.chip.dev.runs 0 (.load .w8 5 r 0) = true ∧ (gr t r).res = BitVec.ofNat 3 ((gr t r).data.toNat % 7) ∧ (gr t r).tag = .plain ∧
    (windowWord (s.chip.dev.cmd 0) t 0xC0).res = residue (windowWord (s.chip.dev.cmd 0) t 0xC0).data ∧
    (threadId 0 (s.chip.dev.cmd 0)).res = residue (threadId 0 (s.chip.dev.cmd 0)).data := by decide +kernel

theorem wit_stores : ∀ w ∈ [(Width.w8, 8), (.w4, 4), (.w2, 2), (.w1, 1)], ∀ s ∈ [tSt [encodeInsn (.store w.1 2 1 0)] tMem],
    ∀ t ∈ [s.chip.dev.thr 0], s.chip.dev.runs 0 (.store w.1 2 1 0) = true ∧ resOk (gr t 1) = true ∧ (gr t 1).tag = .plain ∧
    resOk (gr t 2) = true ∧ (gr t 2).tag = .glazed ∧ resOk (sliceWord t 1) = true ∧ (sliceWord t 1).tag = .glazed ∧
    ((gr t 1).data + (0 : BitVec 16).signExtend 64).toNat / w.2 * w.2 / 8 = 1 := by decide +kernel
theorem wit_stores_to_result : ∀ w ∈ [(Width.w8, 8), (.w4, 4), (.w2, 2), (.w1, 1)], ∀ s ∈ [tSt [encodeInsn (.store w.1 1 3 15)] tMem],
    ∀ t ∈ [s.chip.dev.thr 0], s.chip.dev.runs 0 (.store w.1 1 3 15) = true ∧ resOk (gr t 1) = true ∧ (gr t 1).tag = .plain ∧
    resOk (gr t 3) = true ∧ (gr t 3).tag = .plain ∧ t.rel = false ∧
    0x100C0 ≤ ((gr t 3).data + (15 : BitVec 16).signExtend 64).toNat / w.2 * w.2 ∧
    ((gr t 3).data + (15 : BitVec 16).signExtend 64).toNat / w.2 * w.2 < 0x100D0 := by decide +kernel

theorem wit_branches : ∀ i ∈ [Insn.br .eq 1 1 (-1), .br .eq 1 3 4, .br .ne 1 1 2, .br .ne 1 3 4, .br .lt 1 3 4, .br .lt 3 1 4, .br .ge 1 3 4,
    .br .ge 3 1 4, .br .ltu 1 3 4, .br .ltu 3 1 4, .br .geu 1 3 4, .br .geu 3 1 4, .br .always 0 0 4],
    ∀ s ∈ [tSt [encodeInsn i] tMem], ∀ t ∈ [s.chip.dev.thr 0], s.chip.dev.runs 0 i = true ∧ resOk (gr t 0) = true ∧ (gr t 0).tag = .plain ∧
    resOk (gr t 1) = true ∧ (gr t 1).tag = .plain ∧ resOk (gr t 3) = true ∧ (gr t 3).tag = .plain ∧
    (gr t 1).data.toInt < (gr t 3).data.toInt ∧ (gr t 1).data < (gr t 3).data := by decide +kernel
theorem wit_jumps_and_tags : ∀ i ∈ [Insn.jump 5 8, .jump 0 (-8), .jmpr 5 1, .tag .mov 5 2, .tag .glz 5 2, .tag .hmake 5 1],
    ∀ s ∈ [tSt [encodeInsn i] tMem], ∀ t ∈ [s.chip.dev.thr 0], s.chip.dev.runs 0 i = true ∧ resOk (gr t 1) = true ∧ (gr t 1).tag = .plain ∧
    resOk (gr t 2) = true ∧ (gr t 2).tag = .glazed := by decide +kernel

/-- A thread whose g1 to g12 serve the Sealed Operand Unit: a PAN, 16, formats 0, 4 and 3, a PIN field (pair g6), lengths, a
decimalisation table, 4 and 16. -/
def tSou : Thr := tRegs [.plain 4000000000000002, .plain 16, .plain 4, .plain 3, .plain 1, .fresh 0x9876BADCFE341204 .glazed, .fresh 7 .glazed, .plain 0xC4,
  .plain 0x4523018967452301, .plain 8, .plain 9]
theorem wit_sou_operands : ∀ i ∈ [Insn.sou .panfield 12 1 2 0, .sou .panfield 12 1 2 4, .sou .panfield 12 1 2 3, .sou .pinchk 12 6 0 8, .sou .pinchk 12 6 3 8,
    .sou .decim 12 6 9 3, .sou .offadd 12 6 7 3, .sou .offsub 12 6 7 3, .sou .cmpeq 12 6 7 9, .sou .maccmp 12 6 6 3, .sou .pinconv 12 6 0 0,
    .sou .pinconv 12 6 3 5, .sou .offpack 12 6 3 10, .sou .zeroise 12 0 0 0, .sou .zeroise 0 10 3 0],
    ∀ s ∈ [tSt [encodeInsn i] tSou], ∀ t ∈ [s.chip.dev.thr 0], s.chip.dev.runs 0 i = true ∧
    (gr t 1).isPlain ∧ (gr t 2).isPlain ∧ (gr t 0).isPlain ∧ (gr t 3).isPlain ∧ (gr t 4).isPlain ∧ (gr t 5).isPlain ∧ (gr t 6).isData ∧
    (gr t 7).isData ∧ (gr t 8).isPlain ∧ (gr t 9).isPlain ∧ (gr t 10).isPlain ∧ (gr t 10).data = 8 ∧ (gr t 3).data = 4 ∧ (gr t 5).data = 1 ∧
    (gr t 1).data.toNat < 10 ^ 16 := by decide +kernel
theorem wit_sou_random : ∀ i ∈ [Insn.sou .pinconv 12 6 0 5, .sou .pinconv 12 6 0 3, .sou .offpack 12 6 3 10],
    ∀ s ∈ [tRngUp (tSt [encodeInsn i] tSou)], s.chip.dev.runs 0 i = true ∧ s.chip.dev.rngFailed = false ∧ s.chip.dev.rngServes 1 = true ∧
    s.chip.dev.rngBlocked = false := by decide +kernel
theorem wit_sou_failed : ∀ i ∈ [Insn.sou .pinconv 12 6 0 5, .sou .pinconv 12 6 0 3, .sou .offpack 12 6 3 10],
    ∀ s ∈ [tRngFail (tSt [encodeInsn i] tSou)], s.chip.dev.runs 0 i = true ∧ s.chip.dev.rngFailed = true := by decide +kernel

/-- A thread with a request word for HOST WRITE of the pair g2 to its output area in g1, an index of counter 64 in g4, tk1 arrived and tk2 sent. -/
def tTok : Thr := { tRegs [.plain 0x6088000000000010, .plain 5, .plain 6, .plain 0, .plain 64, .plain 0x10000] with
  toks := [(1, .arrived ⟨0, .plain 1, .plain 2⟩), (2, .sent ⟨0, 0, .plain 0, .plain 0, .plain 0, .plain 0, 0, 0, 0⟩)], commits := [3] }
/-- The state in which thread 0 runs `i`, its partition owning counters 64 to 71 and its command an output area of 64 octets. -/
def tTokSt (i : Insn) (t : Thr) : State := (tSt [encodeInsn i] t).onDev fun d =>
  ((d.setCmd 0 { tCmd with desc := BitVec.ofNat 512 (64 * 2 ^ 288) }).wr (Fld.NVS_PART_COUNTERS_BASE 0) 64).wr (Fld.NVS_PART_COUNTERS_COUNT 0) 8

theorem wit_ecall : ∀ s ∈ [tTokSt (.ecall 3 1 0 2 4) tTok], ∀ t ∈ [s.chip.dev.thr 0], ∀ r ∈ [sentReq t (s.chip.dev.cmd 0) 0 1 2 4],
    s.chip.dev.runs 0 (.ecall 3 1 0 2 4) = true ∧ t.cmd = some 0 ∧ (tok t 3).pending = false ∧ ecallCauses t (s.chip.dev.cmd 0) 0 1 2 4 = [] ∧
    s.chip.dev.tmp.lock = false ∧ s.chip.dev.engineHeld r.eng = false ∧ s.chip.dev.queueFull r = false ∧ r.assigned = true ∧ r.dstk = 2 := by decide +kernel
theorem wit_ecall_unassigned_and_locked : ∀ s ∈ [tTokSt (.ecall 3 4 0 0 0) tTok], ∀ s' ∈ [s.onDev fun d => { d with tmp := { d.tmp with lock := true } }],
    ∀ t ∈ [s.chip.dev.thr 0], ∀ r ∈ [sentReq t (s.chip.dev.cmd 0) 0 4 0 0], s.chip.dev.runs 0 (.ecall 3 4 0 0 0) = true ∧
    s'.chip.dev.runs 0 (.ecall 3 4 0 0 0) = true ∧ (tok t 3).pending = false ∧ ecallCauses t (s.chip.dev.cmd 0) 0 4 0 0 = [] ∧
    s.chip.dev.tmp.lock = false ∧ s'.chip.dev.tmp.lock = true ∧ s.chip.dev.engineHeld r.eng = false ∧ s.chip.dev.queueFull r = false ∧ r.assigned = false := by decide +kernel
theorem wit_twait_rand_csync_done : ∀ i ∈ [Insn.twait 3 6, .twait 1 6, .twait 2 6, .twall, .rand 6, .csync, .done],
    ∀ s ∈ [tTokSt i tTok], ∀ s' ∈ [tTokSt i { Thr.reset with rel := true }], ∀ f ∈ [tRngFail (tTokSt i tTok)], s.chip.dev.runs 0 i = true ∧
    s'.chip.dev.runs 0 i = true ∧ f.chip.dev.runs 0 i = true ∧ tok (s.chip.dev.thr 0) 3 = .free ∧ tok (s.chip.dev.thr 0) 1 = .arrived ⟨0, .plain 1, .plain 2⟩ ∧
    (tok (s.chip.dev.thr 0) 2).pending = true ∧ noPending (s'.chip.dev.thr 0) = true ∧ s.chip.dev.rngFailed = false ∧ f.chip.dev.rngFailed = true ∧
    s.chip.dev.tmp.lock = false ∧ s.chip.dev.blockHeld 3 = false ∧ (s'.chip.dev.thr 0).rel = true := by decide +kernel
theorem wit_cinc : ∀ i ∈ [Insn.cinc 3 5, .cinc 3 2, .cinc 3 6], ∀ s ∈ [tTokSt i tTok], ∀ t ∈ [s.chip.dev.thr 0],
    ∀ m ∈ [s.onDev fun d => { d with nvs := { d.nvs with mirror := [(64, 2 ^ 48 - 1)] } }], s.chip.dev.runs 0 i = true ∧ m.chip.dev.runs 0 i = true ∧
    (tok t 3).pending = false ∧ (gr t 5).isPlain ∧ (gr t 2).isPlain ∧ (gr t 6).isPlain ∧ s.chip.dev.tmp.lock = false ∧
    s.chip.dev.ownsCounter (s.chip.dev.cmd 0).part 64 = true ∧ s.chip.dev.ownsCounter (s.chip.dev.cmd 0).part 5 = false ∧
    s.chip.dev.ctrDamaged 64 = false ∧ m.chip.dev.ctrDamaged 64 = false ∧ s.chip.dev.ctrValue 64 + s.chip.dev.ctrIssued 64 + 1 < 2 ^ 48 ∧
    2 ^ 48 ≤ m.chip.dev.ctrValue 64 + m.chip.dev.ctrIssued 64 + 1 ∧ 65536 ≤ (gr t 6).data.toNat := by decide +kernel
theorem wit_release_instr : ∀ t ∈ [tTok, tRegs [.plain 0]], ∀ s ∈ [tTokSt (.release 1) t], s.chip.dev.runs 0 (.release 1) = true ∧
    (gr (s.chip.dev.thr 0) 1).isPlain ∧ (s.chip.dev.thr 0).rel = false ∧ noPending (s.chip.dev.thr 0) = decide (t.toks = []) := by decide +kernel

/-- The state of the tests with thread 0 being `t`, its command staged, and tile 0 in self-test. -/
def tEv (t : Thr) : State := (tSt [] t).onDev fun d => d.wr (Fld.TILE_EPOCH_STATE 0) 1
theorem wit_engine_result : ∀ t ∈ [{ Thr.reset with toks := [(2, .done ⟨0, .plain 1, .plain 2⟩ 0 .pair), (3, .done ⟨0x0204, .plain 0, .plain 0⟩ 0 .pair)] }], ∀ s ∈ [tEv t],
    ∀ s' ∈ [tEv { t with wait := .token 2 6 }], (s.chip.dev.thr 0).cmd = some 0 ∧ s.chip.dev.rd (Fld.TILE_EPOCH_EPOCH (0 / 16)) = 0 ∧
    tok (s.chip.dev.thr 0) 2 = .done ⟨0, .plain 1, .plain 2⟩ 0 .pair ∧ tok (s.chip.dev.thr 0) 3 = .done ⟨0x0204, .plain 0, .plain 0⟩ 0 .pair ∧
    (s.chip.dev.thr 0).wait = .none ∧ (s'.chip.dev.thr 0).wait = .token 2 6 ∧ (s.chip.dev.thr 0).rel = false := by decide +kernel
theorem wit_rand_result : ∀ s ∈ [(tRngUp (tEv { Thr.reset with wait := .rand 4 })).onDev fun d => d.wr Fld.RNG_HEALTH_STATE 1],
    (s.chip.dev.thr 0).wait = .rand 4 ∧ s.chip.dev.rd Fld.RNG_HEALTH_STATE = 1 ∧ s.chip.dev.rngServes 1 = true ∧ s.chip.dev.rngBlocked = false := by
  decide +kernel
theorem wit_tile_events : ∀ s ∈ [tEv { Thr.reset with zeroising := true, limit := 5, wait := .icache }], ∀ t ∈ [s.chip.dev.thr 0], t.zeroising = true ∧
    toksFree t = true ∧ t.cmd = some 0 ∧ t.limit ≠ 0 ∧ t.rel = false ∧ s.chip.dev.fillMeets 0 = true ∧ s.chip.dev.rd (Fld.TILE_EPOCH_STATE 0) = 1 := by decide +kernel

theorem wit_fetch_outside_code : ∀ r ∈ [true, false], ∀ s ∈ [tSt [0] { Thr.reset with pc := 4, rel := r }], ∀ t ∈ [s.chip.dev.thr 0], t.cmd = some 0 ∧
    s.chip.dev.unheld 0 = true ∧ 4 * (s.chip.dev.codeOf 0).length ≤ t.pc.toNat ∧ t.rel = r := by decide +kernel

theorem wit_cipher_enter : ∀ x ∈ [((1 : Nat), (0 : Nat)), (2, 1), (3, 0)], ∀ r ∈ [tReqOf (2 ^ 60 + x.1 * 2 ^ 54 + 1)],
    ∀ d ∈ [tEng (.sent r) [tAttr 3 x.2 0]], d.sentTo 1 x.1 0 1 = some r ∧ d.lockStatus = none ∧ d.noCore = false ∧ d.ciph.queue.length < 4096 ∧
    (d.keyFetch 0 r.part r.key 0).2 = .ok ⟨1, 1, [], tAttr 3 x.2 0⟩ ∧ cipherAttrOk x.1 (tAttr 3 x.2 0) = true ∧ usesLeft (tAttr 3 x.2 0) = true ∧
    r.cipherFields (d.thr 0) (d.thrCmd 0) 16 = none := by decide +kernel
/-- The nonce engine: a NONCE request, an active lease 0 with its next value 99 and the mark at `m`. -/
def tNonce (m : Nat) : Dev :=
  ((((tEng (.sent (tReqOf (2 ^ 60 + 4 * 2 ^ 54 + 1))) []).wr Fld.CIPH_NONCE_ID_VALID 1).wr Fld.CIPH_LEASE_ACTIVE_VALID 1).wr Fld.CIPH_JOURNAL_MARK_MARK m).wr
    Fld.CIPH_NONCE_NEXT_NEXT 99
theorem wit_nonce : ∀ m ∈ [(99 : Nat), 100], ∀ d ∈ [tNonce m], ∀ r ∈ [tReqOf (2 ^ 60 + 4 * 2 ^ 54 + 1)], d.sentTo 1 4 0 1 = some r ∧
    d.ciph.waitNonce.contains 1 = false ∧ d.lockStatus = none ∧ r.formOk [0] [0] = true ∧ r.count = 1 ∧ d.valuesLeft ≠ 0 ∧
    d.bit Fld.CIPH_NONCE_ID_VALID = true ∧ (d.nonceNext < d.mark ↔ m = 100) := by decide +kernel
theorem wit_nonce_exhausted : ∀ d ∈ [tEng (.sent (tReqOf (2 ^ 60 + 4 * 2 ^ 54 + 1))) []],
    d.sentTo 1 4 0 1 = some (tReqOf (2 ^ 60 + 4 * 2 ^ 54 + 1)) ∧ d.valuesLeft = 0 := by decide +kernel
theorem wit_window_durable : ∀ t ∈ [tNonce 100], ∀ d ∈ [({ t with ciph := { t.ciph with commitOp := some 3, commitMark := 4196 }, nvs := { t.nvs with nextOp := 4 } } : Dev)],
    d.nvs.failed.contains 3 = false ∧ d.nvsDurable 3 = true ∧ d.activeValid = true ∧ d.ciph.commitMark = d.mark + 4096 := by decide +kernel
theorem wit_need_lease : Dev.reset.valuesLeft = 0 ∧ Dev.reset.nextValid = false ∧ Dev.reset.ciph.commitOp = none := by decide +kernel
/-- Lease 5's grant record, newest of its kind. -/
def tGrant : Rec := ⟨0, 2, 5, grantPayload 5 7 0 900, 1, 0, true, false⟩
theorem wit_lease_take : ∀ t ∈ [tNonce 100], ∀ d ∈ [({ t with nvs := { t.nvs with recs := [tGrant] } } : Dev)], d.grantOf 5 = some tGrant ∧ grantLease tGrant = 5 ∧
    d.nextValid = false ∧ d.ciph.burned.contains 5 = false ∧ grantExpiry tGrant ≠ 1 ∧ d.activeLease < 5 ∧ d.mark ≤ leaseFirst 5 ∧ d.valuesLeft ≠ 0 ∧
    (((d.wr Fld.CIPH_LEASE_NEXT_NUMBER 5).wr Fld.CIPH_LEASE_NEXT_VALID 1).eventAt Fld.CIPH_LEASE_EVSEQ_SEQ).valuesLeft ≠ 0 := by decide +kernel
theorem wit_lease_renewed : ∀ t ∈ [(tNonce 100).wr Fld.CIPH_LEASE_ACTIVE_NUMBER 5], ∀ d ∈ [({ t with nvs := { t.nvs with recs := [tGrant] } } : Dev)],
    d.grantOf 5 = some tGrant ∧ d.activeValid = true ∧ d.activeLease = 5 := by decide +kernel
theorem wit_lease_expiry : ∀ d ∈ [(tNonce 100).wr Fld.CIPH_LEASE_EXPIRY_SECONDS 900], d.activeValid = true ∧ d.nextValid = false ∧
    expired true 900 (d.rd Fld.CIPH_LEASE_EXPIRY_SECONDS) = true ∧ expired true 899 (d.rd Fld.CIPH_LEASE_EXPIRY_SECONDS) = false := by decide +kernel
theorem wit_warden_lease : ∀ w ∈ [(⟨0, 3, 0, windowPayload noLease 0 true, 1, 0, true, false⟩ : Rec)],
    ∀ d ∈ [({ tAudit Dev.reset with nvs := { Nvs.reset with recs := [w] } } : Dev)], d.newestRec 0 3 0 = some w ∧ leAt w.payload 16 8 % 2 = 1 ∧
    d.ciph.answered < w.seq ∧ d.nextValid = false ∧ d.rd Fld.MTR_EPOCH_MEMBER_ID = 0 ∧ d.enrolled = false ∧ d.nvsRefuses (.increment 1) = false ∧ d.nvs.frozen = false ∧
    d.ctrDamaged 1 = false := by decide +kernel
/-- A register-form request of operation `op`, queued for a core. -/
theorem wit_core_dispatch : ∀ op ∈ [(1 : Nat), 3], ∀ r ∈ [tReqOf (2 ^ 60 + op * 2 ^ 54 + 1)], ∀ t ∈ [tEng (.queued r [] (tAttr 3 0 0) 0) []],
    ∀ d ∈ [({ t with ciph := { t.ciph with queue := [(1, 0)] } } : Dev)], d.coreAvailable 47 = true ∧
    d.pickEntry (tget (fun _ => none) d.ciph.cache 47) = some 1 ∧ d.queuedTok 0 1 = some (r, [], tAttr 3 0 0) ∧ (d.thr 0).cmd.isNone = false ∧
    r.areaReads 8 = [] ∧ d.sliceBad 0 r (blockLen (aAlg (tAttr 3 0 0))) = false ∧ r.eng = 1 ∧ r.op = op := by decide +kernel
theorem wit_core_selftest : ((Dev.reset.setBit Fld.CIPH_SELFTEST_SELFTEST 47 true).rd Fld.CIPH_SELFTEST_SELFTEST).testBit 47 = true := by decide +kernel

/-- The hash requests in turn: FIRST and LAST over no octet, the slice as source; and SQUEEZE of a final SHAKE128 state at octet 256. -/
def tHash (op : Nat) : Req := tReqOf (2 * 2 ^ 60 + op * 2 ^ 54 + 2 ^ 52 + 2 ^ 50 + 3 * 2 ^ 40)
theorem wit_hash_enter : ∀ op ∈ [(1 : Nat), 2, 3, 4, 5, 6, 7, 8], ∀ d ∈ [tEng (.sent { tHash op with rx := .plain 0x100 }) []],
    ∀ r ∈ [{ tHash op with rx := .plain 0x100 }], d.sentTo 2 op 0 1 = some r ∧ hashSqueeze r = false ∧ d.lockStatus = none ∧
    d.hpkServes r = true ∧ d.queueFull r = false ∧ r.hashRefusal (d.thr 0) = none := by decide +kernel
theorem wit_hash_squeeze : ∀ r ∈ [tReqOf (2 * 2 ^ 60 + 7 * 2 ^ 54 + 2 ^ 50 + 4 * 2 ^ 40)], ∀ t ∈ [tEng (.sent r) []],
    ∀ d ∈ [t.modThr 0 (fun x => { x with sl := [(0, .plain 0x307)] })], d.sentTok 0 1 = some r ∧ r.eng = 2 ∧ r.op = 7 ∧ d.recordWaits 0 r = false ∧
    hashSqueeze r = true ∧ d.lockStatus = none ∧ d.hpkServes r = true ∧ d.queueFull r = false ∧ r.hashRefusal (d.thr 0) = none := by decide +kernel
theorem wit_hash_dispatch : ∀ u ∈ [(15 : Nat), 19], ∀ r ∈ [tHash 1], ∀ t ∈ [tEng (.queued r [] 0 0) []],
    ∀ d ∈ [({ t with hpk := { t.hpk with sha2 := [1], sha3 := [1] } } : Dev)], d.unitAvailable u = true ∧ d.queuedTok 0 1 = some (r, [], 0) ∧
    (d.thr 0).cmd.isNone = false ∧ r.srck ≠ 2 ∧ d.sliceBad 0 r 1 = false ∧ badWord (sliceWords (d.thr 0) r.srcOff r.count ++ []) = none := by decide +kernel
theorem wit_hash_from_area : ∀ r ∈ [tReqOf (2 * 2 ^ 60 + 2 ^ 54 + 2 * 2 ^ 52 + 2 ^ 50 + 3 * 2 ^ 40 + 8)], ∀ d ∈ [tEng (.queued r [] 0 0) []], r.srck = 2 ∧
    (List.replicate 64 (0 : Byte)).length = dInLen (d.thrCmd 0).desc ∧ d.canSend 0 = true := by decide +kernel
theorem wit_hpk_selftest : ((Dev.reset.setBit Fld.HPK_SELFTEST_SELFTEST 31 true).rd Fld.HPK_SELFTEST_SELFTEST).testBit 31 = true := by decide +kernel

/-- A PKL request of thread 0: the key in record 0, the operand block at slice octet 0, results to octet 8,192. -/
def tPkl (op md : Nat) (w1 : Word) : Req :=
  { tReqOf (3 * 2 ^ 60 + op * 2 ^ 54 + 2 ^ 52 + 2 ^ 50 + md * 2 ^ 40 + 32 + fieldsLen (pklFields op md (pklHdr { Thr.reset with sl := [(1, .plain w1)] } 0))) with
    key := BitVec.ofNat 64 (2 ^ 61), rx := .plain (BitVec.ofNat 64 (8192 * 2 ^ 32)) }
/-- Its device: TARGET names record 3 where the operation has one. -/
def tPklDev (op : Nat) (w1 attr : Word) (v : Tok) : Dev :=
  let d := ((tXks (tEng v [])).modThr 0 fun t =>
    { t with sl := (if pklTargeted op then [(0, .fresh (BitVec.ofNat 64 (2 ^ 61 + 3)) .handle)] else []) ++ [(1, .plain w1)] })
  d.setXrec 0 ⟨[], attr, 0, 0⟩
theorem wit_pkl_enter : ∀ x ∈ [((0x01 : Nat), (8 : Nat), (0 : Word), tAttr 3 2 0), (0x02, 8, 0, 0), (0x03, 1, 0x100, tAttr 8 0 0), (0x04, 1, 0x100, 0),
      (0x05, 1, 0, 0), (0x06, 1, 0, tAttr 8 3 0), (0x07, 0, 0, tAttr 0x0B 0 0), (0x08, 0, 0, 0), (0x09, 0, 0, tAttr 0x0C 3 0), (0x0A, 9, 0, 0), (0x0B, 9, 0, 0),
      (0x0C, 9, 0, tAttr 0x10 1 0), (0x0D, 4, 0, tAttr 0x14 0 0), (0x0E, 4, 0, 0), (0x10, 0, 2 ^ 56, 0), (0x11, 1, 0, 0), (0x12, 2, 0, 0)],
    ∀ r ∈ [tPkl x.1 x.2.1 x.2.2.1], ∀ d ∈ [tPklDev x.1 x.2.2.1 x.2.2.2 (.sent r)], d.sentTo 3 x.1 0 1 = some r ∧ d.lockStatus = none ∧ d.hpkServes r = true ∧
    d.queueFull r = false ∧ d.sliceBad 0 r 1 = false ∧ r.pklRefusal (d.thr 0) (d.thrCmd 0) = none := by decide +kernel
theorem wit_pkl_key : ∀ x ∈ [((0x01 : Nat), (8 : Nat), (0 : Word), tAttr 3 2 0), (0x03, 1, 0x100, tAttr 8 0 0), (0x06, 1, 0, tAttr 8 3 0), (0x07, 0, 0, tAttr 0x0B 0 0),
      (0x09, 0, 0, tAttr 0x0C 3 0), (0x0C, 9, 0, tAttr 0x10 1 0), (0x0D, 4, 0, tAttr 0x14 0 0)], ∀ r ∈ [tPkl x.1 x.2.1 x.2.2.1],
    ∀ d ∈ [tPklDev x.1 x.2.2.1 x.2.2.2 (.sent r)], (d.pklKey 0 r 0).2 = .ok ⟨2, 0, [], x.2.2.2⟩ := by decide +kernel
theorem wit_pkl_target : ∀ x ∈ [((0x05 : Nat), (1 : Nat)), (0x06, 1), (0x09, 0), (0x0A, 9), (0x0B, 9), (0x0C, 9)], ∀ r ∈ [tPkl x.1 x.2 0],
    ∀ d ∈ [tPklDev x.1 0 0 (.sent r)], pklTargeted x.1 = true ∧ (d.targetCheck r.part (pklHdr (d.thr 0) r.srcOff).target.data 0).2 = none ∧
    badWord ((sliceWords (d.thr 0) r.srcOff r.count).drop 1) = none := by decide +kernel
theorem wit_pkl_dispatch : ∀ x ∈ [((20 : Nat), (0x02 : Nat), (8 : Nat)), (27, 0x08, 0), (28, 0x0B, 9), (31, 0x12, 2)], ∀ r ∈ [tPkl x.2.1 x.2.2 0],
    ∀ t ∈ [(tPklDev x.2.1 0 0 (.queued r [] 0 0)).wr Fld.HPK_STATUS_PKL_GATED 0], ∀ d ∈ [({ t with hpk := { t.hpk with lane := [1], ntt := [1] } } : Dev)], d.unitAvailable x.1 = true ∧
    d.bit Fld.HPK_STATUS_PKL_GATED = false ∧ d.queuedTok 0 1 = some (r, [], 0) ∧ (d.thr 0).cmd.isNone = false ∧ d.xks.waiting = false ∧
    d.sliceBad 0 r 1 = false ∧ r.pklReread (d.thr 0) (d.thrCmd 0) = none ∧
    (pklHdr (d.thr 0) r.srcOff).msgSrc = 0 ∧ d.rngFailed = false ∧ d.fillWaits = false ∧ r.pklFaults (d.thr 0) [] 0 = 0 ∧
    r.pklFaults (d.thr 0) [] 2 = 2 := by decide +kernel
/-- An operation whose message lies in the input area. -/
theorem wit_pkl_area : ∀ r ∈ [tPkl 0x08 0 (2 ^ 32)], ∀ d ∈ [tPklDev 0x08 (2 ^ 32) 0 (.queued r [] 0 0)], (pklHdr (d.thr 0) r.srcOff).msgSrc = 1 ∧
    pklMessage r.op = true ∧ (List.replicate 64 (0 : Byte)).length = dInLen (d.thrCmd 0).desc ∧ d.canSend r.part = true := by decide +kernel
theorem wit_pkl_gate : ∀ d ∈ [(Dev.reset.wr Fld.HPK_CFG_GATE_IDLE 5).boundary Fld.HPK_CFG_GATE_IDLE.reg], d.hpk.lane = [] ∧ d.hpk.ntt = [] ∧
    d.eff Fld.HPK_CFG_GATE_IDLE ≠ 0 := by decide +kernel

/-- Requests to the vault: DERIVE_VALUE (method 1), DERIVE_HANDLE (method 10, child for encryption) and INFO. -/
theorem wit_derive : ∀ x ∈ [((1 : Nat), (1 : Nat)), (2, 10)], ∀ r ∈ [tReqOf (4 * 2 ^ 60 + x.1 * 2 ^ 54 + x.2 * 2 ^ 40 + 16)],
    ∀ d ∈ [tEng (.sent r) [tAttr 3 3 0]], d.sentTo 4 x.1 0 1 = some r ∧ d.lockStatus = none ∧
    (d.keyFetch 0 r.part r.key 0).2 = .ok ⟨1, 1, [], tAttr 3 3 0⟩ ∧ aUsage (tAttr 3 3 0) = 3 ∧ usesLeft (tAttr 3 3 0) = true ∧
    d.ciph.queue.length < 4096 ∧ d.blockHeld 1 = false ∧ d.noCore = false ∧
    (d.keyFetch 0 r.part r.key 0).1.scopedFull 0 = false ∧ r.deriveRefusal 3 false (x.1 == 1) false = none := by decide +kernel
theorem wit_derive_step : ∀ op ∈ [(1 : Nat), 2], ∀ r ∈ [tReqOf (4 * 2 ^ 60 + op * 2 ^ 54 + 10 * 2 ^ 40 + 16)],
    ∀ t ∈ [tEng (.queued r [] (tAttr 3 3 0) 0) []],
    ∀ d ∈ [({ t with ciph := { t.ciph with queue := [(1, 0)] } } : Dev)], d.coreAvailable 47 = true ∧
    d.pickEntry (tget (fun _ => none) d.ciph.cache 47) = some 1 ∧ d.queuedTok 0 1 = some (r, [], tAttr 3 3 0) ∧ (d.thr 0).cmd.isNone = false ∧ r.eng = 4 ∧
    r.areaReads 8 = [] ∧ r.areaReads (blockLen (aAlg (tAttr 3 3 0))) = [] ∧ d.sliceBad 0 r (blockLen (aAlg (tAttr 3 3 0))) = false ∧
    r.op = op ∧ d.scopedFree 0 = some 0x1C000 := by decide +kernel
theorem wit_info : ∀ r ∈ [tReqOf (4 * 2 ^ 60 + 3 * 2 ^ 54)], ∀ d ∈ [tEng (.sent r) [tAttr 3 3 0]], d.sentTo 4 3 0 1 = some r ∧
    (d.keyFetch 0 r.part r.key 0).2 = .ok ⟨1, 1, [], tAttr 3 3 0⟩ ∧ r.formOk [0] [0] = true ∧ r.mode = 0 ∧ r.count = 0 := by decide +kernel
/-- A key request of partition 0 on slot 5 with attribute word `a`. -/
def tKeyReq (code : Nat) (a : Nat) : WReq :=
  ⟨0, 0, leBytes 2 code ++ [0, 0] ++ leBytes 2 32 ++ List.replicate 26 0 ++ leBytes 8 (2 ^ 60 + 5) ++ leBytes 8 a ++ List.replicate 16 0, 0⟩
theorem wit_key_generate : ∀ r ∈ [tKeyReq 0x301 3], ∀ c ∈ [tWdnOf r], c.Serves 0x301 false r ∧ c.dev.keyReqCheck r true true = none ∧
    loadAttrOk 5 (ownAttr 0 3) = true ∧ c.dev.rngFailed = false ∧ c.dev.rngServes 0 = true ∧ c.dev.canAudit = true := by decide +kernel
theorem wit_key_delete : ∀ r ∈ [tKeyReq 0x302 0], ∀ c ∈ [tWdnOf r], c.Serves 0x302 false r ∧ c.dev.keyReqCheck r true false = none ∧
    aPresent (c.dev.slot 5).attr = true := by decide +kernel
theorem wit_key_set_attr : ∀ r ∈ [tKeyReq 0x303 0x1003], ∀ c ∈ [tWdnOf r], c.Serves 0x303 false r ∧ c.dev.keyReqCheck r true true = none ∧
    loadAttrOk 5 (ownAttr 0 0x1003) = true ∧ setAttrOk 5 (c.dev.slot 5).attr (ownAttr 0 0x1003) = true := by decide +kernel
theorem wit_key_query : ∀ r ∈ [tKeyReq 0x304 0], ∀ c ∈ [tWdnOf r], c.Serves 0x304 true r ∧ c.dev.keyReqCheck r false false = none := by decide +kernel
/-- A change waiting: volatile, persistent, of a bond manager, of a bond transaction. -/
def tChange (persist : Bool) (origin : Nat) : Dev := { Dev.reset with vlt := { Vlt.reset with waiting := [mkChange 5 0 [] 0 true persist origin] } }
theorem wit_vault_staging : ∀ p ∈ [true, false], ∀ d ∈ [tChange p 1], d.vlt.waiting = [mkChange 5 0 [] 0 true p 1] ∧ d.vstageUsed 4095 = false ∧
    d.bondHolds (mkChange 5 0 [] 0 true p 1) = false ∧ d.vlt.roots.kek = false := by decide +kernel
theorem wit_vault_staging_bond : ∀ d ∈ [tChange false 2], d.bondHolds (mkChange 5 0 [] 0 true false 2) = true := by decide +kernel
theorem wit_vault_staging_manager : ∀ d ∈ [(Dev.reset.wr Fld.MTR_STATUS_ROLE 1)], d.bondHolds (mkChange 5 0 [] 0 true false 1) = true := by decide +kernel
theorem wit_vault_commit : ∀ d ∈ [Dev.reset.setVstage 4095 (mkChange 5 0 [] 0 true false 1)], d.vstageUsed 4095 = true ∧
    d.changeReady (d.vstage 4095) = true := by decide +kernel
theorem wit_retiring : ∀ d ∈ [Dev.reset.setVstage 4095 { mkChange 5 0 [] 0 true false 1 with phase := .retiring }],
    (d.vstage 4095).phase = .retiring ∧ d.slotInUse 5 0 9 = false := by decide +kernel
theorem wit_faulted_slot : ∀ d ∈ [({ Dev.reset with vlt := { Vlt.reset with faulted := [(5, true)] } } : Dev)], tget (fun _ => false) d.vlt.faulted 5 = true ∧
    aPersistent (d.slot 5).attr = false := by decide +kernel
theorem wit_rederive : ∀ d ∈ [({ Dev.reset with tmp := { Tmp.reset with erased := true } } : Dev)], d.tmp.erased = true ∧ d.vlt.roots.storage = false := by
  decide +kernel
theorem wit_vault_derivation : ∀ d ∈ [Dev.reset.wr Fld.PLT_RESET_STATUS_STEP 6], d.atStep 6 = true ∧ d.bit Fld.VLT_STATUS_DERIVED = false := by decide +kernel

theorem wit_lookup : ∀ r ∈ [{ tReqOf (5 * 2 ^ 60 + 2 ^ 54) with rb := .plain 3 }], ∀ t ∈ [tXks (tEng (.sent r) [])],
    ∀ d ∈ [t.setXrec 3 ⟨[], tAttr 3 0 0, 0, 0⟩], d.sentTo 5 1 0 1 = some r ∧ d.lockStatus = none ∧ r.formOk [0] [0] = true ∧ r.mode = 0 ∧ r.count = 0 ∧
    getF r.rb.data 27 5 = 0 ∧ getF r.rb.data 48 16 = 0 ∧ d.bit Fld.XKS_STATUS_NO_KEY = false ∧
    (d.keyFetch 0 0 (mkHandle 2 3 0) 0).2 = .ok ⟨2, 3, [], tAttr 3 0 0⟩ := by decide +kernel
theorem wit_host_read : ∀ r ∈ [tReqOf (6 * 2 ^ 60 + 2 ^ 54 + 2 * 2 ^ 52 + 2 ^ 50 + 5)], ∀ d ∈ [tEng (.sent r) []], d.sentTo 6 1 0 1 = some r ∧
    r.hostRefusal = none ∧ (List.replicate 5 (0 : Byte)).length = r.count ∧ d.canSend r.part = true := by decide +kernel
theorem wit_host_write : ∀ k ∈ [(0 : Nat), 1], ∀ r ∈ [tReqOf (6 * 2 ^ 60 + 2 * 2 ^ 54 + k * 2 ^ 52 + 2 * 2 ^ 50 + 16)], ∀ d ∈ [tEng (.sent r) []],
    d.sentTo 6 2 0 1 = some r ∧ r.hostRefusal = none ∧ d.sliceBad 0 r 1 = false ∧ (if r.srck = 0 then [r.rb, r.rb1] else sliceWords (d.thr 0) r.srcOff r.count).all (fun w => w.tag == .plain) = true := by
  decide +kernel
theorem wit_host_fill : ∀ k ∈ [(0 : Nat), 1], ∀ r ∈ [tReqOf (7 * 2 ^ 60 + 2 ^ 54 + 2 * 2 ^ 50 + k * 2 ^ 40 + 8)], ∀ t ∈ [tEng (.sent r) []],
    ∀ d ∈ [{ t.wr Fld.RNG_HEALTH_HOST_READY 1 with rng := { t.rng with hostDone := [1] } }], d.sentTo 7 1 0 1 = some r ∧ r.formOk [0] [2] = true ∧ r.count = 8 ∧
    d.rngFailed = false ∧ d.lockStatus = none ∧ d.rngReady 2 = true ∧ r.mode = k ∧ d.rngServes 2 = true ∧ d.rng.hostDone.contains 1 = true := by decide +kernel
/-- A transfer of operation `op` over record 3, running. -/
def tXfer (op : Nat) : Dev :=
  let d := (((((tXks (tEng .free [tAttr 3 0 0])).wr Fld.XKS_XFER_CTRL_OP op).wr Fld.XKS_XFER_RANGE_FIRST 3).wr Fld.XKS_XFER_COUNT_COUNT 1).wr
    Fld.XKS_XFER_STATUS_BUSY 1).setReg Fld.XKS_XFER_SLOT_HANDLE.reg (BitVec.ofNat 64 (2 ^ 60 + 1))
  { d with vlt := { d.vlt with roots := { d.vlt.roots with partmk := true } } }
theorem wit_transfer : ∀ op ∈ [(1 : Nat), 2, 3, 4], ∀ d ∈ [(tXfer op).setFn 0 { Fn.reset with bme := true }], d.xferRuns op = true ∧ d.canSend 0 = true ∧
    ((d.emit (.memRead 0 0 144)).xferRead 3 0).2 = true ∧ d.vlt.roots.partmk = true ∧ (d.xferRead 3 0).2 = true ∧
    ((d.xferRead 3 0).1.xrec 3).gen = d.rd Fld.XKS_XFER_RANGE_GEN := by decide +kernel
theorem wit_transfer_copy : ∀ d ∈ [tXfer 3], d.copySource 0 (d.reg Fld.XKS_XFER_SLOT_HANDLE.reg) = some ⟨[], tAttr 3 0 0, 0, 0⟩ ∧
    (d.slotRead (d.reg Fld.XKS_XFER_SLOT_HANDLE.reg) 0).2 = none ∧ ((d.slotRead (d.reg Fld.XKS_XFER_SLOT_HANDLE.reg) 0).1.xferRead 3 0).2 = true := by
  decide +kernel
theorem wit_transfer_end : ∀ d ∈ [tXfer 4], d.bit Fld.XKS_XFER_STATUS_BUSY = true ∧
    ({ d with xks := { d.xks with xfer := 1 } } : Dev).rd Fld.XKS_XFER_COUNT_COUNT ≤ 1 := by decide +kernel
theorem wit_dram : (Dev.reset.wr Fld.PLT_CLOCKS_DRAM_LOCK 1).bit Fld.PLT_CLOCKS_DRAM_LOCK = true ∧ Dev.reset.bit Fld.PLT_CLOCKS_DRAM_LOCK = false ∧
    Dev.reset.bit Fld.XKS_STATUS_NO_KEY = false ∧ Dev.reset.bit Fld.XKS_STATUS_ERASED = false ∧ Dev.reset.bit Fld.XKS_STATUS_FAILED = false ∧
    Dev.reset.blockHeld 4 = false := by decide +kernel
theorem wit_dram_training : ∀ d ∈ [Dev.reset.wr Fld.PLT_RESET_STATUS_STEP 9], d.atStep 9 = true ∧ d.held = false := by decide +kernel

/-- An RNG in state `st`, with demands and two conditioned blocks as given. -/
def tRng (st : Nat) (c d h : Bool) : Dev :=
  { (Dev.reset.wr Fld.RNG_HEALTH_STATE st).wr Fld.PLT_RESET_STATUS_STEP 5 with rng := { Rng.reset with needC := c, needD := d, needH := h, blocks := [0, 0], testing := st == 2 } }
theorem wit_rng_tested : (tRng 1 false false false).rngTested = true ∧ (tRng 0 true true true).rngState = 0 ∧ (tRng 0 true true true).kilnRuns = true ∧
    (tRng 2 true true true).rngState = 2 ∧ (tRng 2 true true true).rng.testing = true := by decide +kernel
theorem wit_rng_rerun : ∀ k ∈ [(2 : Nat), 3], ((tRng 1 false false false).wr Fld.RNG_HEALTH_RERUNS k).rd Fld.RNG_HEALTH_RERUNS = k := by decide +kernel
theorem wit_rng_demand : ∀ x ∈ [(true, false, false), (false, true, false), (false, false, true)], ∀ d ∈ [tRng 1 x.1 x.2.1 x.2.2], d.rngState = 1 ∧
    d.rng.blocks.length = 2 ∧ d.rng.needC = x.1 ∧ d.rng.needD = x.2.1 ∧ d.rng.needH = x.2.2 ∧ d.rngReady 0 = false ∧ d.rngReady 1 = false ∧ d.rngReady 2 = false := by
  decide +kernel
theorem wit_rng_ready : ∀ i ∈ [(0 : Nat), 1, 2], ((tRng 1 false false false).wr (instReady i) 1).rngReady i = true := by decide +kernel
/-- 2,048 raw bits that debias to 512; a spent instance. -/
theorem wit_rng_entropy : (debias (xorPairs ((List.range 512).flatMap fun _ => [true, false, false, false]))).length = 512 := by decide +kernel
theorem wit_rng_spent : ∀ i ∈ [(0 : Nat), 1, 2], ∀ r ∈ [({ Rng.reset with calls := [(i, 65536)] } : Rng)], 65536 ≤ tget (fun _ => 0) r.calls i ∧
    r.needC = false ∧ r.needD = false ∧ r.needH = false ∧ r.counted = false := by decide +kernel
/-- The taps of the feedback register: a lone top bit feeds back. -/
theorem test_lfsr_taps : ∀ k ∈ [(245 : Nat), 250, 253, 255], (lfsrStep (BitVec.ofNat 256 (2 ^ k)) false).getLsbD 0 = true := by decide +kernel
theorem test_lfsr_input : lfsrStep 0 true = 1 := by decide +kernel
theorem test_debias : debias (xorPairs [false, false, true, false, true, true, true, true, true, false, false, false]) = [false, true] := by decide +kernel

/-- The four kinds of operation, one at a time, waiting or being programmed. -/
def tOps : List NvOp := [⟨0, 3, .record ⟨0, 6, 0, [1], 0, 0, true, false⟩, 0, 0⟩, ⟨0, 3, .increment 70, 0, 0⟩, ⟨0, 4, .add 4096 3, 0, 0⟩, ⟨0, 4, .raise 4636 9, 0, 0⟩]
theorem wit_nvs_grant : ∀ o ∈ tOps, ∀ t ∈ [tAudit Dev.reset], ∀ d ∈ [({ t with nvs := { t.nvs with waiting := [o], nextOp := 1 } } : Dev)],
    d.nvs.frozen = false ∧ d.nvs.cur = none ∧ d.nvsNext = some o ∧ (o.isRecord || o.isIncrement || o.isAdd || o.isRaise) = true := by decide +kernel
theorem wit_nvs_done : ∀ o ∈ tOps, ∀ d ∈ [({ Dev.reset with nvs := { Nvs.reset with cur := some (o, 1) } } : Dev)], d.nvs.frozen = false ∧ d.nvs.cur = some (o, 1) := by
  decide +kernel
theorem wit_nvs_config : ∃ o : NvOp, ∃ r : Rec, o.kind = .record r ∧ r.region ≠ 0 := ⟨⟨0, 3, .record ⟨2, 7, 0, [1], 0, 0, true, false⟩, 0, 0⟩, _, rfl, by decide⟩
theorem wit_nvs_recovered : ∀ d ∈ [tAudit Dev.reset], d.bit Fld.NVS_STATUS_RECOVERED = true ∧ d.nvs.frozen = false ∧ d.tmp.erasing = false ∧
    d.plt.mainOn = true ∧ d.plt.por = false := by decide +kernel
theorem wit_nvs_recovery : ∀ d ∈ [Dev.reset.wr Fld.PLT_RESET_STATUS_STEP 7], d.atStep 7 = true ∧ d.nvs.frozen = false := by decide +kernel

theorem wit_alarm_armed : ∀ c ∈ [tArmed], c.dev.plt.mainOn = true ∧ ((List.range 9 ++ [9, 16, 17, 19, 20]).all c.armed) = true ∧ c.dev.tmp.batch = [] ∧
    c.dev.tmp.erasing = false ∧ c.bd.locked = false ∧ c.dev.plt.por = false := by decide +kernel
theorem wit_alarm_unarmed : ∀ c ∈ [({ tArmed with dev := { tArmed.dev with tmp := Tmp.reset } } : Chip)], c.dev.plt.mainOn = true ∧
    ([0, 1, 2, 3, 4, 5, 6, 7, 17, 19, 20].all (fun k => !c.armed k)) = true ∧ c.dev.tmp.batch = [] := by decide +kernel
theorem wit_alarm_backup : ({ tArmed.dev.plt with mainOn := false } : Plt).mainOn = false ∧ (8 ≤ 8 ∧ 8 ≤ 16) ∧ (8 ≤ 9 + 7 ∧ 9 + 7 ≤ 16) := by decide +kernel
theorem wit_alarm_pll : tArmed.dev.bit Fld.PLT_CLOCKS_ROOT_LOCK = true ∧ tArmed.dev.tmp.raised = [0x21] := by decide +kernel
theorem wit_panic_write : keyed 0x9400000000000001 [1] = true ∧ keyed 0x9400000000000002 [1] = false ∧ tArmed.dev.pltReached .i3c 0x78 = true ∧
    tArmed.dev.pltReached (.host 0 none) 0x78 = true := by decide +kernel
/-- The two edges of PANIC_N's limits (R310), and the classes of the sources (R304). -/
theorem test_panic_edges : (tArmed.panicPin 20 false true).dev.tmp.batch = [⟨19, 0, 0, 0, false⟩] ∧ (tArmed.panicPin 9 true true).dev.tmp.batch = [] ∧
    (tArmed.panicPin 10 false true).dev.tmp.batch = [] := by decide +kernel
theorem test_alarm_classes : (List.range 22).filter (fun k => tArmed.eraseClass k) = [0, 3, 4, 6, 8, 9, 10, 11, 12, 13, 14, 15, 16, 17, 21] := by decide +kernel

/-- The same with faults of two units, a Lock and an Erase due, a test running and a freeze. -/
def tBusy : Chip := ⟨{ tArmed.dev with tmp := { tArmed.dev.tmp with reports := [5, 7], window := [(5, 0)], lockDue := true, eraseDue := true, bist := some (2, 0),
                                                                     armed := [0, 1, 18], frozen := true, crossed := [⟨0, 1, 0, 0, true⟩], erasing := true } }, tArmed.bd, tArmed.fz⟩
theorem wit_freeze : tArmed.dev.plt.mainOn = true ∧ tArmed.armed 0 = true ∧ tArmed.armed 1 = true ∧ 1 % 4 ≠ 0 ∧ tArmed.dev.tmp.frozen = false := by decide +kernel
theorem wit_resolve : tBusy.dev.tmp.frozen = true ∧ tBusy.dev.tmp.crossed ≠ [] := by decide +kernel
theorem wit_reports : tBusy.dev.tmp.reports = [5, 7] ∧ tBusy.armed 18 = true ∧ tBusy.dev.tmp.window.getLast? = some (5, 0) := by decide +kernel
theorem wit_delivery : tBusy.dev.tmp.batch = [] ∧ tBusy.dev.tmp.lockDue = true ∧ tBusy.dev.tmp.eraseDue = true ∧ tBusy.dev.tmp.erasing = true := by decide +kernel
theorem wit_backup_loss : ({ tBusy.dev with plt := { tBusy.dev.plt with mainOn := false } } : Dev).plt.mainOn = false := rfl
theorem wit_bist : tArmed.dev.bar0 0 none 0xB0028 = true ∧ tArmed.dev.tmp.bist = none ∧ tBusy.dev.tmp.bist = some (2, 0) := by decide +kernel
/-- Two units within 10 ms make a cluster that names both; one unit twice makes none. -/
theorem test_cluster : ∀ d ∈ [({ tBusy.dev with
    tmp := { tBusy.dev.tmp with reports := [7] } } : Dev)], ∀ x ∈ [(Chip.faultReport ⟨d, tBusy.bd, tBusy.fz⟩ true).dev],
    x.rd Fld.TMP_CLUSTER_FIRST_UNIT = 5 ∧ x.rd Fld.TMP_CLUSTER_SECOND_UNIT = 7 ∧ x.tmp.batch = [⟨18, 0, 7, 0, false⟩] := by decide +kernel
theorem test_no_cluster : (tBusy.faultReport true).dev.tmp.batch = [] := by decide +kernel

/-- A vendor authorisation's length. -/
theorem wit_bulk : ∀ r ∈ [tWreq 0x101 0 16 0 4803 (List.replicate 16 0)], (List.replicate 4803 (0 : Byte)).length = r.bulkLen := by
  simp only [List.length_replicate]; decide +kernel
theorem wit_provision : ∀ r ∈ [tWreq 0x101 0 16 0 4803 (List.replicate 16 0)], ∀ c ∈ [tWdnOf r], c.Serves 0x101 false r ∧ r.provisionOk = true ∧
    c.dev.tmp.vbatLow = false ∧ c.dev.rngFailed = false ∧ c.dev.rngServes 0 = true ∧ c.dev.canAudit = true := by decide +kernel
theorem wit_debug_enter : ∀ r ∈ [tWreq 0x102 0 0 0 0 []], (∀ c ∈ [tWdnOf r], c.Serves 0x102 false r ∧ r.paramLen = 0 ∧ r.authLen = 0 ∧ c.lifecycle = 0 ∧
    c.fz.debug < 8 ∧ c.dev.canAudit = true) ∧ (∀ c ∈ [tOp r], c.Serves 0x102 false r ∧ c.lifecycle ≠ 3 ∧ c.lifecycle ≠ 4 ∧ c.lifecycle ≠ 0 ∧ c.fz.debug < 8) ∧
    (∀ c ∈ [({ tOp r with fz := ⟨true, 1, false, 0, true⟩ } : Chip)], c.Serves 0x102 false r ∧ c.lifecycle = 4 ∧ c.fz.debug < 8) ∧
    ([] : List Byte).length = r.bulkLen := by decide +kernel
theorem wit_debug_spent : ∀ r ∈ [tWreq 0x102 0 0 0 0 []], ∀ c ∈ [({ tOp r with fz := ⟨true, 8, false, 0, true⟩ } : Chip)], c.Serves 0x102 false r ∧
    8 ≤ c.fz.debug := by decide +kernel
theorem wit_debug_exit : ∀ r ∈ [tWreq 0x103 0 0 0 0 []], ∀ c ∈ [({ tOp r with fz := ⟨true, 1, false, 0, true⟩ } : Chip)], c.Serves 0x103 false r ∧ r.plain 0 = true ∧
    c.dev.canAudit = true := by decide +kernel
theorem wit_decommission : ∀ r ∈ [tWreq 0x104 0 0 0 0 []], (∀ c ∈ [tOp r], c.Serves 0x104 false r ∧ r.paramLen = 0 ∧ c.lifecycle ≠ 0 ∧ r.bulkLen = 0) ∧
    (∀ c ∈ [tWdnOf r], c.Serves 0x104 false r ∧ c.lifecycle = 0 ∧ r.authLen = 0 ∧ c.dev.canAudit = true) := by decide +kernel
theorem wit_status_query : ∀ r ∈ [tWreq 0x105 0 0 0 0 []], ∀ c ∈ [tOp r], c.Serves 0x105 true r ∧ r.plain 0 = true ∧ c.dev.wdn.running = true := by decide +kernel
theorem wit_audit_read : ∀ r ∈ [tWreq 0x501 0 16 0 0 (List.replicate 16 0)], ∀ c ∈ [tOp r], c.Serves 0x501 true r ∧ r.paramLen = 16 ∧ r.authLen = 0 ∧
    r.origin ≠ 2 := by decide +kernel

theorem wit_config_format : ∀ r ∈ [tWreq 0x201 0 0 0 8 []], ∀ c ∈ [tOp r], c.Serves 0x201 false r ∧ r.content (some (List.replicate 8 0)) = some (List.replicate 8 0) ∧
    0 < r.bulkLen := by decide +kernel
theorem wit_image_admit : ∀ r ∈ [tWreq 0x202 0 0 0 8 []], ∀ c ∈ [tOp r], c.Serves 0x202 false r ∧ r.paramLen = 0 ∧ r.authLen = 0 ∧
    (List.replicate 8 (0 : Byte)).length = r.bulkLen := by decide +kernel
/-- A chip with image 1 of IMAGE_ID 9, signed under key 3, in service. -/
def tServed (r : WReq) : Chip := (tOp r).onDev fun d => { d with prog := ⟨[(1, ⟨9, 1, 3, [(0x800, 0)], [0]⟩)], [(0x800, some (1, 0))], 2⟩ }
theorem wit_image_retire : ∀ r ∈ [tWreq 0x203 0 8 0 0 [9, 0, 0, 0, 0, 0, 0, 0]], (∀ c ∈ [tServed r], c.Serves 0x203 false r ∧ r.plain 8 = true ∧ c.dev.canAudit = true ∧
    ((c.dev.prog.images.filter (fun x => x.2.id.toNat == r.par 0 8)).map Prod.fst).all (fun k => !c.dev.inService k) = false) ∧
    ∀ c ∈ [tOp r], c.Serves 0x203 false r ∧ ((c.dev.prog.images.filter (fun x => x.2.id.toNat == r.par 0 8)).map Prod.fst).all (fun k => !c.dev.inService k) = true := by
  decide +kernel
theorem wit_patch : ∀ r ∈ [tWreq 0x204 0 0 0 8 []], ∀ c ∈ [tOp r], c.Serves 0x204 false r ∧ r.paramLen = 0 ∧ (List.replicate 8 (0 : Byte)).length = r.bulkLen := by
  decide +kernel
/-- Both ends of the range of indexes. -/
theorem wit_codesign_install : ∀ i ∈ [1, 15], ∀ r ∈ [tWreq 0x205 0 2704 0 0 (BitVec.ofNat 8 i :: List.replicate 2703 0)], ∀ c ∈ [tOp r], c.Serves 0x205 false r ∧
    r.par 0 1 = i ∧ r.bulkLen = 0 ∧ r.par 1 7 = 0 ∧ r.paramLen = 2704 ∧ r.par 105 7 = 0 ∧ (c.dev.codesign i).1 ≠ 2 ∧ c.dev.signFull = false := by decide +kernel
theorem wit_codesign_revoke : ∀ r ∈ [tWreq 0x206 0 8 0 0 [3, 0, 0, 0, 0, 0, 0, 0]], ∀ c ∈ [tOp r], c.Serves 0x206 false r ∧ r.par 0 1 = 3 ∧ r.paramLen = 8 ∧
    (c.dev.codesign 3).1 = 0 ∧ c.dev.signFull = false ∧ (({ c.dev with nvs := { c.dev.nvs with recs := [⟨1, 0x21, 3, leBytes 8 1, 1, 0, true, false⟩] } } : Dev).codesign 3).1 = 1 := by decide +kernel
theorem wit_image_advance : ∀ n ∈ [0, 63], ∀ r ∈ [tWreq 0x305 n 8 0 0 (BitVec.ofNat 8 n :: List.replicate 7 0)], ∀ c ∈ [tOp r], c.Serves 0x305 false r ∧ r.par 0 1 = n ∧
    r.plain 8 = true ∧ r.par 1 7 = 0 ∧ r.origin ≠ 1 ∧ n = r.requester ∧ c.dev.canAudit = true := by decide +kernel
theorem wit_krd : ∀ b ∈ [8, 12], ∀ r ∈ [tWreq 0x306 2 8 0 0 [15, 0, 0, BitVec.ofNat 8 b, 0, 0, 0, 0]], ∀ c ∈ [tOp r], c.Serves 0x306 false r ∧ r.par 0 1 = 15 ∧
    r.par 2 2 = 256 * b ∧ r.plain 8 = true ∧ r.par 1 1 = 0 ∧ r.par 4 4 = 0 ∧ c.dev.canAudit = true ∧ c.dev.rngFailed = false ∧ c.dev.rngServes 0 = true := by decide +kernel
theorem wit_krd_delete : ∀ r ∈ [tWreq 0x307 2 8 0 0 [15, 0, 0, 0, 0, 0, 0, 0]], ∀ c ∈ [tOp r], c.Serves 0x307 false r ∧ r.par 1 7 = 0 ∧ r.plain 8 = true := by decide +kernel
theorem wit_kdh_ca : ∀ r ∈ [tWreq 0x308 2 16 0 0 [8, 0, 0, 0, 0, 0, 0, 0, 1, 2, 3, 4, 5, 6, 7, 8]], ∀ c ∈ [tOp r], c.Serves 0x308 false r ∧ r.bulkLen = 0 ∧ r.par 0 4 = 8 ∧
    r.paramLen = 16 ∧ r.par 4 4 = 0 ∧ allZero (r.params.drop 16) = true := by decide +kernel

/-- The operational chip, a ceremony or a restore open. -/
def tWith (c : Chip) (w : Option Ceremony) (x : Option Restore) : Chip := c.onDev fun d => { d with wdn := { d.wdn with ceremony := w, restore := x } }
theorem wit_ceremony_open : ∀ r ∈ [tWreq 0x401 0 80 0 0 (List.replicate 80 0)], (∀ c ∈ [tOp r], c.Serves 0x401 false r ∧ r.plain 80 = true ∧ c.dev.wdn.ceremony = none ∧
    c.dev.canAudit = true) ∧ ∀ c ∈ [tWith (tOp r) (some ⟨[], []⟩) none], c.Serves 0x401 false r ∧ c.dev.wdn.ceremony.isSome = true := by decide +kernel
theorem wit_ceremony_collect : ∀ r ∈ [tWreq 0x402 0 0 0 0 []], ∀ c ∈ [tWith (tOp r) (some ⟨[], []⟩) none], c.Serves 0x402 false r ∧ r.plain 0 = true ∧
    c.dev.wdn.ceremony = some ⟨[], []⟩ ∧ c.dev.canAudit = true := by decide +kernel
/-- The operational chip with the latches as given. -/
def tLatched (r : WReq) (e : Bool) : Chip := ⟨{ (tOp r).dev with tmp := { Tmp.reset with lock := true, erased := e } }, { Backup.reset with erased := e }, (tOp r).fz⟩
theorem wit_unlock : ∀ r ∈ [tWreq 0x403 0 0 184 0 []], ∀ c ∈ [tLatched r false], c.Serves 0x403 false r ∧ r.paramLen = 0 ∧ r.bulkLen = 0 ∧ c.bd.locked = true := by
  decide +kernel
theorem wit_flag_clear : ∀ r ∈ [tWreq 0x406 0 16 184 0 ([0, 0, 0x20, 0, 0, 0, 0, 0, 1, 0] ++ List.replicate 6 0)], ∀ c ∈ [tOp r], c.Serves 0x406 false r ∧
    r.paramLen = 16 ∧ r.bulkLen = 0 ∧ r.par 0 8 = 2 ^ 21 ∧ r.par 10 6 = 0 := by decide +kernel
theorem wit_time_set : ∀ r ∈ [tWreq 0x407 0 8 184 0 [255, 255, 255, 255, 255, 255, 0, 0]], ∀ c ∈ [tOp r], c.Serves 0x407 false r ∧ r.paramLen = 8 ∧ r.bulkLen = 0 ∧
    r.par 0 8 = 2 ^ 48 - 1 := by decide +kernel
theorem wit_archive_create : ∀ r ∈ [tWreq 0x408 0 0 184 0 []], ∀ c ∈ [tOp r], c.Serves 0x408 false r ∧ r.paramLen = 0 ∧ r.bulkLen = 0 ∧ c.dev.wdn.ceremony = none ∧
    c.dev.rngFailed = false ∧ c.dev.rngServes 0 = true := by decide +kernel
theorem wit_archive_end : ∀ r ∈ [tWreq 0x408 0 0 184 0 []], ∀ d ∈ [({ (tOp r).dev with wdn := { (tOp r).dev.wdn with arch := some ⟨r, 0, 1, []⟩, setN := 0 } } : Dev)],
    d.wdn.arch = some ⟨r, 0, 1, []⟩ ∧ d.nvs.frozen = false := by decide +kernel
theorem wit_backup_write : ∀ k ∈ [1, 2], ∀ r ∈ [tWreq 0x409 0 16 0 0 (List.replicate 8 0 ++ BitVec.ofNat 8 k :: List.replicate 7 0)],
    ∀ c ∈ [(tOp r).onDev fun d => (d.wr Fld.CRD_SD_STATUS_STATE 3).wr Fld.CRD_SD_CARD_BLOCKS 4], c.Serves 0x409 false r ∧ r.plain 16 = true ∧ r.par 8 1 = k ∧ r.par 9 7 = 0 ∧
    c.dev.rngFailed = false ∧ c.dev.rngServes 0 = true ∧ c.dev.sdState = 3 ∧ c.dev.canAudit = true ∧
    r.par 0 8 + k * (2 + (c.dev.archEntries.length + 6) / 7) ≤ c.dev.rd Fld.CRD_SD_CARD_BLOCKS := by decide +kernel
theorem wit_restore_begin : ∀ k ∈ [1, 2], ∀ r ∈ [tWreq 0x404 0 16 184 0 (List.replicate 8 0 ++ [2, 0, 0, 0, BitVec.ofNat 8 k, 0, 0, 0])], ∀ c ∈ [tLatched r true],
    c.Serves 0x404 false r ∧ r.paramLen = 16 ∧ r.bulkLen = 0 ∧ r.par 12 1 = k ∧ r.par 13 3 = 0 ∧ r.par 8 4 = 2 ∧ c.dev.rngFailed = false ∧
    c.dev.rngServes 0 = true := by decide +kernel
/-- A restore whose blocks are all read, with `n` alarms before it. -/
def tRestore (n : Nat) (bad : Option Nat) : Restore := ⟨none, 0, 2, 1, n, [], 0, [], [1], 2, 0, [], bad, 0, 0⟩
theorem wit_restore_end : ∀ r ∈ [tWreq 0x405 0 0 0 0 []], ∀ x ∈ [tRestore 0 none, tRestore 1 none, tRestore 0 (some 1)], ∀ c ∈ [tWith (tLatched r true) none (some x)],
    c.Serves 0x405 false r ∧ r.plain 0 = true ∧ c.dev.wdn.restore = some x ∧ c.dev.wdn.alarms = 0 ∧ x.key ≠ [] ∧ x.count ≤ x.nextSeq ∧ x.loading = 0 ∧
    c.dev.canAudit = true := by decide +kernel

/-- The tests' device with port `p` in state `k`, the Warden running. -/
def tPort (p k : Nat) (x : CcPort) : Dev := (((tWdnOf ⟨0, 0, [], 0⟩).dev.wr (Fld.CRD_CC_STATUS_STATE p) k).wr (Fld.CRD_CC_STATUS_CLASS p) 1).setCc p x
theorem wit_card_activation : ∀ p ∈ [0, 1], ∀ d ∈ [tPort p 0 CcPort.reset], d.wdn.running = true ∧ d.ccState p = 0 ∧ d.ccHeld p = false := by decide +kernel
/-- ATRs: T=1 with class C; with class A only; without a class; T=0 only; specific mode. -/
theorem wit_atr : ∀ d ∈ [tPort 1 1 CcPort.reset], d.ccState 1 = 1 ∧ d.rd (Fld.CRD_CC_STATUS_CLASS 1) = 1 := by decide +kernel
theorem test_atr_forms : atrParse [] = none ∧ (atrParse [0x3B, 0x80, 0x81, 0x1F, 0x04, 0x1A]).isSome = true ∧
    ((atrParse [0x3B, 0x80, 0x81, 0x1F, 0x04, 0x1A]).bind atrClass) = some 1 ∧ ((atrParse [0x3B, 0x80, 0x81, 0x1F, 0x01, 0x1F]).bind atrClass) = some 3 ∧
    ((atrParse [0x3B, 0x80, 0x01, 0x81]).map atrClass) = some none ∧
    ((atrParse [0x3B, 0x80, 0x80, 0x1F, 0x04, 0x1B]).map (fun g => ((atrProtocols g).contains 1, atrClass g))) = some (false, some 1) ∧
    ((atrParse [0x3B, 0x80, 0x91, 0x01, 0x1F, 0x04, 0x0B]).map atrTa2) = some (some 1) ∧
    ((atrParse [0x3B, 0x80, 0x81, 0x1F, 0x04, 0x1A]).map atrTa2) = some none := by decide +kernel
theorem wit_pps : ∀ p ∈ [0, 1], ∀ d ∈ [tPort p 2 { CcPort.reset with atr := [0x3B, 0x80, 0x81, 0x1F, 0x04, 0x1A] }], d.ccState p = 2 ∧ (d.cc p).sends = 0 ∧
    (atrParse (d.cc p).atr).isSome = true := by decide +kernel
theorem wit_t1 : ∀ p ∈ [0, 1], (∀ d ∈ [tPort p 4 { CcPort.reset with present := true, out := [[1], [2]] }], d.ccState p = 4 ∧ (d.cc p).ready = false ∧ 2 ≤ (d.cc p).out.length ∧
    (d.cc p).sends < 3 ∧ (d.cc p).present = true) ∧ (∀ d ∈ [tPort p 4 { CcPort.reset with parts := [[1]] }], (d.cc p).out.length ≤ 1) ∧
    ∀ d ∈ [tPort p 2 { CcPort.reset with sends := 1 }], d.ccState p = 2 ∧ (d.cc p).sends ≠ 0 ∧ (d.cc p).ready = false := by decide +kernel

/-- Port `p` BUSY with command `ins`, its response complete. -/
def tResp (p ins : Nat) (got : List Byte) : Dev :=
  ((tWdnOf ⟨0, 0, [], 0⟩).dev.wr (Fld.CRD_CC_STATUS_STATE p) 4).setCc p { CcPort.reset with present := true, ins := ins, ready := true, got := got }
theorem wit_card_response : ∀ p ∈ [0, 1], ∀ i ∈ [0xA4, 0x10, 0x20, 0x30, 0x40, 0x42, 0x50], ∀ d ∈ [tResp p i [7, 0x90, 0]], d.ccResponse p i = some ([7], 0x9000) ∧
    0x9000 / 256 ≠ 0x61 ∧ d.nvs.frozen = false ∧ d.canAudit = true ∧ d.wdn.ceremony = none := by decide +kernel
theorem wit_card_ceremony : ∀ d ∈ [tResp 0 0x30 [7, 0x90, 0]], ∀ e ∈ [({ d with wdn := { d.wdn with ceremony := some ⟨[], []⟩ } } : Dev)],
    e.wdn.ceremony = some ⟨[], []⟩ ∧ e.nvs.frozen = false ∧ e.canAudit = true ∧ e.ccResponse 0 0x30 = some ([7], 0x9000) := by decide +kernel
theorem wit_card_more : ∀ d ∈ [tResp 1 0x20 [7, 0x61, 5]], d.ccResponse 1 (d.cc 1).ins = some ([7], 0x6105) ∧ 0x6105 / 256 = 0x61 := by decide +kernel
theorem wit_card_short : ∀ d ∈ [tResp 1 0x10 []], d.ccResponse 1 0x10 = some ([], 0) := by decide +kernel
theorem wit_card_info : ∀ d ∈ [(tResp 0 0x10 [7, 0x90, 0]).wr (instReady 0) 1], d.ccResponse 0 0x10 = some ([7], 0x9000) ∧ d.rngServes 0 = true := by decide +kernel

/-- The backup port in state `k`, with a backup or a restore open. -/
def tSd (k : Nat) (busy : Bool) (stop : Option Nat) (b : Option Backup1) (x : Option Restore) : Dev :=
  let d := (tOp ⟨0, 0, [], 0⟩).dev.wr Fld.CRD_SD_STATUS_STATE k
  { d with crd := { d.crd with sdPresent := true, sdBusy := busy, sdStop := stop }, wdn := { d.wdn with backup := b, restore := x } }
theorem wit_sd_init : ∀ d ∈ [tSd 0 false none none none, tSd 2 false none none none], d.wdn.running = true ∧ (d.rd Fld.PLT_BLOCK_RESET_HOLD).testBit 7 = false ∧
    (d.sdState = 0 ∨ d.sdState = 2) := by decide +kernel
theorem wit_sd_backup : ∀ b ∈ [(⟨⟨0, 0, [], 0⟩, 0, 1, 2, 0, [], 0, 0⟩ : Backup1)], (∀ d ∈ [tSd 4 false none (some b) none], d.wdn.backup = some b ∧ d.sdState = 4 ∧
    d.crd.sdBusy = false ∧ d.crd.sdPresent = true) ∧ (∀ d ∈ [tSd 4 true none (some b) none], d.crd.sdBusy = true ∧ d.crd.sdStop = none) ∧
    ∀ d ∈ [tSd 4 true (some 0x701) (some b) none], d.crd.sdBusy = true ∧ d.crd.sdStop = some 0x701 := by decide +kernel
theorem wit_sd_removed : ∀ d ∈ [tSd 3 false none none none], d.wdn.backup = none ∧ d.wdn.restore = none ∧ d.sdState ≠ 0 ∧ d.crd.sdPresent = true := by decide +kernel
theorem wit_sd_read : ∀ x ∈ [(⟨some ⟨0, 0, [], 0⟩, 0, 2, 1, 0, [], 0, [], [], 0, 0, [], none, 0, 0⟩ : Restore)], ∀ y ∈ [(⟨none, 0, 2, 1, 0, [1], 0, [], [1], 1, 0, [], none, 0, 0⟩ : Restore)],
    (∀ d ∈ [tSd 5 false none none (some x)], d.wdn.restore = some x ∧ d.sdState = 5 ∧ x.header = [] ∧ x.req = some ⟨0, 0, [], 0⟩) ∧
    ∀ d ∈ [tSd 5 false none none (some y)], d.wdn.restore = some y ∧ d.sdState = 5 ∧ y.header ≠ [] ∧ y.key ≠ [] ∧ y.bad = none ∧ y.nextSeq < y.count := by decide +kernel

theorem wit_link_up : ∀ p ∈ [0, 1], ∀ d ∈ [tArmed.dev], d.wdn.running = true ∧ d.portHeld p = false ∧ d.held = false ∧ d.rd (Fld.MTR_PORT_LINK p) < 2 := by decide +kernel
theorem wit_hello : (tMtr 0 0 Sess.reset).helloIn (tFr 1 0 0) = true ∧ ((tMtr 0 0 { Sess.reset with st := 1 }).sess 0).st = 1 ∧
    ((tMtr 0 0 { Sess.reset with st := 2, peer := 1 }).sess 0).peer = (tFr 1 0 0).src ∧ ((tMtr 0 0 { Sess.reset with st := 2, peer := 1 }).sess 0).st = 2 := by decide +kernel
theorem wit_retry : ∀ d ∈ [tMtr 0 0 Sess.reset], d.mtrUp = true ∧ (d.sess 0).st = 0 ∧ d.rd (Fld.MTR_PORT_LINK 0) = 2 ∧ d.ownMember < d.rd (Fld.MTR_PORT_PEER_ID 0) ∧
    d.portHeld 0 = false ∧ (d.wr Fld.MTR_RELAY_CFG_ENABLE 1).relayOn = true ∧ (d.sess (16 + 7)).st = 0 := by decide +kernel
theorem wit_forward : ∀ d ∈ [({ (tMtr 3 1 tSess) with mtr := { (tMtr 3 1 tSess).mtr with sess := [(0, tSess), (1, tSess)] } } : Dev)],
    ∀ fr ∈ [{ tFr 1 5 1 with dst := 3 }], d.frameArrives fr = true ∧ fr.dst ≠ d.ownMember ∧ fr.port < 2 ∧ (d.framePasses fr).2 = true ∧ fr.hops < 7 ∧
    ((d.framePasses fr).1.sess 1).st = 3 := by decide +kernel
theorem wit_frame : ∀ d ∈ [tMtr 3 1 tSess], d.frameArrives (tFr 1 5 1) = true ∧ (tFr 1 5 1).dst = d.ownMember ∧ (d.sess 0).st = 3 ∧ (tFr 1 5 0).counter ≤ (d.sess 0).rx ∧
    (d.frameIn (tFr 1 5 1)).2 = true ∧ (d.frameIn (tFr 1 5 1)).1.tmp.lock = false ∧ (d.frameIn (tFr 1 5 1)).1.rd Fld.MTR_EPOCH_EPOCH = 5 := by decide +kernel

/-- Frames from member 1 at epochs 5 and 6, counter 1. -/
theorem wit_manager : ∀ d ∈ [tMtr 1 2 tSess], ∀ d1 ∈ [(d.frameIn (tFr 1 5 1)).1], (d.frameIn (tFr 1 5 1)).2 = true ∧ d1.tmp.lock = false ∧ d1.rd Fld.MTR_EPOCH_EPOCH = 5 ∧
    d1.bondRole = 1 ∧ d1.rosterId 1 = some [1] ∧ d1.standbyId = 0 ∧ d1.certOf 1 = some [] ∧ d1.mtr.lost.contains 1 = false ∧ d.mtrUp = true := by decide +kernel
theorem wit_stranger : ∀ d ∈ [({ (tMtr 1 2 tSess) with mtr := { (tMtr 1 2 tSess).mtr with roster := [(2, [2])], lost := [1] } } : Dev)], ∀ d1 ∈ [(d.frameIn (tFr 1 5 1)).1],
    (d.frameIn (tFr 1 5 1)).2 = true ∧ d1.rosterId 1 = none ∧ d1.mtr.lost.contains 1 = true := by decide +kernel
/-- A worker of manager 1 in bond state `k`. -/
def tWork (k : Nat) : Dev := let d := (tMtr 3 1 tSess).wr Fld.MTR_STATUS_STATE k
  { d with mtr := { d.mtr with joining := if k = 1 then 1 else 0 } }
theorem wit_worker : ∀ k ∈ [1, 2, 3, 4], ∀ d1 ∈ [((tWork k).frameIn (tFr 1 5 1)).1], ((tWork k).frameIn (tFr 1 5 1)).2 = true ∧ d1.tmp.lock = false ∧
    d1.rd Fld.MTR_EPOCH_EPOCH = 5 ∧ d1.fromManager (tFr 1 5 1) = true ∧ d1.bondState = k ∧ d1.bondRole = 3 ∧ d1.mtr.joining = (if k = 1 then 1 else 0) ∧
    d1.mayAdopt (tFr 1 5 1) = false ∧ d1.mtr.named.contains 0xFFFFFFFF = false := by decide +kernel
/-- A device that has no roster yet hears a manager of a higher epoch. -/
theorem wit_higher : ∀ k ∈ [1, 3, 4], ∀ d ∈ [({ tWork k with mtr := { (tWork k).mtr with roster := [] } } : Dev)], ∀ d1 ∈ [(d.frameIn (tFr 1 6 1)).1],
    (d.frameIn (tFr 1 6 1)).2 = true ∧ d1.tmp.lock = false ∧ d1.bondState = k ∧ d1.mayLead 1 = true ∧ d1.rd Fld.MTR_EPOCH_EPOCH < (tFr 1 6 1).epoch := by decide +kernel
theorem wit_member_lost : ∀ d ∈ [(tMtr 1 2 tSess).wr Fld.MTR_LIVE_LIVE 6], d.bondRole = 1 ∧ 3 ≠ d.ownMember ∧ d.liveMembers.contains 3 = true ∧ 3 ≠ d.standbyId ∧
    d.canCommit = false ∧ d.tmp.lock = false ∧ d.mtr.beats + 1 ≠ leAt d.wdn.config 0x1A 2 * 250 := by decide +kernel
theorem wit_promotion : ∀ d ∈ [tMtr 2 1 tSess], d.bondRole = 2 ∧ d.bondState = 3 ∧ d.tmp.lock = false ∧ d.canAudit = true := by decide +kernel

theorem wit_prepare : ∀ d ∈ [tMtr 3 1 tSess, tMtr 2 1 tSess], ∀ d1 ∈ [(d.frameIn (tFr 1 5 1)).1], (d.frameIn (tFr 1 5 1)).2 = true ∧ d1.tmp.lock = false ∧
    (tFr 1 5 1).epoch = d1.rd Fld.MTR_EPOCH_EPOCH ∧ d1.fromManager (tFr 1 5 1) = true ∧ (d1.bondRole = 2 ∨ d1.bondRole = 3) ∧ d1.rd Fld.MTR_TXN_TXN = 0 ∧
    d1.mtr.prepared = none ∧ d1.mtr.pendingImages = [] ∧ d1.applying = false ∧ 0x1BFFF < 0x1C000 := by decide +kernel
theorem wit_commit : ∀ t ∈ [tMtr 3 1 tSess], ∀ d ∈ [({ t with
    mtr := { t.mtr with prepared := some (7, 4) }, vlt := { t.vlt with staging := [(4, { VStage.reset with phase := .bond })] } } : Dev)],
    ∀ d1 ∈ [(d.frameIn (tFr 1 5 1)).1], (d.frameIn (tFr 1 5 1)).2 = true ∧ d1.rd Fld.MTR_TXN_TXN < 7 ∧ d1.mtr.prepared = some (7, 4) ∧ (d1.vstage 4).phase = .bond := by
  decide +kernel
/-- A manager whose standby is member 3 and whose transaction 7 is at phase `p`. -/
def tTx (p : Nat) : Dev := let d := (tMtr 1 2 tSess).wr Fld.MTR_EPOCH_STANDBY_ID 3
  { d with mtr := { d.mtr with tx := some ⟨7, 4, [], 0, 0, 0, [1], p⟩, sess := [(0, { tSess with peer := 3 })] } }
theorem wit_prepared : ∀ p ∈ [0, 1], ∀ m ∈ [1, 3], ∀ d1 ∈ [((tTx p).frameIn (tFr m 5 1)).1], ((tTx p).frameIn (tFr m 5 1)).2 = true ∧ d1.tmp.lock = false ∧
    d1.bondRole = 1 ∧ d1.rd Fld.MTR_TXN_TXN < 7 ∧ (d1.mtr.tx.map MtrTx.txn) = some 7 ∧ (d1.mtr.tx.map MtrTx.phase) = some p ∧ d1.standbyId = 3 ∧
    (d1.mtrDone m (fun x => x.kind == 0x30 && x.fields.head? == some 7)).mtr.tx.isSome = true := by decide +kernel
theorem wit_applied : ((tMtr 1 2 tSess).frameIn (tFr 1 5 1)).1.mtr.tx = none := by decide +kernel

/-- Manager 2 with standby 3 accepted (`can` 1) or not, messages `o` outstanding. -/
def tMan (o : List Sent) (can : Nat) (g : Option (Nat × Nat)) : Dev :=
  let d := ((tMtr 1 2 tSess).wr Fld.MTR_STATUS_CAN_COMMIT can).wr Fld.MTR_EPOCH_STANDBY_ID 1
  { d with mtr := { d.mtr with outstanding := o, granting := g } }
theorem wit_lease_request : ∀ x ∈ [(1, true), (0, false)], ∀ d ∈ [tMan [] x.1 none], ∀ d1 ∈ [(d.frameIn (tFr 1 5 1)).1], d.Accepts (tFr 1 5 1) d1 ∧ d1.bondRole = 1 ∧
    (d1.rosterId 1).isSome = true ∧ d1.mtr.requests = [] ∧ d1.mtr.granting = none ∧ d1.canCommit = x.2 := by decide +kernel
theorem wit_lease_state_ack : ∀ g ∈ [none, some (3, 7)], ∀ d ∈ [tMan [⟨1, 0x43, [7, 3, 1, 7]⟩] 1 g], ∀ d1 ∈ [(d.frameIn (tFr 1 5 1)).1], d.Accepts (tFr 1 5 1) d1 ∧
    d1.bondRole = 1 ∧ 1 = d1.standbyId ∧ d1.mtr.granting = g ∧ 3 ≠ d1.ownMember := by decide +kernel
theorem wit_standby_accept : ∀ d ∈ [tMan [⟨1, 0x50, [0, 0]⟩] 0 none], ∀ d1 ∈ [(d.frameIn (tFr 1 5 1)).1], d.Accepts (tFr 1 5 1) d1 ∧
    d1.bondRole = 1 ∧ d1.canCommit = false ∧ d1.mtr.outstanding.any (fun m => m.dst == 1 && m.kind == 0x50) = true := by decide +kernel
theorem wit_lease_member : ∀ r ∈ [2, 3], ∀ d ∈ [tMtr r 1 tSess], ∀ d1 ∈ [(d.frameIn (tFr 1 5 1)).1], d.Accepts (tFr 1 5 1) d1 ∧ d1.fromManager (tFr 1 5 1) = true ∧
    d1.heldLeases.contains 4 = false ∧ d1.mtr.highest < 4 ∧ d1.nextValid = false ∧ d1.canAudit = true ∧ d1.bondState = 3 ∧ d1.bondRole = r ∧ 1 = d1.managerId ∧
    0 ≤ d1.rd Fld.MTR_TXN_TXN := by decide +kernel
theorem wit_lease_repeat : ∀ d ∈ [({ (tMtr 3 1 tSess).wr Fld.CIPH_LEASE_ACTIVE_VALID 1 with nvs := Nvs.reset } : Dev)], ∀ d1 ∈ [(d.frameIn (tFr 1 5 1)).1],
    d.Accepts (tFr 1 5 1) d1 ∧ d1.fromManager (tFr 1 5 1) = true ∧ d1.heldLeases.contains (d1.activeLease) = true := by decide +kernel
theorem wit_relayed : ∀ d ∈ [tMtr 3 1 tSess], (d.frameIn (tFr 1 5 1)).2 = true ∧ ([] : List Byte).length % 8 = 0 := by decide +kernel
theorem wit_relayed_other (d : Dev) : ∃ target : List Byte, target ≠ d.deviceId := ⟨d.deviceId ++ [1], by simp⟩

/-- A relay that is on, rings of 16 entries, one frame waiting each way. -/
def tRel (on : Nat) : Dev :=
  let d := ((((tSrv.wr Fld.MTR_RELAY_CFG_ENABLE on).wr Fld.MTR_RELAY_CFG_IN_SIZE_LOG2 4).wr Fld.MTR_RELAY_CFG_OUT_SIZE_LOG2 4).wr Fld.MTR_RELAY_CFG_VECTOR 5).wr Fld.MTR_RELAY_STATE_OUT_TAIL 15
  { d with mtr := { d.mtr with relay := [⟨3, 0x20, [0, 0, 0]⟩], relayIn := 1, relayOut := 3 } }
theorem wit_relay : ∀ n ∈ [0, 1], ∀ d ∈ [tRel n], d.bar0 0 none 0xE0080 = true ∧ d.bar0 0 none 0xE0098 = true ∧ d.rd Fld.MTR_RELAY_CFG_ENABLE = n ∧
    d.relayOn = (n == 1) ∧ d.canSend 0 = true ∧ d.rd Fld.MTR_RELAY_STATE_IN_HEAD ≠ d.mtr.relayIn ∧ d.relayFull = false := by decide +kernel
theorem wit_relay_words : (2 ^ 63 : Word).getLsbD 63 = true ∧ (0 : Word).getLsbD 63 = false ∧ (2 ^ 32 : Word).getLsbD 32 = true ∧ (2 ^ 33 : Word).getLsbD 33 = true := by
  decide +kernel
/-- The last outbound entry turns PHASE and sends the tail back to 0. -/
theorem test_relay_wrap : ∀ d ∈ [tRel 1], d.relayOutEntry.rd Fld.MTR_RELAY_STATE_OUT_TAIL = 0 ∧ d.relayOutEntry.rd Fld.MTR_RELAY_STATE_PHASE + d.rd Fld.MTR_RELAY_STATE_PHASE = 1 ∧
    d.relayOutEntry.mtr.relay = [] := by decide +kernel
/-- The parameters of BOND_ENROL for member 2. -/
def tEnrol : List Byte := List.replicate 32 0 ++ [2] ++ List.replicate 2751 0
theorem wit_bond_enrol : ∀ r ∈ [tWreq 0x601 0 2784 0 0 tEnrol], ∀ c ∈ [tOp r], c.Serves 0x601 false r ∧ r.paramLen = 2784 ∧ r.bulkLen = 0 := by decide +kernel
theorem wit_bond_enrol_fields : ∀ b ∈ [(tWreq 0x601 0 2784 0 0 tEnrol).params], allZero (slice b 0x22 6) = true ∧ allZero (slice b 0xB9 7) = true ∧
    leAt b 0x21 1 < 2 ∧ leAt b 0x20 1 = 2 := by decide +kernel
theorem wit_bond_start : ∀ r ∈ [tWreq 0x602 0 1568 0 0 (List.replicate 1568 0)], ∀ c ∈ [tOp r], ∀ e ∈ [c.onDev fun d => d.wr Fld.MTR_EPOCH_MEMBER_ID 2], e.Serves 0x602 false r ∧
    r.paramLen = 1568 ∧ r.bulkLen = 0 ∧ r.par 25 7 = 0 ∧ r.par 16 8 < 2 ^ 44 ∧ e.dev.bonded = true := by decide +kernel
theorem wit_bond_roster : ∀ r ∈ [tWreq 0x603 0 1536 0 0 (List.replicate 1536 0)], ∀ k ∈ [0, 1], ∀ c ∈ [tOp r], ∀ e ∈ [c.onDev fun d => d.wr Fld.MTR_STATUS_ROLE k],
    e.Serves 0x603 false r ∧ r.paramLen = 1536 ∧ r.bulkLen = 0 ∧ e.dev.bondRole = k ∧ r.epoch = e.dev.bondEpoch := by decide +kernel
theorem wit_bond_leave : ∀ r ∈ [tWreq 0x604 0 0 0 0 []], ∀ c ∈ [tOp r], c.Serves 0x604 false r ∧ r.paramLen = 0 ∧ r.bulkLen = 0 := by decide +kernel
theorem wit_bond_status : ∀ r ∈ [tWreq 0x605 0 0 0 0 []], ∀ c ∈ [tOp r], c.Serves 0x605 true r ∧ r.plain 0 = true := by decide +kernel

/-- The power is off; a release is at step 4; an Erase runs. -/
theorem wit_power : ({ Plt.reset with mainOn := false } : Plt).mainOn = false := rfl
theorem wit_resets : ∀ d ∈ [tSrv], d.plt.mainOn = true ∧ d.tmp.batch = [] ∧ d.tmp.erasing = false ∧ d.plt.rstIn = false ∧ d.plt.perst = false ∧ d.pltReached (.host 0 none) 0 = true ∧
    d.pltReached .i3c 0 = true ∧ d.plt.reach = 0 := by decide +kernel
theorem wit_resets_late : ∀ x ∈ [(4, false), (5, true)], ∀ d ∈ [({ tSrv.wr Fld.PLT_RESET_STATUS_STEP x.1 with plt := { tSrv.plt with reach := 2 } } : Dev)], d.plt.mainOn = true ∧
    d.tmp.erasing = false ∧ d.plt.reach ≠ 0 ∧ decide (5 ≤ d.rd Fld.PLT_RESET_STATUS_STEP) = x.2 := by decide +kernel
theorem wit_reset_keys : getF 0x9400000000000002 48 16 = 0x9400 ∧ getF 0x9400000000000002 0 48 = 2 ∧ getF 0x9400000000000001 0 48 = 1 ∧ getF 3 48 16 ≠ 0x9400 := by decide +kernel
def tErasing : Chip := tArmed.onDev fun d => { d with tmp := { d.tmp with erasing := true } }
theorem wit_erasing : tErasing.dev.tmp.erasing = true ∧ tErasing.dev.plt.mainOn = true := by decide +kernel
/-- A warm reset raises EPOCH of partition 3 from 0xFFFFFFFF to 0 and keeps the second link of the registers. -/
theorem test_warm_epoch : ∀ d ∈ [tSrv.wr (Fld.PART_STATUS_EPOCH 3) (2 ^ (Fld.PART_STATUS_EPOCH 3).width - 1)], (d.warmReset 6 0).rd (Fld.PART_STATUS_EPOCH 3) = 0 ∧
    (d.warmReset 6 0).rd (Fld.PART_STATUS_EPOCH 63) = 1 ∧ (d.warmReset 6 0).rd Fld.PLT_RESET_CAUSE_SOURCE = 6 := by decide +kernel

/-- A device in a reset of reach `r` whose last completed step is `n`. -/
def tRel2 (r n : Nat) : Dev := { tSrv.wr Fld.PLT_RESET_STATUS_STEP n with plt := { tSrv.plt with reach := r, rstOut := false }, rng := { Rng.reset with startup := false } }
theorem wit_release : ∀ n ∈ [0, 2, 3, 4, 5, 8, 9, 10, 11], (tRel2 2 n).plt.mainOn = true ∧ (tRel2 2 n).rd Fld.PLT_RESET_STATUS_STEP = n ∧ (tRel2 2 n).held = false := by decide +kernel
theorem wit_release_reset : ∀ r ∈ [1, 2], ∀ p ∈ [(tRel2 r 0).plt], p.reach = r ∧ p.por = false ∧ p.rstIn = false ∧ p.perst = false ∧ p.rstOut = false := by decide +kernel
theorem wit_release_rng : (tRel2 2 5).rng.startup = false ∧ (st (tRel2 2 11)).chip.lifecycle ≠ 5 := by decide +kernel
theorem wit_release_held : ∀ d ∈ [(tRel2 2 9).wr Fld.PLT_RESET_STATUS_HELD 1], d.held = true ∧ d.rd Fld.PLT_RESET_STATUS_STEP = 9 ∧ d.plt.rstOut = false := by decide +kernel
/-- Every core fails: the kiln fails with code 4. -/
theorem test_kiln_fails : ∀ d ∈ [((tRel2 2 5).kilnFail 4).setStep 6], d.rd Fld.PLT_RESET_STATUS_KILN_FAIL = 1 ∧ d.rd Fld.PLT_RESET_STATUS_KILN_TEST = 4 ∧
    d.rd Fld.PLT_RESET_STATUS_STEP = 6 ∧ d.plt.resets.getLast? = some 503 := by decide +kernel
/-- Tile 3 fails its test: out for good, with its fault recorded. -/
theorem test_kiln_tile : ∀ d ∈ [(tRel2 2 5).kilnTile [3] 3], (d.rd Fld.TILE_AVAIL_AVAIL).testBit 3 = false ∧ (d.rd Fld.TILE_RETIRED_RETIRED).testBit 3 = true ∧
    d.rd (Fld.TILE_EPOCH_STATE 3) = 2 ∧ d.rd Fld.TILE_FAULT_TILE = 3 := by decide +kernel

/-- A quiet device in maintenance mode (`m` 1) or not, blocks 3 and 9 held; function 0 only. -/
def tMaint (m : Nat) : Dev :=
  let d := (tSrv.wr (Fld.PART_CTRL_ENABLE 0) 0).wr (Fld.PART_CTRL_ENABLE 1) 0
  (d.wr Fld.PLT_MAINT_ACTIVE m).wr Fld.PLT_BLOCK_RESET_HOLD (if m = 1 then 0x208 else 0)
theorem wit_maint : ∀ m ∈ [0, 1], ∀ d ∈ [tMaint m], d.pltReached (.host 0 none) (pltOff Fld.PLT_MAINT_ACTIVE) = true ∧
    d.pltReached .i3c (pltOff Fld.PLT_BLOCK_RESET_HOLD) = true ∧ d.held = false ∧ d.rd Fld.PLT_MAINT_ACTIVE = m := by decide +kernel
theorem wit_maint_words : getF 0x9400000000000001 48 16 = 0x9400 ∧ getF 0x9400000000000001 0 48 = 1 ∧ (0x9400000000000001 : Word).getLsbD 0 = true ∧
    getF 0x9400000000000002 0 48 = 2 ∧ (0x9400000000000002 : Word).getLsbD 1 = true := by decide +kernel
theorem wit_blocks : ∀ d ∈ [tMaint 1], (List.range 10).filter (fun b => (0x4 : Word).getLsbD b && !d.blockHeld b) = [2] ∧
    (List.range 10).filter (fun b => !(0x4 : Word).getLsbD b && d.blockHeld b) = [3, 9] := by decide +kernel
theorem wit_ready : ∀ d ∈ [(tMaint 0).wr Fld.PLT_BLOCK_RESET_READY 0], (∀ b ∈ [0, 1, 2, 3, 4, 9], d.blockHeld b = false ∧ (d.rd Fld.PLT_BLOCK_RESET_READY).testBit b = false) ∧
    (d.wr Fld.RNG_HEALTH_STATE 1).rngState ≠ rngStart := by decide +kernel
/-- Block 9 held: port 1 goes down, HOLD shows it, READY does not. -/
theorem test_hold_port : ∀ c ∈ [Chip.hold ⟨tMaint 0, Backup.reset, Fuses.reset⟩ 9], c.dev.blockHeld 9 = true ∧ (c.dev.rd Fld.PLT_BLOCK_RESET_READY).testBit 9 = false ∧
    c.dev.rd (Fld.MTR_PORT_LINK 1) = 0 := by decide +kernel

theorem wit_i3c : ∀ a ∈ [0, 9], ∀ d ∈ [tSrv.wr Fld.PLT_I3C_STATUS_DYN_ADDR a], d.plt.mainOn = true ∧ d.plt.por = false ∧ d.rd Fld.PLT_I3C_STATUS_DYN_ADDR = a ∧
    5 ≤ d.rd Fld.PLT_RESET_STATUS_STEP := by decide +kernel
theorem wit_i3c_writes : ∀ x ∈ [([2, 0x10, 0x80, 1, 0, 0, 0, 0, 0, 0, 0], 11, 2, 0x8010), ([1, 0x08, 0x00], 3, 1, 8), ([7, 0x08, 0x00], 3, 7, 8), ([2, 0x09, 0x00], 3, 2, 9)],
    (x.1 : List Byte).length = x.2.1 ∧ leAt x.1 0 1 = x.2.2.1 ∧ leAt x.1 1 2 = x.2.2.2 := by decide +kernel
theorem wit_i3c_events : (1 : Nat).testBit 0 = true ∧ (2 : Nat).testBit 0 = false := by decide +kernel
/-- A read of 12 bytes sends a whole register and half of the next. -/
theorem test_i3c_read : ∀ d ∈ [tSrv.wr Fld.PLT_I3C_STATUS_DYN_ADDR 9], ((Chip.i3cBytes 64 12 (pltOff Fld.PLT_I3C_STATUS_DYN_ADDR) ⟨d, Backup.reset, Fuses.reset⟩).2).length = 12 := by
  decide +kernel

theorem wit_snapshot : ∀ d ∈ [tSrv], d.pltReached (.host 0 none) (pltOff Fld.PLT_SNAP_CTRL_CAPTURE) = true ∧ d.pltReached .i3c (pltOff Fld.PLT_SNAP_CTRL_CAPTURE) = true ∧
    (1 : Word).getLsbD 0 = true ∧ (0 : Word).getLsbD 0 = false := by decide +kernel
theorem wit_powered : ∀ d ∈ [tSrv], d.plt.mainOn = true ∧ d.plt.por = false ∧ d.plt.reach ≠ 2 := by decide +kernel
theorem wit_unpowered : ({ Plt.reset with por := true } : Plt).por = true := rfl
/-- The words of a snapshot lie at different registers, and a capture shows the sequence number in the first. -/
theorem test_snapshot : ∀ d ∈ [({ tSrv with seq := 77 } : Dev)], (Chip.snapshot ⟨d, Backup.reset, Fuses.reset⟩ .i3c 1).dev.reg (Fld.PLT_SNAP_WORD 0).reg = 77 := by decide +kernel
/-- 126 °C is above a threshold of 125: TEMP sets; 125 °C is not. -/
theorem test_telemetry : ∀ d ∈ [tSrv.wr Fld.PLT_TELEM_WARN_TEMP_C 125], (d.tempSample 0 2016).rd Fld.PLT_TELEM_STATUS_TEMP = 1 ∧
    (d.tempSample 0 2000).rd Fld.PLT_TELEM_STATUS_TEMP = 0 ∧ (d.tempSample 0 2016).plt.hottest = some 2016 := by decide +kernel

/-- Words written out field by field from the formats of R157 and the codes of R161 to R180: OP, RD, RS1, RS2 and the rest. -/
theorem test_words_decode :
    decodeInsn 0b000000_00011_00001_00010_00000100010#32 = some (.r .divr 3 1 2) ∧
    decodeInsn 0b000101_00100_00101_0000000000111111#32 = some (.k .shlk 4 5 63) ∧
    decodeInsn 0b001000_00100_00000_0001001000110100#32 = some (.k .ksh 4 0 0x1234) ∧
    decodeInsn 0b010001_00110_00111_1111111111111100#32 = some (.load .w4 6 7 0xFFFC) ∧
    decodeInsn 0b010111_01000_01001_0000000000000101#32 = some (.store .w1 8 9 5) ∧
    decodeInsn 0b011000_00001_00010_101_1111111111110#32 = some (.br .geu 1 2 0x1FFE) ∧
    decodeInsn 0b011110_00000_000000000000000000011#32 = some (.jump 0 3) ∧
    decodeInsn 0b011111_00001_11111_00000_00000000000#32 = some (.jmpr 1 31) ∧
    decodeInsn 0b100000_00001_00010_00000_00000000010#32 = some (.tag .hmake 1 2) ∧
    decodeInsn 0b101000_00001_00010_00011_00100_001001#32 = some (.sou .maccmp 1 2 3 4) ∧
    decodeInsn 0b110000_00001_00010_00011_1011_00100_00#32 = some (.ecall 11 1 2 3 4) ∧
    decodeInsn 0b110001_00001_00000_00000_0010_00000_00#32 = some (.twait 2 1) ∧
    decodeInsn 0b110010_00000_00000_00000_00000000000#32 = some .twall ∧
    decodeInsn 0b110011_00101_00000_00000_00000000000#32 = some (.rand 5) ∧
    decodeInsn 0b110100_00000_00110_00000_0111_00000_00#32 = some (.cinc 7 6) ∧
    decodeInsn 0b110101_00000_00000_00000_00000000000#32 = some .csync ∧
    decodeInsn 0b111110_00000_00111_0000000000000000#32 = some (.release 7) ∧
    decodeInsn 0b111111_00000_00000_00000_00000000000#32 = some .done := by decide +kernel

/-- Words that R158 refuses: an undefined FN, OP and SOP, IMM [15:6] of a shift, COND 7, COND 6 with a register, RS2 of MOV, RD of RELEASE, RK of
TWAIT, a field of DONE, token 12, the reserved bits of ECALL. -/
theorem test_words_refused : ([0b000000_00011_00001_00010_00000000110, 0b001011_00000_00000_0000000000000000,
    0b101000_00001_00010_00011_00100_001011, 0b000101_00100_00101_0000000001000000, 0b011000_00000_00000_111_0000000000001,
    0b011000_00001_00000_110_0000000000001, 0b100000_00001_00010_00001_00000000000, 0b111110_00001_00111_0000000000000000,
    0b110001_00001_00001_00000_0010_00000_00, 0b111111_00000_00001_00000_00000000000, 0b110000_00001_00010_00011_1100_00100_00,
    0b110000_00001_00010_00011_1011_00100_01] : List (BitVec 32)).all (fun w => decodeInsn w == none) = true := by decide +kernel

/-- A term for each check of Instr.wf, which refuses it: a partition, a course, a stream, an entry, a thread, a tile, a token, a core, a vault entry, a
slot, a source, a detector, a pin, a card port, a member, a link, a block. -/
theorem test_wf_refuses : ∀ i ∈ ([.rngDataLoad 64, .sqDoorbell 0 none 256 8 0, .ideKmKeyInstall 4, .descriptorFetch 0 0 8192, .threadAssign 0 1024 true,
    .pinTranslate 1024 [], .engineResult 0 12 0, .engineResult 0 0 3, .tileSelftestDone 64 true, .sha256 0 12, .keyblockExport 0 512 0,
    .coreDispatch 48 [] 0 0, .vaultStaging 4096, .faultedSlotClear 65536, .lookup 0 0 4 0, .lookup 0 0 0 128, .xksSave 512, .repetitionCountFail 2, .coreRail true 4 0 true,
    .tampIn 8 0 true, .cardActivation 2, .memberLost 3, .mortarLinkUp 2 0 0, .blockReleaseTestsDone 64 [] 0, .vfDisable 64,
    .shlk 0 1 2 64, .shrzk 0 1 2 0x8000, .shrsk 0 1 2 64, .br 0 .always 1 0 4, .zeroise 0 1 2 3 4, .ecall 0 12 1 2 3 4, .twait 0 15 1, .cinc 0 12 1,
    .reset ⟨3, 0, 1, 0, 0, 0, 0, true, true, true⟩, .reset ⟨0, 256, 1, 0, 0, 0, 0, true, true, true⟩, .reset ⟨0, 0, 256, 0, 0, 0, 0, true, true, true⟩,
    .prepare ⟨0, 0, 1, 256, 0, 0, 0, true, true, true⟩ 0 0 0 [], .prepare ⟨0, 0, 1, 0, 0, 0, 0, true, true, true⟩ 0 65536 0 []] : List Instr),
    i.wf = false := by decide +kernel

/-- The same commands with operands that exist. -/
theorem test_wf_accepts : ∀ i ∈ ([.rngDataLoad 63, .sqDoorbell 0 none 255 8 0, .threadAssign 8191 1023 true, .engineResult 1023 11 2, .shlk 0 1 2 63,
    .br 0 .always 0 0 4, .br 0 .eq 1 2 4, .zeroise 0 1 2 3 0, .ecall 0 11 1 2 3 4, .reset ⟨2, 255, 255, 255, 0, 0, 0, true, true, true⟩] : List Instr),
    i.wf = true := by decide +kernel

/-- The table spells no command, and the host's placing changes nothing. -/
theorem test_table_word : decodeTableWord 32 0 = none ∧ (∀ n w, State.reset.withFetchWord n w = State.reset) := ⟨rfl, fun _ _ => rfl⟩

end
end

section
/-! Doorbells (R5, R51, R52): one rule for each thing that a doorbell write can do, and the statement about both doorbells. -/

namespace Sys2Proof.Machine

/-! ## The two commands -/

theorem exec_sqDoorbell (n : Nat) (st : Option Nat) (i size v : Nat) (s : State) :
    exec (.sqDoorbell n st i size v) s = onDev s (fun d => d.sqDoorbell n st i size v) := rfl

theorem exec_cqDoorbell (n : Nat) (st : Option Nat) (i size v : Nat) (s : State) :
    exec (.cqDoorbell n st i size v) s = onDev s (fun d => d.cqDoorbell n st i size v) := rfl

/-! ## Distances in a ring -/

/-- From a position inside the ring the distance needs no reduction of that position. -/
theorem ringDist_of_lt {size a : Nat} (b : Nat) (ha : a < size) : ringDist size a b = (b + size - a) % size := by
  rw [ringDist, Nat.mod_eq_of_lt ha]

section
variable {d : Dev} {n : Nat} {st : Option Nat} {i v : Nat}

/-! ## Submission doorbells -/

/-- A write of another width is ignored but for NARROW_WRITE, whatever its value (R5). -/
theorem Dev.sqDoorbell_narrow (hreach : d.reachable n st = true) (hserv : d.serving = true)
    (hown : i < d.rd (Fld.PART_COURSES_SQ_COUNT n)) {size : Nat} (hsize : size ≠ 8) :
    d.sqDoorbell n st i size v = d.narrow := by
  simp [Dev.sqDoorbell, Dev.hasSq, hreach, hserv, hown, hsize]

/-- A 64-bit write to the doorbell of an enabled submission course: the ring's size decides. -/
theorem Dev.sqDoorbell_enabled (hreach : d.reachable n st = true) (hserv : d.serving = true)
    (hown : i < d.rd (Fld.PART_COURSES_SQ_COUNT n)) (hv : v < 65536) (hen : d.rd (Fld.HIU_SQ_STATE_ENABLE n i) = 1) :
    d.sqDoorbell n st i 8 v =
      if d.sqSize n i ≤ v then (if d.bit (Fld.HIU_SQ_STATE_ERR_CODE n i) then d else d.sqError n i 1)
      else d.wr (Fld.HIU_SQ_STATE_TAIL n i) v := by
  simp [Dev.sqDoorbell, Dev.hasSq, hreach, hserv, hown, Dev.bit_one d hen, Nat.not_le.mpr hv]

/-! ## Completion doorbells -/

/-- A completion doorbell's value that is accepted: HEAD moves to it, and FULL clears unless the ring is full still (R52). -/
def Dev.cqTake (d : Dev) (n i v : Nat) : Dev :=
  let d := d.wr (Fld.HIU_CQ_STATE_HEAD n i) v
  if d.cqFull n i then d else d.wr (Fld.HIU_CQ_STATE_FULL n i) 0

/-- A write of another width is ignored but for NARROW_WRITE, whatever its value (R5). -/
theorem Dev.cqDoorbell_narrow (hreach : d.reachable n st = true) (hserv : d.serving = true)
    (hown : i < d.rd (Fld.PART_COURSES_CQ_COUNT n)) {size : Nat} (hsize : size ≠ 8) :
    d.cqDoorbell n st i size v = d.narrow := by
  simp [Dev.cqDoorbell, Dev.hasCq, hreach, hserv, hown, hsize]

/-- A 64-bit write to the doorbell of an enabled completion course whose HEAD stands in the ring: the ring's size, then the distance
from HEAD to TAIL decide. -/
theorem Dev.cqDoorbell_enabled (hreach : d.reachable n st = true) (hserv : d.serving = true)
    (hown : i < d.rd (Fld.PART_COURSES_CQ_COUNT n)) (hv : v < 65536) (hen : d.rd (Fld.HIU_CQ_STATE_ENABLE n i) = 1)
    {size head tail : Nat} (hsize : d.cqSize n i = size) (hhead : d.rd (Fld.HIU_CQ_STATE_HEAD n i) = head)
    (htail : d.rd (Fld.HIU_CQ_STATE_TAIL n i) = tail) (hin : head < size) :
    d.cqDoorbell n st i 8 v =
      if size ≤ v ∨ (tail + size - head) % size < (v + size - head) % size then
        (if d.bit (Fld.HIU_CQ_STATE_ERR_CODE n i) then d else d.cqError n i 1)
      else d.cqTake n i v := by
  simp [Dev.cqDoorbell, Dev.cqTake, Dev.hasCq, hreach, hserv, hown, Dev.bit_one d hen, Nat.not_le.mpr hv,
    hsize, hhead, htail, ringDist_of_lt _ hin]

end

/-! ## The statement -/

/-- Settles O11: the state's outcome is that of the device, and each clause is one branch of the doorbell's rules above. -/
theorem doorbellsMoveTheRings : Obligations.DoorbellsMoveTheRings := by
  rintro s d n st i v rfl hreach hserv
  refine ⟨fun hown => ⟨fun size hsize => ?narrowSq, fun hv hen => ⟨fun hlt => ?tail, fun hge herr => ?errorSq⟩⟩,
    fun hown => ⟨fun size hsize => ?narrowCq, fun size head tail hsize hhead htail hin _ hv hen =>
      ⟨fun hlt hdist => ?head, fun hout herr => ?errorCq⟩⟩⟩
  case narrowSq =>
    rw [exec_sqDoorbell]
    exact onDev_outcome s (Dev.sqDoorbell_narrow hreach hserv hown hsize)
  case tail =>
    rw [exec_sqDoorbell]
    exact onDev_outcome s ((Dev.sqDoorbell_enabled hreach hserv hown hv hen).trans (if_neg (Nat.not_le.mpr hlt)))
  case errorSq =>
    have hclear := Bool.eq_false_iff.mp (Dev.bit_zero _ herr)
    rw [exec_sqDoorbell]
    exact onDev_outcome s ((Dev.sqDoorbell_enabled hreach hserv hown hv hen).trans ((if_pos hge).trans (if_neg hclear)))
  case narrowCq =>
    rw [exec_cqDoorbell]
    exact onDev_outcome s (Dev.cqDoorbell_narrow hreach hserv hown hsize)
  case head =>
    have hrule := Dev.cqDoorbell_enabled (st := st) hreach hserv hown hv hen hsize.symm hhead.symm htail.symm hin
    have hmoves : ¬ (size ≤ v ∨ (tail + size - head) % size < (v + size - head) % size) := by omega
    rw [exec_cqDoorbell]
    exact onDev_outcome s (hrule.trans (if_neg hmoves))
  case errorCq =>
    have hclear := Bool.eq_false_iff.mp (Dev.bit_zero _ herr)
    have hrule := Dev.cqDoorbell_enabled (st := st) hreach hserv hown hv hen hsize.symm hhead.symm htail.symm hin
    rw [exec_cqDoorbell]
    exact onDev_outcome s (hrule.trans ((if_pos hout).trans (if_neg hclear)))

end Sys2Proof.Machine
end

section
/-! Snapshots, telemetry and the PCIe link (R22, R28, R402, R424 to R426, R432): what one sample, one capture and one training do, and
the statement about the four commands. -/

namespace Sys2Proof.Machine

/-! ## The commands -/

theorem exec_snapshotCapture (v : Via) (w : Word) (s : State) :
    exec (.snapshotCapture v w) s = onChip s (fun c => c.snapshot v w) := rfl

theorem exec_telemetrySample (temps mvs devs counts : List (BitVec 16)) (s : State) :
    exec (.telemetrySample temps mvs devs counts) s = onDev s (fun d => d.telemetry temps mvs devs counts) := rfl

theorem exec_pcieLinkUp (width rate : Nat) (flit : Bool) (s : State) :
    exec (.pcieLinkUp width rate flit) s = onDev s (fun d => d.pcieUp width rate flit) := rfl

theorem exec_pcieLinkDown (s : State) : exec .pcieLinkDown s = onDev s (fun d => d.pcieDown) := rfl

/-! ## Effects that leave the state as it is -/

theorem onDev_unchanged {s : State} {f : Dev → Dev} (h : f s.chip.dev = s.chip.dev) : onDev s f = .next s := by
  rw [onDev_eq, State.onDev, Chip.onDev, h]

theorem onChip_unchanged {s : State} {f : Chip → Chip} (h : f s.chip = s.chip) : onChip s f = .next s := by
  rw [onChip_eq, h]

/-! ## The snapshot -/

/-- The words `ws` written to the snapshot from word `n` on. -/
def Dev.putSnap (d : Dev) (ws : List Word) (n : Nat) : Dev :=
  (ws.zipIdx n).foldl (fun x y => x.setReg (Fld.PLT_SNAP_WORD y.2).reg y.1) d

theorem Dev.putSnap_cons (d : Dev) (a : Word) (ws : List Word) (n : Nat) :
    d.putSnap (a :: ws) n = (d.setReg (Fld.PLT_SNAP_WORD n).reg a).putSnap ws (n + 1) := rfl

/-- Counting the words while they are written gives each its position. -/
theorem foldl_snapWords (ws : List Word) (d : Dev) (n : Nat) :
    (ws.foldl (fun (x : Dev × Nat) v => (x.1.setReg (Fld.PLT_SNAP_WORD x.2).reg v, x.2 + 1)) (d, n)).1 = d.putSnap ws n := by
  induction ws generalizing d n with
  | nil => rfl
  | cons a ws ih => exact ih _ _

theorem snapWord_reg_ne {j k : Nat} (h : j ≠ k) : (Fld.PLT_SNAP_WORD j).reg ≠ (Fld.PLT_SNAP_WORD k).reg := by
  simp only [Fld.PLT_SNAP_WORD]; omega

/-- Words before the first one written stay. -/
theorem Dev.reg_putSnap_below (ws : List Word) (d : Dev) {n j : Nat} (h : j < n) :
    (d.putSnap ws n).reg (Fld.PLT_SNAP_WORD j).reg = d.reg (Fld.PLT_SNAP_WORD j).reg := by
  induction ws generalizing d n with
  | nil => rfl
  | cons a ws ih =>
    rw [Dev.putSnap_cons, ih _ (Nat.lt_succ_of_lt h), Dev.reg_setReg_ne _ _ (snapWord_reg_ne (Nat.ne_of_lt h))]

/-- A word that was written reads as it was written: no later one lies at its register. -/
theorem Dev.reg_putSnap (ws : List Word) (d : Dev) (n : Nat) {k : Nat} {a : Word} (h : ws[k]? = some a) :
    (d.putSnap ws n).reg (Fld.PLT_SNAP_WORD (n + k)).reg = a := by
  induction ws generalizing d n k with
  | nil => simp at h
  | cons b ws ih =>
    rw [Dev.putSnap_cons]
    cases k with
    | zero =>
      obtain rfl : b = a := by simpa using h
      rw [Nat.add_zero n, Dev.reg_putSnap_below _ _ (Nat.lt_add_one n), Dev.reg_setReg_same]
    | succ k =>
      have hk := ih (d.setReg (Fld.PLT_SNAP_WORD n).reg b) (n + 1) (k := k) (by simpa using h)
      rwa [Nat.succ_add_eq_add_succ] at hk

/-- A write without CAPTURE does nothing (R426). -/
theorem Chip.snapshot_idle (c : Chip) (v : Via) {w : Word} (hw : w.getLsbD 0 = false) : c.snapshot v w = c := by
  simp only [Chip.snapshot, hw, Bool.not_false, Bool.or_true, if_true]

/-- A capture writes the sequence number and the listed registers, all read before it, to the snapshot's words (R426). -/
theorem Chip.snapshot_capture (c : Chip) {v : Via} {w : Word}
    (hreach : c.dev.pltReached v (pltOff Fld.PLT_SNAP_CTRL_CAPTURE) = true) (hw : w.getLsbD 0 = true) :
    c.snapshot v w = c.onDev (fun d => d.putSnap (c.dev.seq :: snapRegs.map (fun a => c.readReg a false)) 0) := by
  simp only [Chip.snapshot, hreach, hw, Bool.not_true, Bool.or_false, Bool.false_eq_true, if_false, foldl_snapWords]

/-! ## Telemetry -/

section
variable {d : Dev} {temps mvs devs counts : List (BitVec 16)}

/-- A reading beyond its threshold sets its status bit and asks for the in-band interrupt of cause 1 (R424, R429). -/
theorem Dev.telemWarn_decide (x : Dev) (f : Fld) (p : Prop) [Decidable p] :
    x.telemWarn f (decide p) = if p then (x.wr f 1).ibi 1 else x := by
  by_cases hp : p <;> simp [Dev.telemWarn, hp]

/-- The widest deviation of a rail after another sample (R432). -/
theorem widest_some (o : Option Int) (v : Int) :
    widest o (some v) = match o with
      | some x => if x.natAbs < v.natAbs then some v else some x
      | none => some v := by
  cases o <;> rfl

/-- One temperature monitor: its register, the hottest sample of the period, the warning (R424, R432). -/
theorem Dev.tempSample_eq (x : Dev) (i : Nat) (v : BitVec 16) :
    x.tempSample i v =
      (let x1 : Dev := { x.wr (Fld.PLT_TEMP_TJ i) v.toNat with
         plt := { x.plt with hottest := some (match x.plt.hottest with | some h => max h v.toInt | none => v.toInt) } }
       if (16 * x1.rd Fld.PLT_TELEM_WARN_TEMP_C : Nat) < v.toInt then (x1.wr Fld.PLT_TELEM_STATUS_TEMP 1).ibi 1 else x1) :=
  Dev.telemWarn_decide _ _ _

/-- One voltage monitor: its two fields, the widest deviation of the period, the warning (R425, R432). -/
theorem Dev.voltSample_eq (x : Dev) (i : Nat) (mv dev : BitVec 16) :
    x.voltSample i mv dev =
      (let x1 := (x.wr (Fld.PLT_VOLT_MV i) mv.toNat).wr (Fld.PLT_VOLT_DEV i) dev.toNat
       let x2 : Dev := { x1 with plt := { x1.plt with
         devs := tput (fun _ => none) x1.plt.devs i (match tget (fun _ => none) x1.plt.devs i with
           | some o => if o.natAbs < dev.toInt.natAbs then some dev.toInt else some o
           | none => some dev.toInt) } }
       if 10 * x2.rd Fld.PLT_TELEM_WARN_VOLT_PCT < dev.toInt.natAbs then (x2.wr Fld.PLT_TELEM_STATUS_VOLT 1).ibi 1 else x2) := by
  simp only [Dev.voltSample, tmod, widest_some]
  exact Dev.telemWarn_decide _ _ _

theorem Dev.telemetry_off (h : d.plt.mainOn = false ∨ d.plt.por = true) : d.telemetry temps mvs devs counts = d := by
  rcases h with h | h <;> simp [Dev.telemetry, h]

/-- With power every monitor is sampled, `temp` and `volt` being what one temperature and one voltage monitor do. -/
theorem Dev.telemetry_on {temp volt : Dev → Nat → Dev} (hmain : d.plt.mainOn = true) (hpor : d.plt.por = false)
    (htemp : ∀ x i, x.tempSample i (temps.getD i 0) = temp x i)
    (hvolt : ∀ x i, x.voltSample i (mvs.getD i 0) (devs.getD i 0) = volt x i) :
    d.telemetry temps mvs devs counts =
      (List.range 32).foldl (fun x i => x.wr (Fld.PLT_PROC_COUNT i) (counts.getD i 0).toNat)
        ((List.range 24).foldl volt ((List.range 16).foldl temp d)) := by
  simp only [Dev.telemetry, hmain, hpor, htemp, hvolt, Bool.not_true, Bool.or_false, Bool.false_eq_true, if_false]

end

/-! ## The link -/

section
variable {d : Dev}

/-- The PHY runs with main power, outside a cold reset before step 4 (R402). -/
theorem Dev.phyOn_iff : d.phyOn = true ↔
    d.plt.mainOn = true ∧ d.plt.por = false ∧ (d.plt.reach ≠ 2 ∨ 4 ≤ d.rd Fld.PLT_RESET_STATUS_STEP) := by
  simp only [Dev.phyOn, Bool.and_eq_true, Bool.not_eq_true', Bool.and_eq_false_iff, beq_eq_false_iff_ne, decide_eq_false_iff_not,
    Nat.not_lt, and_assoc]
  rfl

theorem Dev.not_phyOn
    (hoff : d.plt.mainOn = false ∨ d.plt.por = true ∨ (d.plt.reach = 2 ∧ d.rd Fld.PLT_RESET_STATUS_STEP < 4)) : ¬ d.phyOn = true := by
  intro hphy
  obtain ⟨hmain, hpor, hstep⟩ := Dev.phyOn_iff.mp hphy
  rcases hoff with h | h | ⟨hcold, hearly⟩
  · exact Bool.false_ne_true (h.symm.trans hmain)
  · exact Bool.false_ne_true (hpor.symm.trans h)
  · omega

theorem Dev.pcieUp_on (hphy : d.phyOn = true) (width rate : Nat) (flit : Bool) :
    d.pcieUp width rate flit = (d.linkUp width rate flit).lifeAdd 541 1 := if_pos hphy

theorem Dev.pcieDown_on (hphy : d.phyOn = true) : d.pcieDown = (d.linkUp 0 0 false).lifeAdd 542 1 := if_pos hphy

theorem Dev.pcieUp_off (hphy : ¬ d.phyOn = true) (width rate : Nat) (flit : Bool) : d.pcieUp width rate flit = d := if_neg hphy

theorem Dev.pcieDown_off (hphy : ¬ d.phyOn = true) : d.pcieDown = d := if_neg hphy

end

/-! ## The statement -/

/-- Settles O59: each clause is one case of the rules above. -/
theorem snapshotTelemetryAndPcieLink : Obligations.SnapshotTelemetryAndPcieLink := by
  rintro s d rfl
  refine ⟨fun v w hreach => ⟨fun hw => ?idle, fun hw words hwords => ?capture⟩,
    fun temps mvs devs counts => ⟨fun hoff => ?unpowered, fun hmain hpor => ?sample⟩,
    fun hmain hpor hstep => ⟨fun width rate flit => ?up, ?down⟩, fun hoff => ⟨fun width rate flit => ?noUp, ?noDown⟩⟩
  case idle =>
    rw [exec_snapshotCapture]
    exact onChip_unchanged (Chip.snapshot_idle _ v hw)
  case capture =>
    subst hwords
    have hexec := (exec_snapshotCapture v w s).trans (onChip_outcome s (Chip.snapshot_capture s.chip hreach hw))
    refine ⟨hexec, fun t ht k a _ hk => ?_⟩
    obtain rfl := Host.Outcome.next.inj (hexec.symm.trans ht)
    simpa using Dev.reg_putSnap _ s.chip.dev 0 hk
  case unpowered =>
    rw [exec_telemetrySample]
    exact onDev_unchanged (Dev.telemetry_off hoff)
  case sample =>
    rw [exec_telemetrySample]
    exact onDev_outcome s (Dev.telemetry_on hmain hpor (fun x i => x.tempSample_eq i _) (fun x i => x.voltSample_eq i _ _))
  case up =>
    rw [exec_pcieLinkUp]
    exact onDev_outcome s (Dev.pcieUp_on (Dev.phyOn_iff.mpr ⟨hmain, hpor, hstep⟩) width rate flit)
  case down =>
    rw [exec_pcieLinkDown]
    exact onDev_outcome s (Dev.pcieDown_on (Dev.phyOn_iff.mpr ⟨hmain, hpor, hstep⟩))
  case noUp =>
    rw [exec_pcieLinkUp]
    exact onDev_unchanged (Dev.pcieUp_off (Dev.not_phyOn hoff) width rate flit)
  case noDown =>
    rw [exec_pcieLinkDown]
    exact onDev_unchanged (Dev.pcieDown_off (Dev.not_phyOn hoff))

end Sys2Proof.Machine
end

section
/-! The non-volatile store (R21, R281, R284 to R299, R420 to R423): the arbiter's turns, the end of an operation, and the statement about
the store's commands. -/

namespace Sys2Proof.Machine

/-! ## The commands -/

theorem exec_nvsRecordWrite (k : Nat) (s : State) : exec (.nvsRecordWrite k) s = onDev s (fun d => d.nvsRun NvOp.isRecord k) := rfl

theorem exec_counterIncrement (k : Nat) (s : State) :
    exec (.counterIncrement k) s = onDev s (fun d => d.nvsRun NvOp.isIncrement k) := rfl

theorem exec_counterAdd (k : Nat) (s : State) : exec (.counterAdd k) s = onDev s (fun d => d.nvsRun NvOp.isAdd k) := rfl

theorem exec_counterRaise (k : Nat) (s : State) : exec (.counterRaise k) s = onDev s (fun d => d.nvsRun NvOp.isRaise k) := rfl

theorem exec_nvsOperationDone (s : State) : exec .nvsOperationDone s = onDev s (fun d => d.nvsDone) := rfl

theorem exec_journalReclaim (s : State) : exec .journalReclaim s = onDev s (fun d => d.reclaim) := rfl

theorem exec_nvsJournalRecovery (s : State) : exec .nvsJournalRecovery s = onDev s (fun d => d.recovery) := rfl

theorem exec_lifetimePeriod (s : State) : exec .lifetimePeriod s = onDev s (fun d => d.lifetime) := rfl

theorem exec_mramScrub (n : Nat) (bad : List Nat) (s : State) :
    exec (.mramScrub n bad) s = onDev s (fun d => d.mramScrub n bad) := rfl

theorem exec_sramScrubPass (xs : List ScrubHit) (s : State) :
    exec (.sramScrubPass xs) s = onChip s (fun c => c.sramScrub xs) := rfl

section
variable {d : Dev} {o : NvOp}

/-! ## The arbiter's turns (R21, R281) -/

/-- With nothing under way the next operation is granted, if it is of the kind sought, and leaves those that wait. -/
theorem Dev.nvsRun_grant {sel : NvOp → Bool} (k : Nat) (hfree : d.nvs.frozen = false) (hsel : sel o = true) (hcur : d.nvs.cur = none)
    (hnext : d.nvsNext = some o) :
    d.nvsRun sel k = { d with nvs := { d.nvs with
      waiting := d.nvs.waiting.filter (fun w => w.id != o.id), cur := some (o, min k (d.opWords o.kind - 1)) } } := by
  simp only [Dev.nvsRun, hfree, hcur, hnext, hsel, Bool.false_eq_true, if_false, if_true, Dev.nvsProgress, Nat.zero_max]
  rfl

/-- The operation under way goes on; its last word is left to its end, and no word is taken back. -/
theorem Dev.nvsRun_progress {sel : NvOp → Bool} (k : Nat) {n : Nat} (hfree : d.nvs.frozen = false) (hsel : sel o = true)
    (hcur : d.nvs.cur = some (o, n)) :
    d.nvsRun sel k = { d with nvs := { d.nvs with cur := some (o, max n (min k (d.opWords o.kind - 1))) } } := by
  simp only [Dev.nvsRun, hfree, hcur, hsel, Bool.false_eq_true, if_false, if_true, Dev.nvsProgress]

/-! ## The end of an operation (R286, R294, R295) -/

/-- The device with nothing being programmed. -/
abbrev Dev.nvsIdle (d : Dev) : Dev := { d with nvs := { d.nvs with cur := none } }

theorem Dev.nvsDone_cur {n : Nat} (hfree : d.nvs.frozen = false) (hcur : d.nvs.cur = some (o, n)) :
    d.nvsDone = d.nvsIdle.nvsFinish o := by
  rw [Dev.nvsDone, hcur]
  exact if_neg (Bool.eq_false_iff.mp hfree)

theorem Dev.nvsFinish_record {r : Rec} (hkind : o.kind = .record r) : d.nvsFinish o = d.recordDone r := by
  simp only [Dev.nvsFinish, hkind]

theorem Dev.nvsFinish_increment {k : Nat} (hkind : o.kind = .increment k) :
    d.nvsFinish o = (d.counterDone k (d.blk k).increment).commitDurable o := by
  simp only [Dev.nvsFinish, hkind]

theorem Dev.nvsFinish_add {k v : Nat} (hkind : o.kind = .add k v) : d.nvsFinish o = d.counterDone k ((d.blk k).add v) := by
  simp only [Dev.nvsFinish, hkind]

theorem Dev.nvsFinish_raise {k v : Nat} (hkind : o.kind = .raise k v) : d.nvsFinish o = d.counterDone k ((d.blk k).raise v) := by
  simp only [Dev.nvsFinish, hkind]

/-- A journal record that ends: the newest of its identity, with the next SEQ, at the write point, which moves past it (R286, R288). -/
theorem Dev.recordDone_journal {r : Rec} (hregion : r.region = 0) :
    d.recordDone r =
      (let seq := d.rd Fld.NVS_RECORD_SEQ_SEQ + 1
       let r1 : Rec := { r with seq := seq, pos := d.place r, valid := true, test := d.bit Fld.VLT_STATUS_TEST_ROOT }
       let al := if r.type = 5 then d.nvs.alarmRecs ++ [r.payload.take 16] else d.nvs.alarmRecs
       let d1 : Dev := { d with nvs := { d.nvs with recs := d.nvs.recs ++ [r1], alarmRecs := al } }
       (((d1.wr Fld.NVS_RECORD_SEQ_SEQ seq).inc Fld.NVS_COUNTS_RECORDS 1).wr Fld.NVS_JOURNAL_WRITE_POINT
         ((r1.pos + r1.length) % 0x100000)).journalLive) := by
  simp [Dev.recordDone, hregion]

/-! ## Reclaiming, recovery, the lifetime period (R288, R291, R299) -/

theorem Dev.reclaim_on (hrec : d.bit Fld.NVS_STATUS_RECOVERED = true) (hfree : d.nvs.frozen = false) (herase : d.tmp.erasing = false) :
    d.reclaim =
      (let d0 := d.nvsAhead
       let chunk := d0.oldestChunk d0.reclaimed
       let kept := chunk.filter d0.recKept
       let d1 := kept.foldl (fun x r => x.recordDone r) d0
       let d2 := (kept.filter (fun r => r.type == 1)).foldl (fun x r => x.writeCopy r.subject r.payload) d1
       { d2 with nvs := { d2.nvs with recs := d2.nvs.recs.filter (fun r => !chunk.contains r) } }.journalLive) := by
  simp only [Dev.reclaim, hrec, hfree, herase, Bool.not_true, Bool.or_false, Bool.false_eq_true, if_false]

theorem Dev.recovery_on (hstep : d.atStep 7 = true) (hfree : d.nvs.frozen = false) :
    d.recovery =
      (let d1 := d.nvsRecover.loadImages d.plt.fresh
       let d2 : Dev := { d1 with plt := { d1.plt with fresh := false }, ciph := { d1.ciph with answered := d1.grantSeq } }
       d2.imageEpochs.countResets.startChecks.setStep 8) := by
  simp only [Dev.recovery, hstep, hfree, Bool.not_true, Bool.or_false, Bool.false_eq_true, if_false]

end

/-! ## Scrubbing (R420, R423) -/

theorem Dev.mramScrub_on {d : Dev} (n : Nat) (bad : List Nat) (hrec : d.bit Fld.NVS_STATUS_RECOVERED = true) :
    d.mramScrub n bad =
      bad.foldl (fun x a => x.nvsUncorr a 2) (if n = 0 then d else (d.inc Fld.NVS_COUNTS_CORRECTED n).lifeAdd 282 n) := by
  simp only [Dev.mramScrub, hrec, Bool.not_true, Bool.false_eq_true, if_false]

theorem Chip.sramScrub_on {c : Chip} (xs : List ScrubHit) (hmain : c.dev.plt.mainOn = true) (hpor : c.dev.plt.por = false) :
    c.sramScrub xs = xs.foldl Chip.scrubHit c := by
  simp only [Chip.sramScrub, hmain, hpor, Bool.not_true, Bool.or_false, Bool.false_eq_true, if_false]

/-! ## The statement -/

/-- The four commands by which the arbiter runs an operation, each with the kind that it runs. -/
theorem exec_nvsRun {k : Nat} {x : (NvOp → Bool) × Instr}
    (hx : x ∈ [(NvOp.isRecord, Instr.nvsRecordWrite k), (NvOp.isIncrement, .counterIncrement k), (NvOp.isAdd, .counterAdd k),
      (NvOp.isRaise, .counterRaise k)]) (s : State) :
    exec x.2 s = onDev s (fun d => d.nvsRun x.1 k) := by
  simp only [List.mem_cons, List.not_mem_nil, or_false] at hx
  obtain rfl | rfl | rfl | rfl := hx
  · exact exec_nvsRecordWrite k s
  · exact exec_counterIncrement k s
  · exact exec_counterAdd k s
  · exact exec_counterRaise k s

/-- Settles O41: each clause is one rule of the store above, taken from the device to the state. -/
theorem storeOperationsRunToTheirEnd : Obligations.StoreOperationsRunToTheirEnd := by
  rintro s d rfl
  refine ⟨fun hfree k x hx o hsel => ⟨fun hcur hnext => ?grant, fun n hcur => ?progress⟩,
    fun o n hfree hcur => ⟨fun r hkind hregion => ?journal, fun r hkind _ => ?record, fun k hkind => ?increment, fun k v hkind => ?add,
      fun k v hkind => ?raise⟩,
    fun hrec hfree herase => ?reclaim, fun hstep hfree => ?recovery, fun hrec => ?lifetime, fun n bad hrec => ?mram,
    fun hmain hpor xs => ?sram⟩
  case grant =>
    rw [exec_nvsRun hx]
    exact onDev_outcome s (Dev.nvsRun_grant k hfree hsel hcur hnext)
  case progress =>
    rw [exec_nvsRun hx]
    exact onDev_outcome s (Dev.nvsRun_progress k hfree hsel hcur)
  case journal =>
    rw [exec_nvsOperationDone]
    exact onDev_outcome s ((Dev.nvsDone_cur hfree hcur).trans ((Dev.nvsFinish_record hkind).trans (Dev.recordDone_journal hregion)))
  case record =>
    rw [exec_nvsOperationDone]
    exact onDev_outcome s ((Dev.nvsDone_cur hfree hcur).trans (Dev.nvsFinish_record hkind))
  case increment =>
    rw [exec_nvsOperationDone]
    exact onDev_outcome s ((Dev.nvsDone_cur hfree hcur).trans (Dev.nvsFinish_increment hkind))
  case add =>
    rw [exec_nvsOperationDone]
    exact onDev_outcome s ((Dev.nvsDone_cur hfree hcur).trans (Dev.nvsFinish_add hkind))
  case raise =>
    rw [exec_nvsOperationDone]
    exact onDev_outcome s ((Dev.nvsDone_cur hfree hcur).trans (Dev.nvsFinish_raise hkind))
  case reclaim =>
    rw [exec_journalReclaim]
    exact onDev_outcome s (Dev.reclaim_on hrec hfree herase)
  case recovery =>
    rw [exec_nvsJournalRecovery]
    exact onDev_outcome s (Dev.recovery_on hstep hfree)
  case lifetime =>
    rw [exec_lifetimePeriod]
    exact onDev_outcome s (if_neg (by simp [hrec]))
  case mram =>
    rw [exec_mramScrub]
    exact onDev_outcome s (Dev.mramScrub_on n bad hrec)
  case sram =>
    rw [exec_sramScrubPass, onChip_eq, Chip.sramScrub_on xs hmain hpor]

end Sys2Proof.Machine
end

section
/-! Courses (R50, R51, R63): what enabling, disabling, pausing a course and enabling its interrupts do, and the statement about the
six commands. -/

namespace Sys2Proof.Machine

/-! ## Fields of one bit -/

theorem Dev.rd_lt (d : Dev) (f : Fld) : d.rd f < 2 ^ f.width := (BitVec.extractLsb' f.lo f.width (d.reg f.reg)).isLt

/-- A field of one bit is set exactly when it reads 1. -/
theorem Dev.bit_iff_one (d : Dev) {f : Fld} (hf : f.width = 1) : d.bit f = true ↔ d.rd f = 1 := by
  have hlt := d.rd_lt f
  rw [hf] at hlt
  simp only [Dev.bit, bne_iff_ne]
  omega

/-! ## The commands -/

theorem exec_sqEnable (n : Nat) (st : Option Nat) (i : Nat) (s : State) :
    exec (.sqEnable n st i) s = onDev s (fun d => d.sqEnable n st i) := rfl

theorem exec_cqEnable (n : Nat) (st : Option Nat) (i : Nat) (s : State) :
    exec (.cqEnable n st i) s = onDev s (fun d => d.cqEnable n st i) := rfl

theorem exec_sqDisable (n : Nat) (st : Option Nat) (i : Nat) (s : State) :
    exec (.sqDisable n st i) s = onDev s (fun d => d.sqDisable n st i) := rfl

theorem exec_cqDisable (n : Nat) (st : Option Nat) (i : Nat) (s : State) :
    exec (.cqDisable n st i) s = onDev s (fun d => d.cqDisable n st i) := rfl

theorem exec_sqPause (n : Nat) (st : Option Nat) (i : Nat) (on : Bool) (s : State) :
    exec (.sqPause n st i on) s = onDev s (fun d => d.sqPause n st i on) := rfl

theorem exec_intEnable (n : Nat) (st : Option Nat) (i : Nat) (on : Bool) (s : State) :
    exec (.intEnable n st i on) s = onDev s (fun d => d.intEnable n st i on) := rfl

section
variable {d : Dev} {n : Nat} {st : Option Nat} {i : Nat}

/-! ## Enabling (R50) -/

/-- ENABLE of a disabled submission course: its positions are cleared, then the conditions of R50 decide. -/
theorem Dev.sqEnable_disabled (hbar : d.bar0 n st 0x1000 = true) (hown : i < d.rd (Fld.PART_COURSES_SQ_COUNT n))
    (hoff : d.rd (Fld.HIU_SQ_STATE_ENABLE n i) = 0) :
    d.sqEnable n st i = if (d.sqClear n i).sqReady n i then (d.sqClear n i).wr (Fld.HIU_SQ_STATE_ENABLE n i) 1
      else (d.sqClear n i).sqError n i 3 := by
  simp [Dev.sqEnable, Dev.hasSq, hbar, hown, Dev.bit_zero d hoff]

/-- ENABLE of a disabled completion course: its positions are cleared and PHASE set, then the conditions of R50 decide. -/
theorem Dev.cqEnable_disabled (hbar : d.bar0 n st 0x3000 = true) (hown : i < d.rd (Fld.PART_COURSES_CQ_COUNT n))
    (hoff : d.rd (Fld.HIU_CQ_STATE_ENABLE n i) = 0) :
    d.cqEnable n st i = if (d.cqClear n i).cqReady n i then (d.cqClear n i).wr (Fld.HIU_CQ_STATE_ENABLE n i) 1
      else (d.cqClear n i).cqError n i 3 := by
  simp [Dev.cqEnable, Dev.hasCq, hbar, hown, Dev.bit_zero d hoff]

/-! ## Disabling and pausing (R50, R52) -/

theorem Dev.sqDisable_enabled (hbar : d.bar0 n st 0x1000 = true) (hen : d.rd (Fld.HIU_SQ_STATE_ENABLE n i) = 1) :
    d.sqDisable n st i = (d.wr (Fld.HIU_SQ_STATE_ENABLE n i) 0).boundary (Fld.HIU_SQ_CFG_WEIGHT n i).reg := by
  simp [Dev.sqDisable, hbar, Dev.bit_one d hen]

/-- The completion course is in use: some submission course of the partition is enabled and names it. -/
theorem Dev.cqNamed_iff : d.cqNamed n i = true ↔
    ∃ k < d.rd (Fld.PART_COURSES_SQ_COUNT n), d.rd (Fld.HIU_SQ_STATE_ENABLE n k) = 1 ∧ d.rd (Fld.HIU_SQ_CFG_CQ n k) = i := by
  simp only [Dev.cqNamed, List.any_eq_true, List.mem_range, Bool.and_eq_true, beq_iff_eq, Dev.bit_iff_one d (f := Fld.HIU_SQ_STATE_ENABLE n _) rfl]

/-- No enabled submission course names it, said of each of them. -/
theorem Dev.not_cqNamed (h : ∀ k < d.rd (Fld.PART_COURSES_SQ_COUNT n),
    d.rd (Fld.HIU_SQ_STATE_ENABLE n k) = 0 ∨ d.rd (Fld.HIU_SQ_CFG_CQ n k) ≠ i) : ¬ d.cqNamed n i = true := by
  rw [Dev.cqNamed_iff]
  rintro ⟨k, hk, hen, hcq⟩
  rcases h k hk with hoff | hother
  · omega
  · exact hother hcq

/-- The completion course stops: what waits there is dropped, and pending coalescing values take effect (R50, R416). -/
abbrev Dev.cqStop (d : Dev) (n i : Nat) : Dev :=
  (((((d.cq n i).waiting.foldl Dev.dropCmd d).setCq n i Cq.reset).wr (Fld.HIU_CQ_STATE_ENABLE n i) 0).wr
    (Fld.HIU_CQ_STATE_FULL n i) 0).boundary (Fld.HIU_CQ_CFG_COAL_COUNT n i).reg

theorem Dev.cqDisable_enabled (hbar : d.bar0 n st 0x3000 = true) (hen : d.rd (Fld.HIU_CQ_STATE_ENABLE n i) = 1) :
    d.cqDisable n st i = if d.cqNamed n i then d.wr (Fld.HIU_CQ_STATE_CFG_REJECT n i) 1 else d.cqStop n i := by
  simp only [Dev.cqDisable, hbar, Dev.bit_one d hen, Bool.not_true, Bool.or_false, Bool.false_eq_true, if_false]

theorem Dev.sqPause_owned (on : Bool) (hbar : d.bar0 n st 0x1000 = true) (hown : i < d.rd (Fld.PART_COURSES_SQ_COUNT n)) :
    d.sqPause n st i on = d.wr (Fld.HIU_SQ_STATE_PAUSE n i) (if on then 1 else 0) := by
  simp [Dev.sqPause, Dev.hasSq, hbar, hown, Bool.toNat, Bool.cond_eq_ite]

/-! ## Interrupts (R63) -/

/-- INT_EN written and coalescing begun afresh. -/
abbrev Dev.intSet (d : Dev) (n i : Nat) (on : Bool) : Dev :=
  (d.wr (Fld.HIU_CQ_CFG_INT_EN n i) (if on then 1 else 0)).setCq n i ⟨(d.cq n i).waiting, 0, false⟩

/-- A change of INT_EN: when it is set with entries not returned, the course's message goes out. -/
theorem Dev.intEnable_change (on : Bool) (hbar : d.bar0 n st 0x3000 = true) (hown : i < d.rd (Fld.PART_COURSES_CQ_COUNT n))
    (hint : d.rd (Fld.HIU_CQ_CFG_INT_EN n i) = if on then 0 else 1) :
    d.intEnable n st i on =
      if on = true ∧ (d.intSet n i on).rd (Fld.HIU_CQ_STATE_HEAD n i) ≠ (d.intSet n i on).rd (Fld.HIU_CQ_STATE_TAIL n i) then
        (d.intSet n i on).cqMessage n i
      else d.intSet n i on := by
  have hbit : d.bit (Fld.HIU_CQ_CFG_INT_EN n i) = !on := Dev.bit_ite d (by cases on <;> simpa using hint)
  have hnat : on.toNat = if on then 1 else 0 := by cases on <;> rfl
  simp [Dev.intEnable, Dev.hasCq, hbar, hown, hbit, hnat]

end

/-! ## The statement -/

/-- Settles O12: each clause is one branch of the rules above, taken from the device to the state. -/
theorem coursesEnableDisablePause : Obligations.CoursesEnableDisablePause := by
  rintro s d n st i rfl -
  refine ⟨fun d' hbar hown hoff hd' => ?sqEnable, fun d' hbar hown hoff hd' => ?cqEnable, fun hbar hen => ?sqDisable,
    fun hbar hen => ⟨fun hnamed => ?cqReject, fun hfree => ?cqStop⟩, fun on hbar hown => ?sqPause,
    fun on d' hbar hown hint hd' => ?intEnable⟩
  case sqEnable =>
    obtain rfl : d' = s.chip.dev.sqClear n i := hd'
    have hrule := Dev.sqEnable_disabled hbar hown hoff
    rw [exec_sqEnable]
    exact ⟨fun hready => onDev_outcome s (hrule.trans (if_pos hready)),
      fun hfail => onDev_outcome s (hrule.trans (if_neg (Bool.eq_false_iff.mp hfail)))⟩
  case cqEnable =>
    obtain rfl : d' = s.chip.dev.cqClear n i := hd'
    have hrule := Dev.cqEnable_disabled hbar hown hoff
    rw [exec_cqEnable]
    exact ⟨fun hready => onDev_outcome s (hrule.trans (if_pos hready)),
      fun hfail => onDev_outcome s (hrule.trans (if_neg (Bool.eq_false_iff.mp hfail)))⟩
  case sqDisable =>
    rw [exec_sqDisable]
    exact onDev_outcome s (Dev.sqDisable_enabled hbar hen)
  case cqReject =>
    rw [exec_cqDisable]
    exact onDev_outcome s ((Dev.cqDisable_enabled hbar hen).trans (if_pos (Dev.cqNamed_iff.mpr hnamed)))
  case cqStop =>
    rw [exec_cqDisable]
    exact onDev_outcome s ((Dev.cqDisable_enabled hbar hen).trans (if_neg (Dev.not_cqNamed hfree)))
  case sqPause =>
    rw [exec_sqPause]
    exact onDev_outcome s (Dev.sqPause_owned on hbar hown)
  case intEnable =>
    obtain rfl : d' = s.chip.dev.intSet n i on := hd'
    have hrule := Dev.intEnable_change on hbar hown hint
    rw [exec_intEnable]
    refine ⟨fun hquiet => onDev_outcome s (hrule.trans (if_neg ?_)), fun hon hleft => onDev_outcome s (hrule.trans (if_pos ⟨hon, hleft⟩))⟩
    rintro ⟨hon, hleft⟩
    rcases hquiet with hoff | heq
    · exact Bool.false_ne_true (hoff.symm.trans hon)
    · exact hleft heq

end Sys2Proof.Machine
end

section
/-! Function-level resets (R34, R36, R46, R399): what one reset clears and what it leaves, the events that cause one, and the statement
about them. -/

namespace Sys2Proof.Machine

/-! ## The commands -/

theorem exec_partitionReset (st : Option Nat) (n : Nat) (s : State) :
    exec (.partitionReset st n) s = onDev s (fun d => d.partitionReset st n) := rfl

theorem exec_vfFlr (n : Nat) (s : State) : exec (.vfFlr n) s = onDev s (fun d => d.vfFlr n) := rfl

theorem exec_vfDisable (num : Nat) (s : State) : exec (.vfDisable num) s = onDev s (fun d => d.vfDisable num) := rfl

theorem exec_ideStreamInsecure (k : Nat) (check : Bool) (s : State) :
    exec (.ideStreamInsecure (k, check)) s = onDev s (fun d => d.ideLost k check) := rfl

theorem exec_functionLevelResetEnd (n : Nat) (s : State) :
    exec (.functionLevelResetEnd n) s = onDev s (fun d => d.flrEnd n) := rfl

/-! ## Registers apart from one another -/

theorem Dev.reg_wr_ne (d : Dev) {f : Fld} (v : Nat) {a : Nat} (h : a ≠ f.reg) : (d.wr f v).reg a = d.reg a :=
  Dev.reg_setReg_ne _ _ h

theorem Dev.reg_eventAt_ne (d : Dev) {f : Fld} {a : Nat} (h : a ≠ f.reg) : (d.eventAt f).reg a = d.reg a :=
  Dev.reg_wr_ne d.event _ h

/-- Two devices whose register reads alike have the same field there. -/
theorem Dev.rd_congr {d d' : Dev} {f : Fld} (h : d'.reg f.reg = d.reg f.reg) : d'.rd f = d.rd f := by
  rw [Dev.rd, Dev.rd, h]

/-- Devices of equal registers have equal fields. -/
theorem Dev.rd_of_regs {d d' : Dev} (h : d'.regs = d.regs) (f : Fld) : d'.rd f = d.rd f :=
  Dev.rd_congr (by rw [Dev.reg, Dev.reg, h])

theorem Dev.bit_of_regs {d d' : Dev} (h : d'.regs = d.regs) (f : Fld) : d'.bit f = d.bit f := by
  rw [Dev.bit, Dev.bit, Dev.rd_of_regs h]

theorem isCourseReg_iff {n a : Nat} :
    isCourseReg n a = true ↔ a / 0x100000 = n ∧ 0x1000 ≤ a % 0x100000 ∧ a % 0x100000 < 0x5000 := by
  simp only [isCourseReg, Bool.and_eq_true, beq_iff_eq, decide_eq_true_eq, and_assoc]

/-- Partition `k`'s record is no register of any partition's courses. -/
theorem isCourseReg_partStatus (n : Nat) {k : Nat} (hk : k < 64) : isCourseReg n (0x10020 + k * 0x40) = false := by
  rw [Bool.eq_false_iff, Ne, isCourseReg_iff]
  omega

/-- Register `a` lies apart from the registers of the random values and of the store's transfer, which a reset of any partition may
clear. -/
def flrKeeps (a : Nat) : Prop := a % 0x100000 < 0x8000 ∨ (0x8010 ≤ a % 0x100000 ∧ a % 0x100000 < 0x80000)

theorem flrKeeps_course {n a : Nat} (h : isCourseReg n a = true) : flrKeeps a := by
  obtain ⟨-, -, hlt⟩ := isCourseReg_iff.mp h
  exact .inl (by omega)

theorem flrKeeps_partStatus {k : Nat} (hk : k < 64) : flrKeeps (0x10020 + k * 0x40) := .inr (by omega)

theorem flrKeeps_ne_rng {a : Nat} (h : flrKeeps a) (n : Nat) : a ≠ rngDataReg n ∧ a ≠ rngStatusReg n := by
  unfold flrKeeps at h
  unfold rngDataReg rngStatusReg
  split <;> omega

theorem flrKeeps_ne_xfer {a : Nat} (h : flrKeeps a) : a ≠ Fld.XKS_XFER_STATUS_ERR.reg ∧ a ≠ Fld.XKS_XFER_EVSEQ_SEQ.reg := by
  unfold flrKeeps at h
  simp only [Fld.XKS_XFER_STATUS_ERR, Fld.XKS_XFER_EVSEQ_SEQ]
  omega

section
variable (d : Dev) (n : Nat)

/-! ## What a reset does beyond the partition's courses -/

theorem Dev.reg_xferError (code : Nat) {a : Nat} (h : flrKeeps a) : (d.xferError code).reg a = d.reg a := by
  obtain ⟨herr, hseq⟩ := flrKeeps_ne_xfer h
  unfold Dev.xferError
  split
  · rw [Dev.reg_eventAt_ne _ hseq, Dev.reg_wr_ne _ _ herr]
  · rfl

theorem Dev.xferError_dsp (code : Nat) : (d.xferError code).dsp = d.dsp := by
  unfold Dev.xferError
  split <;> rfl

theorem Dev.xferError_hiu (code : Nat) : (d.xferError code).hiu = d.hiu := by
  unfold Dev.xferError
  split <;> rfl

theorem Dev.reg_xksFlr {a : Nat} (h : flrKeeps a) : (d.xksFlr n).reg a = d.reg a := by
  unfold Dev.xksFlr
  split
  · exact d.reg_xferError 7 h
  · rfl

theorem Dev.xksFlr_dsp : (d.xksFlr n).dsp = d.dsp := by
  unfold Dev.xksFlr
  split
  · exact d.xferError_dsp 7
  · rfl

theorem Dev.xksFlr_hiu : (d.xksFlr n).hiu = d.hiu := by
  unfold Dev.xksFlr
  split
  · exact d.xferError_hiu 7
  · rfl

theorem Dev.reg_rngFlr {a : Nat} (h : flrKeeps a) : (d.rngFlr n).reg a = d.reg a := by
  obtain ⟨hdata, hstatus⟩ := flrKeeps_ne_rng h n
  unfold Dev.rngFlr
  rw [Dev.reg_wr_ne _ _ hstatus, Dev.reg_wr_ne _ _ hdata, Dev.reg_wr_ne _ _ hdata]

/-- The MSI-X table of function `n` as after a reset. -/
def Dev.clearVecs (d : Dev) (n : Nat) : Dev := { d with hiu := { d.hiu with vecs := d.hiu.vecs.filter (fun e => e.1 / 2048 != n) } }

@[simp] theorem Dev.reg_clearVecs (a : Nat) : (d.clearVecs n).reg a = d.reg a := rfl
@[simp] theorem Dev.clearVecs_dsp : (d.clearVecs n).dsp = d.dsp := rfl
@[simp] theorem Dev.fn_clearVecs (k : Nat) : (d.clearVecs n).fn k = d.fn k := rfl

theorem Dev.flrReach_eq : d.flrReach n =
    if n = 0 then (d.xksFlr n).rngFlr n else ((d.xksFlr n).rngFlr n).clearVecs n := rfl

/-- Beyond the courses a reset of a partition clears registers of the random values and the transfer alone. -/
theorem Dev.reg_flrReach {a : Nat} (h : flrKeeps a) : (d.flrReach n).reg a = d.reg a := by
  rw [Dev.flrReach_eq, apply_ite (Dev.reg · a), Dev.reg_clearVecs, ite_self, Dev.reg_rngFlr _ _ h, Dev.reg_xksFlr _ _ h]

theorem Dev.flrReach_dsp : (d.flrReach n).dsp = d.dsp := by
  rw [Dev.flrReach_eq, apply_ite Dev.dsp, Dev.clearVecs_dsp, ite_self]
  exact d.xksFlr_dsp n

theorem Dev.fn_flrReach (k : Nat) : (d.flrReach n).fn k = d.fn k := by
  rw [Dev.flrReach_eq, apply_ite (Dev.fn · k), Dev.fn_clearVecs, ite_self]
  exact congrArg (fun h : Hiu => tget (fun _ => Fn.reset) h.fns k) (d.xksFlr_hiu n)

/-! ## What a reset does to its partition (R46) -/

/-- The first half of a function-level reset of partition `n`: course registers at their Reset values, commands and held writes gone, one
event. -/
def Dev.flrClear (d : Dev) (n : Nat) : Dev :=
  let d := d.resetRegs (isCourseReg n)
  let d := { d with hiu := { d.hiu with cqs := d.hiu.cqs.filter (fun e => e.1 / 256 != n) },
                    dsp := { d.dsp with cmds := dropStale n d.dsp.cmds } }
  (d.setFn n { d.fn n with held := [] }).event

variable {d n}

/-- A reset that is not merged: the clearing, then EPOCH, the event's number and RESETTING in the partition's record. -/
theorem Dev.flr_start (hidle : d.rd (Fld.PART_STATUS_RESETTING n) = 0) :
    d.flr n false = ((((d.flrClear n).wr (Fld.PART_STATUS_EPOCH n) ((d.flrClear n).epoch n + 1)).wr
      (Fld.PART_EVSEQ_SEQ n) (d.flrClear n).seq.toNat).wr (Fld.PART_STATUS_RESETTING n) 1) := by
  simp only [Dev.flr, Dev.bit_zero d hidle, Bool.false_eq_true, if_false]
  rfl

theorem Dev.reg_flrClear (a : Nat) : (d.flrClear n).reg a = if isCourseReg n a then regReset a else d.reg a :=
  d.reg_resetRegs (isCourseReg n) a

/-- A register outside the partition's record: a course register of the partition is reset, any other keeps its value. -/
theorem Dev.reg_flr (hidle : d.rd (Fld.PART_STATUS_RESETTING n) = 0) {a : Nat} (hstatus : a ≠ 0x10020 + n * 0x40)
    (hseq : a ≠ 0x10028 + n * 0x40) : (d.flr n false).reg a = if isCourseReg n a then regReset a else d.reg a := by
  rw [Dev.flr_start hidle, Dev.reg_wr_ne _ _ hstatus, Dev.reg_wr_ne _ _ hseq, Dev.reg_wr_ne _ _ hstatus, Dev.reg_flrClear]

theorem Dev.flr_dsp (hidle : d.rd (Fld.PART_STATUS_RESETTING n) = 0) :
    (d.flr n false).dsp = { d.dsp with cmds := dropStale n d.dsp.cmds } := by
  rw [Dev.flr_start hidle]
  rfl

theorem Dev.fn_flr_same (hidle : d.rd (Fld.PART_STATUS_RESETTING n) = 0) : (d.flr n false).fn n = { d.fn n with held := [] } := by
  rw [Dev.flr_start hidle]
  exact Dev.fn_setFn_same _ _ _

theorem Dev.fn_flr_ne (hidle : d.rd (Fld.PART_STATUS_RESETTING n) = 0) {k : Nat} (hk : k ≠ n) : (d.flr n false).fn k = d.fn k := by
  rw [Dev.flr_start hidle]
  exact Dev.fn_setFn_ne _ _ hk

theorem Dev.epoch_flr (hn : n < 64) (hidle : d.rd (Fld.PART_STATUS_RESETTING n) = 0) :
    (d.flr n false).epoch n = (d.epoch n + 1) % 2 ^ 32 := by
  have hkeep : (d.flrClear n).epoch n = d.epoch n :=
    Dev.rd_congr ((Dev.reg_flrClear _).trans (if_neg (Bool.eq_false_iff.mp (isCourseReg_partStatus n hn))))
  rw [Dev.flr_start hidle, Dev.epoch, Dev.rd_wr_field _ _ (.inl (by simp [Fld.PART_STATUS_EPOCH, Fld.PART_STATUS_RESETTING])),
    Dev.rd_wr_reg _ _ (by simp [Fld.PART_STATUS_EPOCH, Fld.PART_EVSEQ_SEQ]),
    Dev.rd_wr_same _ _ _ (by simp [Fld.PART_STATUS_EPOCH]), hkeep]
  rfl

theorem Dev.resetting_flr (hidle : d.rd (Fld.PART_STATUS_RESETTING n) = 0) : (d.flr n false).rd (Fld.PART_STATUS_RESETTING n) = 1 := by
  rw [Dev.flr_start hidle, Dev.rd_wr_same _ _ _ (by simp [Fld.PART_STATUS_RESETTING])]
  rfl

/-- What is left of the partition's commands has a thread that runs it, or is kept for one past its completion. -/
theorem mem_dropStale {cs : Tab Cmd} {x : Nat × Cmd} : x ∈ dropStale n cs ↔
    x ∈ cs ∧ (x.2.part = n → x.2.st = .running ∨ x.2.st = .released ∨ 8192 ≤ x.1) := by
  simp only [dropStale, List.mem_filter, Bool.or_eq_true, bne_iff_ne, beq_iff_eq, decide_eq_true_eq]
  tauto

/-! ## The whole reset -/

/-- The reset of partition `n` before the Warden's mailbox is tidied. -/
def Dev.flrDone (d : Dev) (n : Nat) : Dev := ((d.wardenFlr n).flr n false).flrReach n

theorem Dev.flrFull_start (hn : n < 64) (hreach : d.plt.reach = 0 ∨ d.held = true) (hidle : d.rd (Fld.PART_STATUS_RESETTING n) = 0) :
    d.flrFull n false = (d.flrDone n).wdnTidy := by
  have hopen : (d.plt.reach != 0 && !d.held) = false := by rcases hreach with h | h <;> simp [h]
  simp only [Dev.flrFull, Dev.flrDone, hopen, Dev.bit_zero d hidle, Nat.not_le.mpr hn, decide_false, Bool.or_false, Bool.false_eq_true,
    if_false]

section
variable (hidle : d.rd (Fld.PART_STATUS_RESETTING n) = 0)
include hidle

theorem Dev.reg_flrDone {a : Nat} (hkeep : flrKeeps a) (hstatus : a ≠ 0x10020 + n * 0x40) (hseq : a ≠ 0x10028 + n * 0x40) :
    (d.flrDone n).reg a = if isCourseReg n a then regReset a else d.reg a :=
  (Dev.reg_flrReach _ n hkeep).trans (Dev.reg_flr (d := d.wardenFlr n) hidle hstatus hseq)

theorem Dev.flrDone_epoch (hn : n < 64) : (d.flrDone n).epoch n = (d.epoch n + 1) % 2 ^ 32 :=
  (Dev.rd_congr (Dev.reg_flrReach _ n (flrKeeps_partStatus hn))).trans (Dev.epoch_flr (d := d.wardenFlr n) hn hidle)

theorem Dev.flrDone_resetting (hn : n < 64) : (d.flrDone n).rd (Fld.PART_STATUS_RESETTING n) = 1 :=
  (Dev.rd_congr (Dev.reg_flrReach _ n (flrKeeps_partStatus hn))).trans (Dev.resetting_flr (d := d.wardenFlr n) hidle)

theorem Dev.flrDone_held : ((d.flrDone n).fn n).held = [] := by
  rw [Dev.flrDone, Dev.fn_flrReach, Dev.fn_flr_same (d := d.wardenFlr n) hidle]

theorem Dev.mem_flrDone_cmds {x : Nat × Cmd} : x ∈ (d.flrDone n).dsp.cmds ↔
    x ∈ d.dsp.cmds ∧ (x.2.part = n → x.2.st = .running ∨ x.2.st = .released ∨ 8192 ≤ x.1) := by
  rw [Dev.flrDone, Dev.flrReach_dsp, Dev.flr_dsp (d := d.wardenFlr n) hidle]
  exact mem_dropStale

/-- A course register of the partition is at its Reset value. -/
theorem Dev.flrDone_course {a : Nat} (ha : isCourseReg n a = true) : (d.flrDone n).reg a = regReset a := by
  have hrange := isCourseReg_iff.mp ha
  rw [Dev.reg_flrDone hidle (flrKeeps_course ha) (by omega) (by omega), if_pos ha]

/-- A course register of another partition keeps its value. -/
theorem Dev.flrDone_course_ne (hn : n < 64) {k a : Nat} (hk : k ≠ n) (ha : isCourseReg k a = true) : (d.flrDone n).reg a = d.reg a := by
  have hrange := isCourseReg_iff.mp ha
  have hother : ¬ isCourseReg n a = true := by rw [isCourseReg_iff]; omega
  rw [Dev.reg_flrDone hidle (flrKeeps_course ha) (by omega) (by omega), if_neg hother]

/-- Another partition's record keeps its value. -/
theorem Dev.flrDone_partStatus_ne {k : Nat} (hk64 : k < 64) (hk : k ≠ n) :
    (d.flrDone n).reg (0x10020 + k * 0x40) = d.reg (0x10020 + k * 0x40) := by
  rw [Dev.reg_flrDone hidle (flrKeeps_partStatus hk64) (by omega) (by omega), isCourseReg_partStatus n hk64]
  rfl

theorem Dev.flrDone_fn_ne {k : Nat} (hk : k ≠ n) : (d.flrDone n).fn k = d.fn k := by
  rw [Dev.flrDone, Dev.fn_flrReach, Dev.fn_flr_ne (d := d.wardenFlr n) hidle hk]
  rfl

end

/-! ## What causes one (R34, R36, R46) -/

theorem Dev.partitionReset_served {st : Option Nat} (hn : n < 64) (hbar : d.bar0 0 st (0x10000 + n * 0x40) = true) :
    d.partitionReset st n = d.flrFull n false := by
  simp only [Dev.partitionReset, Dev.partWrite, hbar, hn, decide_true, Bool.and_true, if_true]

theorem Dev.vfFlr_exists (hn : n ≠ 0) (hfn : d.fnExists n = true) (hreach : d.plt.reach = 0 ∨ d.held = true) :
    d.vfFlr n = (d.flrFull n false).setFn n Fn.reset := by
  have hopen : (d.plt.reach != 0 && !d.held) = false := by rcases hreach with h | h <;> simp [h]
  simp only [Dev.vfFlr, hn, hfn, hopen, decide_false, Bool.not_true, Bool.or_false, Bool.false_eq_true, if_false]

/-- Each virtual function above the new number is reset, its configuration space with it, before the number changes. -/
theorem Dev.vfDisable_shrinks {num : Nat} (hen : d.hiu.vfEnable = true) (hnum : num < d.hiu.numVfs) :
    d.vfDisable num =
      (let d' := ((List.range 64).filter fun n => num < n ∧ n ≤ d.hiu.numVfs).foldl
        (fun x n => (x.flrFull n false).setFn n Fn.reset) d
       { d' with hiu := { d'.hiu with vfEnable := num != 0, numVfs := num } }) := by
  simp only [Dev.vfDisable, Dev.vfShrink, hen, Nat.not_le.mpr hnum, decide_false, Bool.not_true, Bool.or_false, Bool.false_eq_true,
    if_false, Bool.decide_and]

/-- The partitions that require IDE and are bound to stream `k`, lowest first (R33). -/
abbrev Dev.boundTo (d : Dev) (k : Nat) : List Nat :=
  (List.range 64).filter fun n => d.rd (Fld.PART_STATUS_IDE_REQUIRED n) = 1 ∧ d.rd (Fld.PART_STATUS_IDE_STREAM n) = k

/-- Only the partitions' records say which partitions are bound to a stream. -/
theorem Dev.boundTo_congr {d' : Dev} (h : ∀ n, d'.reg (0x10020 + n * 0x40) = d.reg (0x10020 + n * 0x40)) (k : Nat) :
    (List.range 64).filter (fun n => d'.bit (Fld.PART_STATUS_IDE_REQUIRED n) && d'.rd (Fld.PART_STATUS_IDE_STREAM n) == k) =
      d.boundTo k := by
  refine List.filter_congr fun n _ => ?_
  have hreq : d'.rd (Fld.PART_STATUS_IDE_REQUIRED n) = d.rd (Fld.PART_STATUS_IDE_REQUIRED n) := Dev.rd_congr (h n)
  have hstream : d'.rd (Fld.PART_STATUS_IDE_STREAM n) = d.rd (Fld.PART_STATUS_IDE_STREAM n) := Dev.rd_congr (h n)
  rw [Bool.eq_iff_iff, Bool.and_eq_true, Dev.bit_iff_one _ rfl, hreq, hstream, beq_iff_eq, decide_eq_true_iff]

/-- The stream loses its Secure bit, and each partition that requires it is reset with IDE_LOST; neither the logged error nor the bit
changes a partition's record. -/
theorem Dev.ideLost_secure {k : Nat} (hk : k < 4) (hsec : (d.rd Fld.HIU_STATUS_IDE_SECURE).testBit k = true) (check : Bool) :
    d.ideLost k check = (d.boundTo k).foldl (fun x n => x.flrFull n true)
      ((if check then d.emit (.aer 0) else d).wr Fld.HIU_STATUS_IDE_SECURE (d.rd Fld.HIU_STATUS_IDE_SECURE - 2 ^ k)) := by
  simp only [Dev.ideLost, Dev.ideInsecure, Nat.not_le.mpr hk, hsec, decide_false, Bool.not_true, Bool.or_false, Bool.false_eq_true,
    if_false]
  rw [Dev.boundTo_congr (d := d) fun n => ?_]
  rw [Dev.reg_wr_ne _ _ (by simp only [Fld.HIU_STATUS_IDE_SECURE]; omega)]
  cases check <;> rfl

theorem Dev.flrEnd_resetting (h : d.rd (Fld.PART_STATUS_RESETTING n) = 1) :
    d.flrEnd n = (d.wr (Fld.PART_STATUS_RESETTING n) 0).fire n 0 := if_pos (Dev.bit_one d h)

end

/-! ## The statement -/

/-- Settles O13: the reset's own clauses are the rules of `Dev.flrDone`, and each cause is one rule of those after them. -/
theorem functionLevelResetReachesOnePartition : Obligations.FunctionLevelResetReachesOnePartition := by
  refine ⟨?reset, ?causes⟩
  case reset =>
    intro d d' n hn hreach hidle hd'
    obtain rfl : d' = d.flrDone n := hd'
    refine ⟨Dev.flrFull_start hn hreach hidle, Dev.flrDone_epoch hidle hn, Dev.flrDone_resetting hidle hn, Dev.flrDone_held hidle,
      fun a ha => Dev.flrDone_course hidle ha, fun x hx => ((Dev.mem_flrDone_cmds hidle).mp hx).2, fun k hk64 hk => ?_⟩
    have hrec := Dev.flrDone_partStatus_ne hidle hk64 hk
    exact ⟨Dev.rd_congr hrec, Dev.rd_congr hrec, Dev.flrDone_fn_ne hidle hk, fun a ha => Dev.flrDone_course_ne hidle hn hk ha,
      fun x hx hpart => (Dev.mem_flrDone_cmds hidle).mpr ⟨hx, fun hmine => absurd (hpart.symm.trans hmine) hk⟩⟩
  case causes =>
    rintro s d rfl
    refine ⟨fun n st hn hbar => ?partition, fun n hn hfn hreach => ?vf, fun num hen hnum => ?vfs, fun k hk hsec check => ?ide,
      fun n hres => ?finish⟩
    case partition =>
      rw [exec_partitionReset]
      exact onDev_outcome s (Dev.partitionReset_served hn hbar)
    case vf =>
      rw [exec_vfFlr]
      exact onDev_outcome s (Dev.vfFlr_exists hn hfn hreach)
    case vfs =>
      rw [exec_vfDisable]
      exact onDev_outcome s (Dev.vfDisable_shrinks hen hnum)
    case ide =>
      rw [exec_ideStreamInsecure]
      exact onDev_outcome s (Dev.ideLost_secure hk hsec check)
    case finish =>
      rw [exec_functionLevelResetEnd]
      exact onDev_outcome s (Dev.flrEnd_resetting hres)

end Sys2Proof.Machine
end

section
/-! Functions, the link and the DOE mailbox (R30, R33, R35, R36, R39, R41, R47, R62): what their events set, how held writes and pending
messages leave, and the statement about them. -/

namespace Sys2Proof.Machine

/-! ## The commands -/

theorem exec_partitionEnable (st : Option Nat) (n : Nat) (on : Bool) (s : State) :
    exec (.partitionEnable st n on) s = onDev s (fun d => d.partitionEnable st n on) := rfl

theorem exec_vfEnableSet (num : Nat) (s : State) : exec (.vfEnableSet num) s = onDev s (fun d => d.vfGrow num) := rfl

theorem exec_ideKmKeyInstall (k : Nat) (s : State) : exec (.ideKmKeyInstall k) s = onDev s (fun d => d.ideInstall k) := rfl

theorem exec_busMasterEnableChange (n : Nat) (on : Bool) (s : State) :
    exec (.busMasterEnableChange n on) s = onDev s (fun d => d.busMaster n on) := rfl

theorem exec_powerStateChange (n : Nat) (d3 : Bool) (s : State) :
    exec (.powerStateChange n d3) s = onDev s (fun d => d.powerState n d3) := rfl

theorem exec_msixControlWrite (n : Nat) (en mask : Bool) (s : State) :
    exec (.msixControlWrite n en mask) s = onDev s (fun d => d.msixControl n en mask) := rfl

theorem exec_msixTableWrite (n : Nat) (st : Option Nat) (off size v : Nat) (s : State) :
    exec (.msixTableWrite n st off size v) s = onDev s (fun d => d.msixWrite n st off size v) := rfl

theorem exec_doeDiscovery (len i : Nat) (s : State) : exec (.doeDiscovery len i) s = onDev s (fun d => d.discovery len i) := rfl

section
variable {d : Dev} {n : Nat} {st : Option Nat}

/-! ## Settings of partitions, functions and streams -/

theorem Dev.partitionEnable_served (on : Bool) (hn : n < 64) (hbar : d.bar0 0 st (0x10000 + n * 0x40) = true) :
    d.partitionEnable st n on = d.wr (Fld.PART_CTRL_ENABLE n) (if on then 1 else 0) := by
  simp [Dev.partitionEnable, Dev.partWrite, hbar, hn, Bool.toNat, Bool.cond_eq_ite]

theorem Dev.vfGrow_more {num : Nat} (hpos : 1 ≤ num) (hmax : num ≤ 63) (hmore : d.hiu.vfEnable = false ∨ d.hiu.numVfs < num) :
    d.vfGrow num = { d with hiu := { d.hiu with vfEnable := true, numVfs := num } } := by
  have hgrows : ¬ ((decide (63 < num) || decide (num = 0) || (d.hiu.vfEnable && decide (num ≤ d.hiu.numVfs))) = true) := by
    simp only [Bool.or_eq_true, Bool.and_eq_true, decide_eq_true_eq]
    rcases hmore with h | h
    · rw [h]; simp; omega
    · omega
  exact if_neg hgrows

/-- IDE_KM in a secured session: one more key set for the stream, which is Secure from then on (R33). -/
theorem Dev.ideInstall_secured {k : Nat} (hk : k < 4) (hsess : d.wdn.spdm.session = 2) :
    d.ideInstall k =
      (let d1 : Dev := { d with hiu := { d.hiu with
         ideKeys := tput (fun _ => 0) d.hiu.ideKeys k (tget (fun _ => 0) d.hiu.ideKeys k + 1) } }
       if (d.rd Fld.HIU_STATUS_IDE_SECURE).testBit k then d1
       else d1.wr Fld.HIU_STATUS_IDE_SECURE (d.rd Fld.HIU_STATUS_IDE_SECURE + 2 ^ k)) := by
  simp only [Dev.ideInstall, hsess, Nat.not_le.mpr hk, decide_false, bne_self_eq_false, Bool.or_false, Bool.false_eq_true, if_false]
  rfl

theorem Dev.busMaster_exists (hfn : d.fnExists n = true) (on : Bool) :
    d.busMaster n on = (d.setFn n { d.fn n with bme := on }).flush n := if_pos hfn

theorem Dev.powerState_exists (hfn : d.fnExists n = true) (d3 : Bool) :
    d.powerState n d3 = (d.setFn n { d.fn n with d3 := d3 }).flush n := if_pos hfn

theorem Dev.msixControl_exists (hfn : d.fnExists n = true) (en mask : Bool) :
    d.msixControl n en mask = (d.setFn n { d.fn n with msixEn := en, fmask := mask }).drainVecs n := if_pos hfn

/-! ## The MSI-X table (R41, R62) -/

section
variable {off size v : Nat} (hbar : d.bar4 n st = true)
include hbar

/-- An aligned write of 4 or 8 octets to an entry of the table. -/
theorem Dev.msixWrite_entry (hsize : size = 4 ∨ size = 8) (halign : off % size = 0) (hk : off / 16 < vecCount n) :
    d.msixWrite n st off size v =
      (d.setVec n (off / 16) (if size = 8 then
          ((d.vec n (off / 16)).write32 (off % 16 / 4) (v % 2 ^ 32)).write32 (off % 16 / 4 + 1) (v / 2 ^ 32 % 2 ^ 32)
        else (d.vec n (off / 16)).write32 (off % 16 / 4) (v % 2 ^ 32))).drainVec n (off / 16) := by
  have hpiece : (!(size == 4 || size == 8) || off % size != 0) = false := by
    rcases hsize with rfl | rfl <;> simp [halign]
  simp only [Dev.msixWrite, hbar, hpiece, Nat.not_le.mpr hk, Bool.not_true, Bool.false_eq_true, if_false]

theorem Dev.msixWrite_narrow (hbad : size ≠ 4 ∧ size ≠ 8 ∨ off % size ≠ 0) : d.msixWrite n st off size v = d.narrow := by
  have hpiece : (!(size == 4 || size == 8) || off % size != 0) = true := by
    rcases hbad with ⟨h4, h8⟩ | h
    · simp [h4, h8]
    · simp [h]
  simp only [Dev.msixWrite, hbar, hpiece, Bool.not_true, Bool.false_eq_true, if_false, if_true]

end

/-! ## DOE Discovery (R35) -/

theorem Dev.discovery_answer {len i : Nat} (hlen : len ≤ 16384) (hi : i ≤ 2) :
    d.discovery len i =
      { d with out := d.out ++ [(none, .doe 0 [1, 0, BitVec.ofNat 8 i, if i < 2 then BitVec.ofNat 8 (i + 1) else 0])] } := by
  have hnext : BitVec.ofNat 8 (if i < 2 then i + 1 else 0) = if i < 2 then BitVec.ofNat 8 (i + 1) else 0 := by split <;> rfl
  have htake : Dev.doeAccepts len = true := decide_eq_true hlen
  rw [Dev.discovery, if_pos htake, if_pos hi, doeDiscovery, hnext]
  rfl

theorem Dev.discovery_long {len : Nat} (i : Nat) (hlen : 16384 < len) :
    d.discovery len i = { d with hiu := { d.hiu with doeError := true } } := by
  have hrefuse : ¬ Dev.doeAccepts len = true := by simp [Dev.doeAccepts, hlen]
  exact if_neg hrefuse

/-! ## Held writes (R30, R31, R47, R62) -/

/-- The requests that carry something out, each with its IDE stream. -/
abbrev Dev.carried (d : Dev) (o : Out) : List (Option Nat × Out) := (d.packets o).map fun p => (p.fn.bind d.streamOf, p)

/-- How a thing is cut up and which stream carries it depend on the registers and the configuration space alone. -/
theorem Dev.carried_congr {d' : Dev} (hregs : d'.regs = d.regs) (hcfg : d'.hiu.config = d.hiu.config) (o : Out) :
    d'.carried o = d.carried o := by
  have hstream : d'.streamOf = d.streamOf := by
    funext m
    rw [Dev.streamOf, Dev.streamOf, Dev.bit_of_regs hregs, Dev.rd_of_regs hregs]
  have hpackets : d'.packets o = d.packets o := by
    cases o <;> simp only [Dev.packets, Dev.maxPayload, Dev.maxRead, Dev.cfg, hcfg]
  simp only [Dev.carried, hstream, hpackets]

/-- A write that is no message, or a message whose vector is open, is sent as it stands. -/
theorem Dev.leaves_plain {o : Out} (hopen : ∀ m v, o = .msix m v → d.vecOpen m v = true) : d.leaves (none, o) = d.emit o := by
  cases o with
  | msix m v => exact if_pos (hopen m v rfl)
  | _ => rfl

/-- A message whose vector has been masked since becomes pending. -/
theorem Dev.leaves_masked {k : Nat} (hmask : d.vecOpen n k = false) :
    d.leaves (none, .msix n k) = d.setVec n k { d.vec n k with pend := true } := if_neg (Bool.eq_false_iff.mp hmask)

/-- What one held write changes as it leaves: what has left the device, and of that write's command OUTPUT_TOUCHED. -/
theorem Dev.leaves_spec {h : Option Nat × Out} (hopen : ∀ m v, h = (none, .msix m v) → d.vecOpen m v = true) :
    (d.leaves h).out = d.out ++ d.carried h.2 ∧ (d.leaves h).hiu = d.hiu ∧ (d.leaves h).regs = d.regs := by
  obtain ⟨e, o⟩ := h
  cases e with
  | some e => exact ⟨rfl, rfl, rfl⟩
  | none =>
    rw [Dev.leaves_plain fun m v ho => hopen m v (by rw [ho])]
    exact ⟨rfl, rfl, rfl⟩

/-- Held writes leave in their order. -/
theorem Dev.foldl_leaves (hs : List (Option Nat × Out)) (d : Dev)
    (hopen : ∀ h ∈ hs, ∀ m v, h = (none, .msix m v) → d.vecOpen m v = true) :
    (hs.foldl Dev.leaves d).out = d.out ++ hs.flatMap (fun h => d.carried h.2) ∧ (hs.foldl Dev.leaves d).hiu = d.hiu ∧
      (hs.foldl Dev.leaves d).regs = d.regs := by
  induction hs generalizing d with
  | nil => simp
  | cons h hs ih =>
    obtain ⟨hout, hhiu, hregs⟩ := Dev.leaves_spec (hopen h (by simp))
    have hvec : ∀ m v, (d.leaves h).vecOpen m v = d.vecOpen m v := by
      intro m v
      simp only [Dev.vecOpen, Dev.fn, Dev.vec, hhiu]
    obtain ⟨hout', hhiu', hregs'⟩ := ih (d.leaves h) fun x hx m v hm => (hvec m v).trans (hopen x (by simp [hx]) m v hm)
    refine ⟨?_, hhiu'.trans hhiu, hregs'.trans hregs⟩
    have hcarried : (fun x : Option Nat × Out => (d.leaves h).carried x.2) = fun x => d.carried x.2 :=
      funext fun x => Dev.carried_congr hregs (congrArg Hiu.config hhiu) x.2
    rw [List.foldl_cons, hout', hout, hcarried, List.flatMap_cons, List.append_assoc]

/-- The function with nothing held. -/
abbrev Dev.unhold (d : Dev) (n : Nat) : Dev := d.setFn n { d.fn n with held := [] }

theorem Dev.vecOpen_unhold (m v : Nat) : (d.unhold n).vecOpen m v = d.vecOpen m v := by
  have hfn : ((d.unhold n).fn m).msixEn = (d.fn m).msixEn ∧ ((d.unhold n).fn m).fmask = (d.fn m).fmask := by
    by_cases hm : m = n
    · subst hm
      simp [Dev.unhold]
    · simp [Dev.unhold, Dev.fn_setFn_ne _ _ hm]
  rw [Dev.vecOpen, hfn.1, hfn.2]
  rfl

/-- A function that may send again sends everything held for it, in order, and holds nothing more. -/
theorem Dev.flush_sends (hsend : d.canSend n = true)
    (hopen : ∀ h ∈ (d.fn n).held, ∀ m v, h = (none, .msix m v) → d.vecOpen m v = true) :
    (d.flush n).out = d.out ++ (d.fn n).held.flatMap (fun h => d.carried h.2) ∧ ((d.flush n).fn n).held = [] ∧
      (d.flush n).regs = d.regs := by
  obtain ⟨hout, hhiu, hregs⟩ := Dev.foldl_leaves (d.fn n).held (d.unhold n)
    fun h hh m v hm => Dev.vecOpen_unhold m v |>.trans (hopen h hh m v hm)
  rw [Dev.flush, if_pos hsend]
  refine ⟨hout, ?_, hregs⟩
  rw [Dev.fn, hhiu]
  exact congrArg Fn.held (Dev.fn_setFn_same d n _)

theorem Dev.flush_held (hsend : d.canSend n = false) : d.flush n = d := if_neg (Bool.eq_false_iff.mp hsend)

/-! ## Pending messages (R62) -/

/-- A pending vector whose way is open sends its one message and is no longer pending. -/
theorem Dev.drainVec_sends {k : Nat} (hpend : (d.vec n k).pend = true) (hopen : d.vecOpen n k = true) (hsend : d.canSend n = true) :
    (d.drainVec n k).out = d.out ++ [(d.streamOf n, .msix n k)] ∧ ((d.drainVec n k).vec n k).pend = false := by
  have hdrain : d.drainVec n k = (d.setVec n k { d.vec n k with pend := false }).emit (.msix n k) := by
    rw [Dev.drainVec, hpend, hopen]
    exact if_pos hsend
  rw [hdrain]
  exact ⟨rfl, congrArg Vec.pend (tget_tput_same d.hiu.vecs (n * 2048 + k) _)⟩

theorem Dev.drainVec_keeps {k : Nat} (h : (d.vec n k).pend = false ∨ d.vecOpen n k = false) : d.drainVec n k = d := by
  have hshut : ¬ ((d.vec n k).pend && d.vecOpen n k) = true := by rcases h with h | h <;> simp [h]
  exact if_neg hshut

end

/-! ## The statement -/

/-- Settles O14: each clause is one of the rules above, those about commands taken from the device to the state. -/
theorem functionAndLinkEventsTakeEffect : Obligations.FunctionAndLinkEventsTakeEffect := by
  rintro s d n rfl
  refine ⟨fun st on hn hbar => ?partition, fun num hpos hmax hmore => ?vfs, fun k bits hk hsess hbits => ?keys,
    fun hfn => ⟨fun on => ?master, fun d3 => ?power, fun en mask => ?msix⟩, fun st off size v k hbar hk => ?table,
    fun len i => ⟨fun hlen hi => ?answer, fun hlen => ?long⟩, fun x hsend hopen => Dev.flush_sends hsend hopen,
    fun x k hmask => Dev.leaves_masked hmask, fun x hsend => Dev.flush_held hsend,
    fun x k hpend hopen hsend => Dev.drainVec_sends hpend hopen hsend, fun x k h => Dev.drainVec_keeps h⟩
  case partition =>
    rw [exec_partitionEnable]
    exact onDev_outcome s (Dev.partitionEnable_served on hn hbar)
  case vfs =>
    rw [exec_vfEnableSet]
    exact onDev_outcome s (Dev.vfGrow_more hpos hmax hmore)
  case keys =>
    subst hbits
    rw [exec_ideKmKeyInstall]
    exact onDev_outcome s (Dev.ideInstall_secured hk hsess)
  case master =>
    rw [exec_busMasterEnableChange]
    exact onDev_outcome s (Dev.busMaster_exists hfn on)
  case power =>
    rw [exec_powerStateChange]
    exact onDev_outcome s (Dev.powerState_exists hfn d3)
  case msix =>
    rw [exec_msixControlWrite]
    exact onDev_outcome s (Dev.msixControl_exists hfn en mask)
  case table =>
    subst hk
    rw [exec_msixTableWrite]
    refine ⟨fun hsize halign hk => ?_, fun hsize halign hk => ?_, fun hbad => onDev_outcome s (Dev.msixWrite_narrow hbar hbad)⟩
    · exact onDev_outcome s ((Dev.msixWrite_entry hbar (.inl hsize) (hsize ▸ halign) hk).trans (by rw [hsize]; rfl))
    · exact onDev_outcome s ((Dev.msixWrite_entry hbar (.inr hsize) (hsize ▸ halign) hk).trans (by rw [hsize]; rfl))
  case answer =>
    rw [exec_doeDiscovery]
    exact onDev_outcome s (Dev.discovery_answer hlen hi)
  case long =>
    rw [exec_doeDiscovery]
    exact onDev_outcome s (Dev.discovery_long i hlen)

end Sys2Proof.Machine
end

section
/-! SPDM negotiation and certificates (R35, R349, R350): which requests are heard, what each is answered, and the statement about the five
requests. -/

namespace Sys2Proof.Machine

/-! ## The commands -/

theorem exec_spdmGetVersion (req : List Byte) (s : State) :
    exec (.spdmGetVersion req) s = onChip s (fun c => c.getVersion req) := rfl

theorem exec_spdmGetCapabilities (req : List Byte) (s : State) :
    exec (.spdmGetCapabilities req) s = onChip s (fun c => c.getCapabilities req) := rfl

theorem exec_spdmNegotiateAlgorithms (req : List Byte) (asym hash dhe aead : Nat) (s : State) :
    exec (.spdmNegotiateAlgorithms req asym hash dhe aead) s = onChip s (fun c => c.negotiate req asym hash dhe aead) := rfl

theorem exec_spdmGetDigests (req : List Byte) (s : State) :
    exec (.spdmGetDigests req) s = onChip s (fun c => c.getDigests req) := rfl

theorem exec_spdmGetCertificate (req : List Byte) (s : State) :
    exec (.spdmGetCertificate req) s = onChip s (fun c => c.getCertificate req) := rfl

/-! ## What is heard (R35) -/

/-- The object `req` reaches the running Warden and is the request of code `code`. -/
structure Chip.Hears (c : Chip) (req : List Byte) (code : Nat) : Prop where
  running : c.dev.wdn.running = true
  short : req.length ≤ 16384
  whole : 4 ≤ req.length
  named : leAt req 1 1 = code

/-- `rsp` goes out over the DOE mailbox, and the negotiation stands at `p`. -/
abbrev Dev.spdmAnswer (d : Dev) (p : Spdm) (rsp : List Byte) : Dev :=
  { d with wdn := { d.wdn with spdm := p }, out := d.out ++ [(none, .doe 1 rsp)] }

/-- An ERROR response with its code goes out, and the negotiation stays. -/
abbrev Dev.spdmRefuse (d : Dev) (code : Byte) : Dev := { d with out := d.out ++ [(none, .doe 1 [0x12, 0x7F, code, 0])] }

section
variable {c : Chip} {req : List Byte} {code : Nat}

/-- An object of up to 16 KB reaches the running Warden. -/
theorem Chip.doeTake_running (hrun : c.dev.wdn.running = true) {len : Nat} (hlen : len ≤ 16384) (f : Chip → Chip) :
    c.doeTake len f = f c := by
  simp [Chip.doeTake, Dev.doeAccepts, hrun, hlen]

/-- A longer object is discarded and sets DOE Error. -/
theorem Chip.doeTake_long {len : Nat} (hlen : 16384 < len) (f : Chip → Chip) :
    c.doeTake len f = c.onDev fun d => { d with hiu := { d.hiu with doeError := true } } := by
  simp [Chip.doeTake, Dev.doeAccepts, hlen]

/-- A request that is heard is answered as its rule says, if the negotiation has come to it, and with UnexpectedRequest if not. -/
theorem Chip.spdmAsk_heard (hears : c.Hears req code) (ready : Spdm → Bool) (f : Chip → Chip) :
    c.spdmAsk req code ready f = if ready c.dev.wdn.spdm then f c else c.spdmError 4 := by
  rw [Chip.spdmAsk, Chip.doeTake_running hears.running hears.short,
    if_neg (not_or.mpr ⟨not_not.mpr hears.named, Nat.not_lt.mpr hears.whole⟩), Chip.spdm]
  cases ready c.dev.wdn.spdm <;> rfl

theorem Chip.spdmAsk_ready (hears : c.Hears req code) {ready : Spdm → Bool} (hready : ready c.dev.wdn.spdm = true) (f : Chip → Chip) :
    c.spdmAsk req code ready f = f c := (Chip.spdmAsk_heard hears ready f).trans (if_pos hready)

theorem Chip.spdmAsk_unexpected (hears : c.Hears req code) {ready : Spdm → Bool} (hready : ready c.dev.wdn.spdm = false)
    (f : Chip → Chip) : c.spdmAsk req code ready f = c.onDev fun d => d.spdmRefuse 4 :=
  (Chip.spdmAsk_heard hears ready f).trans (if_neg (Bool.eq_false_iff.mp hready))

/-! ## Negotiation (R350) -/

/-- VERSION: 1.2 alone. -/
def versionRsp : List Byte := [0x10, 0x04, 0, 0, 0, 1, 0, 0x12]

/-- CAPABILITIES: objects of up to 16 KB both ways. -/
def capabilitiesRsp : List Byte :=
  [0x12, 0x61, 0, 0, 0, Config.spdmTiming, 0, 0] ++ leBytes 4 0x2D6 ++ leBytes 4 16384 ++ leBytes 4 16384

/-- ALGORITHMS: ECDSA P-384 and SHA-384, with the agreement and the cipher that the request's masks offer. -/
def algorithmsRsp (dhe aead : Nat) : List Byte :=
  [0x12, 0x63, 2, 0] ++ leBytes 2 52 ++ [1, 0] ++ leBytes 4 4 ++ leBytes 4 0x80 ++ leBytes 4 2
    ++ List.replicate 12 0 ++ [0, 0, 0, 0] ++ List.replicate 8 0
    ++ [2, 0x20, (if dhe.testBit 4 then 0x10 else 0), 0, 3, 0x20, (if aead.testBit 1 then 2 else 0), 0]

theorem Chip.getVersion_heard (hears : c.Hears req 0x84) :
    c.getVersion req = c.onDev fun d => d.spdmAnswer { Spdm.reset with version := true, vca := req ++ versionRsp } versionRsp :=
  Chip.spdmAsk_ready hears (ready := fun _ => true) rfl _

theorem Chip.getVersion_long (hlen : 16384 < req.length) :
    c.getVersion req = c.onDev fun d => { d with hiu := { d.hiu with doeError := true } } := by
  rw [Chip.getVersion, Chip.spdmAsk, Chip.doeTake_long hlen]

theorem Chip.getCapabilities_heard (hears : c.Hears req 0xE1) (hversion : c.dev.wdn.spdm.version = true)
    (hcaps : c.dev.wdn.spdm.caps = false) :
    c.getCapabilities req = c.onDev fun d =>
      d.spdmAnswer { c.dev.wdn.spdm with caps := true, vca := c.dev.wdn.spdm.vca ++ req ++ capabilitiesRsp } capabilitiesRsp :=
  Chip.spdmAsk_ready hears (ready := fun s => s.version && !s.caps) (by rw [hversion, hcaps]; rfl) _

/-- NEGOTIATE_ALGORITHMS in its turn: the masks that the request offers decide. -/
theorem Chip.negotiate_heard (hears : c.Hears req 0xE3) (hcaps : c.dev.wdn.spdm.caps = true) (halgs : c.dev.wdn.spdm.algs = false)
    (asym hash dhe aead : Nat) :
    c.negotiate req asym hash dhe aead =
      if !asym.testBit 7 || !hash.testBit 1 then c.onDev fun d => d.spdmRefuse 1
      else c.onDev fun d => d.spdmAnswer
        { c.dev.wdn.spdm with algs := true, vca := c.dev.wdn.spdm.vca ++ req ++ algorithmsRsp dhe aead } (algorithmsRsp dhe aead) :=
  Chip.spdmAsk_ready hears (ready := fun s => s.caps && !s.algs) (by rw [hcaps, halgs]; rfl) _

/-! ## Certificates (R349) -/

/-- A certificate message is answered and kept for the next CHALLENGE. -/
abbrev Chip.certAnswer (c : Chip) (req rsp : List Byte) : Chip :=
  c.onDev fun d => d.spdmAnswer { c.dev.wdn.spdm with certs := c.dev.wdn.spdm.certs ++ req ++ rsp } rsp

theorem Chip.certSay_eq (rsp : List Byte) : c.certSay req rsp = c.certAnswer req rsp := rfl

theorem Chip.getDigests_heard (hears : c.Hears req 0x81) (halgs : c.dev.wdn.spdm.algs = true) :
    c.getDigests req = c.certAnswer req
      (if c.dev.certChain = [] then [0x12, 0x01, 0, 0] else [0x12, 0x01, 0, 1] ++ Config.sha384 c.dev.certChain) := by
  refine (Chip.spdmAsk_ready hears (ready := negotiated) halgs _).trans ?_
  by_cases hch : c.dev.certChain = [] <;> simp [hch, Chip.certSay_eq]

theorem Chip.getDigests_early (hears : c.Hears req 0x81) (halgs : c.dev.wdn.spdm.algs = false) :
    c.getDigests req = c.onDev fun d => d.spdmRefuse 4 := Chip.spdmAsk_unexpected hears (ready := negotiated) halgs _

/-- The part of the chain from `off` that GET_CERTIFICATE asks for, with its length and what remains after it. -/
theorem Chip.getCertificate_heard (hears : c.Hears req 0x82) (halgs : c.dev.wdn.spdm.algs = true) (hslot : leAt req 2 1 % 16 = 0)
    (hoff : leAt req 4 2 < c.dev.certChain.length) :
    c.getCertificate req = c.certAnswer req
      (let ch := c.dev.certChain
       let off := leAt req 4 2
       let n := min (leAt req 6 2) (ch.length - off)
       [0x12, 0x02, 0, 0] ++ leBytes 2 n ++ leBytes 2 (ch.length - off - n) ++ slice ch off n) := by
  refine (Chip.spdmAsk_ready hears (ready := negotiated) halgs _).trans ?_
  exact if_neg (not_or.mpr ⟨not_not.mpr hslot, Nat.not_le.mpr hoff⟩)

end

/-! ## The statement -/

/-- Settles O16: each clause is one rule above; the response's fields are read off its octets. -/
theorem spdmNegotiationAndCertificates : Obligations.SpdmNegotiationAndCertificates := by
  rintro s p req hrun rfl hwhole hshort
  have hears {code : Nat} (hcode : leAt req 1 1 = code) : s.chip.Hears req code := ⟨hrun, hshort, hwhole, hcode⟩
  refine ⟨fun hcode => ⟨versionRsp, ?version, rfl, rfl⟩, fun hcode hversion hcaps => ⟨capabilitiesRsp, ?capabilities, rfl, rfl, rfl⟩,
    fun asym hash dhe aead hcode hcaps halgs => ⟨fun hasym hhash => ⟨algorithmsRsp dhe aead, ?algorithms, rfl, rfl, rfl⟩, fun hnone => ?refused⟩,
    fun ch hch halgs => ⟨fun hcode rsp hrsp => ?digests, fun off n rsp hcode hslot hoff hin hn hrsp => ?certificate⟩,
    fun hcode halgs => ?early, fun long hlen => ?long⟩
  case version =>
    rw [exec_spdmGetVersion]
    exact onChip_outcome s (Chip.getVersion_heard (hears hcode))
  case capabilities =>
    rw [exec_spdmGetCapabilities]
    exact onChip_outcome s (Chip.getCapabilities_heard (hears hcode) hversion hcaps)
  case algorithms =>
    rw [exec_spdmNegotiateAlgorithms]
    exact onChip_outcome s ((Chip.negotiate_heard (hears hcode) hcaps halgs asym hash dhe aead).trans (if_neg (by simp [hasym, hhash])))
  case refused =>
    rw [exec_spdmNegotiateAlgorithms]
    exact onChip_outcome s ((Chip.negotiate_heard (hears hcode) hcaps halgs asym hash dhe aead).trans (if_pos (by simpa using hnone)))
  case digests =>
    subst hch hrsp
    rw [exec_spdmGetDigests]
    exact onChip_outcome s (Chip.getDigests_heard (hears hcode) halgs)
  case certificate =>
    subst hch hoff hn hrsp
    rw [exec_spdmGetCertificate]
    exact onChip_outcome s (Chip.getCertificate_heard (hears hcode) halgs hslot hin)
  case early =>
    rw [exec_spdmGetDigests]
    exact onChip_outcome s (Chip.getDigests_early (hears hcode) halgs)
  case long =>
    rw [exec_spdmGetVersion]
    exact onChip_outcome s (Chip.getVersion_long hlen)

end Sys2Proof.Machine
end

section
/-! SPDM authentication and the session (R35, R349, R350): what the identity key signs, how a session is set up, what a secured record meets,
and the statement about the five requests. -/

namespace Sys2Proof.Machine

/-! ## The commands -/

theorem exec_spdmChallenge (req : List Byte) (s : State) : exec (.spdmChallenge req) s = onChip s (fun c => c.challenge req) := rfl

theorem exec_spdmGetMeasurements (req : List Byte) (s : State) :
    exec (.spdmGetMeasurements req) s = onChip s (fun c => c.getMeasurements req) := rfl

theorem exec_spdmKeyExchange (req : List Byte) (s : State) :
    exec (.spdmKeyExchange req) s = onChip s (fun c => c.keyExchange req) := rfl

theorem exec_spdmFinish (req : List Byte) (s : State) : exec (.spdmFinish req) s = onChip s (fun c => c.finishSession req) := rfl

theorem exec_spdmEndSession (req : List Byte) (s : State) : exec (.spdmEndSession req) s = onChip s (fun c => c.endSession req) := rfl

section
variable {c : Chip} {req : List Byte}

/-! ## Signed answers (R349, R350) -/

/-- CHALLENGE_AUTH without its signature: the chain's digest, a nonce and, where asked for, the summary of the measurements. -/
def Chip.challengeHead (c : Chip) (req : List Byte) : List Byte :=
  [0x12, 0x03, 0, 1] ++ Config.sha384 c.dev.certChain ++ Config.freeBytes c.dev.nfree 32
    ++ (if leAt req 3 1 = 0 then [] else c.measureSummary) ++ [0, 0]

/-- The identity key's signature over the negotiation, the certificate messages and this exchange. -/
def Chip.challengeSig (c : Chip) (req : List Byte) : List Byte :=
  c.dev.spdmSign "challenge_auth" (c.dev.wdn.spdm.vca ++ c.dev.wdn.spdm.certs ++ req ++ c.challengeHead req)

theorem Chip.challenge_heard (hears : c.Hears req 0x83) (halgs : c.dev.wdn.spdm.algs = true) (hlen : req.length = 36)
    (hslot : leAt req 2 1 = 0) (hchain : c.dev.certChain ≠ []) :
    c.challenge req = c.onDev fun d =>
      { d.spdmAnswer { c.dev.wdn.spdm with certs := [] } (c.challengeHead req ++ c.challengeSig req) with nfree := d.nfree + 1 } := by
  have hok : ¬ (req.length ≠ 36 ∨ leAt req 2 1 ≠ 0 ∨ c.dev.certChain.isEmpty = true) := by simp [hlen, hslot, hchain]
  exact (Chip.spdmAsk_ready hears (ready := negotiated) halgs _).trans (if_neg hok)

/-- The measurements that an operation of GET_MEASUREMENTS asks for: none, all, or one. -/
def measureIndices (op : Nat) : List Nat := if op = 0 then [] else if op = 0xFF then [1, 2, 3, 4, 5, 6, 7] else [op]

/-- MEASUREMENTS without its signature: how many blocks, the blocks, a nonce. -/
def Chip.measureHead (c : Chip) (op : Nat) : List Byte :=
  [0x12, 0x60, (if op = 0 then 7 else 0), 0, BitVec.ofNat 8 (measureIndices op).length]
    ++ leBytes 3 ((measureIndices op).map c.measureBlock).flatten.length ++ ((measureIndices op).map c.measureBlock).flatten
    ++ Config.freeBytes c.dev.nfree 32 ++ [0, 0]

/-- The transcript of the measurement messages up to and with this one. -/
def Chip.measureLog (c : Chip) (req : List Byte) : List Byte := c.dev.wdn.spdm.meas ++ req ++ c.measureHead (leAt req 3 1)

def Chip.measureSig (c : Chip) (req : List Byte) : List Byte :=
  if (leAt req 2 1).testBit 0 then c.dev.spdmSign "measurements" (c.dev.wdn.spdm.vca ++ c.measureLog req) else []

theorem Chip.getMeasurements_heard (hears : c.Hears req 0xE0) (halgs : c.dev.wdn.spdm.algs = true)
    (hop : leAt req 3 1 ≤ 7 ∨ leAt req 3 1 = 255) :
    c.getMeasurements req = c.onDev fun d =>
      { d.spdmAnswer { c.dev.wdn.spdm with meas := if (leAt req 2 1).testBit 0 then [] else c.measureLog req }
          (c.measureHead (leAt req 3 1) ++ c.measureSig req) with nfree := d.nfree + 1 } := by
  have hok : ¬ (7 < leAt req 3 1 ∧ leAt req 3 1 ≠ 0xFF) := by omega
  exact (Chip.spdmAsk_ready hears (ready := negotiated) halgs _).trans (if_neg hok)

/-- The blocks stand behind the eight octets of the header. -/
theorem Chip.measureHead_blocks (c : Chip) (op : Nat) :
    ((c.measureHead op).drop 8).take ((measureIndices op).map c.measureBlock).flatten.length =
      ((measureIndices op).map c.measureBlock).flatten := by
  rw [show (c.measureHead op).drop 8 =
    ((measureIndices op).map c.measureBlock).flatten ++ (Config.freeBytes c.dev.nfree 32 ++ [0, 0]) by
      simp [Chip.measureHead, leBytes], List.take_left]

/-! ## Key exchange (R35, R350) -/

/-- KEY_EXCHANGE_RSP without signature and verify data. -/
def Chip.exchangeHead (c : Chip) (req : List Byte) : List Byte :=
  [0x12, 0x64, 0, 0] ++ Config.freeBytes (c.dev.nfree + 1) 2 ++ [0, 0] ++ Config.freeBytes (c.dev.nfree + 2) 32
    ++ (Config.publicOf 0x09 (Config.freeBytes c.dev.nfree 48)).drop 1 ++ (if leAt req 2 1 = 0 then [] else c.measureSummary) ++ [0, 0]

def Chip.exchangeSig (c : Chip) (req : List Byte) : List Byte :=
  c.dev.spdmSign "key_exchange_rsp" (c.dev.wdn.spdm.vca ++ Config.sha384 c.dev.certChain ++ req ++ c.exchangeHead req)

/-- The transcript of the exchange, signature included. -/
def Chip.exchangeLog (c : Chip) (req : List Byte) : List Byte :=
  c.dev.wdn.spdm.vca ++ Config.sha384 c.dev.certChain ++ req ++ c.exchangeHead req ++ c.exchangeSig req

/-- The secrets of the handshake that follows. -/
def Chip.exchangeSecret (c : Chip) (req : List Byte) : List Byte :=
  handshakeSecrets (Config.agree (Config.freeBytes c.dev.nfree 48) (slice req 40 96)) (c.exchangeLog req)

def Chip.exchangeMac (c : Chip) (req : List Byte) : List Byte :=
  verifyData (slice (c.exchangeSecret req) 48 48) (c.exchangeLog req)

theorem Dev.takeFree_three (d : Dev) : d.takeFree.takeFree.takeFree = { d with nfree := d.nfree + 3 } := rfl

/-- An answer for which three free values are drawn. -/
theorem Chip.answer_drawing (c : Chip) (p : Spdm) (rsp : List Byte) :
    (c.onDev fun d => d.takeFree.takeFree.takeFree.setSpdm p).doeSay 1 rsp =
      c.onDev fun d => { d.spdmAnswer p rsp with nfree := d.nfree + 3 } := by
  simp only [Dev.takeFree_three]
  rfl

theorem Chip.keyExchange_heard (hears : c.Hears req 0xE4) (halgs : c.dev.wdn.spdm.algs = true) (hidle : c.dev.wdn.spdm.session = 0)
    (hlen : 138 ≤ req.length) (hslot : leAt req 3 1 % 16 = 0) (hchain : c.dev.certChain ≠ []) :
    c.keyExchange req = c.onDev fun d =>
      { d.spdmAnswer
          { c.dev.wdn.spdm with session := 1, kex := c.exchangeLog req ++ c.exchangeMac req, secret := c.exchangeSecret req,
                                sid := slice req 4 2 ++ Config.freeBytes (c.dev.nfree + 1) 2, rx := 0, tx := 0 }
          (c.exchangeHead req ++ c.exchangeSig req ++ c.exchangeMac req) with nfree := d.nfree + 3 } := by
  have hok : ¬ (req.length < 138 ∨ leAt req 3 1 % 16 ≠ 0 ∨ c.dev.certChain.isEmpty = true) := by simp [hlen, hslot, hchain]
  refine (Chip.spdmAsk_ready hears (ready := fun s => s.algs && s.session == 0) (by rw [halgs, hidle]; rfl) _).trans ((if_neg hok).trans ?_)
  exact Chip.answer_drawing c _ _

/-! ## Secured records (R35) -/

/-- A secured answer leaves under the session `p`. -/
abbrev Dev.securedSay (d : Dev) (p : Spdm) (msg : List Byte) : Dev :=
  { d with wdn := { d.wdn with spdm := { d.wdn.spdm with tx := p.tx + 1 } }, out := d.out ++ [(none, .doe 2 (p.seal msg))] }

/-- The session `p` ends with an ERROR response in clear. -/
abbrev Dev.securedFail (d : Dev) (p : Spdm) (code : Byte) : Dev := d.spdmAnswer p.ended [0x12, 0x7F, code, 0]

/-- One more record of the session `p` has been received. -/
abbrev Dev.countRecord (d : Dev) (p : Spdm) : Dev := { d with wdn := { d.wdn with spdm := { p with rx := p.rx + 1 } } }

/-- The record counted, the message `m` in it is answered by `f` if its code and its place are right. -/
abbrev Dev.securedTake (d : Dev) (p : Spdm) (code phase : Nat) (f : List Byte → Dev → Dev) (m : List Byte) : Dev :=
  if leAt m 1 1 ≠ code ∨ m.length < 4 then (d.countRecord p).securedSay p [0x12, 0x7F, 1, 0]
  else if p.session ≠ phase then (d.countRecord p).securedSay p [0x12, 0x7F, 4, 0]
  else f m (d.countRecord p)

section
variable {d : Dev} {p : Spdm} {code phase : Nat} {f : List Byte → Dev → Dev} {m : List Byte}

theorem Dev.securedTake_misnamed (hcode : leAt m 1 1 ≠ code ∨ m.length < 4) :
    d.securedTake p code phase f m = (d.countRecord p).securedSay p [0x12, 0x7F, 1, 0] := if_pos hcode

theorem Dev.securedTake_misplaced (hcode : ¬ (leAt m 1 1 ≠ code ∨ m.length < 4)) (hphase : p.session ≠ phase) :
    d.securedTake p code phase f m = (d.countRecord p).securedSay p [0x12, 0x7F, 4, 0] := (if_neg hcode).trans (if_pos hphase)

theorem Dev.securedTake_due (hcode : ¬ (leAt m 1 1 ≠ code ∨ m.length < 4)) (hphase : ¬ p.session ≠ phase) :
    d.securedTake p code phase f m = f m (d.countRecord p) := (if_neg hcode).trans (if_neg hphase)

end

/-- The chip once a record of its session has been counted. -/
abbrev Chip.counted (c : Chip) : Chip := c.onDev fun d => d.countRecord c.dev.wdn.spdm

/-- Counting a record changes nothing that a sealed answer rests on. -/
theorem Chip.securedSay_counted (c : Chip) (msg : List Byte) :
    c.counted.securedSay msg = c.onDev fun d => (d.countRecord c.dev.wdn.spdm).securedSay c.dev.wdn.spdm msg := rfl

/-- Only the device that the chip holds decides what an effect on it gives. -/
theorem Chip.onDev_congr (c : Chip) {f g : Dev → Dev} (h : f c.dev = g c.dev) : c.onDev f = c.onDev g := by
  rw [Chip.onDev, Chip.onDev, h]

section
variable (hrun : c.dev.wdn.running = true) (hlen : req.length ≤ 16384)
include hrun hlen

/-- A record of another session is answered InvalidSession. -/
theorem Chip.securedAsk_other (hsid : req.take 4 ≠ c.dev.wdn.spdm.sid) (code phase : Nat) (f : List Byte → Chip → Chip) :
    c.securedAsk req code phase f = c.onDev fun d => d.spdmRefuse 2 := by
  rw [Chip.securedAsk, Chip.doeTake_running hrun hlen]
  exact if_pos (by simp [Chip.spdm, hsid])

/-- A record of the session: what it opens to decides, `g` being what `f` does with a message that has its code and place. -/
theorem Chip.securedAsk_session (hsess : c.dev.wdn.spdm.session ≠ 0) (hsid : req.take 4 = c.dev.wdn.spdm.sid) (code phase : Nat)
    {f : List Byte → Chip → Chip} {g : List Byte → Dev → Dev}
    (hfg : ∀ m, f m c.counted = c.onDev fun d => g m (d.countRecord c.dev.wdn.spdm)) :
    c.securedAsk req code phase f = c.onDev fun d => match c.dev.wdn.spdm.unseal req with
      | none => d.securedFail c.dev.wdn.spdm 6
      | some m => d.securedTake c.dev.wdn.spdm code phase g m := by
  have hours : ¬ (decide (c.dev.wdn.spdm.session = 0) || req.take 4 != c.dev.wdn.spdm.sid) = true := by simp [hsess, hsid]
  rw [Chip.securedAsk, Chip.doeTake_running hrun hlen]
  refine (if_neg hours).trans ?_
  cases hopen : c.dev.wdn.spdm.unseal req with
  | none =>
    simp only [Chip.spdm, hopen]
    rfl
  | some m =>
    simp only [Chip.spdm, hopen]
    by_cases hcode : leAt m 1 1 ≠ code ∨ m.length < 4
    · exact (if_pos hcode).trans ((c.securedSay_counted _).trans (c.onDev_congr (Dev.securedTake_misnamed hcode).symm))
    · refine (if_neg hcode).trans ?_
      by_cases hphase : c.dev.wdn.spdm.session ≠ phase
      · exact (if_pos hphase).trans ((c.securedSay_counted _).trans (c.onDev_congr (Dev.securedTake_misplaced hcode hphase).symm))
      · exact (if_neg hphase).trans ((hfg m).trans (c.onDev_congr (Dev.securedTake_due hcode hphase).symm))

end

/-- The session opens: the answer leaves under the handshake's secrets, what follows under the data secrets. -/
abbrev Dev.sessionOpens (p : Spdm) (m : List Byte) (d : Dev) : Dev :=
  let x := d.securedSay p [0x12, 0x65, 0, 0]
  { x with wdn := { x.wdn with spdm := { p with session := 2, kex := [], rx := 0, tx := 0,
                                                secret := dataSecrets (p.secret.drop 96) (p.kex ++ m ++ [0x12, 0x65, 0, 0]) } } }

/-- FINISH in its place: the right verify data open the session, wrong ones end it. -/
abbrev Dev.finishTake (p : Spdm) (m : List Byte) (d : Dev) : Dev :=
  if m.length = 52 ∧ slice m 4 48 = verifyData (slice p.secret 0 48) (p.kex ++ slice m 0 4) then Dev.sessionOpens p m d
  else d.securedFail p 6

/-- END_SESSION in its place: the answer leaves, and the session is over. -/
abbrev Dev.endTake (p : Spdm) (_m : List Byte) (d : Dev) : Dev :=
  let x := d.securedSay p [0x12, 0x6C, 0, 0]
  { x with wdn := { x.wdn with spdm := p.ended } }

section
variable (hrun : c.dev.wdn.running = true) (hlen : req.length ≤ 16384)
include hrun hlen

theorem Chip.finishSession_session (hsess : c.dev.wdn.spdm.session ≠ 0) (hsid : req.take 4 = c.dev.wdn.spdm.sid) :
    c.finishSession req = c.onDev fun d => match c.dev.wdn.spdm.unseal req with
      | none => d.securedFail c.dev.wdn.spdm 6
      | some m => d.securedTake c.dev.wdn.spdm 0xE5 1 (Dev.finishTake c.dev.wdn.spdm) m := by
  refine Chip.securedAsk_session hrun hlen hsess hsid 0xE5 1 fun m => ?_
  have htest : (slice m 4 48 == verifyData c.counted.spdm.reqSecret (c.counted.spdm.kex ++ slice m 0 4) && m.length == 52) = true ↔
      m.length = 52 ∧ slice m 4 48 = verifyData (slice c.dev.wdn.spdm.secret 0 48) (c.dev.wdn.spdm.kex ++ slice m 0 4) := by
    rw [Bool.and_eq_true, beq_iff_eq, beq_iff_eq, and_comm]
    rfl
  by_cases hright : m.length = 52 ∧
      slice m 4 48 = verifyData (slice c.dev.wdn.spdm.secret 0 48) (c.dev.wdn.spdm.kex ++ slice m 0 4)
  · have hopens : (c.onDev fun d => Dev.finishTake c.dev.wdn.spdm m (d.countRecord c.dev.wdn.spdm)) =
        c.onDev fun d => Dev.sessionOpens c.dev.wdn.spdm m (d.countRecord c.dev.wdn.spdm) :=
      c.onDev_congr (if_pos hright)
    exact (if_pos (htest.mpr hright)).trans hopens.symm
  · have hends : (c.onDev fun d => Dev.finishTake c.dev.wdn.spdm m (d.countRecord c.dev.wdn.spdm)) =
        c.onDev fun d => (d.countRecord c.dev.wdn.spdm).securedFail c.dev.wdn.spdm 6 :=
      c.onDev_congr (if_neg hright)
    exact (if_neg (mt htest.mp hright)).trans hends.symm

theorem Chip.endSession_session (hsess : c.dev.wdn.spdm.session ≠ 0) (hsid : req.take 4 = c.dev.wdn.spdm.sid) :
    c.endSession req = c.onDev fun d => match c.dev.wdn.spdm.unseal req with
      | none => d.securedFail c.dev.wdn.spdm 6
      | some m => d.securedTake c.dev.wdn.spdm 0xEC 2 (Dev.endTake c.dev.wdn.spdm) m :=
  Chip.securedAsk_session hrun hlen hsess hsid 0xEC 2 fun _ => rfl

end

end

/-! ## The statement -/

/-- Settles O17: the signed answers and the session's requests are the rules above. -/
theorem spdmAuthenticationAndSession : Obligations.SpdmAuthenticationAndSession := by
  rintro s c p req rfl hrun rfl hshort
  have hears {code : Nat} (hwhole : 4 ≤ req.length) (hcode : leAt req 1 1 = code) : s.chip.Hears req code := ⟨hrun, hshort, hwhole, hcode⟩
  refine ⟨fun hcode halgs hlen hslot hchain => ⟨s.chip.challengeHead req, s.chip.challengeSig req, ?challenge, rfl, rfl⟩,
    fun op is hcode halgs hwhole hop hrange his => ?measurements,
    fun hcode halgs hidle hlen hslot hchain => ⟨s.chip.exchangeHead req, s.chip.exchangeSig req, s.chip.exchangeMac req,
      s.chip.exchangeLog req, s.chip.exchangeSecret req, ?exchange, rfl, rfl, rfl, rfl⟩,
    fun hsess => ⟨fun hsid => ⟨?finish, ?endSession⟩, fun hsid => ?other⟩⟩
  case challenge =>
    rw [exec_spdmChallenge]
    exact onChip_outcome s (Chip.challenge_heard (hears (by omega) hcode) halgs hlen hslot hchain)
  case measurements =>
    subst hop
    obtain rfl : is = measureIndices (leAt req 3 1) := his
    refine ⟨s.chip.measureHead (leAt req 3 1), s.chip.measureSig req, ?_, rfl, s.chip.measureHead_blocks _, rfl⟩
    rw [exec_spdmGetMeasurements]
    exact onChip_outcome s (Chip.getMeasurements_heard (hears hwhole hcode) halgs hrange)
  case exchange =>
    rw [exec_spdmKeyExchange]
    exact onChip_outcome s (Chip.keyExchange_heard (hears (by omega) hcode) halgs hidle hlen hslot hchain)
  case finish =>
    rw [exec_spdmFinish]
    exact onChip_outcome s (Chip.finishSession_session hrun hshort hsess hsid)
  case endSession =>
    rw [exec_spdmEndSession]
    exact onChip_outcome s (Chip.endSession_session hrun hshort hsess hsid)
  case other =>
    rw [List.forall_mem_cons, List.forall_mem_singleton, exec_spdmFinish, exec_spdmEndSession]
    exact ⟨onChip_outcome s (Chip.securedAsk_other hrun hshort hsid _ _ _), onChip_outcome s (Chip.securedAsk_other hrun hshort hsid _ _ _)⟩

end Sys2Proof.Machine
end

section
/-! Descriptors (R32, R45, R53 to R58, R134): fetching ring entries and pallets, what arrives and what fails, and the statement about the
seven commands. -/

namespace Sys2Proof.Machine

/-! ## The commands -/

theorem exec_descriptorFetch (n i e : Nat) (s : State) :
    exec (.descriptorFetch n i e) s = onDev s (fun d => d.descriptorFetch n i e) := rfl

theorem exec_descriptorReadCompletion (e : Nat) (w : BitVec 512) (s : State) :
    exec (.descriptorReadCompletion e w) s = onDev s (fun d => d.descriptorArrives e w) := rfl

theorem exec_palletFetch (e : Nat) (es : List Nat) (s : State) :
    exec (.palletFetch e es) s = onDev s (fun d => d.palletFetch e es) := rfl

theorem exec_palletReadCompletion (e : Nat) (ws : List (BitVec 512)) (s : State) :
    exec (.palletReadCompletion e ws) s = onDev s (fun d => d.palletArrives e ws) := rfl

theorem exec_inputPrefetch (e : Nat) (bs : List Byte) (s : State) :
    exec (.inputPrefetch e bs) s = onDev s (fun d => d.inputPrefetch e bs) := rfl

/-- The two commands by which a read fails for good. -/
theorem exec_readFails {e : Nat} {i : Instr} (hi : i ∈ [Instr.readFailure e, .readCompletionTimeout e]) (s : State) :
    exec i s = onDev s (fun d => (d.readFails e).wdnTidy) := by
  simp only [List.mem_cons, List.not_mem_nil, or_false] at hi
  obtain rfl | rfl := hi <;> rfl

section
variable {d : Dev} {n i e : Nat}

/-! ## Fetching a ring entry (R53, R54) -/

theorem Dev.hasWork_iff : d.hasWork n i = true ↔ d.mayFetch n i = true ∧ d.nextRead n i ≠ d.rd (Fld.HIU_SQ_STATE_TAIL n i) ∧
    d.staged n < d.rd (Fld.PART_QUOTA_STAGING n) := by
  simp only [Dev.hasWork, Bool.and_eq_true, bne_iff_ne, decide_eq_true_eq, and_assoc]

/-- The entry after those under way is read into the free staging entry `e`. -/
theorem Dev.descriptorFetch_turn (hwork : d.hasWork n i = true) (hturn : d.itsTurn n i = true) (hout : d.outstanding < 2048)
    (he : e < 8192) (hfree : (d.cmd e).st = .free) :
    d.descriptorFetch n i e = (((d.serve n i).setCmd e (d.newCmd n i .fetching)).bumpOrder).emit
      (.memRead n (d.rd (Fld.HIU_SQ_BASE_BASE n i) * 4096 + d.nextRead n i * 64) 64) := by
  simp only [Dev.descriptorFetch, hwork, hturn, hfree, Nat.not_le.mpr he, Nat.not_le.mpr hout, decide_false, bne_self_eq_false,
    Bool.not_true, Bool.or_false, Bool.false_eq_true, if_false]

/-- A course that has had its share waits while another of the partition that has work has not. -/
theorem Dev.not_itsTurn {k : Nat} (hdone : d.courseDone n i = true) (hk : k < d.rd (Fld.PART_COURSES_SQ_COUNT n))
    (hwork : d.hasWork n k = true) (hdue : d.courseDone n k = false) : d.itsTurn n i = false := by
  have hround : ((List.range (d.rd (Fld.PART_COURSES_SQ_COUNT n))).all fun k => !d.hasWork n k || d.courseDone n k) = false := by
    rw [List.all_eq_false]
    exact ⟨k, List.mem_range.mpr hk, by simp [hwork, hdue]⟩
  simp only [Dev.itsTurn, hdone, hround, Bool.not_true, Bool.or_false, Bool.false_and]

theorem Dev.descriptorFetch_waits (hturn : d.itsTurn n i = false) : d.descriptorFetch n i e = d := by
  simp only [Dev.descriptorFetch, hturn, Bool.not_false, Bool.or_true, Bool.true_or, if_true]

/-! ## A ring entry arrives (R53, R55, R56) -/

/-- HEAD's advance writes HEAD and, at the wrap, lets a pending value take effect. -/
theorem Dev.headAdvance_writes (d : Dev) (n i : Nat) :
    ∃ (f : Fld) (h a : Nat), d.headAdvance n i = if h = 0 then (d.wr f h).boundary a else d.wr f h := ⟨_, _, _, rfl⟩

theorem Dev.cmd_headAdvance (n i e : Nat) : (d.headAdvance n i).cmd e = d.cmd e := by
  obtain ⟨f, h, a, hadv⟩ := d.headAdvance_writes n i
  rw [hadv]
  split <;> rfl

/-- A command that ends before it is admitted: its status, no RESULT, no place among the admitted (R86). -/
abbrev Cmd.rejected (c : Cmd) (status : Nat) : Cmd := { c with st := .ended, status := status, result := 0, counted := false, fcount := 0 }

theorem Dev.rejectCmd_setCmd (c : Cmd) (status : Nat) : (d.setCmd e c).rejectCmd e status = d.setCmd e (c.rejected status) := by
  rw [Dev.rejectCmd, Dev.modCmd, Dev.cmd_setCmd_same, Dev.setCmd_setCmd]

theorem Dev.rejectCmd_eq (status : Nat) : d.rejectCmd e status = d.setCmd e ((d.cmd e).rejected status) := rfl

theorem Dev.failCmd_eq (status : Nat) : d.failCmd e status = d.setCmd e { d.cmd e with st := .ended, status := status, result := 0 } := rfl

theorem Dev.handOver_eq (d : Dev) (e : Nat) (w : BitVec 512) :
    d.handOver e w = match d.descCheck (d.cmd e).part (d.cmd e).sq (d.cmd e).inPallet w with
      | none => d.bumpOrder.setCmd e { d.cmd e with
          desc := w, order := d.dsp.nextOrder + 1, st := .staged, ready := dInLen w == 0 || decide (256 < dInLen w) }
      | some s => (d.bumpOrder.setCmd e { d.cmd e with desc := w, order := d.dsp.nextOrder + 1 }).rejectCmd e s := rfl

/-- A descriptor that passes the checks is staged in its order. -/
theorem Dev.handOver_staged {w : BitVec 512} (hok : d.descCheck (d.cmd e).part (d.cmd e).sq (d.cmd e).inPallet w = none) :
    d.handOver e w = d.bumpOrder.setCmd e { d.cmd e with
      desc := w, order := d.dsp.nextOrder + 1, st := .staged, ready := dInLen w == 0 || decide (256 < dInLen w) } := by
  rw [Dev.handOver_eq, hok]

/-- One that fails them ends, in its order, with the status of the first that fails. -/
theorem Dev.handOver_rejected {w : BitVec 512} {st : Nat} (hbad : d.descCheck (d.cmd e).part (d.cmd e).sq (d.cmd e).inPallet w = some st) :
    d.handOver e w = d.bumpOrder.setCmd e (Cmd.rejected { d.cmd e with desc := w, order := d.dsp.nextOrder + 1 } st) := by
  rw [Dev.handOver_eq, hbad]
  exact Dev.rejectCmd_setCmd _ _

/-- The oldest read of its course completes: HEAD advances, and the descriptor is a pallet's or is handed over. -/
theorem Dev.descriptorArrives_oldest (w : BitVec 512) (hst : (d.cmd e).st = .fetching) (hold : d.isOldest e = true) :
    d.descriptorArrives e w =
      (let d' := d.headAdvance (d.cmd e).part (d.cmd e).sq
       if dPallet w then
         if palletOk w then d'.setCmd e { d.cmd e with st := .palletWait, desc := w }
         else d'.setCmd e (Cmd.rejected { d.cmd e with desc := w } stBadDescriptor)
       else d'.handOver e w) := by
  simp only [Dev.descriptorArrives, hst, hold, bne_self_eq_false, Bool.not_true, Bool.or_false, Bool.false_eq_true, if_false,
    Dev.rejectCmd_setCmd]

/-! ## Pallets (R45, R57, R58) -/

/-- Entries of a pallet's descriptors, of which the pallet's own entry takes descriptor 0, are set aside and the block is read. -/
theorem Dev.palletFetch_fits {es : List Nat} {count : Nat} (hst : (d.cmd e).st = .palletWait) (hsend : d.canSend (d.cmd e).part = true)
    (hen : d.partEnabled (d.cmd e).part = true) (hcount : count = dField (d.cmd e).desc 6 2) (hes : es.length + 1 = count)
    (hnodup : es.Nodup) (hfree : ∀ x ∈ es, x < 8192 ∧ (d.cmd x).st = .free)
    (hquota : d.staged (d.cmd e).part + es.length ≤ d.rd (Fld.PART_QUOTA_STAGING (d.cmd e).part))
    (herr : d.bit (Fld.HIU_SQ_STATE_ERR_CODE (d.cmd e).part (d.cmd e).sq) = false)
    (hout : d.outstanding + (d.packets (.memRead (d.cmd e).part (dField (d.cmd e).desc 0x10 8) (count * 64))).length ≤ 2048) :
    d.palletFetch e es =
      (((es.zipIdx 1).foldl (fun x p => x.setCmd p.1 { d.cmd e with st := .palletRead, pidx := p.2, inPallet := true }) d).setCmd e
        { d.cmd e with st := .palletRead }).emit (.memRead (d.cmd e).part (dField (d.cmd e).desc 0x10 8) (count * 64)) := by
  have hall : (es.any fun x => decide (8192 ≤ x) || (d.cmd x).st != .free) = false := by
    rw [List.any_eq_false]
    intro x hx
    obtain ⟨hlt, hst⟩ := hfree x hx
    simp [hst, Nat.not_le.mpr hlt]
  subst hcount
  simp only [Dev.palletFetch, hst, hsend, hen, herr, hes, hnodup, hall, Nat.not_lt.mpr hquota, Nat.not_lt.mpr hout, decide_false,
    decide_true, bne_self_eq_false, Bool.not_true, Bool.or_false, Bool.false_eq_true, if_false]

/-- A pallet block arrives: its descriptors are handed over in index order. -/
theorem Dev.palletArrives_oldest {ws : List (BitVec 512)} (hst : (d.cmd e).st = .palletRead) (hown : (d.cmd e).inPallet = false)
    (hold : d.isOldest e = true) (hlen : ws.length = dField (d.cmd e).desc 6 2) :
    d.palletArrives e ws =
      (List.zip ((List.range ws.length).map fun k => d.palletEntry e k) ws.zipIdx).foldl (fun x p => match p.1 with
        | none => x
        | some k => (x.setCmd k { x.cmd k with inPallet := true, pidx := p.2.2 }).handOver k p.2.1) d := by
  simp only [Dev.palletArrives, hst, hown, hold, hlen, bne_self_eq_false, Bool.not_true, Bool.or_false, Bool.false_eq_true, if_false]
  rfl

/-! ## Reads that fail (R32) -/

/-- A value that a filter keeps is read as before: what the filter drops stands at other numbers or behind it. -/
theorem tget_filter_kept {α : Type} {dflt : Nat → α} {p : Nat × α → Bool} {k : Nat} (t : Tab α) (hkept : p (k, tget dflt t k) = true) :
    tget dflt (t.filter p) k = tget dflt t k := by
  induction t with
  | nil => rfl
  | cons x t ih =>
    obtain ⟨j, v⟩ := x
    by_cases hj : j = k
    · subst hj
      simp only [tget, if_true] at hkept ⊢
      simp [hkept, tget]
    · simp only [tget, if_neg hj] at hkept ⊢
      by_cases hp : p (j, v) = true <;> simp [hp, tget, hj, ih hkept]

/-- A write lists nothing new at other numbers. -/
theorem mem_of_mem_tput {α : Type} [DecidableEq α] {dflt : Nat → α} {t : Tab α} {k : Nat} {v : α} {x : Nat × α}
    (hx : x ∈ tput dflt t k v) (hk : x.1 ≠ k) : x ∈ t := by
  simp only [tput] at hx
  split at hx
  · exact (List.mem_filter.mp hx).1
  · rcases (mem_tins _ _ _).mp hx with rfl | hx
    · exact absurd rfl hk
    · exact (List.mem_filter.mp hx).1

theorem Dev.mem_cmds_of_setCmd {c : Cmd} {x : Nat × Cmd} (hx : x ∈ (d.setCmd e c).dsp.cmds) (hne : x.1 ≠ e) : x ∈ d.dsp.cmds :=
  mem_of_mem_tput (dflt := fun _ => Cmd.reset) hx hne

/-- The commands of which `p` holds stay; the error of function `n`'s read has been logged. -/
abbrev Dev.afterFailure (d : Dev) (n : Nat) (p : Nat × Cmd → Bool) : Dev :=
  { d with out := d.out ++ [(none, .aer n)], dsp := { d.dsp with cmds := d.dsp.cmds.filter p } }

/-- A ring entry's read fails: it and the reads issued after it are void, and the course stops. -/
theorem Dev.readFails_fetching (hst : (d.cmd e).st = .fetching) :
    d.readFails e = (d.afterFailure (d.cmd e).part fun x => x.2.part != (d.cmd e).part || x.2.sq != (d.cmd e).sq || x.2.st != .fetching
      || decide (x.2.order < (d.cmd e).order)).sqError (d.cmd e).part (d.cmd e).sq 2 := by
  simp only [Dev.readFails, hst, beq_self_eq_true, Bool.true_or, Bool.not_true, Bool.false_eq_true, if_false]
  exact congrArg (fun x : Dev => x.sqError (d.cmd e).part (d.cmd e).sq 2) rfl

/-- A pallet's read fails: its other entries are given up, and the pallet is rejected. -/
theorem Dev.readFails_pallet (hst : (d.cmd e).st = .palletRead) (hown : (d.cmd e).inPallet = false) :
    d.readFails e = (d.afterFailure (d.cmd e).part fun x => x.2.st != .palletRead || !x.2.inPallet || x.2.order != (d.cmd e).order).rejectCmd e
      stBadDescriptor := by
  simp only [Dev.readFails, hst, hown, beq_self_eq_true, Bool.true_or, Bool.or_true, Bool.not_true, Bool.false_eq_true, if_false]
  exact congrArg (fun x : Dev => x.rejectCmd e stBadDescriptor) rfl

/-- The entry waits for its input area. -/
abbrev Cmd.wantsInput (c : Cmd) : Prop := dInLen c.desc ≠ 0 ∧ c.ready = false

theorem Dev.readFails_staged (hst : (d.cmd e).st = .staged) (hwants : (d.cmd e).wantsInput) :
    d.readFails e = (d.emit (.aer (d.cmd e).part)).rejectCmd e stBadDescriptor := by
  simp [Dev.readFails, hst, hwants.1, hwants.2]

theorem Dev.readFails_admitted (hst : (d.cmd e).st = .admitted) (hwants : (d.cmd e).wantsInput) :
    d.readFails e = (d.emit (.aer (d.cmd e).part)).failCmd e stBadDescriptor := by
  simp [Dev.readFails, hst, hwants.1, hwants.2]

/-- The pallet's own entry ends with ST_BAD_DESCRIPTOR, and no other entry of the pallet is left. -/
theorem Dev.readFails_pallet_spec (hst : (d.cmd e).st = .palletRead) (hown : (d.cmd e).inPallet = false) :
    ((d.readFails e).cmd e).st = .ended ∧ ((d.readFails e).cmd e).status = 0x0101 ∧ ((d.readFails e).cmd e).inPallet = false ∧
      (d.readFails e).out = d.out ++ [(none, .aer (d.cmd e).part)] ∧
      ∀ x ∈ (d.readFails e).dsp.cmds, x.1 ≠ e → x.2.st = .palletRead → x.2.inPallet = true → x.2.order ≠ (d.cmd e).order := by
  have hkept : (d.afterFailure (d.cmd e).part fun x =>
      x.2.st != .palletRead || !x.2.inPallet || x.2.order != (d.cmd e).order).cmd e = d.cmd e :=
    tget_filter_kept d.dsp.cmds (by rw [show tget _ d.dsp.cmds e = d.cmd e from rfl, hown]; simp)
  rw [Dev.readFails_pallet hst hown, Dev.rejectCmd_eq, Dev.cmd_setCmd_same, hkept]
  refine ⟨rfl, rfl, hown, rfl, fun x hx hne hread hin => ?_⟩
  have hmem := (List.mem_filter.mp (Dev.mem_cmds_of_setCmd hx hne)).2
  simpa [hread, hin] using hmem

/-- A command whose input area cannot be read ends with ST_BAD_DESCRIPTOR. -/
theorem Dev.readFails_input_spec (hst : (d.cmd e).st = .staged ∨ (d.cmd e).st = .admitted) (hwants : (d.cmd e).wantsInput) :
    ((d.readFails e).cmd e).st = .ended ∧ ((d.readFails e).cmd e).status = 0x0101 ∧
      (d.readFails e).out = d.out ++ [(none, .aer (d.cmd e).part)] := by
  rcases hst with hst | hst
  · rw [Dev.readFails_staged hst hwants, Dev.rejectCmd_eq, Dev.cmd_setCmd_same]
    exact ⟨rfl, rfl, rfl⟩
  · rw [Dev.readFails_admitted hst hwants, Dev.failCmd_eq, Dev.cmd_setCmd_same]
    exact ⟨rfl, rfl, rfl⟩

/-- With an empty mailbox there is nothing to tidy. -/
theorem Dev.wdnTidy_empty (hempty : d.wdn.queue = []) : d.wdnTidy = d := by
  have hdrop : d.kmDrop = d := by
    rw [Dev.kmDrop, hempty, List.filter_nil, ← hempty]
  show d.kmDrop.settle d.kmDrop.wdn.queue.length = d
  rw [hdrop, hempty]
  rfl

/-! ## Input areas (R134) -/

/-- The input area is stored in INPUT_PREFETCH. -/
theorem Dev.inputPrefetch_stores {bs : List Byte} (hst : (d.cmd e).st = .staged ∨ (d.cmd e).st = .admitted) (hready : (d.cmd e).ready = false)
    (hlen : bs.length = dInLen (d.cmd e).desc) (hsend : d.canSend (d.cmd e).part = true) :
    d.inputPrefetch e bs = (d.setCmd e { d.cmd e with prefetch := bytesBv 2048 bs, ready := true }).emit
      (.memRead (d.cmd e).part (dInAddr (d.cmd e).desc) (dInLen (d.cmd e).desc)) := by
  have hwaits : ((d.cmd e).st == .staged || (d.cmd e).st == .admitted) = true := by
    rcases hst with hst | hst <;> rw [hst] <;> rfl
  simp only [Dev.inputPrefetch, hwaits, hready, hlen, hsend, bne_self_eq_false, Bool.not_true, Bool.or_false, Bool.false_eq_true, if_false]

end

/-! ## The statement -/

/-- Settles O18: each clause is one rule above, taken from the device to the state. That a course that has had its share waits is the model's
choice of a round for R54's proportions (assumption 26). -/
theorem descriptorsArePrefetchedCheckedAndStaged : Obligations.DescriptorsArePrefetchedCheckedAndStaged := by
  rintro s d c e rfl rfl
  refine ⟨fun n i next hmay hturn hout he hfree hquota hnext htail => ?fetch, fun n i k hdone hk hwork hdue => ?share,
    fun w d' hst hold hd' => ?arrives, fun es count hst hsend hen hcount hes hnodup hfree hquota herr hout => ?palletFetch,
    fun ws hst hown hold hlen => ?palletArrives, fun i hi => ⟨fun hst => ?ringFails, fun hst hown => ?palletFails, fun hst hlen hready => ?inputFails⟩,
    fun x hempty => Dev.wdnTidy_empty hempty, fun bs hst hready hlen hsend => ?input⟩
  case fetch =>
    obtain rfl : next = s.chip.dev.nextRead n i := hnext
    rw [exec_descriptorFetch]
    exact onDev_outcome s (Dev.descriptorFetch_turn (Dev.hasWork_iff.mpr ⟨hmay, htail, hquota⟩) hturn hout he hfree)
  case share =>
    rw [exec_descriptorFetch]
    exact onDev_unchanged (Dev.descriptorFetch_waits (Dev.not_itsTurn hdone hk hwork hdue))
  case arrives =>
    subst hd'
    have hrule := Dev.descriptorArrives_oldest w hst hold
    have hkept := Dev.cmd_headAdvance (d := s.chip.dev) (s.chip.dev.cmd e).part (s.chip.dev.cmd e).sq e
    rw [exec_descriptorReadCompletion]
    refine ⟨fun hpal hok => ?_, fun hpal hbad => ?_, fun hpal hok => ?_, fun st hpal hbad => ?_⟩
    · exact onDev_outcome s (hrule.trans ((if_pos hpal).trans (if_pos hok)))
    · exact onDev_outcome s (hrule.trans ((if_pos hpal).trans (if_neg (Bool.eq_false_iff.mp hbad))))
    · refine onDev_outcome s (hrule.trans ((if_neg (Bool.eq_false_iff.mp hpal)).trans ((Dev.handOver_staged ?_).trans ?_)))
      · rw [hkept, hok]
      · rw [hkept]
    · refine onDev_outcome s (hrule.trans ((if_neg (Bool.eq_false_iff.mp hpal)).trans ((Dev.handOver_rejected (st := st) ?_).trans ?_)))
      · rw [hkept, hbad]
      · rw [hkept]
  case palletFetch =>
    rw [exec_palletFetch]
    exact onDev_outcome s (Dev.palletFetch_fits hst hsend hen hcount hes hnodup hfree hquota herr hout)
  case palletArrives =>
    rw [exec_palletReadCompletion]
    exact onDev_outcome s (Dev.palletArrives_oldest hst hown hold hlen)
  case ringFails =>
    rw [exec_readFails hi]
    exact onDev_outcome s (congrArg Dev.wdnTidy (Dev.readFails_fetching hst))
  case palletFails =>
    refine ⟨s.chip.dev.readFails e, ?_, Dev.readFails_pallet_spec hst hown⟩
    rw [exec_readFails hi]
    exact onDev_outcome s rfl
  case inputFails =>
    refine ⟨s.chip.dev.readFails e, ?_, Dev.readFails_input_spec hst ⟨hlen, hready⟩⟩
    rw [exec_readFails hi]
    exact onDev_outcome s rfl
  case input =>
    rw [exec_inputPrefetch]
    exact onDev_outcome s (Dev.inputPrefetch_stores hst hready hlen hsend)

end Sys2Proof.Machine
end

section
/-! Fences and completions (R59 to R63, R74, R77 to R81, R84): how a fence is admitted and satisfied, how completions are queued, written and
coalesced, and the statement about the nine commands. -/

namespace Sys2Proof.Machine

/-! ## The commands -/

theorem exec_fenceSatisfied (e : Nat) (s : State) : exec (.fenceSatisfied e) s = onDev s (fun d => d.fenceSatisfied e) := rfl

theorem exec_completionQueue (e : Nat) (s : State) : exec (.completionQueue e) s = onDev s (fun d => d.completionQueue e) := rfl

theorem exec_completionWrite (n i : Nat) (s : State) :
    exec (.completionWrite n i) s = onDev s (fun d => d.completionWrite n i) := rfl

theorem exec_coalTimerExpiry (n i : Nat) (s : State) : exec (.coalTimerExpiry n i) s = onDev s (fun d => d.coalExpire n i) := rfl

/-- The five commands by which a fence is admitted, each with its FUNCTION_ID, which is a fence's. -/
theorem exec_fenceAs {e : Nat} {x : Nat × Instr} (hx : x ∈ [(0xF000, Instr.fenceCourse e), (0xF001, .fencePartition e), (0xF002, .fenceKeys e),
    (0xF003, .fenceCounters e), (0xF004, .fenceBond e)]) (s : State) :
    exec x.2 s = onDev s (fun d => d.fenceAs x.1 e) ∧ isFence x.1 = true := by
  simp only [List.mem_cons, List.not_mem_nil, or_false] at hx
  obtain rfl | rfl | rfl | rfl | rfl := hx <;> exact ⟨rfl, rfl⟩

section
variable {d : Dev} {e : Nat}

/-! ## Fences (R74, R77 to R81) -/

/-- A command of the partition's epoch of today. -/
theorem Dev.current_iff : d.current e = true ↔ (d.cmd e).epoch = d.epoch (d.cmd e).part := by rw [Dev.current, beq_iff_eq]

/-- Neither its epoch nor a Lock or an Erase ends the command at the gate. -/
theorem Dev.gate_open (hcur : d.current e = true) (herased : d.tmp.erased = false) (herasing : d.tmp.erasing = false)
    (hlock : d.tmp.lock = false) : d.gate e = none := by
  simp only [Dev.gate, hcur, herased, herasing, hlock, Bool.not_true, Bool.or_false, Bool.false_eq_true, if_false]

/-- A staged fence past the gate: its fields, then the number of its partition's fences decide. -/
theorem Dev.fenceAs_staged {f : Nat} (hfence : isFence f = true) (hfn : dFunction (d.cmd e).desc = f) (hst : (d.cmd e).st = .staged)
    (hgate : d.gate e = none) :
    d.fenceAs f e =
      if !fenceFieldsZero (d.cmd e).desc then d.rejectCmd e stBadDescriptor
      else if 64 ≤ d.fences (d.cmd e).part then d.rejectCmd e stQuota
      else d.setCmd e { d.cmd e with st := .fence, adm := d.seq.toNat + 1 } := by
  rw [Dev.fenceAs, if_pos hfn]
  simp only [Dev.admitFence, hst, hfn, hfence, hgate, bne_self_eq_false, Bool.not_true, Bool.or_false, Bool.false_eq_true, if_false]

/-- The condition of a fence, kind by kind (R79). -/
theorem Dev.fenceHolds_of {c : Cmd} (hearlier : d.earlierDone c = true) (hkeys : dFunction c.desc = 0xF002 → d.keysSettled c = true)
    (hcounters : dFunction c.desc = 0xF003 → d.countersSettled c = true)
    (hbond : dFunction c.desc = 0xF004 → d.bondSettled c = true) : d.fenceHolds c = true := by
  rw [Dev.fenceHolds, hearlier, Bool.true_and]
  split
  case h_1 h => exact hkeys h
  case h_2 h => exact hcounters h
  case h_3 h => exact hbond h
  case h_4 => rfl

/-- The event by which a fence is satisfied changes nothing that its RESULT says besides the number. -/
theorem Dev.fenceEpoch_event (c : Cmd) : d.event.fenceEpoch c = d.fenceEpoch c := rfl
theorem Dev.fenceCount_event (c : Cmd) : d.event.fenceCount c = d.fenceCount c := rfl

theorem Dev.fenceSatisfied_holds (hst : (d.cmd e).st = .fence) (hcur : d.current e = true) (hholds : d.fenceHolds (d.cmd e) = true) :
    d.fenceSatisfied e = (d.event.setCmd e { d.cmd e with
      st := .ended, status := 0, result := fenceResult (d.seq + 1).toNat (d.fenceEpoch (d.cmd e)) (d.fenceCount (d.cmd e)) }).completionQueue e := by
  simp only [Dev.fenceSatisfied, hst, hcur, hholds, bne_self_eq_false, Bool.not_true, Bool.or_false, Bool.false_eq_true, if_false,
    Dev.fenceEpoch_event, Dev.fenceCount_event]
  rfl

/-! ## Completions queued (R61, R84, R86) -/

/-- A released command that keeps its output, all of which has been sent: its completion course decides. -/
theorem Dev.completionQueue_released (hst : (d.cmd e).st = .released) (hcur : d.current e = true) (hauth : (d.cmd e).status ≠ 0x0301)
    (hsent : (d.fn (d.cmd e).part).held.any (fun h => h.1 == some e) = false) {q : Nat}
    (hq : q = d.rd (Fld.HIU_SQ_CFG_CQ (d.cmd e).part (d.cmd e).sq)) :
    d.completionQueue e =
      if !d.bit (Fld.HIU_CQ_STATE_ENABLE (d.cmd e).part q) then d.dropCmd e
      else (d.event.setCmd e { d.cmd e with st := .queued, seq := d.seq + 1 }).setCq (d.cmd e).part q
        { d.cq (d.cmd e).part q with waiting := (d.cq (d.cmd e).part q).waiting ++ [e] } := by
  have hkeep : ((d.cmd e).status == stAuthFail) = false := beq_eq_false_iff_ne.mpr hauth
  have hzero : zeroOutput (d.cmd e) = false := by rw [zeroOutput, hst, hkeep]; simp
  have hout : d.outHeld (d.cmd e).part e = false := hsent
  have hended : (CmdSt.released == CmdSt.ended) = false := rfl
  subst hq
  simp only [Dev.completionQueue, hst, hcur, hkeep, hzero, hout, hended, bne_self_eq_false, Bool.not_true, Bool.false_and, Bool.and_false,
    Bool.or_false, Bool.false_eq_true, if_false]
  rfl

/-! ## Entries freed (R46, R64) -/

/-- No thread holds the command: its entry is free. -/
theorem Dev.dropCmd_unheld (h : (d.thrs.any fun t => t.2.cmd == some e) = false) : d.dropCmd e = d.setCmd e Cmd.reset := by
  have hnone : tfind (fun _ t => t.cmd == some e) d.thrs = none := by
    simpa [tfind] using h
  rw [Dev.dropCmd, hnone]

/-- What is kept of the command `c` for a thread that goes on past its completion. -/
def Cmd.past (c : Cmd) : Cmd := { c with st := .free, counted := false, adm := 0 }

theorem Dev.cmd_modThr (d : Dev) (h : Nat) (f : Thr → Thr) (k : Nat) : (d.modThr h f).cmd k = d.cmd k := rfl

theorem Dev.thr_modThr_same (d : Dev) (h : Nat) (f : Thr → Thr) : (d.modThr h f).thr h = f (d.thr h) := Dev.thr_setThr_same _ _ _

theorem Dev.dropCmd_of_tfind {h : Nat} (hthr : tfind (fun _ t => t.cmd == some e) d.thrs = some h) :
    d.dropCmd e = ((d.setCmd e Cmd.reset).setCmd (pastEntry h) (d.cmd e).past).modThr h fun t => { t with cmd := some (pastEntry h) } := by
  rw [Dev.dropCmd, hthr]
  rfl

/-- A thread goes on past its command's completion: the entry is free, and the command's program stands under the thread's own number. -/
theorem Dev.dropCmd_held {h : Nat} (hthr : tfind (fun _ t => t.cmd == some e) d.thrs = some h) (he : e < 8192) :
    (d.dropCmd e).cmd e = Cmd.reset ∧ ((d.dropCmd e).thr h).cmd = some (8192 + h) ∧
      ((d.dropCmd e).cmd (8192 + h)).image = (d.cmd e).image := by
  have hne : e ≠ pastEntry h := by rw [pastEntry]; omega
  rw [Dev.dropCmd_of_tfind hthr, Dev.cmd_modThr, Dev.cmd_modThr, Dev.thr_modThr_same, ← pastEntry, Dev.cmd_setCmd_ne _ _ hne,
    Dev.cmd_setCmd_same, Dev.cmd_setCmd_same]
  exact ⟨rfl, rfl, rfl⟩

/-! ## Completions written (R59, R60, R63) -/

theorem Dev.dropCmd_regs (d : Dev) (e : Nat) : (d.dropCmd e).regs = d.regs := by
  cases hthr : tfind (fun _ t => t.cmd == some e) d.thrs with
  | none => rw [Dev.dropCmd, hthr, Dev.setCmd_regs]
  | some h => rw [Dev.dropCmd_of_tfind hthr, Dev.modThr, Dev.setThr_regs, Dev.setCmd_regs, Dev.setCmd_regs]

/-- The completion of entry `e` leaves for the ring's entry TAIL, and `rest` wait behind it; the staging entry is freed. -/
def Dev.cqPost (d : Dev) (n i e : Nat) (rest : List Nat) : Dev :=
  ((d.emit (.completion n i (d.rd (Fld.HIU_CQ_STATE_TAIL n i))
    (d.rd (Fld.HIU_CQ_BASE_BASE n i) * 4096 + d.rd (Fld.HIU_CQ_STATE_TAIL n i) * 32)
    (completionBits (d.cmd e) (d.rd (Fld.HIU_SQ_STATE_HEAD n (d.cmd e).sq)) (d.rd (Fld.HIU_CQ_STATE_PHASE n i) = 1)))).setCq n i
      { d.cq n i with waiting := rest }).dropCmd e

/-- TAIL moves to `t`, PHASE flips at the wrap, FULL clears when nothing waits, and the completion is coalesced. -/
def Dev.cqAdvance (d : Dev) (n i t : Nat) (rest : List Nat) : Dev :=
  let d := d.wr (Fld.HIU_CQ_STATE_TAIL n i) t
  let d := if t = 0 then d.wr (Fld.HIU_CQ_STATE_PHASE n i) (1 - d.rd (Fld.HIU_CQ_STATE_PHASE n i)) else d
  let d := if rest = [] then d.wr (Fld.HIU_CQ_STATE_FULL n i) 0 else d
  d.coalesce n i

/-- Posting a completion changes no register: the ring's size stands. -/
theorem Dev.cqSize_cqPost (d : Dev) (n i e : Nat) (rest : List Nat) :
    (d.cqPost n i e rest).cqSize n i = 2 ^ d.rd (Fld.HIU_CQ_CFG_SIZE_LOG2 n i) := by
  have hregs : (d.cqPost n i e rest).regs = d.regs := Dev.dropCmd_regs _ e
  rw [Dev.cqSize, Dev.rd_of_regs hregs]

/-- The completion at the front of a course that may write it: a full ring sets FULL, else it is posted and TAIL moves on. -/
theorem Dev.completionWrite_front {n i : Nat} {rest : List Nat} (hwait : (d.cq n i).waiting = e :: rest) (hsend : d.canSend n = true)
    (hen : d.rd (Fld.HIU_CQ_STATE_ENABLE n i) = 1) (herr : d.rd (Fld.HIU_CQ_STATE_ERR_CODE n i) = 0) :
    d.completionWrite n i =
      (let t := (d.rd (Fld.HIU_CQ_STATE_TAIL n i) + 1) % 2 ^ d.rd (Fld.HIU_CQ_CFG_SIZE_LOG2 n i)
       if t = d.rd (Fld.HIU_CQ_STATE_HEAD n i) then d.wr (Fld.HIU_CQ_STATE_FULL n i) 1
       else (d.cqPost n i e rest).cqAdvance n i t rest) := by
  have hphase : d.bit (Fld.HIU_CQ_STATE_PHASE n i) = decide (d.rd (Fld.HIU_CQ_STATE_PHASE n i) = 1) := by
    rw [Bool.eq_iff_iff, Dev.bit_iff_one d rfl, decide_eq_true_iff]
  have hfull : d.cqFull n i = true ↔ (d.rd (Fld.HIU_CQ_STATE_TAIL n i) + 1) % 2 ^ d.rd (Fld.HIU_CQ_CFG_SIZE_LOG2 n i) =
      d.rd (Fld.HIU_CQ_STATE_HEAD n i) := by rw [Dev.cqFull, beq_iff_eq, Dev.cqSize]
  rw [Dev.completionWrite, hwait]
  simp only [hsend, Dev.bit_one d hen, Dev.bit_zero d herr, hphase, hfull, List.isEmpty_iff, Bool.not_true, Bool.or_false,
    Bool.false_eq_true, if_false]
  refine if_congr Iff.rfl rfl ?_
  simp only [← d.cqSize_cqPost n i e rest, Dev.cqAdvance, Dev.cqPost]

theorem Dev.coalExpire_due {n i : Nat} (htimer : (d.cq n i).timer = true) (hint : d.rd (Fld.HIU_CQ_CFG_INT_EN n i) = 1) :
    d.coalExpire n i = d.cqMessage n i := if_pos (by rw [htimer, Dev.bit_one d hint]; rfl)

end

/-! ## The statement -/

/-- Settles O20: each clause is one rule above, taken from the device to the state. That a fence keeps the event number of its admission and
that a thread past RELEASE keeps its program under 8192 + h are the model's choices (assumptions 27 and 82). -/
theorem fencesCompleteInOrderAndCompletionsArePosted : Obligations.FencesCompleteInOrderAndCompletionsArePosted := by
  rintro s d c e q rfl rfl hepoch hq
  have hcur := Dev.current_iff.mpr hepoch
  refine ⟨fun x hx hst hfn herased herasing hlock => ?enter, fun r hst hearlier hkeys hcounters hbond hr => ?satisfied,
    fun hst hauth hsent hen => ?queue, fun hst hoff hauth hsent => ?drop, fun x h => Dev.dropCmd_unheld h, fun x h hthr he => Dev.dropCmd_held hthr he,
    fun n i rest t size hwait hsend hen herr ht hsize => ?write, fun n i htimer hint => ?expire⟩
  case enter =>
    obtain ⟨hexec, hfence⟩ := exec_fenceAs hx s
    have hrule := Dev.fenceAs_staged hfence hfn hst (Dev.gate_open hcur herased herasing hlock)
    rw [hexec]
    refine ⟨fun hzero hroom => ?_, fun hset => ?_, fun hzero hfull => ?_⟩
    · exact onDev_outcome s (hrule.trans ((if_neg (by simp [hzero])).trans (if_neg (Nat.not_le.mpr hroom))))
    · exact onDev_outcome s (hrule.trans (if_pos (by simp [hset])))
    · exact onDev_outcome s (hrule.trans ((if_neg (by simp [hzero])).trans (if_pos hfull)))
  case satisfied =>
    subst hr
    rw [exec_fenceSatisfied]
    exact onDev_outcome s (Dev.fenceSatisfied_holds hst hcur (Dev.fenceHolds_of hearlier hkeys hcounters hbond))
  case queue =>
    rw [exec_completionQueue]
    exact onDev_outcome s ((Dev.completionQueue_released hst hcur hauth hsent hq).trans (if_neg (by simp [Dev.bit_one _ hen])))
  case drop =>
    rw [exec_completionQueue]
    exact onDev_outcome s ((Dev.completionQueue_released hst hcur hauth hsent hq).trans (if_pos (by simp [Dev.bit_zero _ hoff])))
  case write =>
    subst ht hsize
    have hrule := Dev.completionWrite_front hwait hsend hen herr
    rw [exec_completionWrite]
    exact ⟨fun hfull => onDev_outcome s (hrule.trans (if_pos hfull)), fun hroom => onDev_outcome s (hrule.trans (if_neg hroom))⟩
  case expire =>
    rw [exec_coalTimerExpiry]
    exact onDev_outcome s (Dev.coalExpire_due htimer hint)

end Sys2Proof.Machine
end

section
/-! Completion (R64, R325, R398): what a command changes, and the statement that every command completes. -/

namespace Sys2Proof.Machine

/-- A command is an effect on the chip alone: each arm of `exec` ends in `onChip` or `onDev`, whose outcome is the state given with
another chip. -/
theorem exec_changes_chip (i : Instr) (s : State) : ∃ c : Chip, exec i s = .next (s.setChip c) := by
  cases i <;> exact ⟨_, rfl⟩

/-- Settles O2: the outcome of every command is a next state that differs in the chip alone, so the queue stands. -/
theorem everyCommandCompletes : Obligations.EveryCommandCompletes := by
  intro i s
  obtain ⟨c, hnext⟩ := exec_changes_chip i s
  exact ⟨s.setChip c, hnext, rfl⟩

end Sys2Proof.Machine
end

section
/-! Admission, threads and context records (R66 to R72, R134, R135): which check decides what becomes of a staged command, how its program
starts, how a context record is written and read, and the statement about the four commands. -/

namespace Sys2Proof.Machine

/-! ## The commands -/

/-- COMMAND_ADMIT where its effect on the device that the state holds is known; CONTEXT_SET likewise. -/
theorem exec_commandAdmit {e : Nat} (s : State) {g : Dev → Dev} (h : s.chip.dev.commandAdmit e = g s.chip.dev) :
    exec (.commandAdmit e) s = .next (s.onDev g) := onDev_outcome s h

theorem exec_contextSet {e : Nat} {bs : List Byte} (s : State) {g : Dev → Dev} (h : s.chip.dev.contextSet e bs = g s.chip.dev) :
    exec (.contextSet e bs) s = .next (s.onDev g) := onDev_outcome s h

theorem exec_threadAssign (e h : Nat) (cached : Bool) (s : State) :
    exec (.threadAssign e h cached) s = onDev s (fun d => d.threadAssign e h cached) := rfl

theorem exec_contextGet (e : Nat) (s : State) : exec (.contextGet e) s = onDev s (fun d => d.contextGet e) := rfl

section
variable {d : Dev} {e : Nat}

/-! ## The gate (checks 1 to 3 of R67) -/

theorem Dev.gate_stale (hcur : d.current e = false) : d.gate e = some none := by
  simp only [Dev.gate, hcur, Bool.not_false, if_true]

theorem Dev.gate_erased (hcur : d.current e = true) (herase : d.tmp.erased = true ∨ d.tmp.erasing = true) :
    d.gate e = some (some stErased) := by
  have hor : (d.tmp.erased || d.tmp.erasing) = true := (Bool.or_eq_true _ _).mpr herase
  simp only [Dev.gate, hcur, hor, Bool.not_true, Bool.false_eq_true, if_true, if_false]

theorem Dev.gate_locked (hcur : d.current e = true) (herased : d.tmp.erased = false) (herasing : d.tmp.erasing = false)
    (hlock : d.tmp.lock = true) : d.gate e = some (some stLocked) := by
  simp only [Dev.gate, hcur, herased, herasing, hlock, Bool.not_true, Bool.or_false, Bool.false_eq_true, if_true, if_false]

/-! ## Admission (R67, R68) -/

section
variable (hst : (d.cmd e).st = .staged)
include hst

/-- A command of an old epoch, which no thread holds, is dropped with no completion. -/
theorem Dev.commandAdmit_stale (hgate : d.gate e = some none) (hheld : (d.thrs.any fun t => t.2.cmd == some e) = false) :
    d.commandAdmit e = d.setCmd e Cmd.reset := by
  simp only [Dev.commandAdmit, hst, hgate, bne_self_eq_false, Bool.false_eq_true, if_false, Dev.dropCmd_unheld hheld]

theorem Dev.commandAdmit_refused {status : Nat} (hgate : d.gate e = some (some status)) :
    d.commandAdmit e = d.setCmd e ((d.cmd e).rejected status) := by
  simp only [Dev.commandAdmit, hst, hgate, bne_self_eq_false, Bool.false_eq_true, if_false, Dev.rejectCmd_eq]

section
variable (hgate : d.gate e = none) (hfence : isFence (dFunction (d.cmd e).desc) = false)
include hgate hfence

theorem Dev.commandAdmit_behindFence (hbehind : d.behindFence (d.cmd e) = true) : d.commandAdmit e = d := by
  simp only [Dev.commandAdmit, hst, hgate, hfence, hbehind, bne_self_eq_false, Bool.false_eq_true, if_true, if_false]

section
variable (hbehind : d.behindFence (d.cmd e) = false) (hbad : (d.cmd e).bad = none) (hmeet : d.ctxMeet (d.cmd e) = false)
include hbehind hbad hmeet

/-- The first of checks 5 to 8 that fails ends the command. -/
theorem Dev.commandAdmit_failing {status : Nat} (hcheck : d.admitCheck (d.cmd e) = some status) :
    d.commandAdmit e = d.setCmd e ((d.cmd e).rejected status) := by
  simp only [Dev.commandAdmit, hst, hgate, hfence, hbehind, hbad, hmeet, hcheck, bne_self_eq_false, Option.any_none, Bool.false_eq_true,
    if_false, Dev.rejectCmd_eq]

/-- Past every check the quota decides, then whether an admitted image still names the function. -/
theorem Dev.commandAdmit_passing (hcheck : d.admitCheck (d.cmd e) = none) :
    d.commandAdmit e =
      if d.rd (Fld.PART_QUOTA_INFLIGHT (d.cmd e).part) ≤ d.inflight (d.cmd e).part then d
      else if d.unbound (d.cmd e) then d.setCmd e ((d.cmd e).rejected stUnknownFunction) else d.takeIn e := by
  simp only [Dev.commandAdmit, hst, hgate, hfence, hbehind, hbad, hmeet, hcheck, bne_self_eq_false, Option.any_none, Bool.false_eq_true,
    if_false, Dev.rejectCmd_eq]

end
end
end

theorem Dev.unbound_iff (c : Cmd) : d.unbound c = true ↔ isTileFn (dFunction c.desc) = true ∧ d.funcEntry (dFunction c.desc) = none := by
  rw [Dev.unbound, Bool.and_eq_true, Option.isNone_iff_eq_none]

/-- Entry `e` as it is admitted: counted under the next admission number, with its copy of the context and its image (R68). -/
def Dev.admittedCmd (d : Dev) (e : Nat) : Cmd :=
  { d.cmd e with st := .admitted, counted := true, adm := d.dsp.nextAdm + 1,
                 ctx := if noContext (dFunction (d.cmd e).desc) then 0 else d.ctx (dContext (d.cmd e).desc),
                 image := d.funcEntry (dFunction (d.cmd e).desc) }

/-- The admission number is taken and the high-water marks follow. -/
def Dev.countAdmission (d : Dev) : Dev :=
  let d := { d with dsp := { d.dsp with nextAdm := d.dsp.nextAdm + 1 } }
  let d := d.wr Fld.DSP_HIGHWATER_ADMITTED_MAX (max (d.rd Fld.DSP_HIGHWATER_ADMITTED_MAX) d.admitted)
  { d with plt := { d.plt with highest := max d.plt.highest d.admitted } }

theorem Dev.tilesAvailable_countAdmission : d.countAdmission.tilesAvailable = d.tilesAvailable := by
  have havail : d.countAdmission.rd Fld.TILE_AVAIL_AVAIL = d.rd Fld.TILE_AVAIL_AVAIL :=
    Dev.rd_wr_reg { d with dsp := { d.dsp with nextAdm := d.dsp.nextAdm + 1 } } _ (by decide)
  rw [Dev.tilesAvailable, Dev.tilesAvailable, havail]

theorem Dev.takeIn_served (hserved : isTileFn (dFunction (d.cmd e).desc) = false ∨ d.tilesAvailable ≠ 0) :
    d.takeIn e = ((d.setCmd e (d.admittedCmd e)).countAdmission).kmEnter e := by
  have htiles : (d.setCmd e (d.admittedCmd e)).countAdmission.tilesAvailable = d.tilesAvailable := Dev.tilesAvailable_countAdmission
  refine (if_neg ?_ : d.takeIn e = _)
  rw [Bool.and_eq_true, beq_iff_eq]
  rintro ⟨hfn, hzero⟩
  exact hserved.elim (fun h => absurd hfn (by rw [h]; decide)) fun h => h (htiles.symm.trans hzero)

/-- The mailbox once entry `e` has been admitted: the form of a key-management function waits behind what waited (R18, R325). -/
def Dev.kmQueue (d : Dev) (e : Nat) : List WReq :=
  let f := dFunction (d.cmd e).desc
  if kmFns.contains f then d.wdn.queue ++ [kmForm e (d.cmd e).part f (dParams (d.cmd e).desc) d.wdn.alarms] else d.wdn.queue

theorem Dev.kmEnter_eq (d : Dev) (e : Nat) : d.kmEnter e = { d with wdn := { d.wdn with queue := d.kmQueue e } } := by
  simp only [Dev.kmEnter, Dev.kmQueue]
  split <;> rfl

theorem Dev.cmd_kmEnter (d : Dev) (e x : Nat) : (d.kmEnter e).cmd x = d.cmd x := by rw [Dev.kmEnter_eq]; rfl

theorem Dev.cmd_countAdmission (d : Dev) (x : Nat) : d.countAdmission.cmd x = d.cmd x := rfl

theorem mem_kmFns {f : Nat} : kmFns.contains f = true ↔ f = 0x70 ∨ f = 0x71 ∨ f = 0x78 ∨ f = 0x79 := by simp [kmFns]

theorem Dev.cmd_takeIn_same (hserved : isTileFn (dFunction (d.cmd e).desc) = false ∨ d.tilesAvailable ≠ 0) :
    (d.takeIn e).cmd e = d.admittedCmd e := by
  rw [Dev.takeIn_served hserved, Dev.cmd_kmEnter, Dev.cmd_countAdmission, Dev.cmd_setCmd_same]

theorem Dev.cmd_takeIn_ne (hserved : isTileFn (dFunction (d.cmd e).desc) = false ∨ d.tilesAvailable ≠ 0) {x : Nat} (hx : x ≠ e) :
    (d.takeIn e).cmd x = d.cmd x := by
  rw [Dev.takeIn_served hserved, Dev.cmd_kmEnter, Dev.cmd_countAdmission, Dev.cmd_setCmd_ne _ _ hx]

/-- Admission takes a number and, for a key-management function, enters its form; threads and what has left stand. -/
theorem Dev.takeIn_frame (hserved : isTileFn (dFunction (d.cmd e).desc) = false ∨ d.tilesAvailable ≠ 0) :
    (d.takeIn e).dsp.nextAdm = d.dsp.nextAdm + 1 ∧ (d.takeIn e).thrs = d.thrs ∧ (d.takeIn e).out = d.out ∧
      (d.takeIn e).wdn.queue = d.kmQueue e := by
  rw [Dev.takeIn_served hserved, Dev.kmEnter_eq]
  refine ⟨rfl, rfl, rfl, ?_⟩
  simp only [Dev.kmQueue, Dev.cmd_countAdmission, Dev.cmd_setCmd_same]
  rfl

/-! ## Threads (R66, R134, R135, R182) -/

/-- Thread `h` as it starts command `e` at `entry`: every register zero, under the run limit stored. -/
def Dev.started (d : Dev) (e h entry : Nat) (cached : Bool) : Thr :=
  { Thr.reset with cmd := some e, epoch := d.rd (Fld.TILE_EPOCH_EPOCH (h / 16)), pc := BitVec.ofNat 64 entry,
                   wait := if cached then .none else .icache, limit := d.rd Fld.TILE_RUN_LIMIT_LIMIT }

/-- The oldest waiting command starts on a free thread. -/
theorem Dev.threadAssign_oldest {h im entry : Nat} (hold : d.isOldestAdmitted e = true) (hready : (d.cmd e).ready = true)
    (hfree : d.thrFree h = true) (hlock : d.tmp.lock = false) (himage : (d.cmd e).image = some (im, entry)) (cached : Bool) :
    d.threadAssign e h cached =
      ((d.boundary Fld.TILE_RUN_LIMIT_LIMIT.reg).setCmd e { d.cmd e with st := .running }).setThr h (d.started e h entry cached) := by
  simp only [Dev.threadAssign, hold, hready, hfree, hlock, himage, Bool.not_true, Bool.or_false, Bool.false_eq_true, if_false]
  rfl

/-! ## Context records (R69, R71, R72) -/

/-- What the Dispatcher finishes of an entry in use: a RESULT stands with ST_OK. -/
theorem Dev.finish_ok (hst : (d.cmd e).st ≠ .free) (result : BitVec 128) :
    d.finish e stOk result = d.setCmd e { d.cmd e with st := .released, status := 0, result := result } := by
  rw [Dev.finish, if_neg (by simpa using hst)]
  rfl

/-- The record `w` stored at `k` for partition `part` under the event that it is, good again. -/
def Dev.storeCtx (d : Dev) (k part : Nat) (w : BitVec 1024) : Dev :=
  Dev.setCtx { d.event with dsp := { d.dsp with badCtx := tput (fun _ => false) d.dsp.badCtx k false } } k (ctxStored w part (d.seq + 1))

theorem Dev.ctx_storeCtx_same (d : Dev) (k part : Nat) (w : BitVec 1024) : (d.storeCtx k part w).ctx k = ctxStored w part (d.seq + 1) :=
  tget_tput_same _ _ _

theorem Dev.ctx_storeCtx_ne (d : Dev) {k x : Nat} (part : Nat) (w : BitVec 1024) (hx : x ≠ k) : (d.storeCtx k part w).ctx x = d.ctx x :=
  tget_tput_ne _ _ hx

theorem Dev.ctxBad_storeCtx (d : Dev) (k part : Nat) (w : BitVec 1024) : (d.storeCtx k part w).ctxBad k = false :=
  tget_tput_same (d := fun _ => false) d.dsp.badCtx k false

/-- A CONTEXT_SET whose fields and length are right and whose 128 octets have been read: the record's reserved fields decide. -/
theorem Dev.contextSet_read {input : List Byte} (hst : (d.cmd e).st = .admitted) (hfn : dFunction (d.cmd e).desc = 0x10)
    (hparams : dField (d.cmd e).desc 0x28 24 = 0) (hflags : dFuncFlags (d.cmd e).desc = 0) (haddr : dOutAddr (d.cmd e).desc = 0)
    (hout : dOutLen (d.cmd e).desc = 0) (hlen : dInLen (d.cmd e).desc = 128)
    (hinput : input = bvBytes 128 ((d.cmd e).prefetch.setWidth 1024)) (hready : (d.cmd e).ready = true) :
    d.contextSet e input =
      if !ctxImageOk (bytesBv 1024 input) then d.failCmd e stBadDescriptor
      else (d.storeCtx (dContext (d.cmd e).desc) (d.cmd e).part (bytesBv 1024 input)).setCmd e
        { d.cmd e with st := .released, status := 0, result := (d.seq + 1).setWidth 128 } := by
  have hfinish := Dev.finish_ok (d := d.storeCtx (dContext (d.cmd e).desc) (d.cmd e).part (bytesBv 1024 input)) (e := e)
    (fun h => CmdSt.noConfusion (hst.symm.trans h)) ((d.seq + 1).setWidth 128)
  refine Eq.trans ?_ (if_congr Iff.rfl rfl hfinish)
  simp only [Dev.contextSet, hst, hfn, hparams, hflags, haddr, hout, hlen, ← hinput, hready, bne_self_eq_false, Bool.not_true, Bool.or_false,
    Bool.false_eq_true, if_false]
  rfl

/-- A CONTEXT_GET of a partition that may send: the command's own copy leaves. -/
theorem Dev.contextGet_sends (hst : (d.cmd e).st = .admitted) (hfn : dFunction (d.cmd e).desc = 0x11)
    (hparams : dField (d.cmd e).desc 0x28 24 = 0) (hflags : dFuncFlags (d.cmd e).desc = 0) (haddr : dInAddr (d.cmd e).desc = 0)
    (hin : dInLen (d.cmd e).desc = 0) (hlen : dOutLen (d.cmd e).desc = 128) (hsend : d.canSend (d.cmd e).part = true)
    (hcur : d.current e = true) :
    d.contextGet e = (d.emit (.memWrite (d.cmd e).part (dOutAddr (d.cmd e).desc) (bvBytes 128 (d.cmd e).ctx))).setCmd e
      { d.cmd e with touched := true, st := .released, status := 0, result := BitVec.ofNat 128 (cWriteSeq (d.cmd e).ctx) } := by
  simp only [Dev.contextGet, Dev.sendOut, Dev.modCmd, hst, hfn, hparams, hflags, haddr, hin, hlen, hsend, hcur, bne_self_eq_false,
    Bool.not_true, Bool.or_false, Bool.false_eq_true, if_true, if_false]
  rw [Dev.finish_ok (by rw [Dev.cmd_setCmd_same]; exact fun h => CmdSt.noConfusion (hst.symm.trans h)), Dev.cmd_setCmd_same, Dev.setCmd_setCmd]
  rfl

end

/-! ## The statement -/

/-- Settles O19: a staged command is decided by the gate, then by the fences ahead of it, then by the first failing check, the quota and its
image; each clause is the rule above for that branch, taken from the device to the state. -/
theorem commandsAreAdmittedAndRunAndContextsKept : Obligations.CommandsAreAdmittedAndRunAndContextsKept := by
  rintro s d c e f k rfl rfl rfl rfl
  refine ⟨fun hst => ⟨fun hold hheld => ?stale, fun hepoch => ?current⟩,
    fun h entry im cached hold hready hfree hlock himage => ?assign,
    fun input w hst hfn hparams hflags haddr hout hlen hinput hready hw => ?set,
    fun hst hfn hparams hflags haddr hin hlen hsend hcur => ?get⟩
  case stale =>
    have hcur := Bool.eq_false_iff.mpr (mt Dev.current_iff.mp hold)
    exact exec_commandAdmit s (Dev.commandAdmit_stale hst (Dev.gate_stale hcur) hheld)
  case current =>
    have hcur := Dev.current_iff.mpr hepoch
    refine ⟨fun herase => ?erased, fun herased herasing => ⟨fun hlock => ?locked, fun hlock hfence hbehind => ?waits,
      fun hlock hfence hbehind hbad hmeet => ?checked⟩⟩
    case erased => exact exec_commandAdmit s (Dev.commandAdmit_refused hst (Dev.gate_erased hcur herase))
    case locked => exact exec_commandAdmit s (Dev.commandAdmit_refused hst (Dev.gate_locked hcur herased herasing hlock))
    case waits =>
      exact exec_commandAdmit s (g := id) (Dev.commandAdmit_behindFence hst (Dev.gate_open hcur herased herasing hlock) hfence hbehind)
    case checked =>
      have hgate := Dev.gate_open hcur herased herasing hlock
      have hpassing := Dev.commandAdmit_passing hst hgate hfence hbehind hbad hmeet
      have hunbound := Dev.unbound_iff (d := s.chip.dev) (s.chip.dev.cmd e)
      refine ⟨fun x hx => exec_commandAdmit s (Dev.commandAdmit_failing hst hgate hfence hbehind hbad hmeet hx),
        fun hcheck hfull => exec_commandAdmit s (g := id) ((hpassing hcheck).trans (if_pos hfull)),
        fun hcheck hroom hfn hnone => exec_commandAdmit s ((hpassing hcheck).trans
          ((if_neg (Nat.not_le.mpr hroom)).trans (if_pos (hunbound.mpr ⟨hfn, hnone⟩)))),
        fun hcheck hroom hbound hserved => ⟨s.chip.dev.takeIn e, exec_commandAdmit s ((hpassing hcheck).trans
          ((if_neg (Nat.not_le.mpr hroom)).trans (if_neg (mt hunbound.mp ?bound)))), Dev.cmd_takeIn_same hserved,
          fun x hx => Dev.cmd_takeIn_ne hserved hx, ?frame⟩⟩
      case bound =>
        rintro ⟨hfn, hnone⟩
        exact hbound.elim (fun h => absurd hfn (by rw [h]; decide)) fun h => h hnone
      case frame =>
        obtain ⟨hadm, hthrs, hsent, hqueue⟩ := Dev.takeIn_frame hserved
        exact ⟨hadm, hthrs, hsent, hqueue.trans (if_congr mem_kmFns rfl rfl)⟩
  case assign =>
    rw [exec_threadAssign]
    exact onDev_outcome s (Dev.threadAssign_oldest hold hready hfree hlock himage cached)
  case set =>
    have hread := Dev.contextSet_read hst hfn hparams hflags haddr hout hlen hinput hready
    subst hw
    refine ⟨fun hok => ⟨_, exec_contextSet s (hread.trans (if_neg (by simp [hok]))), ?kept⟩,
      fun hbad => exec_contextSet s (hread.trans (if_pos (by rw [hbad]; rfl)))⟩
    case kept =>
      exact ⟨rfl, Dev.ctx_storeCtx_same s.chip.dev _ _ _, Dev.ctxBad_storeCtx s.chip.dev _ (s.chip.dev.cmd e).part (bytesBv 1024 input),
        fun x hx => Dev.ctx_storeCtx_ne s.chip.dev _ _ hx, rfl, Dev.cmd_setCmd_same _ _ _, fun x hx => Dev.cmd_setCmd_ne _ _ hx⟩
  case get =>
    rw [exec_contextGet]
    exact onDev_outcome s (Dev.contextGet_sends hst hfn hparams hflags haddr hin hlen hsend hcur)

end Sys2Proof.Machine
end

section
/-! Deliveries (R87, R300 to R303, R306, R312, R314, R315, R318): rail freezes, fault clustering, what a Lock and an Erase do as they are
delivered, the supplies and the built-in test, and the statement about the commands that bring them. -/

namespace Sys2Proof.Machine

/-! ## The commands -/

/-- A command on the chip whose effect on the chip that the state holds is known. -/
theorem onChip_next (s : State) {f : Chip → Chip} {c : Chip} (h : f s.chip = c) : onChip s f = .next (s.setChip c) := by
  rw [onChip_eq, h]

/-- The two rails, each with its source's number. -/
theorem exec_rail (low : Bool) (det detail : Nat) (same : Bool) (s : State) :
    exec (.coreRail low det detail same) s = onChip s (fun c => c.rail 0 low det detail same) ∧
      exec (.ioRail low det detail same) s = onChip s (fun c => c.rail 1 low det detail same) := ⟨rfl, rfl⟩

/-- The two commands by which a rail freeze resolves. -/
theorem exec_freezeResolve (same : Bool) (s : State) :
    exec (.railRecovery same) s = onChip s (fun c => c.freezeResolve same) ∧
      exec (.railFreezeTimeout same) s = onChip s (fun c => c.freezeResolve same) := ⟨rfl, rfl⟩

theorem exec_tileFaultReport (same : Bool) (s : State) : exec (.tileFaultReport same) s = onChip s (fun c => c.faultReport same) := rfl

theorem exec_faultWindowExpiry (s : State) : exec .faultWindowExpiry s = onChip s (fun c => c.windowExpiry) := rfl

theorem exec_lockDelivery (s : State) : exec .lockDelivery s = onChip s (fun c => c.lockDelivery) := rfl

theorem exec_eraseDelivery (s : State) : exec .eraseDelivery s = onChip s (fun c => c.eraseDelivery) := rfl

theorem exec_eraseComplete (s : State) : exec .eraseComplete s = onChip s (fun c => c.eraseComplete) := rfl

theorem exec_backupLoss (main : Bool) (s : State) : exec (.backupLoss main) s = onChip s (fun c => c.backupLoss main) := rfl

theorem exec_detectorBist (st : Option Nat) (w : Word) (s : State) : exec (.detectorBist st w) s = onDev s (fun d => d.bistGo st w) := rfl

theorem exec_bistComplete (r : Nat) (s : State) : exec (.bistComplete r) s = onDev s (fun d => d.bistComplete r) := rfl

section
variable {c : Chip}

/-! ## Rail freezes (R306) -/

/-- A detector of an armed source sees the rail below its threshold: the first crossing freezes the arbiter and is followed by what a Lock
does; a further one is noted. -/
theorem Chip.railLow_armed {src det : Nat} (hon : c.dev.plt.mainOn = true) (harmed : c.armed src = true) (hdet : det % 4 ≠ 0) (detail : Nat) :
    c.railLow src det detail =
      if c.dev.tmp.frozen then
        c.onDev fun d => { d with tmp := { d.tmp with crossed := d.tmp.crossed ++ [⟨src, det, detail, c.bd.time, true⟩] } }
      else (c.watch fun x => x.onDev fun d =>
        { d with tmp := { d.tmp with frozen := true, crossed := [⟨src, det, detail, c.bd.time, true⟩] } }.nvsFreeze).lockEffects := by
  have hfires : (det % 4 == 0) = false := beq_eq_false_iff_ne.mpr hdet
  simp only [Chip.railLow, hon, harmed, hfires, Bool.not_true, Bool.or_false, Bool.false_eq_true, if_false]

/-- Every crossing of a freeze that resolves enters at its own time, to be judged with what enters in the same cycle. -/
theorem Chip.freezeResolve_frozen (hfrozen : c.dev.tmp.frozen = true) (hcrossed : c.dev.tmp.crossed ≠ []) (same : Bool) :
    c.freezeResolve same =
      (let c1 := c.onDev fun d => { d with tmp := { d.tmp with batch := d.tmp.batch ++ d.tmp.crossed, crossed := [] } }
       if same then c1 else c1.watch Chip.judge) := by
  have hsome : c.dev.tmp.crossed.isEmpty = false := by simpa using hcrossed
  simp only [Chip.freezeResolve, hfrozen, hsome, Bool.not_true, Bool.or_false, Bool.false_eq_true, if_false]

/-! ## Fault clustering (R312) -/

/-- The chip once the oldest fault report, of unit `u`, has entered the window, which keeps the `recent` ones. -/
abbrev Chip.reportIn (c : Chip) (u : Nat) (rest : List Nat) (recent : List (Nat × Nat)) : Chip :=
  c.onDev fun d => { d with tmp := { d.tmp with reports := rest, window := recent ++ [(u, d.tmp.now)] } }

section
variable {u : Nat} {rest : List Nat} {recent : List (Nat × Nat)} (hreports : c.dev.tmp.reports = u :: rest) (hrecent : recent = c.dev.tmp.recent)
include hreports hrecent

/-- A report with no other unit's in the last 10 ms only enters the window. -/
theorem Chip.faultReport_alone (hother : (recent.filter fun w => w.1 != u).getLast? = none) (same : Bool) :
    c.faultReport same = c.reportIn u rest recent := by
  subst hrecent
  simp only [Chip.faultReport, hreports, hother]
  rfl

/-- With another unit's report in it FAULT_CLUSTER names both, if it is armed. -/
theorem Chip.faultReport_cluster {w : Nat × Nat} (hother : (recent.filter fun w => w.1 != u).getLast? = some w) (same : Bool) :
    c.faultReport same =
      if c.armed 18 then
        ((c.reportIn u rest recent).onDev fun d =>
          (d.wr Fld.TMP_CLUSTER_FIRST_UNIT w.1).wr Fld.TMP_CLUSTER_SECOND_UNIT u).alarm 18 0 (u % 256) same
      else c.reportIn u rest recent := by
  subst hrecent
  simp only [Chip.faultReport, hreports, hother]
  change (if !c.armed 18 then c.reportIn u rest c.dev.tmp.recent else _) = _
  cases c.armed 18 <;> rfl

end

theorem Chip.windowExpiry_open {w : Nat × Nat} (hlast : c.dev.tmp.window.getLast? = some w) :
    c.windowExpiry = (c.advance (w.2 + 1000000 - c.dev.tmp.now)).onDev fun d => { d with tmp := { d.tmp with window := [] } } := by
  simp only [Chip.windowExpiry, hlast]
  rfl

/-! ## Deliveries (R87, R302, R303) -/

/-- A judged Lock, nothing else waiting for judgement: LOCKED sets, and where the latch is in force everything ends under it. -/
theorem Chip.lockDelivery_due (hbatch : c.dev.tmp.batch = []) (hdue : c.dev.tmp.lockDue = true) :
    c.lockDelivery =
      (let c1 := c.watch fun c =>
         { c with bd := { c.bd with locked := true }, dev := { c.dev with tmp := { c.dev.tmp with lockDue := false } }.unfreeze }
       if c1.dev.tmp.lock then c1.lockEffects else c1) := by
  simp only [Chip.lockDelivery, hbatch, hdue, List.isEmpty_nil, Bool.not_true, Bool.false_eq_true, if_true, if_false]

/-- A judged Erase, nothing else waiting for judgement: the Backup Key goes first, then erasure begins everywhere. -/
theorem Chip.eraseDelivery_due (hbatch : c.dev.tmp.batch = []) (hdue : c.dev.tmp.eraseDue = true) :
    c.eraseDelivery =
      (c.watch fun c =>
        { c with
          bd := { c.bd with bk := none },
          dev := { c.dev with tmp := { c.dev.tmp with eraseDue := false, lockDue := false, erasing := true } }.dropBk.unfreeze }).eraseEffects := by
  simp only [Chip.eraseDelivery, hbatch, hdue, List.isEmpty_nil, Bool.not_true, Bool.false_eq_true, if_true, if_false]

/-- A reset that waited for the Erase goes on. -/
abbrev Chip.resumeReset (c : Chip) : Chip :=
  match c.dev.plt.waiting with
  | some w => c.assertReset w.1 w.2.1 w.2.2
  | none => c

/-- Both latches set as the Erase ends, and a freeze whose alarms it executed is over. -/
abbrev Chip.latched (c : Chip) : Chip :=
  { c with bd := { c.bd with locked := true, erased := true }, dev := { c.dev with tmp := { c.dev.tmp with erasing := false } }.unfreeze }

theorem Chip.eraseDone_erasing (herasing : c.dev.tmp.erasing = true) : c.eraseDone = c.watch Chip.latched :=
  if_neg (by rw [herasing]; decide)

/-- The Erase in progress is complete: both latches set, then a reset that waited for it. -/
theorem Chip.eraseComplete_erasing (herasing : c.dev.tmp.erasing = true) : c.eraseComplete = (c.watch Chip.latched).resumeReset :=
  (if_neg (by rw [herasing]; decide)).trans (congrArg Chip.resumeReset (Chip.eraseDone_erasing herasing))

/-! ## The backup domain (R318) -/

theorem Chip.backupLoss_off (hoff : c.dev.plt.mainOn = false) (main : Bool) : c.backupLoss main = { c with bd := Backup.fresh main } :=
  if_neg (by rw [hoff]; decide)

end

/-! ## The built-in test (R314) -/

section
variable {d : Dev}

/-- A write of TMP_BIST_CTRL that reaches the register sets its fields, and with GO starts a test of a testable source while none runs. -/
theorem Dev.bistGo_reaches {st : Option Nat} (hreach : d.bar0 0 st 0xB0028 = true) (w : Word) :
    d.bistGo st w =
      (let d1 := ((d.wr Fld.TMP_BIST_CTRL_SOURCE (getF w 0 5)).wr Fld.TMP_BIST_CTRL_DETECTOR (getF w 8 1)).wr Fld.TMP_BIST_CTRL_INDEX (getF w 16 8)
       if w.getLsbD 63 = false then d1
       else if d.tmp.bist.isSome = true ∨ 16 < getF w 0 5 then d1.wr Fld.TMP_STATUS_CFG_REJECT 1
       else
         let d2 := (d1.wr Fld.TMP_BIST_RESULT_DONE 0).wr Fld.TMP_BIST_RESULT_PASS 0
         { d2 with tmp := { d2.tmp with bist := some (getF w 0 5, getF w 8 1) } }) := by
  simp only [Dev.bistGo, hreach, Bool.not_true, Bool.false_eq_true, if_false, Bool.not_eq_true', Bool.or_eq_true, decide_eq_true_eq,
    Dev.wr_tmp]

/-- The running test ends: its response and whether the source answered in its time; a failure is raised to the Warden. -/
theorem Dev.bistComplete_running {src k : Nat} (hbist : d.tmp.bist = some (src, k)) (r : Nat) :
    d.bistComplete r =
      (let pass := decide (min r 0xFFFF ≤ detectCycles src) && decide (min r 0xFFFF < 0xFFFF)
       let d1 := ((d.wr Fld.TMP_BIST_RESULT_RESPONSE (min r 0xFFFF)).wr Fld.TMP_BIST_RESULT_DONE 1).wr Fld.TMP_BIST_RESULT_PASS pass.toNat
       { d1 with tmp := { d1.tmp with bist := none, raised := if pass then d.tmp.raised else d.tmp.raised ++ [0x20 + src] } }) := by
  simp only [Dev.bistComplete, hbist]
  rfl

end

/-! ## The statement -/

/-- Settles O43: each clause is one rule above, taken from the chip or the device to the state. That alarms of one cycle are judged together
by `same`, that a crossing executes at the resolution of its freeze and that a test clears DONE and PASS at its start are the model's choices
(assumption 46). -/
theorem alarmsAreDelivered : Obligations.AlarmsAreDelivered := by
  rintro s c rfl det detail same
  refine ⟨?rails, fun hfrozen hcrossed t ht => ?resolve, fun u rest hreports recent hrecent => ?report, fun w hlast => ?expiry,
    fun hbatch hdue => ?lock, fun hbatch hdue => ?erase, fun herasing => ?erased, fun hoff main => ?backup, rfl, rfl,
    fun st w hreach => ?bist, fun src k hbist r => ?tested⟩
  case rails =>
    intro crosses hon hdet
    obtain ⟨hcore, hio⟩ := exec_rail true det detail same s
    exact ⟨fun harmed => hcore.trans (onChip_next s (Chip.railLow_armed hon harmed hdet detail)),
      fun harmed => hio.trans (onChip_next s (Chip.railLow_armed hon harmed hdet detail))⟩
  case resolve =>
    subst ht
    obtain ⟨hrecovery, htimeout⟩ := exec_freezeResolve same s
    have hresolved := Chip.freezeResolve_frozen hfrozen hcrossed same
    exact ⟨hrecovery.trans (onChip_next s hresolved), htimeout.trans (onChip_next s hresolved)⟩
  case report =>
    rw [exec_tileFaultReport]
    refine onChip_next s ?_
    cases hother : (recent.filter fun w => w.1 != u).getLast? with
    | none => exact Chip.faultReport_alone hreports hrecent hother same
    | some w => exact Chip.faultReport_cluster hreports hrecent hother same
  case expiry =>
    rw [exec_faultWindowExpiry]
    exact onChip_next s (Chip.windowExpiry_open hlast)
  case lock =>
    rw [exec_lockDelivery]
    exact onChip_next s (Chip.lockDelivery_due hbatch hdue)
  case erase =>
    rw [exec_eraseDelivery]
    exact onChip_next s (Chip.eraseDelivery_due hbatch hdue)
  case erased =>
    rw [exec_eraseComplete]
    exact onChip_next s (Chip.eraseComplete_erasing herasing)
  case backup =>
    rw [exec_backupLoss]
    exact onChip_next s (Chip.backupLoss_off hoff main)
  case bist =>
    rw [exec_detectorBist]
    exact onDev_outcome s (Dev.bistGo_reaches hreach w)
  case tested =>
    rw [exec_bistComplete]
    exact onDev_outcome s (Dev.bistComplete_running hbist r)

end Sys2Proof.Machine
end

section
/-! Signatures and key encapsulation (R67, R96 to R98, R125 to R127, R182, R213, R230): how a library program runs to its end, what the PKL
engine's answer makes of it, and the statement about the eight functions. -/

namespace Sys2Proof.Machine

/-! ## The commands -/

/-- The two signing functions, each with the scheme that it names and its FUNCTION_ID. -/
theorem exec_sign {h : Nat} {bs : List Byte} {us : List KeyUse} {x : Bool × Nat × Instr}
    (hx : x ∈ [(false, 0xA0, Instr.ecdsaSign h bs us), (true, 0xA2, Instr.mldsaSign h bs us)]) (s : State) :
    exec x.2.2 s = onDev s (fun d => d.signFn x.1 h bs us) ∧ x.2.1 = if x.1 then 0xA2 else 0xA0 := by
  simp only [List.mem_cons, List.not_mem_nil, or_false] at hx
  obtain rfl | rfl := hx <;> exact ⟨rfl, rfl⟩

/-- The two verifying functions. -/
theorem exec_verify {h : Nat} {bs : List Byte} {us : List KeyUse} {x : Bool × Nat × Instr}
    (hx : x ∈ [(false, 0xA1, Instr.ecdsaVerify h bs us), (true, 0xA3, Instr.mldsaVerify h bs us)]) (s : State) :
    exec x.2.2 s = onDev s (fun d => d.verifyFn x.1 h bs us) ∧ x.2.1 = if x.1 then 0xA3 else 0xA1 := by
  simp only [List.mem_cons, List.not_mem_nil, or_false] at hx
  obtain rfl | rfl := hx <;> exact ⟨rfl, rfl⟩

/-- The two ML-KEM functions. -/
theorem exec_mlkem {h : Nat} {bs : List Byte} {us : List KeyUse} {x : Bool × Nat × Instr}
    (hx : x ∈ [(false, 0xB0, Instr.mlkemEncaps h bs us), (true, 0xB1, Instr.mlkemDecaps h bs us)]) (s : State) :
    exec x.2.2 s = onDev s (fun d => d.mlkem x.1 h bs us) ∧ x.2.1 = if x.1 then 0xB1 else 0xB0 := by
  simp only [List.mem_cons, List.not_mem_nil, or_false] at hx
  obtain rfl | rfl := hx <;> exact ⟨rfl, rfl⟩

theorem exec_rsaSign (h : Nat) (bs : List Byte) (us : List KeyUse) (s : State) :
    exec (.rsaSign h bs us) s = onDev s (fun d => d.rsaSign h bs us) := rfl

theorem exec_customerFunction (e h : Nat) (cached : Bool) (s : State) :
    exec (.customerFunction e h cached) s = onDev s (fun d => d.customerFunction e h cached) := rfl

section
variable {d d1 d2 : Dev} {h e : Nat} {c : Cmd} {us : List KeyUse} {bs inp : List Byte}

/-! ## A library program runs to its end (R96 to R98, R182, R185, R230) -/

/-- What a run `x` of thread `h` makes of its command: it waits, or releases its end. -/
def runEnd (x : Dev × Option Done) (h e : Nat) : Dev :=
  match x.2 with
  | none => x.1
  | some v => x.1.libEnd h e v

theorem runEnd_some (d : Dev) (v : Done) (h e : Nat) : runEnd (d, some v) h e = d.libEnd h e v := rfl

/-- A program at its entry, its input area read, runs. -/
theorem Dev.library_runs {f : Nat} (hready : d.LibReady f h e c bs inp) (run : Dev → Cmd → Option (List Byte) → Dev × Option Done) :
    d.library f h bs run = runEnd (run d c (some inp)) h e := by
  obtain ⟨hcmd, rfl, hfn, hentry, hinput, hlock⟩ := hready
  simp only [Dev.library, hcmd, hfn, hentry, hlock, hinput, bne_self_eq_false, Bool.not_true, Bool.or_false, Bool.false_eq_true, if_false]
  rfl

/-- With its units in service and its keys given a function goes on to what it does with them. -/
theorem Dev.withKeys_given {units : List Nat} {draws : Bool} {needs : List Need} {ks : List KeyRef}
    (hkeys : d.KeysGiven h c us units draws needs d2 ks) (body : Dev → List KeyRef → Dev × Option Done) :
    d.withKeys h c us units draws needs body = body d2 ks := by
  obtain ⟨hunits, hfault, hwaits, hdraws, hfound, huses, rfl⟩ := hkeys
  simp only [Dev.withKeys, hunits, hwaits, hfound, hdraws, huses, hfault, Bool.false_and, Bool.not_true, Bool.false_eq_true, if_false]

theorem Dev.withInput_some (d : Dev) (inp : List Byte) (f : List Byte → Dev × Option Done) : d.withInput (some inp) f = f inp := rfl

theorem kAt_zero (k : KeyRef) (ks : List KeyRef) : kAt (k :: ks) 0 = k := rfl

theorem Dev.nfree_libRead (d : Dev) (c : Cmd) : (d.libRead c).nfree = d.nfree := by
  rw [Dev.libRead]
  split <;> rfl

/-! ## The PKL engine's answer (R213) -/

/-- How a run ends when the engine has answered `out`: with ST_FORMAT where it gives nothing. -/
def pklDone (out : Option (List Byte)) (fin : List Byte → Done) : Done :=
  match out with
  | none => ⟨stFormat, [], []⟩
  | some out => fin out

theorem pklPlain_eq (op md : Nat) (block key : List Byte) (fin : List Byte → Done) :
    pklPlain op md block key fin = some (pklDone (pklCompute op md block key []) fin) := by
  rw [pklPlain]
  cases pklCompute op md block key [] <;> rfl

theorem pklCall_eq (op md : Nat) (block key : List Byte) (rnd : Nat) (fin : List Byte → Done) :
    pklCall op md block key rnd fin = some (pklDone (pklCompute op md block key (Config.freeBytes rnd 66)) fin) := by
  rw [pklCall]
  cases pklCompute op md block key (Config.freeBytes rnd 66) <;> rfl

/-! ## Signatures (R125, R126) -/

/-- The operand block of a signature over `inp`, a message or its digest. -/
def signBlock (ml : Bool) (p : SigOpt) (w : BitVec 1024) (inp : List Byte) : List Byte :=
  if ml then pklBlock (p.det.toNat + 2 * p.pre.toNat) p.hash (sigCtx w).length inp.length [sigCtx w, inp]
  else pklBlock p.det.toNat p.hash 0 0 [sigDigest p inp]

/-- A signing function whose checks pass ends with the engine's signature, made with fresh octets unless it is deterministic. -/
theorem Dev.signFn_given {ml : Bool} {p : SigOpt} {len : Nat} {k : KeyRef} (hready : d.LibReady (if ml then 0xA2 else 0xA0) h e c bs inp)
    (hp : p = sigOpt (cOptions c.ctx)) (hlen : len = if ml then sigLen p.alg else 2 * curveLen p.alg) (hpositions : keysZero c.ctx 1 = true)
    (hopts : sigOptOk ml true c.ctx = true) (hflags : dFuncFlags c.desc = 0) (hparams : allZero (dParams c.desc) = true)
    (hmsg : sigMsgOk p (dInLen c.desc) = true) (hout : dOutLen c.desc = len)
    (hkeys : d.KeysGiven h c us [if ml then 4 else 3] (!p.det)
      [⟨0, useEnc, some false, fun a => a == (if ml then 0x10 + p.alg else 7 + p.alg)⟩] d2 [k]) :
    d.signFn ml h bs us = (d2.libRead c).libEnd h e (pklDone (pklCompute (if ml then 0x0D else 0x03) p.alg (signBlock ml p c.ctx inp) k.key
      (if p.det then [] else Config.freeBytes (d2.nfree - 1) 66)) fun out => ⟨stOk, [], slice out 0 len⟩) := by
  subst hp hlen
  rw [Dev.signFn, Dev.library_runs hready]
  simp only [hpositions, hopts, hflags, hparams, hmsg, hout, bne_self_eq_false, Bool.not_true, Bool.or_false, Bool.false_eq_true, if_false,
    Dev.withInput_some, Dev.withKeys_given hkeys, pklPlain_eq, pklCall_eq, signBlock]
  cases (sigOpt (cOptions c.ctx)).det <;> cases ml <;> rfl

/-- The operand block of a verification: the public key, the signature and the message as they follow one another in the input area. -/
def verifyBlock (ml : Bool) (p : SigOpt) (w : BitVec 1024) (kl sl n : Nat) (inp : List Byte) : List Byte :=
  let pk := slice inp 0 kl
  let sg := slice inp kl sl
  let msg := slice inp (kl + sl) n
  if ml then pklBlock (2 * p.pre.toNat) p.hash (sigCtx w).length n [pk, sg, sigCtx w, msg]
  else pklBlock 0 p.hash 0 0 [sigDigest p msg, pk, slice sg 0 (curveLen p.alg), slice sg (curveLen p.alg) (curveLen p.alg)]

/-- A verifying function whose checks pass ends with what the engine found of the signature. -/
theorem Dev.verifyFn_given {ml : Bool} {p : SigOpt} {n kl sl : Nat} (hready : d.LibReady (if ml then 0xA3 else 0xA1) h e c bs inp)
    (hp : p = sigOpt (cOptions c.ctx)) (hn : n = leAt (dParams c.desc) 0 4) (hkl : kl = if ml then pkLen p.alg else 1 + 2 * curveLen p.alg)
    (hsl : sl = if ml then sigLen p.alg else 2 * curveLen p.alg) (hpositions : keysZero c.ctx 0 = true)
    (hopts : sigOptOk ml false c.ctx = true) (hflags : dFuncFlags c.desc = 0) (hparams : allZero ((dParams c.desc).drop 4) = true)
    (hout : noOutput c.desc = true) (hmsg : sigMsgOk p n = true) (hlen : dInLen c.desc = kl + sl + n)
    (hkeys : d.KeysGiven h c us [if ml then 4 else 3] false [] d2 []) :
    d.verifyFn ml h bs us = (d2.libRead c).libEnd h e (pklDone (pklCompute (if ml then 0x0E else 0x04) p.alg
      (verifyBlock ml p c.ctx kl sl n inp) [] []) fun out => ⟨if leAt out 0 8 == 1 then stOk else stVerifyFail, [], []⟩) := by
  subst hp hn hkl hsl
  rw [Dev.verifyFn, Dev.library_runs hready]
  simp only [hpositions, hopts, hflags, hparams, hmsg, hout, hlen, bne_self_eq_false, Bool.not_true, Bool.or_false, Bool.false_eq_true,
    if_false, Dev.withInput_some, Dev.withKeys_given hkeys, pklPlain_eq, runEnd_some, verifyBlock]

/-! ## RSA (R125, R126, R220) -/

/-- The operand block of an RSA signature of `k` octets: the key block, the first `n` octets of the input, and the representative of the
digest after it, with a salt under ALG 8. -/
def rsaBlock (p : SigOpt) (n k : Nat) (inp salt : List Byte) : List Byte :=
  pklBlock 0 0 0 n [inp.take n, Config.rsaEncode p.alg p.hash (inp.drop n) k (if p.alg = 8 then salt else [])]

/-- RSA_SIGN once its operand block stands: the key block's modulus decides, then whether the public exponent brings the representative back. -/
def Dev.rsaEnd (d : Dev) (h e k : Nat) (key kb block : List Byte) : Dev :=
  match Config.rsaModulus key kb with
  | none => d.libEnd h e ⟨stFormat, [], []⟩
  | some m =>
    if m ≠ k then d.libEnd h e ⟨stLength, [], []⟩
    else if crtOk (k / 32) block key = false then (d.laneFault 3).libEnd h e ⟨stFault, [], []⟩
    else d.libEnd h e (pklDone (pklCompute 0x01 (k / 32) block key []) fun out => ⟨stOk, [], slice out 0 k⟩)

theorem Dev.rsaSign_given {p : SigOpt} {n k : Nat} {key : KeyRef} (hready : d.LibReady 0xA4 h e c bs inp) (hp : p = sigOpt (cOptions c.ctx))
    (hn : n = leAt (dParams c.desc) 0 4) (hk : k = dOutLen c.desc) (hfirst : cKey c.ctx 0 = 0) (hpositions : keysZero c.ctx 2 = true)
    (hopts : cOptions c.ctx < 2 ^ 9) (halg : p.alg = 7 ∨ p.alg = 8) (hhash : 1 ≤ p.hash) (hhash3 : p.hash ≤ 3)
    (hdata : allZero (cData c.ctx) = true) (hflags : dFuncFlags c.desc = 0) (hparams : allZero ((dParams c.desc).drop 4) = true) (hpos : n ≠ 0)
    (hlen : dInLen c.desc = n + hashLenOf p.hash) (hmult : k % 32 = 0) (hmin : 256 ≤ k) (hmax : k ≤ 1024)
    (hkeys : d.KeysGiven h c us [3] (p.alg == 8) [⟨1, useWrap, some false, fun a => a == 3⟩] d2 [key]) :
    d.rsaSign h bs us = (d2.libRead c).rsaEnd h e k key.key (inp.take n)
      (rsaBlock p n k inp (Config.freeBytes (d2.nfree - 1) 64)) := by
  have halg' : (p.alg == 7 || p.alg == 8) = true := by simpa using halg
  have hhash0 : p.hash ≠ 0 := Nat.one_le_iff_ne_zero.mp hhash
  subst hp hn hk
  have hexp : decide (2 ^ 9 ≤ cOptions c.ctx) = false := decide_eq_false (Nat.not_le.mpr hopts)
  have hlow : decide (dOutLen c.desc < 256) = false := decide_eq_false (Nat.not_lt.mpr hmin)
  have hhigh : decide (1024 < dOutLen c.desc) = false := decide_eq_false (Nat.not_lt.mpr hmax)
  have hhashes : decide (3 < (sigOpt (cOptions c.ctx)).hash) = false := decide_eq_false (Nat.not_lt.mpr hhash3)
  rw [Dev.rsaSign, Dev.library_runs hready]
  simp only [hfirst, hpositions, hexp, halg', hhash0, hhashes, hdata, hflags, hparams, hpos, hlen, hmult, hlow, hhigh, decide_false,
    bne_self_eq_false, Bool.not_true, Bool.or_false, Bool.false_eq_true, if_false, Dev.withInput_some, Dev.withKeys_given hkeys, kAt_zero,
    Dev.nfree_libRead, pklPlain_eq]
  rw [Dev.rsaEnd]
  cases Config.rsaModulus key.key (inp.take (leAt (dParams c.desc) 0 4)) with
  | none => rfl
  | some m =>
    simp only [rsaBlock, apply_ite (runEnd · h e), bne_iff_ne, Bool.not_eq_true']
    rfl

/-! ## ML-KEM (R126, R127) -/

/-- An ML-KEM function once the engine has answered: record `i` takes the shared secret with its next generation, and the handle is
returned with the ciphertext of `outl` octets. -/
def Dev.kemEnd (d : Dev) (h e i : Nat) (attr : Word) (outl : Nat) (out : Option (List Byte)) : Dev :=
  match out with
  | none => d.libEnd h e ⟨stFormat, [], []⟩
  | some out =>
    let d := d.install i attr (slice out 0 32)
    d.libEnd h e ⟨stOk, bvBytes 8 (mkHandle 2 i (d.xrec i).gen), slice out 32 outl⟩

theorem Dev.mlkem_given {dec : Bool} {o : Nat} {hd : Word} {ks : List KeyRef} (hready : d.LibReady (if dec then 0xB1 else 0xB0) h e c bs inp)
    (ho : o = cOptions c.ctx) (hhd : hd = bytesBv 64 (slice (dParams c.desc) 0 8)) (hpositions : keysZero c.ctx dec.toNat = true) (hmin : 9 ≤ o)
    (hmax : o ≤ 11) (hdata : allZero (cData c.ctx) = true) (hflags : dFuncFlags c.desc = 0) (hparams : allZero ((dParams c.desc).drop 8) = true)
    (hnoout : dec = true → noOutput c.desc = true) (hin : dInLen c.desc = if dec then ctLen o else ekLen o)
    (hout : dOutLen c.desc = if dec then 0 else ctLen o) (hunits : d.libUnits [4, 5] = none) (hwaits : d.xks.waiting = false)
    (htarget : d.targetCheck c.part hd (useAt us 4).read = (d1, none))
    (hkeys : d1.KeysGiven h c us [4, 5] (!dec) (if dec then [⟨0, useDec, some false, fun a => a == 7 + o⟩] else []) d2 ks) :
    d.mlkem dec h bs us = (d2.libRead c).kemEnd h e (hRec hd) (installAttr (if dec then 0x0C else 0x0B) o c.part 0) (if dec then 0 else ctLen o)
      (pklCompute (if dec then 0x0C else 0x0B) o (pklBlock 0 0 0 0 [inp]) (kAt ks 0).key
        (if dec then [] else Config.freeBytes ((d2.libRead c).nfree - 1) 66)) := by
  subst ho hhd
  have hlow : decide (cOptions c.ctx < 9) = false := decide_eq_false (Nat.not_lt.mpr hmin)
  have hhigh : decide (11 < cOptions c.ctx) = false := decide_eq_false (Nat.not_lt.mpr hmax)
  have hzero : keysZero c.ctx (if dec then 1 else 0) = true := by
    revert hpositions
    cases dec <;> exact id
  have hunused : (dec && !noOutput c.desc) = false := by
    cases hdec : dec
    · rfl
    · rw [hnoout hdec]; rfl
  rw [Dev.mlkem, Dev.library_runs hready]
  simp only [hzero, hunused, hlow, hhigh, hdata, hflags, hparams, hin, hout, hunits, hwaits, htarget, bne_self_eq_false, Bool.not_true,
    Bool.or_false, Bool.false_eq_true, if_false, Dev.withInput_some, Dev.withKeys_given hkeys, Dev.nfree_libRead]
  generalize pklCompute _ _ _ _ _ = out
  cases out <;> rfl

/-! ## Customer functions (R67, R182) -/

section
variable (hlow : 0x800 ≤ dFunction (d.cmd e).desc) (hhigh : dFunction (d.cmd e).desc < 0x1000)
include hlow hhigh

/-- A staged customer command is admitted before its program starts. -/
theorem Dev.customerFunction_staged (hst : (d.cmd e).st = .staged) (cached : Bool) :
    d.customerFunction e h cached = (d.commandAdmit e).threadAssign e h cached := by
  simp only [Dev.customerFunction, hlow, hhigh, hst, decide_true, beq_self_eq_true, Bool.and_self, Bool.not_true, Bool.false_eq_true, if_false,
    if_true]

theorem Dev.customerFunction_admitted (hst : (d.cmd e).st ≠ .staged) (cached : Bool) :
    d.customerFunction e h cached = d.threadAssign e h cached := by
  simp only [Dev.customerFunction, hlow, hhigh, beq_eq_false_iff_ne.mpr hst, decide_true, Bool.and_self, Bool.not_true, Bool.false_eq_true,
    if_false]

end
end

/-! ## The statement -/

/-- Settles O23: a function whose checks pass and whose keys are given runs to its end, which the engine's answer decides. That RSA_SIGN takes
PREHASHED either way is the model's choice (assumption 63). -/
theorem signatureAndKemFunctionsGiveResult : Obligations.SignatureAndKemFunctionsGiveResult := by
  rintro s d d2 h e c us bs inp ps o k rfl rfl rfl
  refine ⟨fun x hx p len hready hp hlen hpositions hopts hflags hparams hmsg hout hkeys => ?sign,
    fun x hx p n kl sl hready hp hn hkl hsl hpositions hopts hflags hparams hout hmsg hlen hkeys => ?verify,
    fun p n len hready hp hn hlen hfirst hpositions hopts halg hhash hhash3 hdata hflags hparams hpos hin hmult hmin hmax hkeys => ?rsa,
    fun x hx i hd ks d1 hready hhd hi hpositions hmin hmax hdata hflags hparams hnoout hin hout hunits hwaits htarget hks hkeys => ?kem,
    fun cached c1 hc1 hlow hhigh => ?customer⟩
  case sign =>
    obtain ⟨hexec, hfn⟩ := exec_sign hx s
    rw [hexec]
    exact onDev_outcome s (Dev.signFn_given (hfn ▸ hready) hp hlen hpositions hopts hflags hparams hmsg hout hkeys)
  case verify =>
    obtain ⟨hexec, hfn⟩ := exec_verify hx s
    rw [hexec]
    exact onDev_outcome s (Dev.verifyFn_given (hfn ▸ hready) hp hn hkl hsl hpositions hopts hflags hparams hout hmsg hlen hkeys)
  case rsa =>
    rw [exec_rsaSign]
    exact onDev_outcome s (Dev.rsaSign_given hready hp hn hlen hfirst hpositions hopts halg hhash hhash3 hdata hflags hparams hpos hin hmult hmin
      hmax hkeys)
  case kem =>
    obtain ⟨hexec, hfn⟩ := exec_mlkem hx s
    subst hi
    rw [hexec]
    exact onDev_outcome s (Dev.mlkem_given (hfn ▸ hready) rfl hhd hpositions hmin hmax hdata hflags hparams hnoout hin hout hunits hwaits htarget
      hkeys)
  case customer =>
    subst hc1
    rw [exec_customerFunction]
    refine ⟨fun hst => ?staged, fun hst im entry hold hready hfree hlock himage => ?admitted⟩
    case staged =>
      exact onDev_outcome s (g := fun d => (d.commandAdmit e).threadAssign e h cached) (Dev.customerFunction_staged hlow hhigh hst cached)
    case admitted =>
      exact onDev_outcome s ((Dev.customerFunction_admitted hlow hhigh hst cached).trans
        (Dev.threadAssign_oldest hold hready hfree hlock himage cached))

end Sys2Proof.Machine
end

section
/-! PINs and card security codes (R97, R100 to R107, R111, R112, R115, R182): what each function of the library ends with once its checks
pass and its keys are given, and the statement about the six functions. -/

namespace Sys2Proof.Machine

/-! ## The commands -/

theorem exec_pinTranslate (h : Nat) (us : List KeyUse) (s : State) : exec (.pinTranslate h us) s = onDev s (fun d => d.pinTranslate h us) := rfl

theorem exec_pinVerify (h : Nat) (us : List KeyUse) (s : State) : exec (.pinVerify h us) s = onDev s (fun d => d.pinVerify h us) := rfl

theorem exec_pinOffsetGenerate (h : Nat) (us : List KeyUse) (s : State) :
    exec (.pinOffsetGenerate h us) s = onDev s (fun d => d.pinOffsetGenerate h us) := rfl

theorem exec_dukptPinTranslate (h : Nat) (us : List KeyUse) (s : State) :
    exec (.dukptPinTranslate h us) s = onDev s (fun d => d.dukptPinTranslate h us) := rfl

theorem exec_cscGenerate (h : Nat) (us : List KeyUse) (s : State) : exec (.cscGenerate h us) s = onDev s (fun d => d.csc false h us) := rfl

theorem exec_cscVerify (h : Nat) (us : List KeyUse) (s : State) : exec (.cscVerify h us) s = onDev s (fun d => d.csc true h us) := rfl

/-! ## Keys and ends -/

theorem kAt_one (k0 k1 : KeyRef) (ks : List KeyRef) : kAt (k0 :: k1 :: ks) 1 = k1 := rfl

theorem kAt_two (k0 k1 k2 : KeyRef) (ks : List KeyRef) : kAt (k0 :: k1 :: k2 :: ks) 2 = k2 := rfl

/-- A key given only where `b` holds is the one after the keys `ks` wherever `b` asks for it. -/
theorem ite_kAt_append {α : Type} (b : Bool) (ks : List KeyRef) (k : KeyRef) (f : KeyRef → α) (x : α) :
    (if b then f (kAt (ks ++ if b then [k] else []) ks.length) else x) = if b then f k else x := by
  cases b
  · rfl
  · simp [kAt]

/-- A run that ends with a status alone. -/
theorem runEnd_quit (d : Dev) (x h e : Nat) : runEnd (d, quit x) h e = d.libEnd h e ⟨x, [], []⟩ := rfl

/-! ## Fields that an option leaves unused -/

/-- The octets that only PIN format 4 uses are zero under every other (R101). -/
theorem unusedUnlessFour_eq_false {f : Nat} {bs : List Byte} (h : f = 4 ∨ allZero bs = true) : (f != 4 && !allZero bs) = false := by
  obtain rfl | h := h
  · rfl
  · rw [h, Bool.not_true, Bool.and_false]

/-- A run that ends with a status where `b` holds, else with `v`. -/
theorem runEnd_unless (d : Dev) (b : Bool) (x : Nat) (v : Done) (h e : Nat) :
    runEnd (if b then (d, quit x) else (d, some v)) h e = d.libEnd h e (if !b then v else ⟨x, [], []⟩) := by
  cases b <;> rfl

/-- A field read beyond where only zeros stand. -/
theorem slice_eq_zeros {bs : List Byte} {off n : Nat} (h : allZero (bs.drop off) = true) : slice bs off n = List.replicate n 0 := by
  simp only [allZero, List.all_eq_true, beq_iff_eq] at h
  refine List.eq_replicate_iff.mpr ⟨by simp [slice], fun b hb => ?_⟩
  obtain hb | hb := List.mem_append.mp (List.mem_of_mem_take hb)
  · exact h b hb
  · exact List.eq_of_mem_replicate hb

section
variable {d d2 : Dev} {h e : Nat} {c : Cmd} {us : List KeyUse} {inp : List Byte}

/-! ## Translation (R103, R112) -/

/-- How a translation of the PIN field `ns` ends: with the field rebuilt and encrypted under `k`, or with ST_FORMAT where it is not valid. -/
def Dev.pinMoved (d : Dev) (p : PinOpt) (ns : List Nat) (k : KeyRef) (pan n : Nat) : Done :=
  if pinFieldOk p.src (max d.pinFloor p.lo) p.hi ns then ⟨stOk, pinSeal p.dst k.alg k.key (pinConv p.dst ns d.word1 d.word2) pan n, []⟩
  else ⟨stFormat, [], []⟩

theorem Dev.pinMove_eq (d : Dev) (p : PinOpt) (ns : List Nat) (k : KeyRef) (pan n : Nat) :
    d.pinMove p ns k pan n = some (d.pinMoved p ns k pan n) := by
  rw [Dev.pinMove, Dev.pinMoved]
  cases pinFieldOk p.src (max d.pinFloor p.lo) p.hi ns <;> rfl

theorem Dev.pinTranslate_given {p : PinOpt} {pan n : Nat} {k0 k1 : KeyRef} (hready : d.LibReady 0x20 h e c [] inp)
    (hp : p = pinOpt (cOptions c.ctx)) (hpan : pan = leAt (dParams c.desc) 16 8) (hn : n = dPanDigits c.desc)
    (hrest : ctxRestZero c.ctx 2 17 0 = true) (hopts : p.ok = true) (hareas : noAreas c.desc = true)
    (hblock : p.src = 4 ∨ allZero (slice (dParams c.desc) 8 8) = true) (hgiven : panGiven (p.src == 1 && p.dst == 1) pan n = true)
    (hkeys : d.KeysGiven h c us [1] (pinDraws p.dst) [⟨0, useDec, some true, pinAlg p.src⟩, ⟨1, useEnc, some true, pinAlg p.dst⟩] d2 [k0, k1]) :
    d.pinTranslate h us = d2.libEnd h e
      (d2.pinMoved p (pinOpen p.src k0.alg k0.key (slice (dParams c.desc) 0 (pinBytes p.src)) pan n) k1 pan n) := by
  subst hp hpan hn
  rw [Dev.pinTranslate, Dev.library_runs hready]
  simp only [hrest, hopts, hareas, unusedUnlessFour_eq_false hblock, hgiven, Bool.not_true, Bool.or_false, Bool.false_eq_true, if_false,
    Dev.withKeys_given hkeys, kAt_zero, kAt_one, Dev.pinMove_eq, runEnd_some]

theorem Dev.dukptPinTranslate_given {p : PinOpt} {pan n alg : Nat} {k0 k1 : KeyRef} {key : List Byte} (hready : d.LibReady 0x40 h e c [] inp)
    (hp : p = pinOpt (cOptions c.ctx)) (hpan : pan = leAt inp 0x20 8) (hn : n = leAt inp 0x28 1) (hbits : optsIn (cOptions c.ctx) 0xDFFFF = true)
    (hpositions : keysZero c.ctx 2 = true) (hdata : allZero ((cData c.ctx).drop 4) = true) (hopts : p.ok = true) (hflags : dFuncFlags c.desc = 0)
    (hparams : allZero (dParams c.desc) = true) (hout : noOutput c.desc = true) (hwork : cOptions c.ctx / 2 ^ 18 % 4 ≠ 3) (hin : dInLen c.desc = 48)
    (hksn : allZero (slice inp 12 4) = true) (htail : allZero (slice inp 0x29 7) = true) (hblock : p.src = 4 ∨ allZero (slice inp 0x18 8) = true)
    (hkeys : d.KeysGiven h c us [1] (pinDraws p.dst)
      [⟨0, useDerive, some false, fun a => aesOr2Tdea a && pinAlg p.src a⟩, ⟨1, useEnc, some true, pinAlg p.dst⟩] d2 [k0, k1])
    (hgiven : panGiven (p.src == 1 && p.dst == 1) pan n = true) (hderived : dukptKey k0 c (slice inp 0 12) 0x1000 1 = .ok (key, alg)) :
    d.dukptPinTranslate h us = d2.libEnd h e (d2.pinMoved p (pinOpen p.src alg key (slice inp 16 (pinBytes p.src)) pan n) k1 pan n) := by
  subst hp hpan hn
  rw [Dev.dukptPinTranslate, Dev.library_runs hready]
  simp only [hbits, hpositions, hdata, hopts, hflags, hparams, hout, hwork, hin, hksn, htail, unusedUnlessFour_eq_false hblock, hgiven,
    hderived, Option.getD_some, bne_self_eq_false, decide_false, Bool.not_true, Bool.or_false, Bool.false_eq_true, if_false,
    Dev.withKeys_given hkeys, kAt_zero, kAt_one, Dev.pinMove_eq, runEnd_some]

/-! ## Verification and offsets (R104 to R107) -/

/-- PIN_VERIFY's status for the clear PIN field `ns` and the offset block of nibbles `os` and `w` octets: ST_OK where the PIN is the natural PIN
`nat` plus the offset. -/
def Dev.pinVerified (d : Dev) (p : PvOpt) (ns os nat : List Nat) (w : Nat) : Nat :=
  if pinFieldOk p.src (max d.pinFloor 4) 12 ns then
    match offParse os p.len w (fun v => if p.offEnc then decide (10 ≤ v) else v == 15) with
    | none => stFormat
    | some ds => if nib ns 1 = p.len ∧ (ns.drop 2).take p.len = digAdd nat ds p.len then stOk else stVerifyFail
  else stFormat

/-- How PIN_OFFSET_GENERATE ends for the clear PIN field `ns`: with the offset of its PIN from the natural PIN `nat` encrypted under `k`, or with
ST_FORMAT. -/
def Dev.pinOffset (d : Dev) (p : PvOpt) (ns nat : List Nat) (k : KeyRef) : Done :=
  if pinFieldOk p.src (max d.pinFloor 4) 12 ns ∧ nib ns 1 = p.len then
    ⟨stOk, encBlock k.alg k.key (packNibbles (offPack (digSub ((ns.drop 2).take p.len) nat p.len) p.len (blockLen k.alg) d.word1 d.word2)), []⟩
  else ⟨stFormat, [], []⟩

theorem Dev.pinVerify_given {p : PvOpt} {pan n w : Nat} {k0 k1 k2 : KeyRef} (hready : d.LibReady 0x21 h e c [] inp) (hp : p = pvOpt c.ctx)
    (hpan : pan = leAt (dParams c.desc) 0 8) (hn : n = dPanDigits c.desc) (hopts : pvOk true c = true) (hin : dInLen c.desc = 32)
    (hrange : panOk pan n = true) (hfits : p.start + p.vlen ≤ n) (hw : w = if p.offEnc then blockLen k2.alg else 8)
    (hblock : allZero ((inp.drop (pinBytes p.src)).take (16 - pinBytes p.src)) = true) (htail : allZero (inp.drop (16 + w)) = true)
    (hkeys : d.KeysGiven h c us [1] false (⟨0, useDec, some true, pinAlg p.src⟩ :: ⟨1, useDerive, none, isTdea⟩ ::
      if p.offEnc then [⟨2, useDec, some true, anyCipher⟩] else []) d2 (k0 :: k1 :: if p.offEnc then [k2] else [])) :
    d.pinVerify h us = d2.libEnd h e ⟨d2.pinVerified p (pinOpen p.src k0.alg k0.key (slice inp 0 (pinBytes p.src)) pan n)
      (nibbles (if p.offEnc then decBlock k2.alg k2.key (slice inp 16 w) else slice inp 16 w)) (naturalPin p k1 pan n) w, [], []⟩ := by
  have hlast : ∀ {α : Type} (f : KeyRef → α) (x : α),
      (if p.offEnc then f (kAt (k0 :: k1 :: if p.offEnc then [k2] else []) 2) else x) = if p.offEnc then f k2 else x :=
    fun f x => ite_kAt_append p.offEnc [k0, k1] k2 f x
  have hwidth := (hlast (fun k => blockLen k.alg) 8).trans hw.symm
  have hoffset := hlast (fun k => decBlock k.alg k.key (slice inp 16 w)) (slice inp 16 w)
  subst hp hpan hn
  have hshort : decide (dPanDigits c.desc < (pvOpt c.ctx).start + (pvOpt c.ctx).vlen) = false := decide_eq_false (Nat.not_lt.mpr hfits)
  rw [Dev.pinVerify, Dev.library_runs hready]
  simp only [hopts, hin, hrange, hshort, Option.getD_some, bne_self_eq_false, Bool.not_true, Bool.or_false, Bool.false_eq_true, if_false,
    Dev.withKeys_given hkeys, List.cons_append, List.nil_append, hwidth, hoffset, hblock, htail, kAt_zero, kAt_one, Dev.pinVerified]
  split
  case isTrue hinvalid =>
    rw [Bool.not_eq_true'] at hinvalid
    rw [hinvalid, runEnd_quit]
    rfl
  case isFalse hvalid =>
    rw [Bool.not_eq_true', Bool.not_eq_false] at hvalid
    rw [if_pos hvalid]
    generalize offParse _ _ _ _ = ds
    cases ds with
    | none => rfl
    | some ds => simp only [runEnd_quit, Bool.and_eq_true, beq_iff_eq]

theorem Dev.pinOffsetGenerate_given {p : PvOpt} {pan n : Nat} {k0 k1 k2 : KeyRef} (hready : d.LibReady 0x22 h e c [] inp) (hp : p = pvOpt c.ctx)
    (hpan : pan = leAt (dParams c.desc) 0 8) (hn : n = dPanDigits c.desc) (hopts : pvOk false c = true) (hin : dInLen c.desc = 16)
    (hrange : panOk pan n = true) (hfits : p.start + p.vlen ≤ n) (hblock : allZero (inp.drop (pinBytes p.src)) = true)
    (hkeys : d.KeysGiven h c us [1] true
      [⟨0, useDec, some true, pinAlg p.src⟩, ⟨1, useDerive, none, isTdea⟩, ⟨2, useEnc, some true, anyCipher⟩] d2 [k0, k1, k2]) :
    d.pinOffsetGenerate h us = d2.libEnd h e
      (d2.pinOffset p (pinOpen p.src k0.alg k0.key (slice inp 0 (pinBytes p.src)) pan n) (naturalPin p k1 pan n) k2) := by
  subst hp hpan hn
  have hshort : decide (dPanDigits c.desc < (pvOpt c.ctx).start + (pvOpt c.ctx).vlen) = false := decide_eq_false (Nat.not_lt.mpr hfits)
  rw [Dev.pinOffsetGenerate, Dev.library_runs hready]
  simp only [hopts, hin, hrange, hshort, Option.getD_some, bne_self_eq_false, Bool.not_true, Bool.or_false, Bool.false_eq_true, if_false,
    Dev.withKeys_given hkeys, hblock]
  rw [kAt_zero, kAt_one, kAt_two, runEnd_unless]
  simp only [bne, Bool.not_or, Bool.not_not, Bool.and_eq_true, beq_iff_eq]
  rfl

/-! ## Card security codes (R115) -/

/-- How a card-code function ends with the three digits `code`: CSC_VERIFY compares the given code's digits `cs` with them, CSC_GENERATE
returns them. -/
def cscDone (verify : Bool) (cs code : List Nat) : Done :=
  if verify then ⟨if cs.drop 1 = code then stOk else stVerifyFail, [], []⟩ else ⟨stOk, packNibbles (0 :: code), []⟩

theorem Dev.csc_given {verify : Bool} {pan n : Nat} {ex sv cs : List Nat} {k : KeyRef} (hpan : pan = leAt (dParams c.desc) 0 8)
    (hn : n = dPanDigits c.desc) (hex : ex = nibbles (slice (dParams c.desc) 8 2)) (hsv : sv = nibbles (slice (dParams c.desc) 10 2))
    (hrest : ctxRestZero c.ctx 1 0 0 = true) (hareas : noAreas c.desc = true) (hrange : panOk pan n = true) (hdigits : ∀ x ∈ ex ++ sv, x ≤ 9)
    (hservice : nib sv 0 = 0) (hkeys : d.KeysGiven h c us [1] false [⟨0, useEnc, some false, fun a => a == 4⟩] d2 [k])
    (hready : d.LibReady (if verify then 0x59 else 0x58) h e c [] inp)
    (hparams : allZero ((dParams c.desc).drop (if verify then 14 else 12)) = true) (hcs : cs = nibbles (slice (dParams c.desc) 12 2))
    (hcode : ∀ x ∈ cs, x ≤ 9) (hfirst : nib cs 0 = 0) :
    d.csc verify h us = d2.libEnd h e (cscDone verify cs (cscDigits k.key pan n ex sv)) := by
  have hall : (ex ++ sv ++ cs).all (fun x => decide (x ≤ 9)) = true := by
    simp only [List.all_eq_true, decide_eq_true_eq, List.mem_append] at hdigits ⊢
    exact fun x hx => hx.elim (hdigits x) (hcode x)
  subst hpan hn hex hsv hcs
  rw [Dev.csc, Dev.library_runs hready]
  simp only [hrest, hareas, hrange, hall, hservice, hfirst, hparams, bne_self_eq_false, Bool.not_true, Bool.or_false, Bool.false_eq_true,
    if_false, Dev.withKeys_given hkeys, kAt_zero, cscDone]
  cases verify
  · rfl
  · simp only [if_true, runEnd_quit, beq_iff_eq]

theorem Dev.cscGenerate_given {pan n : Nat} {ex sv : List Nat} {k : KeyRef} (hpan : pan = leAt (dParams c.desc) 0 8)
    (hn : n = dPanDigits c.desc) (hex : ex = nibbles (slice (dParams c.desc) 8 2)) (hsv : sv = nibbles (slice (dParams c.desc) 10 2))
    (hrest : ctxRestZero c.ctx 1 0 0 = true) (hareas : noAreas c.desc = true) (hrange : panOk pan n = true) (hdigits : ∀ x ∈ ex ++ sv, x ≤ 9)
    (hservice : nib sv 0 = 0) (hkeys : d.KeysGiven h c us [1] false [⟨0, useEnc, some false, fun a => a == 4⟩] d2 [k])
    (hready : d.LibReady 0x58 h e c [] inp) (hparams : allZero ((dParams c.desc).drop 12) = true) :
    d.csc false h us = d2.libEnd h e (cscDone false (nibbles (slice (dParams c.desc) 12 2)) (cscDigits k.key pan n ex sv)) := by
  have hcs : nibbles (slice (dParams c.desc) 12 2) = [0, 0, 0, 0] := by rw [slice_eq_zeros hparams]; rfl
  exact Dev.csc_given (verify := false) hpan hn hex hsv hrest hareas hrange hdigits hservice hkeys hready hparams rfl
    (by rw [hcs]; decide) (by rw [hcs]; rfl)

end

/-! ## The statement -/

/-- Settles O21: a function whose checks pass and whose keys are given ends with what its rule makes of the block or the code. The derivation
data of the DUKPT working key are the model's (assumption 22). -/
theorem pinFunctionsGiveResult : Obligations.PinFunctionsGiveResult := by
  rintro s d d2 h e c us inp ps rfl rfl
  refine ⟨fun p pan n k0 k1 hready hp hpan hn hrest hopts hareas hblock hgiven hkeys => ?translate,
    fun p pan n k0 k1 k2 w hready hp hpan hn hopts hin hrange hfits hw hblock htail hkeys => ?verify,
    fun p pan n k0 k1 k2 hready hp hpan hn hopts hin hrange hfits hblock hkeys => ?offset,
    fun p pan n k0 k1 key alg hready hp hpan hn hbits hpositions hdata hopts hflags hparams hout hwork hin hksn htail hblock hkeys hgiven
      hderived => ?dukpt,
    fun pan n ex sv k hpan hn hex hsv hrest hareas hrange hdigits hservice hkeys => ⟨fun hready hparams => ?cscGenerate,
      fun cs hready hparams hcs hcode hfirst => ?cscVerify⟩⟩
  case translate =>
    rw [exec_pinTranslate]
    exact onDev_outcome s (Dev.pinTranslate_given hready hp hpan hn hrest hopts hareas hblock hgiven hkeys)
  case verify =>
    rw [exec_pinVerify]
    exact onDev_outcome s (Dev.pinVerify_given hready hp hpan hn hopts hin hrange hfits hw hblock htail hkeys)
  case offset =>
    rw [exec_pinOffsetGenerate]
    exact onDev_outcome s (Dev.pinOffsetGenerate_given hready hp hpan hn hopts hin hrange hfits hblock hkeys)
  case dukpt =>
    rw [exec_dukptPinTranslate]
    exact onDev_outcome s (Dev.dukptPinTranslate_given hready hp hpan hn hbits hpositions hdata hopts hflags hparams hout hwork hin hksn htail
      hblock hkeys hgiven hderived)
  case cscGenerate =>
    rw [exec_cscGenerate]
    exact onDev_outcome s (Dev.cscGenerate_given hpan hn hex hsv hrest hareas hrange hdigits hservice hkeys hready hparams)
  case cscVerify =>
    rw [exec_cscVerify]
    exact onDev_outcome s (Dev.csc_given (verify := true) hpan hn hex hsv hrest hareas hrange hdigits hservice hkeys hready hparams hcs hcode
      hfirst)

end Sys2Proof.Machine
end

section
/-! EMV, DUKPT data, MACs, tokens, GCM and random octets (R97, R99, R108 to R111, R113 to R116, R121 to R124): what each function of the
library ends with once its checks pass and its keys are given, and the statement about the ten functions. -/

namespace Sys2Proof.Machine

/-! ## The commands -/

theorem exec_arqcVerify (h : Nat) (bs : List Byte) (us : List KeyUse) (s : State) :
    exec (.arqcVerify h bs us) s = onDev s (fun d => d.arqcVerify h bs us) := rfl

theorem exec_issuerScript (h : Nat) (bs : List Byte) (us : List KeyUse) (s : State) :
    exec (.issuerScript h bs us) s = onDev s (fun d => d.issuerScript h bs us) := rfl

theorem exec_dukptData (h : Nat) (bs : List Byte) (us : List KeyUse) (s : State) :
    exec (.dukptData h bs us) s = onDev s (fun d => d.dukptDataFn h bs us) := rfl

theorem exec_macGenerate (h : Nat) (bs : List Byte) (us : List KeyUse) (s : State) :
    exec (.macGenerate h bs us) s = onDev s (fun d => d.macGenerate h bs us) := rfl

theorem exec_macVerify (h : Nat) (bs : List Byte) (us : List KeyUse) (s : State) :
    exec (.macVerify h bs us) s = onDev s (fun d => d.macVerify h bs us) := rfl

/-- The two FF1 functions, each with its FUNCTION_ID and the direction that it runs FF1 in. -/
theorem exec_ff1 {h : Nat} {us : List KeyUse} {x : Nat × Instr × (List Byte → List Byte → List Nat → List Nat)}
    (hx : x ∈ [(0x60, Instr.ff1Tokenise h us, Config.ff1Enc), (0x61, .ff1Detokenise h us, Config.ff1Dec)]) (s : State) :
    exec x.2.1 s = onDev s (fun d => d.ff1 x.1 h us x.2.2) := by
  simp only [List.mem_cons, List.not_mem_nil, or_false] at hx
  obtain rfl | rfl := hx <;> rfl

theorem exec_gcmEncrypt (h : Nat) (bs : List Byte) (us : List KeyUse) (s : State) :
    exec (.gcmEncrypt h bs us) s = onDev s (fun d => d.gcmEncrypt h bs us) := rfl

theorem exec_gcmDecrypt (h : Nat) (bs : List Byte) (us : List KeyUse) (s : State) :
    exec (.gcmDecrypt h bs us) s = onDev s (fun d => d.gcmDecrypt h bs us) := rfl

theorem exec_random (h : Nat) (s : State) : exec (.random h) s = onDev s (fun d => d.randomFn h) := rfl

section
variable {d d2 : Dev} {h e : Nat} {c : Cmd} {us : List KeyUse} {bs inp : List Byte} {k : KeyRef}

/-- A run that waits leaves its command as it stands. -/
theorem runEnd_none (d : Dev) (h e : Nat) : runEnd (d, none) h e = d := rfl

/-! ## EMV (R108 to R110) -/

/-- How ARQC_VERIFY ends: with a result per record and their counts, or with the status of the record that ends it. -/
def arqcDone (x : Except Nat (List (Nat × List Byte))) : Done :=
  match x with
  | .error s => ⟨s, [], []⟩
  | .ok rs =>
    let count (p : Nat → Bool) := leBytes 4 (rs.countP (fun r => p r.1))
    ⟨stOk, count (· == stOk) ++ count (· == stVerifyFail) ++ count (fun s => s != stOk && s != stVerifyFail), rs.flatMap arqcOut⟩

theorem Dev.arqcVerify_given {o n : Nat} (hready : d.LibReady 0x30 h e c bs inp) (ho : o = cOptions c.ctx) (hn : n = leAt (dParams c.desc) 0 2)
    (hrest : ctxRestZero c.ctx 1 2 0 = true) (hmethod : o ≠ 3) (hflags : dFuncFlags c.desc = 0) (hparams : allZero ((dParams c.desc).drop 2) = true)
    (hmin : 1 ≤ n) (hmax : n ≤ 32) (hin : dInLen c.desc = 128 * n) (hout : dOutLen c.desc = 16 * n)
    (hkeys : d.KeysGiven h c us [1] false [⟨0, useDerive, none, aesOr2Tdea⟩] d2 [k]) (htdea : o = 1 → isAes k.alg = false) :
    d.arqcVerify h bs us = (d2.libRead c).libEnd h e (arqcDone (arqcRecords o k.alg k.key inp n 0)) := by
  subst ho hn
  have hpos : leAt (dParams c.desc) 0 2 ≠ 0 := Nat.one_le_iff_ne_zero.mp hmin
  have hpermitted : (decide (cOptions c.ctx = 1) && isAes k.alg) = false := by simpa using htdea
  rw [Dev.arqcVerify, Dev.library_runs hready]
  simp only [hrest, hmethod, hflags, hparams, hpos, Nat.not_lt.mpr hmax, hin, hout, hpermitted, decide_false, bne_self_eq_false,
    Bool.not_true, Bool.or_false, Bool.false_eq_true, if_false, Dev.withInput_some, Dev.withKeys_given hkeys, kAt_zero]
  cases arqcRecords (cOptions c.ctx) k.alg k.key inp (leAt (dParams c.desc) 0 2) 0 <;> rfl

/-- How ISSUER_SCRIPT ends: with the built command and its length, or with the status that refuses it. -/
def scriptDone (x : Except Nat (List Byte)) : Done :=
  match x with
  | .error s => ⟨s, [], []⟩
  | .ok out => ⟨stOk, leBytes 4 out.length, out⟩

theorem Dev.issuerScript_given {len ml : Nat} {two : Bool} {k1 : KeyRef} (hready : d.LibReady 0x31 h e c bs inp) (hlen : len = leAt inp 0x14 2)
    (hml : ml = leAt inp 0x18 1) (htwo : two = (leAt inp 0x17 1 != 0)) (hrest : ctxRestZero c.ctx 2 0 0 = true) (hflags : dFuncFlags c.desc = 0)
    (hparams : allZero (dParams c.desc) = true) (hmin : 5 ≤ len) (hmax : len ≤ 239) (hin : dInLen c.desc = 32 + len)
    (hreserved : allZero (slice inp 0x19 7) = true) (hmlmin : 4 ≤ ml) (hmlmax : ml ≤ 8) (hpan : panOk (leAt inp 0 8) (leAt inp 8 1) = true)
    (hpsn : leAt inp 9 1 ≤ 99)
    (hkeys : d.KeysGiven h c us [1] false
      (⟨0, useDerive, some false, aesOr2Tdea⟩ :: if two then [⟨1, useDerive, some false, aesOr2Tdea⟩] else []) d2
      (k :: if two then [k1] else [])) (hsame : two = true → isAes k.alg = isAes k1.alg) :
    d.issuerScript h bs us = (d2.libRead c).libEnd h e (scriptDone (scriptBuild k (if two then some k1 else none) inp (dOutLen c.desc))) := by
  have hlast : (if two then some (kAt (k :: if two then [k1] else []) 1) else none) = if two then some k1 else none :=
    ite_kAt_append two [k] k1 some none
  have hagree : (two && isAes k.alg != isAes (kAt (k :: if two then [k1] else []) 1).alg) = false := by
    cases two with
    | false => rfl
    | true => simpa [kAt] using hsame
  have hlow : ¬ 32 + len < 37 := by omega
  have hhigh : ¬ 271 < 32 + len := by omega
  subst hlen hml htwo
  rw [Dev.issuerScript, Dev.library_runs hready]
  simp only [hrest, hflags, hparams, hin, hlow, hhigh, Nat.not_lt.mpr hmin, Nat.not_lt.mpr hmax, hreserved, Nat.not_lt.mpr hmlmin,
    Nat.not_lt.mpr hmlmax, hpan, Nat.not_lt.mpr hpsn, decide_false, bne_self_eq_false, Bool.not_true, Bool.or_false, Bool.false_eq_true,
    if_false, Dev.withInput_some, List.cons_append, List.nil_append, Dev.withKeys_given hkeys, kAt_zero, hagree, hlast]
  generalize scriptBuild _ _ _ _ = built
  cases built <;> rfl

/-! ## DUKPT data (R111, R113) -/

theorem Dev.dukptData_given {o ml n alg : Nat} {mac : Bool} {key : List Byte} (hready : d.LibReady 0x41 h e c bs inp) (ho : o = cOptions c.ctx)
    (hml : ml = o / 2 ^ 24 % 32) (hmac : mac = (dFuncFlags c.desc == 1)) (hn : n = dInLen c.desc - 16 - ml) (hbits : optsIn o 0x1F0C0000 = true)
    (hpositions : keysZero c.ctx 1 = true) (hdata : allZero ((cData c.ctx).drop 4) = true) (hflags : dFuncFlags c.desc < 2)
    (hparams : allZero (dParams c.desc) = true) (hlen : if mac then 4 ≤ ml ∧ ml ≤ 16 ∧ noOutput c.desc = true else ml = 0)
    (hwork : o / 2 ^ 18 % 4 ≠ 3) (hmin : 17 + ml ≤ dInLen c.desc) (hmax : n ≤ 65536) (hout : mac = false → n % 8 = 0 ∧ dOutLen c.desc = n)
    (hkeys : d.KeysGiven h c us [1] false [⟨0, useDerive, some false, aesOr2Tdea⟩] d2 [k]) (htdea : mac = true → isAes k.alg = true ∨ ml ≤ 8)
    (hblocks : mac = false → n % blockLen k.alg = 0) (hksn : allZero (slice inp 12 4) = true)
    (hderived : dukptKey k c (slice inp 0 12) (if mac then 0x2000 else 0x3000) (if mac then 2 else 3) = .ok (key, alg)) :
    d.dukptDataFn h bs us = (d2.libRead c).libEnd h e
      (if mac then ⟨if (emvMac alg key (slice inp 16 n)).take ml = inp.drop (16 + n) then stOk else stVerifyFail, [], []⟩
        else ⟨stOk, [], cbcDec alg key (slice inp 16 n)⟩) := by
  have hlen' : (if mac then decide (ml < 4) || decide (16 < ml) || !noOutput c.desc else ml != 0) = false := by
    cases mac with
    | false => simpa using hlen
    | true =>
      obtain ⟨hlow, hhigh, hnoout⟩ := hlen
      simp only [if_true, Nat.not_lt.mpr hlow, Nat.not_lt.mpr hhigh, hnoout, decide_false]
      rfl
  have hout' : (!mac && (n % 8 != 0 || dOutLen c.desc != n)) = false := by
    cases mac with
    | false => simpa using hout
    | true => rfl
  have htdea' : (mac && !isAes k.alg && decide (8 < ml)) = false := by
    cases mac with
    | false => rfl
    | true => simpa [or_iff_not_imp_left] using htdea
  have hblocks' : (!mac && n % blockLen k.alg != 0) = false := by
    cases mac with
    | false => simpa using hblocks
    | true => rfl
  subst ho hml hmac hn
  rw [Dev.dukptDataFn, Dev.library_runs hready]
  simp only [hbits, hpositions, hdata, Nat.not_le.mpr hflags, hparams, hlen', hwork, Nat.not_lt.mpr hmin, Nat.not_lt.mpr hmax, hout', htdea',
    hblocks', hksn, hderived, decide_false, Bool.not_true, Bool.or_false, Bool.false_eq_true, if_false, Dev.withInput_some,
    Dev.withKeys_given hkeys, kAt_zero]
  cases dFuncFlags c.desc == 1 with
  | false => rfl
  | true => simp only [if_true, runEnd_quit, beq_iff_eq]

/-! ## MACs (R99, R114) -/

/-- The shared course of the two MAC functions: their checks passed, `fin` has the MAC. -/
theorem Dev.macRun_given {f o a pad ml : Nat} {given : List Byte → Nat → Bool} {fin : List Byte → List Byte → Done}
    (hready : d.LibReady f h e c bs inp) (ho : o = cOptions c.ctx) (ha : a = o % 4) (hpad : pad = o / 16 % 4) (hml : ml = o / 256 % 32)
    (hbits : optsIn o 0x1F33 = true) (hpositions : keysZero c.ctx 1 = true) (hdata : allZero (cData c.ctx) = true)
    (hflags : dFuncFlags c.desc = 0) (halg : a ≠ 3) (hpads : if a = 0 then pad = 0 else pad = 1 ∨ pad = 2) (hmlmin : 4 ≤ ml)
    (hmlmax : ml ≤ if a = 0 then 16 else 8) (hout : noOutput c.desc = true) (hmin : 1 ≤ dInLen c.desc) (hmax : dInLen c.desc ≤ 1048576)
    (hkeys : d.KeysGiven h c us [1] false [⟨0, useEnc, some false, macAlgOk a⟩] d2 [k]) (hgiven : given (dParams c.desc) ml = true) :
    d.macRun f h bs us given fin = (d2.libRead c).libEnd h e (fin ((macOf a pad k inp).take ml) (dParams c.desc)) := by
  have hpads' : (if a = 0 then pad == 0 else pad == 1 || pad == 2) = true := by
    split
    case isTrue hzero => simpa [hzero] using hpads
    case isFalse hother => simpa [hother] using hpads
  subst ho ha hpad hml
  rw [Dev.macRun, Dev.library_runs hready]
  simp only [hbits, hpositions, hdata, hflags, halg, hpads', Nat.not_lt.mpr hmlmin, Nat.not_lt.mpr hmlmax, hgiven, hout,
    Nat.one_le_iff_ne_zero.mp hmin, Nat.not_lt.mpr hmax, decide_false, bne_self_eq_false, Bool.not_true, Bool.or_false, Bool.false_eq_true,
    if_false, Dev.withInput_some, Dev.withKeys_given hkeys, kAt_zero, runEnd_some]

/-! ## Tokens (R116) -/

theorem Dev.ff1_given {f o lead tail tl pan n : Nat} {x : List Byte → List Byte → List Nat → List Nat} (hready : d.LibReady f h e c [] inp)
    (ho : o = cOptions c.ctx) (hlead : lead = o % 16) (htail : tail = o / 16 % 16) (htl : tl = o / 256 % 32) (hpan : pan = leAt (dParams c.desc) 0 8)
    (hn : n = dPanDigits c.desc) (hrest : ctxRestZero c.ctx 1 13 tl = true) (hlead8 : lead ≤ 8) (htail4 : tail ≤ 4) (htl16 : tl ≤ 16)
    (hareas : noAreas c.desc = true) (hparams : allZero ((dParams c.desc).drop 8) = true) (hrange : panOk pan n = true)
    (hsix : lead + tail + 6 ≤ n) (hkeys : d.KeysGiven h c us [1] false [⟨0, useEnc, some false, isAes⟩] d2 [k]) :
    d.ff1 f h us x = d2.libEnd h e ⟨stOk, leBytes 8 (ofDigits ((decDigits n pan).take lead ++
      x k.key ((cData c.ctx).take tl) (((decDigits n pan).drop lead).take (n - lead - tail)) ++ (decDigits n pan).drop (n - tail))), []⟩ := by
  subst ho hlead htail htl hpan hn
  rw [Dev.ff1, Dev.library_runs hready]
  simp only [hrest, Nat.not_lt.mpr hlead8, Nat.not_lt.mpr htail4, Nat.not_lt.mpr htl16, hareas, hparams, hrange, Nat.not_lt.mpr hsix,
    decide_false, Bool.not_true, Bool.or_false, Bool.false_eq_true, if_false, Dev.withKeys_given hkeys, kAt_zero, runEnd_some]

/-! ## GCM (R121 to R123) -/

/-- While a window commit is due the program waits for its nonce, whatever its keys are. -/
theorem Dev.gcmEncrypt_waits {aad : Nat} (hready : d.LibReady 0x80 h e c bs inp) (hrest : ctxRestZero c.ctx 1 0 0 = true)
    (hflags : dFuncFlags c.desc = 0) (haad : aad = leAt (dParams c.desc) 0 4) (hparams : allZero ((dParams c.desc).drop 4) = true)
    (hlens : gcmLens (dInLen c.desc) (dOutLen c.desc) aad 0 16 = true) (hwaits : d.nonceWaits = true) :
    d.gcmEncrypt h bs us = d.libNonceWait h := by
  subst haad
  rw [Dev.gcmEncrypt, Dev.library_runs hready]
  simp only [hrest, hflags, hparams, hlens, hwaits, bne_self_eq_false, Bool.not_true, Bool.or_false, Bool.false_eq_true, if_false, if_true,
    Dev.withInput_some, runEnd_none]

theorem Dev.gcmEncrypt_given {aad : Nat} {n : List Byte} (hready : d.LibReady 0x80 h e c bs inp) (hrest : ctxRestZero c.ctx 1 0 0 = true)
    (hflags : dFuncFlags c.desc = 0) (hkeys : d.KeysGiven h c us [1] false [⟨0, useEnc, some false, isAes⟩] d2 [k])
    (haad : aad = leAt (dParams c.desc) 0 4) (hparams : allZero ((dParams c.desc).drop 4) = true)
    (hlens : gcmLens (dInLen c.desc) (dOutLen c.desc) aad 0 16 = true) (hserved : d.nonceWaits = false) (hnonce : d2.libNonce.2 = some (.ok n)) :
    d.gcmEncrypt h bs us = (d2.libNonce.1.libRead c).libEnd h e
      ⟨stOk, n, gcmCtr k.key n (inp.drop aad) ++ gcmTag k.key n (inp.take aad) (gcmCtr k.key n (inp.drop aad))⟩ := by
  subst haad
  rw [Dev.gcmEncrypt, Dev.library_runs hready]
  simp only [hrest, hflags, hparams, hlens, hserved, hnonce, bne_self_eq_false, Bool.not_true, Bool.or_false, Bool.false_eq_true, if_false,
    Dev.withInput_some, Dev.withKeys_given hkeys, kAt_zero, runEnd_some]

theorem Dev.gcmDecrypt_given {aad m : Nat} {n : List Byte} (hready : d.LibReady 0x81 h e c bs inp) (hrest : ctxRestZero c.ctx 1 0 0 = true)
    (hflags : dFuncFlags c.desc = 0) (hkeys : d.KeysGiven h c us [1] false [⟨0, useEnc, some false, isAes⟩] d2 [k])
    (haad : aad = leAt (dParams c.desc) 12 4) (hn : n = slice (dParams c.desc) 0 12) (hparams : allZero ((dParams c.desc).drop 16) = true)
    (hlens : gcmLens (dInLen c.desc) (dOutLen c.desc) aad 16 0 = true) (hm : m = dInLen c.desc - aad - 16) :
    d.gcmDecrypt h bs us = (d2.libRead c).libEnd h e
      ⟨if gcmTag k.key n (inp.take aad) (slice inp aad m) = inp.drop (aad + m) then stOk else stAuthFail, [],
        gcmCtr k.key n (slice inp aad m)⟩ := by
  subst haad hn hm
  rw [Dev.gcmDecrypt, Dev.library_runs hready]
  simp only [hrest, hflags, hparams, hlens, bne_self_eq_false, Bool.not_true, Bool.or_false, Bool.false_eq_true, if_false,
    Dev.withInput_some, Dev.withKeys_given hkeys]
  rw [kAt_zero, runEnd_some]
  simp only [beq_iff_eq]

/-! ## Random octets (R124) -/

/-- RANDOM once the host DRBG serves it, `d1` being the device after the reseeding that RESEED asks for. -/
theorem Dev.randomFn_given {n : Nat} (hready : d.LibReady 0x90 h e c [] inp) (hn : n = dOutLen c.desc) (hin : noInput c.desc = true)
    (hparams : allZero (dParams c.desc) = true) (hmin : 8 ≤ n) (hmax : n ≤ 1048576) (hwords : n % 8 = 0) (hheld : d.blockHeld 3 = false)
    (hworks : d.rngFailed = false) (hstarted : d.rngReady 2 = true) (hflags : dFuncFlags c.desc < 2) {d1 : Dev}
    (hserves : (if dFuncFlags c.desc = 1 then d.reseedFor (16 * c.order + 15) else (d, d.rngServes 2)) = (d1, true)) :
    d.randomFn h = (d1.draw 2 1 n).libEnd h e ⟨stOk, [], randomBytes d1.nfree n⟩ := by
  subst hn
  rw [Dev.randomFn, Dev.library_runs hready]
  simp only [Nat.not_le.mpr hflags, hin, hparams, Nat.not_lt.mpr hmin, Nat.not_lt.mpr hmax, hwords, hheld, hworks, hstarted, hserves, decide_false,
    bne_self_eq_false, Bool.not_true, Bool.or_false, Bool.false_eq_true, if_false, runEnd_some]

/-- A reseeding of the host DRBG that was done for `who` has served it. -/
def Dev.reseedTaken (d : Dev) (who : Nat) : Dev := { d with rng := { d.rng with hostDone := d.rng.hostDone.filter (· != who) } }

theorem Dev.reseedFor_done {who : Nat} (hdone : d.rng.hostDone.contains who = true) : d.reseedFor who = (d.reseedTaken who, true) := by
  rw [Dev.reseedFor, if_pos hdone, Dev.reseedTaken]

end

/-! ## The statement -/

/-- Settles O22: a function whose checks pass and whose keys are given ends with what its rule makes of its input; GCM_ENCRYPT waits first while
its nonce does. The derivation data of the DUKPT working keys are the model's (assumption 22). -/
theorem cardAndDataFunctionsGiveResult : Obligations.CardAndDataFunctionsGiveResult := by
  rintro s d d2 h e c us bs inp ps o k rfl rfl ho
  refine ⟨fun n hready hn hrest hmethod hflags hparams hmin hmax hin hout hkeys htdea => ?arqc,
    fun len ml two k1 hready hlen hml htwo hrest hflags hparams hmin hmax hin hreserved hmlmin hmlmax hpan hpsn hkeys hsame => ?script,
    fun ml n mac key alg hready hml hmac hn hbits hpositions hdata hflags hparams hlen hwork hmin hmax hout hkeys htdea hblocks hksn
      hderived => ?dukpt,
    fun a pad ml ha hpad hml hbits hpositions hdata hflags halg hpads hmlmin hmlmax hout hmin hmax hkeys =>
      ⟨fun hready hparams => ?macGenerate, fun hready hparams => ?macVerify⟩,
    fun lead tail tl pan n hlead htail htl hpan hn hrest hlead8 htail4 htl16 hareas hparams hrange hsix hkeys x hx hready => ?ff1,
    fun aad hready hrest hflags haad hparams hlens hwaits => ?gcmWaits,
    fun aad n hrest hflags hkeys => ⟨fun hready haad hparams hlens hserved hnonce => ?gcmEncrypt,
      fun hready haad hn hparams hlens => ?gcmDecrypt⟩,
    fun n hready hn hin hparams hmin hmax hwords hheld hworks hstarted => ⟨fun hflags hserves => ?random, fun hflags hdone => ?reseeded⟩⟩
  case arqc =>
    rw [exec_arqcVerify]
    exact onDev_outcome s (Dev.arqcVerify_given hready ho hn hrest hmethod hflags hparams hmin hmax hin hout hkeys htdea)
  case script =>
    rw [exec_issuerScript]
    exact onDev_outcome s (Dev.issuerScript_given hready hlen hml htwo hrest hflags hparams hmin hmax hin hreserved hmlmin hmlmax hpan hpsn hkeys
      hsame)
  case dukpt =>
    rw [exec_dukptData]
    exact onDev_outcome s (Dev.dukptData_given hready ho hml hmac hn hbits hpositions hdata hflags hparams hlen hwork hmin hmax hout hkeys htdea
      hblocks hksn hderived)
  case macGenerate =>
    rw [exec_macGenerate]
    exact onDev_outcome s (Dev.macRun_given hready ho ha hpad hml hbits hpositions hdata hflags halg hpads hmlmin hmlmax hout hmin hmax hkeys
      hparams)
  case macVerify =>
    rw [exec_macVerify]
    refine onDev_outcome s ((Dev.macRun_given hready ho ha hpad hml hbits hpositions hdata hflags halg hpads hmlmin hmlmax hout hmin hmax hkeys
      hparams).trans ?_)
    simp only [beq_iff_eq]
    rfl
  case ff1 =>
    rw [exec_ff1 hx]
    exact onDev_outcome s (Dev.ff1_given hready ho hlead htail htl hpan hn hrest hlead8 htail4 htl16 hareas hparams hrange hsix hkeys)
  case gcmWaits =>
    rw [exec_gcmEncrypt]
    exact onDev_outcome s (Dev.gcmEncrypt_waits hready hrest hflags haad hparams hlens hwaits)
  case gcmEncrypt =>
    rw [exec_gcmEncrypt]
    exact onDev_outcome s (Dev.gcmEncrypt_given hready hrest hflags hkeys haad hparams hlens hserved hnonce)
  case gcmDecrypt =>
    rw [exec_gcmDecrypt]
    exact onDev_outcome s (Dev.gcmDecrypt_given hready hrest hflags hkeys haad hn hparams hlens rfl)
  case random =>
    rw [exec_random]
    refine onDev_outcome s (Dev.randomFn_given hready hn hin hparams hmin hmax hwords hheld hworks hstarted (by omega) ?_)
    rw [hflags, hserves]
    rfl
  case reseeded =>
    rw [exec_random]
    refine onDev_outcome s (Dev.randomFn_given (d1 := s.chip.dev.reseedTaken (16 * c.order + 15)) hready hn hin hparams hmin hmax hwords hheld
      hworks hstarted (by omega) ?_)
    rw [if_pos hflags, Dev.reseedFor_done hdone]

end Sys2Proof.Machine
end

section
/-! Key blocks, TR-34 and Warden requests on a key-management course (R92, R93, R96, R117 to R120, R230, R236, R325): what the Warden makes
of a function at the front of its mailbox, and the statement about the six commands. -/

namespace Sys2Proof.Machine

/-! ## The commands -/

theorem exec_keyblockImport (e : Nat) (bs : List Byte) (m : Nat) (s : State) :
    exec (.keyblockImport e bs m) s = onChip s (fun c => c.keyblockImport e bs m) := rfl

theorem exec_keyblockExport (e m m1 : Nat) (s : State) : exec (.keyblockExport e m m1) s = onChip s (fun c => c.keyblockExport e m m1) := rfl

theorem exec_tr34Nonce (e : Nat) (s : State) : exec (.tr34Nonce e) s = onChip s (fun c => c.tr34Nonce e) := rfl

theorem exec_tr34NonceExpiry (n : Nat) (s : State) : exec (.tr34NonceExpiry n) s = onDev s (fun d => d.tr34Expiry n) := rfl

theorem exec_tr34Import (e : Nat) (bs : List Byte) (s : State) : exec (.tr34Import e bs) s = onChip s (fun c => c.tr34Import e bs) := rfl

theorem exec_wardenRequest (e : Nat) (bs : List Byte) (s : State) : exec (.wardenRequest e bs) s = onDev s (fun d => d.wardenRequest e bs) := rfl

section
variable {c : Chip} {d1 d2 : Dev} {e n : Nat} {x : Cmd} {p bs : List Byte} {hd : Word} {k : KeyRef}

/-! ## KEYBLOCK_IMPORT (R117, R118, R230, R236) -/

/-- The block `bs` carries a check value, and it is not that of its key. -/
def kcDiffers (bs key : List Byte) (alg : Nat) : Bool :=
  match Config.keyBlockKc bs with
  | some v => v != slice (bvBytes 8 (keyCheckValue alg (storedKey alg key))) 0 v.length
  | none => false

/-- What becomes of the key block `bs` of partition `n` under its protection key `k`: the status of the first check that fails, or a use of
`k` taken and the slot change asked for. -/
def Chip.importBlock (c : Chip) (e n : Nat) (p bs : List Byte) (hd : Word) (k : KeyRef) : Chip :=
  if usesLeft k.attr = false then c.finishCmd e stUseLimit
  else if kbHeaderOk (isAes (aAlg k.attr)) bs = false then c.finishCmd e stFormat
  else match Config.keyBlockOpen k.key bs with
    | none => c.finishCmd e stAuthFail
    | some key => match kbAttr n (hSlot hd) (slice bs 0 16) key (leAt p 8 1) (leAt p 9 1 == 1) with
      | none => c.finishCmd e stKeyAttr
      | some a =>
        if kcDiffers bs key (aAlg a) then (c.onDev fun d => d.inc Fld.VLT_CHANGES_ABANDONED 1).finishCmd e stAuthFail
        else match c.dev.importTarget n hd with
          | some st => c.finishCmd e st
          | none => (c.onDev fun d => d.takeUse k).install e 0x70 bs key a (hSlot hd)

theorem Chip.keyblockImport_given {m : Nat} (hx : x = c.dev.cmd e) (hp : p = dParams x.desc) (hn : n = x.part) (hhd : hd = bytesBv 64 (slice p 0 8))
    (hturn : c.dev.kmTurn e 0x70 = true) (hlen : bs.length = dInLen x.desc) (hdesc : importDescOk x.desc = true)
    (hrest : ctxRestZero x.ctx 1 0 0 = true) (hmin : 16 ≤ bs.length) (hmax : bs.length ≤ 4096)
    (hkey : c.dev.wardenKey n (cKey x.ctx 0) m = (d1, .ok k)) (hwraps : aUsage k.attr = useWrap)
    (halg : isAes (aAlg k.attr) = true ∨ isTdea (aAlg k.attr) = true) :
    c.keyblockImport e bs m = ({ c with dev := d1.readIn e } : Chip).importBlock e n p bs hd k := by
  have halg' : (isAes (aAlg k.attr) || isTdea (aAlg k.attr)) = true := by simpa using halg
  rw [hlen] at hmin hmax
  subst hx hp hn hhd
  rw [Chip.keyblockImport, Chip.importBlock]
  simp only [hturn, hlen, hdesc, hrest, Nat.not_lt.mpr hmin, Nat.not_lt.mpr hmax, hkey, hwraps, halg', decide_false, bne_self_eq_false,
    Bool.not_true, Bool.or_false, Bool.false_eq_true, if_false, Bool.not_eq_true']
  split
  · rfl
  split
  · rfl
  cases Config.keyBlockOpen k.key bs with
  | none => rfl
  | some key =>
    dsimp only
    generalize kbAttr _ _ _ _ _ _ = attr
    cases attr with
    | none => rfl
    | some a =>
      refine if_congr ?kc rfl ?target
      case kc =>
        rw [kcDiffers]
        cases Config.keyBlockKc bs with
        | none => rfl
        | some v => simp only [bne_comm (a := v)]
      case target =>
        generalize Dev.importTarget _ _ _ = refused
        cases refused with
        | none => rfl
        | some st => rfl

/-! ## KEYBLOCK_EXPORT (R119, R230) -/

/-- The header of the block that carries a key of algorithm `alg` under a protection key of algorithm `kbpk`, with the usage, mode and
version that PARAMS names. -/
def exportHeader (p : List Byte) (kbpk alg : Nat) : List Byte :=
  asciiBytes (if isAes kbpk then "D" else "B") ++ slice p 0 2 ++ asciiBytes (if isAes alg then "A" else "T") ++ slice p 2 3 ++ asciiBytes "N"
    ++ asciiBytes "KC"

theorem asciiBytes_ite (b : Bool) (x y : Char) :
    asciiBytes (if b then x.toString else y.toString) = [BitVec.ofNat 8 (if b then chr x else chr y)] := by
  cases b <;> simp [asciiBytes, chr, Char.toString]

/-- How KEYBLOCK_EXPORT ends on the device: with the status of an output area too small for the block, or a use of each key taken and the block
written. -/
def Dev.exportBlock (d : Dev) (e n : Nat) (desc : BitVec 512) (k w : KeyRef) (blk : List Byte) : Dev :=
  if dOutLen desc < blk.length then d.kmDone e stLength 0
  else (((d.takeUse k).takeUse w).sendOut n e (.memWrite n (dOutAddr desc) blk)).kmDone e stOk blk.length

theorem Chip.keyblockExport_given {m m1 : Nat} {w : KeyRef} (hx : x = c.dev.cmd e) (hp : p = dParams x.desc) (hn : n = x.part)
    (hturn : c.dev.kmTurn e 0x71 = true) (hflags : dFuncFlags x.desc = 0) (hparams : allZero (p.drop 5) = true) (hin : noInput x.desc = true)
    (hrest : ctxRestZero x.ctx 2 0 0 = true) (hkey : c.dev.wardenKey n (cKey x.ctx 0) m = (d1, .ok k))
    (hwrapped : d1.wardenKey n (cKey x.ctx 1) m1 = (d2, .ok w)) (hwraps : aUsage k.attr = useWrap)
    (halg : isAes (aAlg k.attr) = true ∨ isTdea (aAlg k.attr) = true) (halg1 : isAes (aAlg w.attr) = true ∨ isTdea (aAlg w.attr) = true)
    (hexportable : aExportable w.attr = true) (hstrength : keyStrength (aAlg w.attr) ≤ keyStrength (aAlg k.attr))
    (hmap : kbMap (leAt p 0 1) (leAt p 1 1) (leAt p 2 1) (aUsage w.attr) = some (aUsage w.attr, aGlaze w.attr))
    (hleft : usesLeft k.attr = true) (hleft1 : usesLeft w.attr = true) :
    c.keyblockExport e m m1 = c.onDev fun _ => (d2.modCmd e fun y => { y with st := .running }).exportBlock e n x.desc k w
      (Config.keyBlockWrap k.key (exportHeader p (aAlg k.attr) (aAlg w.attr)) w.key) := by
  have halg' : (isAes (aAlg k.attr) || isTdea (aAlg k.attr)) = true := by simpa using halg
  have halg1' : (isAes (aAlg w.attr) || isTdea (aAlg w.attr)) = true := by simpa using halg1
  have hversion : asciiBytes (if isAes (aAlg k.attr) then "D" else "B") = [BitVec.ofNat 8 (if isAes (aAlg k.attr) then chr 'D' else chr 'B')] :=
    asciiBytes_ite _ 'D' 'B'
  have hletter : asciiBytes (if isAes (aAlg w.attr) then "A" else "T") = [BitVec.ofNat 8 (if isAes (aAlg w.attr) then chr 'A' else chr 'T')] :=
    asciiBytes_ite _ 'A' 'T'
  subst hx hp hn
  rw [Chip.keyblockExport, exportHeader, hversion, hletter]
  simp only [hturn, hflags, hparams, hin, hrest, hkey, hwrapped, hwraps, halg', halg1', hexportable, Nat.not_lt.mpr hstrength, hmap, hleft,
    hleft1, decide_false, bne_self_eq_false, Bool.not_true, Bool.or_false, Bool.false_eq_true, if_false]
  rw [Dev.exportBlock]
  generalize Config.keyBlockWrap _ _ _ = blk
  split
  · rfl
  · rfl

/-! ## TR-34 (R120) -/

theorem Chip.tr34Nonce_given (hx : x = c.dev.cmd e) (hn : n = x.part) (hturn : c.dev.kmTurn e 0x78 = true) (hflags : dFuncFlags x.desc = 0)
    (hparams : allZero (dParams x.desc) = true) (hin : noInput x.desc = true) (hout : noOutput x.desc = true) (hworks : c.dev.rngFailed = false)
    (hserves : c.dev.rngServes 0 = true) (haudit : c.dev.canAudit = true) :
    c.tr34Nonce e = ((c.audit 0x78 stOk n 1 (Config.sha384 (bvBytes 64 x.desc))).onDev fun d =>
      { d.draw 0 1 16 with wdn := { d.wdn with nonces := tput (fun _ => none) d.wdn.nonces n (some c.dev.nfree) } }).finishCmd e stOk
        (ofLe (Config.freeBytes c.dev.nfree 16)) := by
  subst hx hn
  rw [Chip.tr34Nonce]
  simp only [hturn, hflags, hparams, hin, hout, hworks, hserves, haudit, bne_self_eq_false, Bool.not_true, Bool.or_false, Bool.false_eq_true,
    if_false]

/-- The token `t` is not fresh: a two-pass one does not carry the outstanding number `held`, a one-pass one is not later than the last
signing time that the trust anchor `ca` holds. -/
def tokenStale (two : Bool) (held : Option Nat) (t ca : List Byte) : Bool :=
  match two, held with
  | true, none => true
  | true, some k => slice t 8 16 != Config.freeBytes k 16
  | false, _ => decide (leAt t 0 8 ≤ leAt ca 0 8)

/-- What becomes of the token `bs` of partition `n`, with the key `priv` and the trust anchor `ca`: the outstanding number is
consumed first by a two-pass token; then the status of the first check that fails, or the slot change asked for. -/
def Chip.importToken (c : Chip) (e n : Nat) (p bs : List Byte) (hd : Word) (priv ca : List Byte) : Chip :=
  let two := Config.tr34TwoPass bs
  let c1 := c.onDev fun d => if two then (d.readIn e).tr34Expiry n else d.readIn e
  match Config.tr34Open priv (ca.drop 8) bs with
  | none => c1.finishCmd e stAuthFail
  | some t =>
    if tokenStale two (tget (fun _ => none) c.dev.wdn.nonces n) t ca then c1.finishCmd e stAuthFail
    else match kbAttr n (hSlot hd) (slice t 24 16) (t.drop 40) (leAt p 8 1) (leAt p 9 1 == 1) with
      | none => c1.finishCmd e stKeyAttr
      | some a => match c1.dev.importTarget n hd with
        | some st => c1.finishCmd e st
        | none => (if two then c1 else c1.onDev fun d => d.wardenState (0x600 + n) (slice t 0 8 ++ ca.drop 8)).install e 0x79 bs (t.drop 40) a
            (hSlot hd)

/-- TR34_IMPORT on a command whose fields are as they must be. -/
theorem Chip.tr34Import_given (hx : x = c.dev.cmd e) (hp : p = dParams x.desc) (hn : n = x.part) (hhd : hd = bytesBv 64 (slice p 0 8))
    (hturn : c.dev.kmTurn e 0x79 = true) (hlen : bs.length = dInLen x.desc) (hdesc : importDescOk x.desc = true)
    (hrest : ctxRestZero x.ctx 0 4 0 = true) (hmin : 64 ≤ bs.length) (hmax : bs.length ≤ 8192) :
    c.tr34Import e bs = match c.dev.krdKey n (cOptions x.ctx % 16), c.dev.stateOf (0x600 + n) with
      | some priv, some ca => c.importToken e n p bs hd priv ca
      | _, _ => c.finishCmd e stKeyAbsent := by
  rw [hlen] at hmin hmax
  subst hx hp hn hhd
  rw [Chip.tr34Import]
  simp only [hturn, hlen, hdesc, hrest, Nat.not_lt.mpr hmin, Nat.not_lt.mpr hmax, decide_false, bne_self_eq_false, Bool.not_true,
    Bool.or_false, Bool.false_eq_true, if_false]
  generalize c.dev.krdKey _ _ = priv
  generalize c.dev.stateOf _ = ca
  cases priv with
  | none => rfl
  | some priv =>
    cases ca with
    | none => rfl
    | some ca =>
      simp only [Chip.importToken]
      cases Config.tr34Open priv (ca.drop 8) bs with
      | none => rfl
      | some t =>
        refine if_congr ?stale rfl ?attr
        case stale =>
          generalize tget _ c.dev.wdn.nonces _ = held
          cases Config.tr34TwoPass bs with
          | false => simp [tokenStale]
          | true =>
            cases held with
            | none => rfl
            | some k => rfl
        case attr =>
          generalize Dev.importTarget _ _ _ = refused
          generalize kbAttr _ _ _ _ _ _ = attr
          cases attr with
          | none => rfl
          | some a =>
            cases refused with
            | none => rfl
            | some st => rfl

/-! ## WARDEN_REQUEST (R93) -/

theorem Dev.wardenRequest_given {d : Dev} {r : WReq} (hx : x = d.cmd e) (hr : r = ⟨1, e, bs, 0⟩) (hcmd : d.wardenCmd e 0x7F = true)
    (hlen : bs.length = dInLen x.desc) (hruns : d.wdn.running = true) (hsend : d.canSend x.part = true) (hdesc : wardenRequestDesc x = none)
    (hallowed : wardenRequestRefusal x r = none) :
    d.wardenRequest e bs = ((d.emit (.memRead x.part (dInAddr x.desc) (dInLen x.desc))).setCmd e { x with st := .running }).enqueue r := by
  subst hx hr
  rw [Dev.wardenRequest]
  simp only [hcmd, hlen, hruns, hsend, hdesc, hallowed, bne_self_eq_false, Bool.not_true, Bool.or_false, Bool.false_eq_true, if_false]

end

/-! ## The statement -/

/-- Settles O24: the Warden takes the function at the front of its mailbox, whose fields are as its rule asks, through the rule's checks in
their order. Whether a token is a two-pass one is the model's free predicate of its octets (assumption 78). -/
theorem keyManagementFunctionsGiveResult : Obligations.KeyManagementFunctionsGiveResult := by
  rintro s d e x p bs n hd rfl hx hp hn hhd
  refine ⟨fun m k d1 hturn hlen hdesc hrest hmin hmax hkey hwraps halg => ?blockImport,
    fun m m1 k w d1 d2 hturn hflags hparams hin hrest hkey hwrapped hwraps halg halg1 hexportable hstrength hmap hleft hleft1 => ?blockExport,
    fun hturn hflags hparams hin hout hworks hserves haudit => ?nonce,
    ?expiry,
    fun hturn hlen hdesc hrest hmin hmax => ?token,
    fun r hr hcmd hlen hruns hsend hdesc hallowed => ?request⟩
  case blockImport =>
    rw [exec_keyblockImport]
    exact onChip_next s (Chip.keyblockImport_given hx hp hn hhd hturn hlen hdesc hrest hmin hmax hkey hwraps halg)
  case blockExport =>
    rw [exec_keyblockExport]
    exact onChip_outcome s (Chip.keyblockExport_given hx hp hn hturn hflags hparams hin hrest hkey hwrapped hwraps halg halg1 hexportable
      hstrength hmap hleft hleft1)
  case nonce =>
    subst hp
    rw [exec_tr34Nonce]
    exact onChip_next s (Chip.tr34Nonce_given hx hn hturn hflags hparams hin hout hworks hserves haudit)
  case expiry =>
    rw [exec_tr34NonceExpiry]
    exact onDev_outcome s rfl
  case token =>
    rw [exec_tr34Import]
    exact onChip_next s (Chip.tr34Import_given hx hp hn hhd hturn hlen hdesc hrest hmin hmax)
  case request =>
    subst hn
    rw [exec_wardenRequest]
    exact onDev_outcome s (Dev.wardenRequest_given hx hr hcmd hlen hruns hsend hdesc hallowed)

end Sys2Proof.Machine
end

section
/-! Running one Clazeir instruction that meets no cause of a trap (R131, R137, R147, R150), and the statement that g0 reads as zero and takes
nothing. -/

namespace Sys2Proof.Machine

/-! ## Registers -/

theorem gr_zero (t : Thr) : gr t 0 = GWord.zero := rfl

theorem gw_zero (t : Thr) (w : GWord) : gw t 0 w = t := rfl

@[simp] theorem gw_pc (t : Thr) (r : BitVec 5) (w : GWord) : (gw t r w).pc = t.pc := by
  unfold gw
  split <;> rfl

@[simp] theorem gwPair_pc (t : Thr) (r : BitVec 5) (a b : GWord) : (gwPair t r a b).pc = t.pc := by
  simp only [gwPair, gw_pc]

/-! ## An instruction whose operands give no cause -/

section
variable {d : Dev} {h : Nat} {i : Insn} {t' : Thr}

/-- An instruction that is its thread's next one is executed. -/
theorem Dev.executes_runs (hr : d.runs h i = true) (g : Dev → Dev) : d.executes h i g = g d := by
  obtain ⟨_, _, _, _, hfetched⟩ := Dev.runs_spec hr
  exact if_pos hfetched

/-- What an instruction of its thread alone does, when its operands give no cause of a trap. -/
theorem Dev.instrT_clear {f : Nat → Thr → List Trap × Thr} (hr : d.runs h i = true) (hf : ∀ e, f e (d.thr h) = ([], t')) :
    d.instrT h f = d.setThr h t' := by
  obtain ⟨e, he, -⟩ := Dev.runs_spec hr
  have hrun := Dev.executes_instrT (f := fun _ => f) hr he (congrArg (fun x => pickTrap x.1) (hf e))
  rw [Dev.executes_runs hr, hf e] at hrun
  exact hrun

/-- The same, from the device to the state. -/
theorem onDev_executes_clear {s : State} {f : Dev → Nat → Thr → List Trap × Thr} (hr : s.chip.dev.runs h i = true)
    (hf : ∀ e, f s.chip.dev e (s.chip.dev.thr h) = ([], t')) :
    onDev s (fun d => d.executes h i (fun d => d.instrT h (f d))) = .next (s.onDev fun d => d.setThr h t') :=
  onDev_outcome s ((Dev.executes_runs hr _).trans (Dev.instrT_clear hr hf))

end

/-! ## Operands that are intact -/

/-- An intact PLAIN or GLAZED word gives no cause where data is taken. -/
theorem dataOperand_clear {w : GWord} (hw : w.isData) : resC 1 w = [] ∧ dataC w = [] := by
  obtain ⟨htag, hres⟩ := hw
  have hpoison : w.tag ≠ .poison := by rcases htag with h | h <;> simp [h]
  exact ⟨resC_ok (resOk_data hres hpoison), dataC_ok htag⟩

/-- An intact PLAIN word gives no cause where a PLAIN word is asked for. -/
theorem plainOperand_clear {w : GWord} (hw : w.isPlain) : resC 1 w = [] ∧ plainC w = [] := by
  obtain ⟨htag, hres⟩ := hw
  exact ⟨resC_ok (resOk_data hres (by simp [htag])), plainC_ok htag⟩

/-! ## Immediate operations -/

/-- An immediate operation of an intact data word whose destination is g0 moves the pc alone. -/
theorem aluK_g0 (f : Word → Word) {rs1 : BitVec 5} {t : Thr} (ha : (gr t rs1).isData) : aluK f 0 rs1 t = ([], { t with pc := t.pc + 4 }) := by
  obtain ⟨hres, hdata⟩ := dataOperand_clear ha
  simp only [aluK, hres, hdata, List.append_nil, gw_zero, pcNext]

theorem exec_immediate_g0 {s : State} {h : Nat} {rs1 : BitVec 5} {imm : BitVec 16} {x : KOp × (Nat → BitVec 5 → BitVec 5 → BitVec 16 → Instr)}
    (hx : x ∈ [(KOp.addk, Instr.addk), (.andk, .andk), (.ork, .ork), (.xork, .xork)]) (hr : s.chip.dev.runs h (.k x.1 0 rs1 imm) = true)
    (ha : (gr (s.chip.dev.thr h) rs1).isData) :
    exec (x.2 h 0 rs1 imm) s = .next (s.onDev fun d => d.setThr h { s.chip.dev.thr h with pc := (s.chip.dev.thr h).pc + 4 }) := by
  have hrun (f : Word → Word) := onDev_executes_clear (f := fun _ _ t => aluK f 0 rs1 t) hr fun _ => aluK_g0 f ha
  simp only [List.mem_cons, List.not_mem_nil, or_false] at hx
  rcases hx with rfl | rfl | rfl | rfl
  · exact hrun fun a => a + imm.signExtend 64
  · exact hrun fun a => a &&& imm.setWidth 64
  · exact hrun fun a => a ||| imm.setWidth 64
  · exact hrun fun a => a ^^^ imm.setWidth 64

/-! ## The statement -/

/-- Settles O9: an instruction's result goes to its destination by `gw`, which discards it for g0. -/
theorem registerZeroReadsZeroAndDiscards : Obligations.RegisterZeroReadsZeroAndDiscards := by
  refine ⟨gr_zero, gw_zero, ?_⟩
  rintro s h rs1 imm t a rfl rfl ha x hx hr
  exact exec_immediate_g0 hx hr ha

end Sys2Proof.Machine
end

section
/-! The Sealed Operand Unit (R143 to R145, R166): what each operation makes of operands that its rule takes, and the statement about all
ten. -/

namespace Sys2Proof.Machine

/-! ## The commands -/

section
variable (h : Nat) (rd rs1 rs2 rs3 : BitVec 5) (s : State)

theorem exec_panfield : exec (.panfield h rd rs1 rs2 rs3) s =
    onDev s (fun d => d.executes h (.sou .panfield rd rs1 rs2 rs3) fun d => d.instrT h fun _ t => doPanfield rd rs1 rs2 rs3 t) := rfl

theorem exec_pinchk : exec (.pinchk h rd rs1 rs2 rs3) s =
    onDev s (fun d => d.executes h (.sou .pinchk rd rs1 rs2 rs3) fun d => d.instrT h fun _ t => doPinchk d.pinFloor rd rs1 rs2 rs3 t) := rfl

theorem exec_decim : exec (.decim h rd rs1 rs2 rs3) s =
    onDev s (fun d => d.executes h (.sou .decim rd rs1 rs2 rs3) fun d => d.instrT h fun _ t => doDecim rd rs1 rs2 rs3 t) := rfl

theorem exec_offadd : exec (.offadd h rd rs1 rs2 rs3) s =
    onDev s (fun d => d.executes h (.sou .offadd rd rs1 rs2 rs3) fun d => d.instrT h fun _ t => doOff digAdd rd rs1 rs2 rs3 t) := rfl

theorem exec_offsub : exec (.offsub h rd rs1 rs2 rs3) s =
    onDev s (fun d => d.executes h (.sou .offsub rd rs1 rs2 rs3) fun d => d.instrT h fun _ t => doOff digSub rd rs1 rs2 rs3 t) := rfl

theorem exec_cmpeq : exec (.cmpeq h rd rs1 rs2 rs3) s =
    onDev s (fun d => d.executes h (.sou .cmpeq rd rs1 rs2 rs3) fun d => d.instrT h fun _ t => doCmpeq rd rs1 rs2 rs3 t) := rfl

theorem exec_maccmp : exec (.maccmp h rd rs1 rs2 rs3) s =
    onDev s (fun d => d.executes h (.sou .maccmp rd rs1 rs2 rs3) fun d => d.instrT h fun _ t => doMaccmp rd rs1 rs2 rs3 t) := rfl

theorem exec_pinconv : exec (.pinconv h rd rs1 rs2 rs3) s =
    onDev s (fun d => d.executes h (.sou .pinconv rd rs1 rs2 rs3) fun d => d.pinconv h rd rs1 rs2 rs3) := rfl

theorem exec_offpack : exec (.offpack h rd rs1 rs2 rs3) s =
    onDev s (fun d => d.executes h (.sou .offpack rd rs1 rs2 rs3) fun d => d.offpack h rd rs1 rs2 rs3) := rfl

theorem exec_zeroise : exec (.zeroise h rd rs1 rs2 rs3) s =
    onDev s (fun d => d.executes h (.sou .zeroise rd rs1 rs2 rs3) fun d => d.instrT h fun _ t => doZeroise rd rs1 rs2 t) := rfl

end

/-! ## Results -/

theorem pcNext_gw (t : Thr) (r : BitVec 5) (w : GWord) : pcNext (gw t r w) = { gw t r w with pc := t.pc + 4 } := by
  rw [pcNext, gw_pc]

theorem pcNext_gwPair (t : Thr) (r : BitVec 5) (a b : GWord) : pcNext (gwPair t r a b) = { gwPair t r a b with pc := t.pc + 4 } := by
  rw [pcNext, gwPair_pc]

theorem souWrite_single (t : Thr) (rd : BitVec 5) (ns : List Nat) (tag : Tag) : souWrite t rd ns false tag = gw t rd (.fresh (nibWord ns) tag) := rfl

theorem pcNext_souWrite (t : Thr) (rd : BitVec 5) (ns : List Nat) (wide : Bool) (tag : Tag) :
    pcNext (souWrite t rd ns wide tag) = { souWrite t rd ns wide tag with pc := t.pc + 4 } := by
  cases wide
  · exact pcNext_gw ..
  · exact pcNext_gwPair ..

theorem b2w_decide (p : Prop) [Decidable p] : b2w (decide p) = if p then 1 else 0 := by
  by_cases hp : p <;> simp [b2w, hp]

theorem b2w_not (b : Bool) : b2w (!b) = if b then 0 else 1 := by cases b <;> rfl

/-! ## Operands that the unit takes -/

section
variable {t : Thr} {rd rs1 rs2 rs3 : BitVec 5}

theorem souPlain_clear {r : BitVec 5} (hw : (gr t r).isPlain) : souPlain t r = [] := by
  obtain ⟨hres, hplain⟩ := plainOperand_clear hw
  rw [souPlain, hres, hplain, List.append_nil]

theorem souData_single {r : BitVec 5} (hw : (gr t r).isData) : souData t r false = [] := by
  obtain ⟨hres, hdata⟩ := dataOperand_clear hw
  simp only [souData, hres, hdata, List.append_nil, Bool.false_eq_true, if_false]

theorem souData_pair {r : BitVec 5} (heven : (gr t (evenR r)).isData) (hodd : (gr t (oddR r)).isData) : souData t r true = [] := by
  obtain ⟨hres, hdata⟩ := dataOperand_clear heven
  obtain ⟨hres', hdata'⟩ := dataOperand_clear hodd
  simp only [souData, hres, hdata, hres', hdata', List.append_nil, if_true]

/-- The formats of R100. -/
theorem pinFormatOk_iff {f : Nat} : pinFormatOk f = true ↔ f = 0 ∨ f = 1 ∨ f = 3 ∨ f = 4 := by
  simp only [pinFormatOk, Bool.or_eq_true, beq_iff_eq, or_assoc]

/-- The PIN field of format `f`: a register, or a pair for format 4 (R143). -/
theorem souData_field {f : Nat} {r : BitVec 5} (hsingle : f = 0 ∨ f = 1 ∨ f = 3 → (gr t r).isData)
    (hpair : f = 4 → (gr t (evenR r)).isData ∧ (gr t (oddR r)).isData) (hf : f = 0 ∨ f = 1 ∨ f = 3 ∨ f = 4) : souData t r (f == 4) = [] := by
  by_cases h4 : f = 4
  · obtain ⟨heven, hodd⟩ := hpair h4
    rw [beq_iff_eq.mpr h4]
    exact souData_pair heven hodd
  · rw [beq_eq_false_iff_ne.mpr h4]
    exact souData_single (hsingle (by omega))

theorem countOk_of {n : Nat} (hmin : 4 ≤ n) (hmax : n ≤ 12) : countOk n = true := by
  simp only [countOk, hmin, hmax, decide_true, Bool.and_self]

/-! ## Operations without randomness -/

theorem doPanfield_clear (hx : (gr t rs1).isPlain) (hy : (gr t rs2).isPlain) (hz : (gr t rs3).isPlain)
    (hf : num t rs3 = 0 ∨ num t rs3 = 3 ∨ num t rs3 = 4) (hmin : 12 ≤ num t rs2) (hmax : num t rs2 ≤ 19) (hpan : num t rs1 < 10 ^ num t rs2) :
    doPanfield rd rs1 rs2 rs3 t =
      ([], { souWrite t rd (panField (num t rs3) (num t rs1) (num t rs2)) (num t rs3 == 4) .plain with pc := t.pc + 4 }) := by
  have hformat : (num t rs3 == 0 || num t rs3 == 3 || num t rs3 == 4) = true := by simpa [or_assoc] using hf
  have hrange : panOk (num t rs1) (num t rs2) = true := by simp only [panOk, hmin, hmax, hpan, decide_true, Bool.and_self]
  simp only [doPanfield, souPlain_clear hx, souPlain_clear hy, souPlain_clear hz, hformat, hrange, refuseIf, pcNext_souWrite, List.append_nil,
    Bool.not_true, Bool.or_self, Bool.false_eq_true, if_false]

theorem doPinchk_clear (floor : Nat) (hx : souData t rs1 (num t rs2 == 4) = []) (hy : (gr t rs2).isPlain) (hz : (gr t rs3).isPlain)
    (hf : pinFormatOk (num t rs2) = true) :
    doPinchk floor rd rs1 rs2 rs3 t = ([], { gw t rd (.plain (if pinFieldOk (num t rs2) (max floor (num t rs3 % 16)) (num t rs3 / 16 % 16)
      (souNibs t rs1 (num t rs2 == 4)) then 0 else 1)) with pc := t.pc + 4 }) := by
  simp only [doPinchk, hx, souPlain_clear hy, souPlain_clear hz, hf, refuseIf, souBit, pcNext_gw, b2w_not, List.append_nil, Bool.not_true,
    Bool.false_eq_true, if_false]

theorem doDecim_clear (hx : (gr t rs1).isData) (hy : (gr t rs2).isPlain) (hz : (gr t rs3).isPlain) (hn : countOk (num t rs3) = true) :
    doDecim rd rs1 rs2 rs3 t = ([], { gw t rd (.fresh (nibWord (decim (souNibs t rs2 false) (souNibs t rs1 false) (num t rs3))) .glazed) with
      pc := t.pc + 4 }) := by
  simp only [doDecim, souData_single hx, souPlain_clear hy, souPlain_clear hz, hn, refuseIf, souWrite_single, pcNext_gw, List.append_nil,
    Bool.not_true, Bool.false_eq_true, if_false]

theorem doOff_clear (f : List Nat → List Nat → Nat → List Nat) (hx : (gr t rs1).isData) (hy : (gr t rs2).isData) (hz : (gr t rs3).isPlain)
    (hn : countOk (num t rs3) = true) :
    doOff f rd rs1 rs2 rs3 t = ([], { gw t rd (.fresh (nibWord (f (souNibs t rs1 false) (souNibs t rs2 false) (num t rs3))) .glazed) with
      pc := t.pc + 4 }) := by
  simp only [doOff, souData_single hx, souData_single hy, souPlain_clear hz, hn, refuseIf, souWrite_single, pcNext_gw, List.append_nil,
    Bool.not_true, Bool.false_eq_true, if_false]

theorem doCmpeq_clear (hx : (gr t rs1).isData) (hy : (gr t rs2).isData) (hz : (gr t rs3).isPlain) :
    doCmpeq rd rs1 rs2 rs3 t = ([], { gw t rd (.plain (if (gr t rs1).data &&& (gr t rs3).data = (gr t rs2).data &&& (gr t rs3).data then 1 else 0))
      with pc := t.pc + 4 }) := by
  simp only [doCmpeq, souData_single hx, souData_single hy, souPlain_clear hz, souBit, pcNext_gw, Bool.beq_eq_decide_eq, b2w_decide,
    List.append_nil]

theorem doMaccmp_clear (hx : souData t rs1 true = []) (hy : souData t rs2 true = []) (hz : (gr t rs3).isPlain) (hmin : 4 ≤ num t rs3)
    (hmax : num t rs3 ≤ 16) :
    doMaccmp rd rs1 rs2 rs3 t = ([], { gw t rd (.plain (if (pairBytes t rs1).take (num t rs3) = (pairBytes t rs2).take (num t rs3) then 1 else 0))
      with pc := t.pc + 4 }) := by
  simp only [doMaccmp, hx, hy, souPlain_clear hz, hmin, hmax, refuseIf, souBit, pcNext_gw, Bool.beq_eq_decide_eq, b2w_decide,
    List.append_nil, decide_true, Bool.and_self, Bool.not_true, Bool.false_eq_true, if_false]

/-! ## Random fill (R145, R274) -/

/-- PINCONV to destination format `num t rs3`, the source having the format `num t rs2`. -/
theorem doPinconv_clear (failed : Bool) (r r2 : Word) (hx : souData t rs1 (num t rs2 == 4) = []) (hy : (gr t rs2).isPlain)
    (hz : (gr t rs3).isPlain) (hf : pinFormatOk (num t rs2) = true) (hn : pinFormatOk (num t rs3) = true) :
    doPinconv failed r r2 rd rs1 rs2 rs3 t = ([], pcNext (souFill (failed && pinDraws (num t rs3)) t rd
      (pinConv (num t rs3) (souNibs t rs1 (num t rs2 == 4)) r r2) (num t rs3 == 4))) := by
  simp only [doPinconv, hx, souPlain_clear hy, souPlain_clear hz, hf, hn, refuseIf, List.append_nil, Bool.not_true, Bool.or_self,
    Bool.false_eq_true, if_false]

theorem doOffpack_clear (failed : Bool) (r r2 : Word) (hx : (gr t rs1).isData) (hy : (gr t rs2).isPlain) (hz : (gr t rs3).isPlain)
    (hcount : countOk (num t rs2) = true) (hn : num t rs3 = 8 ∨ num t rs3 = 16) :
    doOffpack failed r r2 rd rs1 rs2 rs3 t =
      ([], pcNext (souFill failed t rd (offPack (souNibs t rs1 false) (num t rs2) (num t rs3) r r2) (num t rs3 == 16))) := by
  have hwidth : (num t rs3 == 8 || num t rs3 == 16) = true := by simpa using hn
  simp only [doOffpack, souData_single hx, souPlain_clear hy, souPlain_clear hz, hcount, hwidth, refuseIf, List.append_nil, Bool.not_true,
    Bool.or_self, Bool.false_eq_true, if_false]

/-- A fill from a source that works is what was made, GLAZED. -/
theorem pcNext_souFill_works (ns : List Nat) (wide : Bool) :
    pcNext (souFill false t rd ns wide) = { souWrite t rd ns wide .glazed with pc := t.pc + 4 } := pcNext_souWrite ..

/-- A fill from a failed source is POISON with cause 2, in a register or in both of a pair. -/
theorem pcNext_souFill_failed (ns : List Nat) (wide : Bool) :
    pcNext (souFill true t rd ns wide) =
      { (if wide = true then gwPair t rd ⟨0, .poison, 2⟩ ⟨0, .poison, 2⟩ else gw t rd ⟨0, .poison, 2⟩) with pc := t.pc + 4 } := by
  cases wide
  · exact pcNext_gw ..
  · exact pcNext_gwPair ..

end

section
variable {d : Dev} {h : Nat} {i : Insn} {t' : Thr} {draws : Thr → Bool} {f : Bool → Word → Word → Thr → List Trap × Thr}

/-- A thread that runs an instruction stands in its code, ready to issue. -/
theorem Dev.atCode_runs (hr : d.runs h i = true) : d.atCode h = true := by
  obtain ⟨e, hcmd, hunheld, hcode, -⟩ := Dev.runs_spec hr
  simp only [Dev.atCode, Dev.ready, hcmd, hunheld, hcode, Option.isSome_some, Bool.and_self]

/-- An operation that draws nothing, or whose source has failed, takes no free word. -/
theorem Dev.souDraw_undrawn (hr : d.runs h i = true) (hno : draws (d.thr h) = false ∨ d.rngFailed = true)
    (hf : f d.rngFailed 0 0 (d.thr h) = ([], t')) : d.souDraw h draws f = d.setThr h t' := by
  have hskip : (!draws (d.thr h) || d.rngFailed || !d.atCode h) = true := by rcases hno with h | h <;> simp [h]
  exact (if_pos hskip).trans (Dev.instrT_clear hr fun _ => hf)

/-- An operation that draws takes two free words while its source delivers. -/
theorem Dev.souDraw_served {t' : Word → Word → Thr} (hr : d.runs h i = true) (hdraws : draws (d.thr h) = true) (hworks : d.rngFailed = false)
    (hserves : d.rngServes 1 = true) (hopen : d.rngBlocked = false) (hf : ∀ r r2, f false r r2 (d.thr h) = ([], t' r r2)) :
    d.souDraw h draws f = (d.setThr h (t' (Config.freeWord d.nfree) (Config.freeWord (d.nfree + 1)))).draw 1 2 16 := by
  have hwaits : d.fillWaits = false := by simp [Dev.fillWaits, hserves, hopen]
  simp only [Dev.souDraw, hdraws, hworks, Dev.atCode_runs hr, hf, hwaits, Dev.instrT_clear hr fun _ => hf _ _, List.isEmpty_nil, Bool.not_true,
    Bool.or_self, Bool.false_eq_true, if_false]

end

/-! ## PINCONV and OFFPACK -/

section
variable {d : Dev} {h : Nat} {i : Insn} {t : Thr} {rd rs1 rs2 rs3 : BitVec 5}

section
variable (hr : d.runs h i = true) (ht : t = d.thr h) (hx : souData t rs1 (num t rs2 == 4) = []) (hy : (gr t rs2).isPlain)
  (hz : (gr t rs3).isPlain) (hf : pinFormatOk (num t rs2) = true)
include hr ht hx hy hz hf

/-- Format 0 has no random fill. -/
theorem Dev.pinconv_format0 (hn : num t rs3 = 0) :
    d.pinconv h rd rs1 rs2 rs3 =
      d.setThr h { souWrite t rd (pinConv 0 (souNibs t rs1 (num t rs2 == 4)) 0 0) false .glazed with pc := t.pc + 4 } := by
  subst ht
  refine Dev.souDraw_undrawn hr (.inl (by simp only [hn]; rfl)) ?_
  rw [doPinconv_clear _ _ _ hx hy hz hf (by rw [hn]; rfl), hn, show pinDraws 0 = false from rfl, Bool.and_false]
  exact congrArg _ (pcNext_souFill_works _ _)

theorem Dev.pinconv_served (hn : num t rs3 = 1 ∨ num t rs3 = 3 ∨ num t rs3 = 4) (hworks : d.rngFailed = false)
    (hserves : d.rngServes 1 = true) (hopen : d.rngBlocked = false) :
    d.pinconv h rd rs1 rs2 rs3 = (d.setThr h { souWrite t rd (pinConv (num t rs3) (souNibs t rs1 (num t rs2 == 4))
      (Config.freeWord d.nfree) (Config.freeWord (d.nfree + 1))) (num t rs3 == 4) .glazed with pc := t.pc + 4 }).draw 1 2 16 := by
  subst ht
  have hdraws : pinDraws (num (d.thr h) rs3) = true := bne_iff_ne.mpr (by omega)
  have hrule (r r2 : Word) := doPinconv_clear (rd := rd) false r r2 hx hy hz hf (pinFormatOk_iff.mpr (.inr hn))
  simp only [Bool.false_and, pcNext_souFill_works] at hrule
  exact Dev.souDraw_served (draws := fun t => pinDraws (num t rs3)) (f := fun b r r2 t => doPinconv b r r2 rd rs1 rs2 rs3 t)
    hr hdraws hworks hserves hopen hrule

theorem Dev.pinconv_failed (hn : num t rs3 = 1 ∨ num t rs3 = 3 ∨ num t rs3 = 4) (hfailed : d.rngFailed = true) :
    d.pinconv h rd rs1 rs2 rs3 = d.setThr h { (if (num t rs3 == 4) = true then gwPair t rd ⟨0, .poison, 2⟩ ⟨0, .poison, 2⟩
      else gw t rd ⟨0, .poison, 2⟩) with pc := t.pc + 4 } := by
  subst ht
  have hdraws : pinDraws (num (d.thr h) rs3) = true := bne_iff_ne.mpr (by omega)
  refine Dev.souDraw_undrawn hr (.inr hfailed) ?_
  rw [doPinconv_clear _ _ _ hx hy hz hf (pinFormatOk_iff.mpr (.inr hn)), hfailed, hdraws]
  exact congrArg _ (pcNext_souFill_failed _ _)

end

section
variable (hr : d.runs h i = true) (ht : t = d.thr h) (hx : (gr t rs1).isData) (hy : (gr t rs2).isPlain) (hz : (gr t rs3).isPlain)
  (hcount : countOk (num t rs2) = true) (hn : num t rs3 = 8 ∨ num t rs3 = 16)
include hr ht hx hy hz hcount hn

theorem Dev.offpack_served (hworks : d.rngFailed = false) (hserves : d.rngServes 1 = true) (hopen : d.rngBlocked = false) :
    d.offpack h rd rs1 rs2 rs3 = (d.setThr h { souWrite t rd (offPack (souNibs t rs1 false) (num t rs2) (num t rs3)
      (Config.freeWord d.nfree) (Config.freeWord (d.nfree + 1))) (num t rs3 == 16) .glazed with pc := t.pc + 4 }).draw 1 2 16 := by
  subst ht
  have hrule (r r2 : Word) := doOffpack_clear (rd := rd) false r r2 hx hy hz hcount hn
  simp only [pcNext_souFill_works] at hrule
  exact Dev.souDraw_served (draws := fun _ => true) (f := fun b r r2 t => doOffpack b r r2 rd rs1 rs2 rs3 t) hr rfl hworks hserves hopen hrule

theorem Dev.offpack_failed (hfailed : d.rngFailed = true) :
    d.offpack h rd rs1 rs2 rs3 = d.setThr h { (if (num t rs3 == 16) = true then gwPair t rd ⟨0, .poison, 2⟩ ⟨0, .poison, 2⟩
      else gw t rd ⟨0, .poison, 2⟩) with pc := t.pc + 4 } := by
  subst ht
  refine Dev.souDraw_undrawn hr (.inr hfailed) ?_
  rw [doOffpack_clear _ _ _ hx hy hz hcount hn, hfailed]
  exact congrArg _ (pcNext_souFill_failed _ _)

end

end

/-! ## ZEROISE (R166) -/

section
variable {t : Thr} {rd rs1 rs2 : BitVec 5}

theorem doZeroise_register (hrd : rd ≠ 0) : doZeroise rd rs1 rs2 t = ([], { gw t rd ⟨0, .plain, 0⟩ with pc := t.pc + 4 }) := by
  simp only [doZeroise, bne_iff_ne.mpr hrd, if_true]
  exact congrArg _ (pcNext_gw ..)

/-- The slice with the `n` words from word `a` on removed, which read as PLAIN zero. -/
def sliceCleared (sl : Tab GWord) (a n : Nat) : Tab GWord := sl.filter fun e => !(decide (a ≤ e.1) && decide (e.1 < a + n))

theorem sliceWord_sliceCleared (t : Thr) (a n k : Nat) :
    sliceWord { t with sl := sliceCleared t.sl a n } k = if a ≤ k ∧ k < a + n then ⟨0, .plain, 0⟩ else sliceWord t k := by
  have hread := tget_filter (d := fun _ => GWord.zero) t.sl (fun j => decide (a ≤ j) && decide (j < a + n)) k
  simp only [Bool.and_eq_true, decide_eq_true_eq] at hread
  exact hread

theorem doZeroise_slice {a : Nat} (hx : (gr t rs1).isPlain) (hy : (gr t rs2).isPlain) (haddr : num t rs1 = 8 * a) (hmin : 1 ≤ num t rs2)
    (hin : a + num t rs2 ≤ 2048) : doZeroise 0 rs1 rs2 t = ([], { t with sl := sliceCleared t.sl a (num t rs2), pc := t.pc + 4 }) := by
  have hmax : num t rs2 ≤ 2048 := by omega
  have hword : 8 * a / 8 = a := by omega
  have halign : 8 * a % 8 = 0 := by omega
  simp only [doZeroise, souPlain_clear hx, souPlain_clear hy, haddr, hword, halign, hmin, hmax, hin, refuseIf, bne_self_eq_false, beq_self_eq_true,
    decide_true, Bool.and_self, Bool.not_true, Bool.false_eq_true, if_false, List.append_nil]
  rfl

end

/-! ## The statement -/

/-- Settles O31: each clause is the operation's rule above, taken from the thread to the state. That PINCONV to format 0 draws nothing, so that
it needs no working source, is the model's choice (assumption 14). -/
theorem sealedOperandUnitGivesResult : Obligations.SealedOperandUnitGivesResult := by
  rintro s h rd rs1 rs2 rs3 t x y z n ht rfl rfl rfl rfl
  refine ⟨fun hr hx hy hz hf hmin hmax hpan => ?panfield, ?pinchk, fun hr hx hy hz hmin hmax => ?decim, fun hr hx hy hz hmin hmax => ?offadd,
    fun hr hx hy hz hmin hmax => ?offsub, fun hr hx hy hz => ?cmpeq, fun hr hxe hxo hye hyo hz hmin hmax => ?maccmp, ?pinconv,
    fun hr hx hy hz hmin hmax hn => ⟨fun hworks hserves hopen => ?offpack, fun hfailed => ?offpackFailed⟩,
    fun hr => ⟨fun hrd => ?register, fun a w hrd hx hy haddr hw hmin hin => ?slice⟩⟩
  case panfield =>
    subst ht
    rw [exec_panfield]
    exact onDev_executes_clear hr fun _ => doPanfield_clear hx hy hz hf hmin hmax hpan
  case pinchk =>
    rintro f rfl hr hy hz hsingle hpair hf
    subst ht
    rw [exec_pinchk]
    exact onDev_executes_clear hr fun _ => doPinchk_clear _ (souData_field hsingle hpair hf) hy hz (pinFormatOk_iff.mpr hf)
  case decim =>
    subst ht
    rw [exec_decim]
    exact onDev_executes_clear hr fun _ => doDecim_clear hx hy hz (countOk_of hmin hmax)
  case offadd =>
    subst ht
    rw [exec_offadd]
    exact onDev_executes_clear hr fun _ => doOff_clear digAdd hx hy hz (countOk_of hmin hmax)
  case offsub =>
    subst ht
    rw [exec_offsub]
    exact onDev_executes_clear hr fun _ => doOff_clear digSub hx hy hz (countOk_of hmin hmax)
  case cmpeq =>
    subst ht
    rw [exec_cmpeq]
    exact onDev_executes_clear hr fun _ => doCmpeq_clear hx hy hz
  case maccmp =>
    subst ht
    rw [exec_maccmp]
    exact onDev_executes_clear hr fun _ => doMaccmp_clear (souData_pair hxe hxo) (souData_pair hye hyo) hz hmin hmax
  case pinconv =>
    rintro f rfl hr hy hz hsingle hpair hf
    have hx := souData_field hsingle hpair hf
    have hok := pinFormatOk_iff.mpr hf
    rw [exec_pinconv]
    refine ⟨fun hn => ?format0, fun hn hworks hserves hopen => ?served, fun hn hfailed => ?failedSingle, fun hn hfailed => ?failedPair⟩
    case format0 => exact onDev_outcome s ((Dev.executes_runs hr _).trans (Dev.pinconv_format0 hr ht hx hy hz hok hn))
    case served => exact onDev_outcome s ((Dev.executes_runs hr _).trans (Dev.pinconv_served hr ht hx hy hz hok hn hworks hserves hopen))
    case failedSingle =>
      have hsingle : ¬ (num t rs3 == 4) = true := by rcases hn with h | h <;> simp [num, h]
      have hrule := Dev.pinconv_failed (rd := rd) hr ht hx hy hz hok (hn.imp id .inl) hfailed
      rw [if_neg hsingle] at hrule
      exact onDev_outcome s ((Dev.executes_runs hr _).trans hrule)
    case failedPair =>
      have hrule := Dev.pinconv_failed (rd := rd) hr ht hx hy hz hok (.inr (.inr hn)) hfailed
      rw [if_pos (show (num t rs3 == 4) = true from beq_iff_eq.mpr hn)] at hrule
      exact onDev_outcome s ((Dev.executes_runs hr _).trans hrule)
  case offpack =>
    rw [exec_offpack]
    exact onDev_outcome s ((Dev.executes_runs hr _).trans (Dev.offpack_served hr ht hx hy hz (countOk_of hmin hmax) hn hworks hserves hopen))
  case offpackFailed =>
    have hrule := Dev.offpack_failed (rd := rd) hr ht hx hy hz (countOk_of hmin hmax) hn hfailed
    simp only [beq_iff_eq] at hrule
    rw [exec_offpack]
    exact onDev_outcome s ((Dev.executes_runs hr _).trans hrule)
  case register =>
    subst ht
    rw [exec_zeroise]
    exact onDev_executes_clear hr fun _ => doZeroise_register hrd
  case slice =>
    subst ht hrd hw
    rw [exec_zeroise]
    exact ⟨_, onDev_executes_clear hr fun _ => doZeroise_slice hx hy haddr hmin hin, sliceWord_sliceCleared _ a _⟩

end Sys2Proof.Machine
end

section
/-! The events of threads and tiles (R130, R135, R148, R153, R169, R176): what a result, a random word, the end of a clearing, the run limit, a
tile's self-test and an instruction-cache fill do, and the statement about the six commands. -/

namespace Sys2Proof.Machine

/-! ## The commands -/

theorem exec_engineResult (h tk m : Nat) (s : State) : exec (.engineResult h tk m) s = onDev s (fun d => d.engineResult h tk m) := rfl

theorem exec_randResult (h : Nat) (s : State) : exec (.randResult h) s = onDev s (fun d => d.randResult h) := rfl

theorem exec_threadZeroiseDone (h : Nat) (s : State) : exec (.threadZeroiseDone h) s = onDev s (fun d => d.threadCleared h) := rfl

theorem exec_runLimitExpiry (h : Nat) (s : State) : exec (.runLimitExpiry h) s = onDev s (fun d => d.runLimit h) := rfl

theorem exec_tileSelftestDone (k : Nat) (pass : Bool) (s : State) :
    exec (.tileSelftestDone k pass) s = onDev s (fun d => d.tileTested k pass) := rfl

theorem exec_instructionCacheFill (h : Nat) (ok : Bool) (s : State) :
    exec (.instructionCacheFill h ok) s = onChip s (fun c => c.icacheFill h ok) := rfl

/-! ## Tokens -/

@[simp] theorem tok_setTok_same (t : Thr) (k : Nat) (v : Tok) : tok (setTok t k v) k = v := tget_tput_same _ _ _

/-- A pair based at g0 or g1 is that of g0 and g1. -/
theorem evenR_eq_zero (r : BitVec 5) : evenR r = 0 ↔ r = 0 ∨ r = 1 := by
  revert r
  decide

theorem gwToken_eq (t : Thr) (r : BitVec 5) (a b : GWord) : gwToken t r a b = if r = 0 ∨ r = 1 then t else gwPair t r a b := by
  simp only [gwToken, evenR_eq_zero]

/-! ## How a command ends (R149) -/

section
variable {d : Dev} {h e : Nat}

/-- A command that its thread has not released ends with `status`, and the thread gives it up. -/
theorem Dev.endCommand_unreleased (status : Nat) (hcmd : (d.thr h).cmd = some e) (hrel : (d.thr h).rel = false) :
    d.endCommand h status = ((d.setCmd e { d.cmd e with st := .ended, status := status, result := 0 }).setThr h (d.thr h).givenUp).setCmd
      (pastEntry h) Cmd.reset := by
  simp only [Dev.endCommand, hcmd, hrel, Bool.false_eq_true, if_false]
  rfl

/-- The same for a thread that has just changed. -/
theorem Dev.endCommand_setThr {t : Thr} (status : Nat) (hcmd : t.cmd = some e) (hrel : t.rel = false) :
    (d.setThr h t).endCommand h status = ((d.setCmd e { d.cmd e with st := .ended, status := status, result := 0 }).setThr h t.givenUp).setCmd
      (pastEntry h) Cmd.reset := by
  have hthr : (d.setThr h t).thr h = t := Dev.thr_setThr_same ..
  rw [Dev.endCommand_unreleased (e := e) status (by rwa [hthr]) (by rwa [hthr]), hthr]
  exact congrArg (Dev.setCmd · (pastEntry h) Cmd.reset) (Dev.setThr_setThr (d.setCmd e _) h t _)

/-! ## What a result does (R169) -/

theorem Dev.wake_idle (hwait : (d.thr h).wait = .none) : d.wake h = d := by simp only [Dev.wake, hwait]

theorem Dev.wake_token {tk : Nat} {ra : BitVec 5} {v : Res} (hwait : (d.thr h).wait = .token tk ra) (htok : tok (d.thr h) tk = .arrived v) :
    d.wake h = d.setThr h { gwToken (setTok (d.thr h) tk .free) ra v.even v.odd with wait := .none } := by
  simp only [Dev.wake, hwait, htok]

section
variable {tk : Nat} {v : Res} {dst : Dst} (hcmd : (d.thr h).cmd = some e)
  (htok : tok (d.thr h) tk = .done v (d.rd (Fld.TILE_EPOCH_EPOCH (h / 16))) dst)
include hcmd htok

/-- A good result for the pair or the slice arrives on its token. -/
theorem Dev.engineResult_arrives (hdst : ∀ off bs, dst ≠ .output off bs) (hok : v.status = 0) :
    d.engineResult h tk 0 = (d.setThr h (setTok (d.thr h) tk (.arrived v))).wake h := by
  simp only [Dev.engineResult, htok, hcmd, hok, stOk, arrive, Option.isNone_some, bne_self_eq_false, Bool.or_self, Bool.false_eq_true, if_false,
    if_true, zero_ne_one, OfNat.zero_ne_ofNat]

/-- The octets for the output area are made first. -/
theorem Dev.engineResult_output {off : Nat} {bs : List Byte} (hdst : dst = .output off bs) (hok : v.status = 0) :
    d.engineResult h tk 0 = ((d.toOutput h tk off bs).modThr h fun t => setTok t tk (.arrived v)).wake h := by
  subst hdst
  simp only [Dev.engineResult, htok, hcmd, hok, stOk, arrive, Option.isNone_some, bne_self_eq_false, Bool.or_self, Bool.false_eq_true, if_false,
    if_true, zero_ne_one, OfNat.zero_ne_ofNat]

theorem Dev.engineResult_waited {ra : BitVec 5} (hdst : ∀ off bs, dst ≠ .output off bs) (hok : v.status = 0)
    (hwait : (d.thr h).wait = .token tk ra) :
    d.engineResult h tk 0 = d.setThr h { (if ra = 0 ∨ ra = 1 then setTok (setTok (d.thr h) tk (.arrived v)) tk .free else
      gwPair (setTok (setTok (d.thr h) tk (.arrived v)) tk .free) ra v.even v.odd) with wait := .none } := by
  have hthr : (d.setThr h (setTok (d.thr h) tk (.arrived v))).thr h = setTok (d.thr h) tk (.arrived v) := Dev.thr_setThr_same ..
  rw [Dev.engineResult_arrives hcmd htok hdst hok, Dev.wake_token (tk := tk) (ra := ra) (v := v) (by rw [hthr]; exact hwait)
    (by rw [hthr]; exact tok_setTok_same ..), hthr, Dev.setThr_setThr, gwToken_eq]

/-- A failure ends an unreleased command with the result's status. -/
theorem Dev.engineResult_fails (hbad : v.status ≠ 0) (hrel : (d.thr h).rel = false) :
    d.engineResult h tk 0 = ((d.setCmd e { d.cmd e with st := .ended, status := v.status, result := 0 }).setThr h
      (setTok (d.thr h) tk .free).givenUp).setCmd (pastEntry h) Cmd.reset := by
  simp only [Dev.engineResult, htok, hcmd, hbad, hrel, stOk, Option.isNone_some, bne_self_eq_false, Bool.or_self, Bool.false_eq_true, if_false,
    zero_ne_one]
  exact Dev.endCommand_setThr v.status hcmd hrel

end

/-! ## A random word, the end of a clearing, the run limit -/

theorem Dev.randResult_serves {rd : BitVec 5} (hwait : (d.thr h).wait = .rand rd) (hstate : d.rd Fld.RNG_HEALTH_STATE = 1)
    (hserves : d.rngServes 1 = true) (hopen : d.rngBlocked = false) :
    d.randResult h = (d.setThr h { gw (d.thr h) rd (.plain (Config.freeWord d.nfree)) with wait := .none }).draw 1 1 8 := by
  have hruns : (d.rngState == rngRunning) = true := beq_iff_eq.mpr hstate
  simp only [Dev.randResult, hwait, hruns, hserves, hopen, Dev.randDeliver, Bool.and_self, Bool.not_true, Bool.not_false, Bool.false_eq_true,
    if_false]
  rfl

theorem Dev.threadCleared_ended (hzero : (d.thr h).zeroising = true) (hback : toksFree (d.thr h) = true) :
    d.threadCleared h = (d.setThr h { d.thr h with g := [], sl := [], zeroising := false }).scopedClear h := by
  simp only [Dev.threadCleared, Dev.zeroiseDone, hzero, hback, Bool.and_self, if_true]
  rfl

/-- Past a run limit that is not 0 the command takes the containment trap. -/
theorem Dev.runLimit_passed (hcmd : (d.thr h).cmd = some e) (hlimit : (d.thr h).limit ≠ 0) (hrel : (d.thr h).rel = false) :
    d.runLimit h = (((d.inc Fld.TILE_TRAPS_CONTAIN 1).setCmd e { d.cmd e with st := .ended, status := 0x0604, result := 0 }).setThr h
      (d.thr h).givenUp).setCmd (pastEntry h) Cmd.reset := by
  have hlimits : ((d.thr h).cmd.isSome && (d.thr h).limit != 0) = true := by simp [hcmd, hlimit]
  exact (if_pos hlimits).trans (Dev.endCommand_unreleased (d := d.inc Fld.TILE_TRAPS_CONTAIN 1) _ hcmd hrel)

theorem Chip.icacheFill_filled {c : Chip} (hmeets : c.dev.fillMeets h = true) :
    c.icacheFill h true = c.onDev fun d => d.setThr h { c.dev.thr h with wait := .none } := by
  simp only [Chip.icacheFill, Chip.onDev, Dev.icacheFill, hmeets, Bool.true_or, Bool.not_true, Bool.false_eq_true, if_false, if_true]
  rfl

end

/-! ## A tile's self-test (R153) -/

section
variable {d : Dev} {k : Nat}

theorem Dev.rd_eventAt_reg {f g : Fld} (hreg : g.reg ≠ f.reg) : (d.eventAt f).rd g = d.rd g := Dev.rd_congr (Dev.reg_eventAt_ne d hreg)

theorem Dev.tileTested_passes (htest : d.rd (Fld.TILE_EPOCH_STATE k) = 1) :
    d.tileTested k true = (((d.setBit Fld.TILE_SELFTEST_SELFTEST k false).setBit Fld.TILE_AVAIL_AVAIL k true).wr
      (Fld.TILE_EPOCH_STATE k) 0).tileEpochUp k := by
  simp only [Dev.tileTested, htest, bne_self_eq_false, Bool.false_eq_true, if_false, if_true]

/-- TILE_FAULT as a failed self-test of tile `k` leaves it, with its event. -/
def Dev.selftestFault (d : Dev) (k : Nat) : Dev :=
  ((((d.wr Fld.TILE_FAULT_TILE k).wr Fld.TILE_FAULT_THREAD 0).wr Fld.TILE_FAULT_CAUSE 8).wr Fld.TILE_FAULT_PERMANENT 1).eventAt
    Fld.TILE_FAULT_EVSEQ_SEQ

theorem Dev.tileTested_fails (htest : d.rd (Fld.TILE_EPOCH_STATE k) = 1) : d.tileTested k false = ((d.selftestFault k).tileOut k true).noTiles := by
  simp only [Dev.tileTested, htest, bne_self_eq_false, Bool.false_eq_true, if_false]
  rfl

/-- Failing commands changes no register and assigns no number. -/
theorem Dev.foldl_failCmd (es : List Nat) (status : Nat) (d : Dev) :
    (es.foldl (fun x e => x.failCmd e status) d).regs = d.regs ∧ (es.foldl (fun x e => x.failCmd e status) d).seq = d.seq := by
  induction es generalizing d with
  | nil => exact ⟨rfl, rfl⟩
  | cons e es ih => exact ih (d.failCmd e status)

theorem Dev.noTiles_frame (d : Dev) : d.noTiles.regs = d.regs ∧ d.noTiles.seq = d.seq := by
  unfold Dev.noTiles
  split
  · exact Dev.foldl_failCmd _ _ d
  · exact ⟨rfl, rfl⟩

/-- A tile retired for good changes the three masks and its own state. -/
theorem Dev.rd_tileOut_forGood {g : Fld} (havail : g.reg ≠ 0x40000) (htest : g.reg ≠ 0x40008) (hretired : g.reg ≠ 0x40010)
    (hstate : g.reg ≠ 0x40100 + k * 0x8) : (d.tileOut k true).rd g = d.rd g := by
  simp only [Dev.tileOut, Dev.setBit, if_true]
  rw [Dev.rd_wr_reg _ _ hstate, Dev.rd_wr_reg _ _ hretired, Dev.rd_wr_reg _ _ htest, Dev.rd_wr_reg _ _ havail]

theorem Dev.rd_tileOut_state : (d.tileOut k true).rd (Fld.TILE_EPOCH_STATE k) = 2 :=
  Dev.rd_wr_same _ _ _ (by simp [Fld.TILE_EPOCH_STATE])

/-- TILE_FAULT reads after a retirement as it did before. -/
theorem Dev.rd_tileOut_fault {g : Fld} (hg : g.reg = 0x40038) : (d.tileOut k true).rd g = d.rd g :=
  Dev.rd_tileOut_forGood (by omega) (by omega) (by omega) (by omega)

theorem Dev.selftestFault_tile (hk : k < 64) : (d.selftestFault k).rd Fld.TILE_FAULT_TILE = k := by
  rw [Dev.selftestFault, Dev.rd_eventAt_reg (by decide), Dev.rd_wr_field _ _ (by decide), Dev.rd_wr_field _ _ (by decide),
    Dev.rd_wr_field _ _ (by decide), Dev.rd_wr_same _ _ _ (by decide)]
  exact Nat.mod_eq_of_lt hk

theorem Dev.selftestFault_cause : (d.selftestFault k).rd Fld.TILE_FAULT_CAUSE = 8 := by
  rw [Dev.selftestFault, Dev.rd_eventAt_reg (by decide), Dev.rd_wr_field _ _ (by decide), Dev.rd_wr_same _ _ _ (by decide)]
  rfl

theorem Dev.selftestFault_permanent : (d.selftestFault k).rd Fld.TILE_FAULT_PERMANENT = 1 := by
  rw [Dev.selftestFault, Dev.rd_eventAt_reg (by decide), Dev.rd_wr_same _ _ _ (by decide)]
  rfl

end

/-! ## The statement -/

/-- Settles O33: each clause is one rule above, taken from the device or the chip to the state. -/
theorem threadAndTileEventsTakeEffect : Obligations.ThreadAndTileEventsTakeEffect := by
  rintro s d h e t rfl rfl
  refine ⟨fun tk v dst hcmd htok => ⟨fun hdst hok hwait => ?arrives, fun off bs hdst hok => ?output, fun ra hdst hok hwait => ?waited,
      fun hbad hrel => ?failure⟩,
    fun rd hwait hstate hserves hopen => ?random, fun hzero hback => ?cleared, fun hcmd hlimit hrel => ?limit,
    fun k hk htest => ⟨?passes, ?fails⟩, fun hmeets => ?filled⟩
  case arrives =>
    rw [exec_engineResult]
    refine onDev_outcome s ((Dev.engineResult_arrives hcmd htok hdst hok).trans (Dev.wake_idle ?_))
    rw [Dev.thr_setThr_same]
    exact hwait
  case output =>
    rw [exec_engineResult]
    exact onDev_outcome s (Dev.engineResult_output hcmd htok hdst hok)
  case waited =>
    rw [exec_engineResult]
    exact onDev_outcome s (Dev.engineResult_waited hcmd htok hdst hok hwait)
  case failure =>
    rw [exec_engineResult]
    exact onDev_outcome s (Dev.engineResult_fails hcmd htok hbad hrel)
  case random =>
    rw [exec_randResult]
    exact onDev_outcome s (Dev.randResult_serves hwait hstate hserves hopen)
  case cleared =>
    rw [exec_threadZeroiseDone]
    exact onDev_outcome s (Dev.threadCleared_ended hzero hback)
  case limit =>
    rw [exec_runLimitExpiry]
    exact onDev_outcome s (Dev.runLimit_passed hcmd hlimit hrel)
  case passes =>
    rw [exec_tileSelftestDone]
    exact onDev_outcome s (Dev.tileTested_passes htest)
  case fails =>
    obtain ⟨hregs, hseq⟩ := Dev.noTiles_frame ((s.chip.dev.selftestFault k).tileOut k true)
    refine ⟨_, onDev_outcome s (g := fun d => ((d.selftestFault k).tileOut k true).noTiles) (Dev.tileTested_fails htest), ?_⟩
    simp only [State.onDev_dev, Dev.rd_of_regs hregs, hseq, Dev.rd_tileOut_state, Dev.rd_tileOut_fault (g := Fld.TILE_FAULT_CAUSE) rfl,
      Dev.rd_tileOut_fault (g := Fld.TILE_FAULT_TILE) rfl, Dev.rd_tileOut_fault (g := Fld.TILE_FAULT_PERMANENT) rfl, Dev.selftestFault_cause,
      Dev.selftestFault_tile hk, Dev.selftestFault_permanent, true_and]
    rfl
  case filled =>
    rw [exec_instructionCacheFill]
    exact onChip_outcome s (Chip.icacheFill_filled hmeets)

end Sys2Proof.Machine
end

section
/-! Lookups, host requests, the transfer engine and the DRAM's clock (R173, R174, R258, R262, R265, R270, R414): what each request, each record
of a transfer and each event of the PLL does, and the statement about the thirteen commands. -/

namespace Sys2Proof.Machine

/-! ## The commands -/

theorem exec_lookup (h tk m loc : Nat) (s : State) : exec (.lookup h tk m loc) s = onDev s (fun d => d.lookup h tk (m + 4 * loc)) := rfl

theorem exec_hostRead (h tk : Nat) (bs : List Byte) (s : State) : exec (.hostRead h tk bs) s = onDev s (fun d => d.hostRead h tk bs) := rfl

theorem exec_hostWrite (h tk : Nat) (s : State) : exec (.hostWrite h tk) s = onDev s (fun d => d.hostWrite h tk) := rfl

theorem exec_hostFill (h tk : Nat) (s : State) : exec (.hostFill h tk) s = onDev s (fun d => d.hostFill h tk) := rfl

theorem exec_xksSave (m : Nat) (s : State) : exec (.xksSave m) s = onDev s (fun d => d.xksSave m) := rfl

theorem exec_xksLoad (img : Option (List Byte)) (m : Nat) (s : State) : exec (.xksLoad img m) s = onDev s (fun d => d.xksLoad img m) := rfl

theorem exec_xksCopy (m r : Nat) (s : State) : exec (.xksCopy m r) s = onDev s (fun d => d.xksCopy m r) := rfl

theorem exec_xksDelete (m : Nat) (s : State) : exec (.xksDelete m) s = onDev s (fun d => d.xksDelete m) := rfl

theorem exec_xksTransferEnd (s : State) : exec .xksTransferEnd s = onDev s (fun d => d.xferEnd) := rfl

theorem exec_dramPllUnlock (s : State) : exec .dramPllUnlock s = onDev s (fun d => d.dramUnlock) := rfl

theorem exec_dramPllRelock (m : Nat) (s : State) : exec (.dramPllRelock m) s = onDev s (fun d => d.dramRelock m) := rfl

theorem exec_dramRelockTimeout (s : State) : exec .dramRelockTimeout s = onDev s (fun d => d.dramTimeout) := rfl

theorem exec_dramTraining (gb m : Nat) (s : State) : exec (.dramTraining gb m) s = onChip s (fun c => c.dramTraining gb m) := rfl

/-! ## Requests at an engine -/

section
variable {d : Dev} {h tk : Nat} {r : Req}

/-- A request that stands at an engine names it and the operation. -/
theorem Dev.sentTo_some {eng op : Nat} (hsent : d.sentTo eng op h tk = some r) : r.eng = eng ∧ r.op = op := by
  unfold Dev.sentTo at hsent
  split at hsent
  · split at hsent
    · rename_i hnames
      obtain rfl := Option.some.inj hsent
      simp only [Bool.and_eq_true, decide_eq_true_eq] at hnames
      exact hnames.1
    · cases hsent
  · cases hsent

theorem Req.formOk_dst {src dst : List Nat} (hform : r.formOk src dst = true) : r.dstk ∈ dst := by
  simp only [Req.formOk, Bool.and_eq_true, List.contains_iff_mem] at hform
  obtain ⟨⟨⟨⟨-, hdst⟩, -⟩, -⟩, -⟩ := hform
  exact hdst

/-- A host request that its table does not refuse goes to the slice if it reads and to the output area if it writes (R174). -/
theorem Req.dstk_of_hostRefusal (hop : r.op = 1 ∨ r.op = 2) (hok : r.hostRefusal = none) : r.dstk = r.op := by
  rcases hop with hop | hop
  · have hform : r.formOk [2] [1] = true := by
      by_contra hform
      simp [Req.hostRefusal, hop, Bool.eq_false_iff.mpr hform] at hok
    exact (List.mem_singleton.mp (Req.formOk_dst hform)).trans hop.symm
  · have hform : r.formOk [0, 1] [2] = true := by
      by_contra hform
      simp [Req.hostRefusal, hop, Bool.eq_false_iff.mpr hform] at hok
    exact (List.mem_singleton.mp (Req.formOk_dst hform)).trans hop.symm

theorem Dev.deliver_slice (ws : List GWord) (n : Nat) (hdst : r.dstk = 1) :
    d.deliver h tk r ws n = (d.toSlice h r.dstOff ws).tokDone h tk r (okBytes n) := if_pos hdst

/-- Words that are all PLAIN may leave for the output area. -/
theorem Dev.deliver_output {ws : List GWord} (n : Nat) (hdst : r.dstk = 2) (hplain : ∀ w ∈ ws, w.tag = .plain) :
    d.deliver h tk r ws n = d.tokOutput h tk r (okBytes n) ((wordsBytes ws).take n) := by
  have hnone (x : Tag) (hx : x ≠ .plain) : ws.any (fun w => w.tag == x) = false := by
    rw [List.any_eq_false]
    intro w hw
    rw [hplain w hw, beq_iff_eq]
    exact hx.symm
  have hbad : badWord ws = none := by
    have hfind : ws.find? (fun w => w.tag == .poison) = none := by
      rw [List.find?_eq_none]
      exact List.any_eq_false.mp (hnone .poison (by decide))
    simp only [badWord, hfind, hnone .handle (by decide), Bool.false_eq_true, if_false]
  simp only [Dev.deliver, hdst, hbad, anyGlazed, hnone .glazed (by decide), Bool.false_eq_true, if_false, OfNat.ofNat_ne_one]

/-! ## LOOKUP (R258) -/

theorem Dev.lookup_found {m : Nat} {k : KeyRef} {d1 : Dev} (hsent : d.sentTo 5 1 h tk = some r) (hlock : d.lockStatus = none)
    (hform : r.formOk [0] [0] = true) (hmode : r.mode = 0) (hcount : r.count = 0) (hrec : getF r.rb.data 27 5 = 0) (hrest : getF r.rb.data 48 16 = 0)
    (hkey : d.bit Fld.XKS_STATUS_NO_KEY = false)
    (hfetch : d.keyFetch h r.part (mkHandle 2 (getF r.rb.data 0 27) (getF r.rb.data 32 16)) m = (d1, .ok k)) :
    d.lookup h tk m = d1.tokDone h tk r ⟨0, .fresh (mkHandle 2 (getF r.rb.data 0 27) (getF r.rb.data 32 16)) .handle, GWord.zero⟩ := by
  simp only [Dev.lookup, hsent, hlock, hform, hmode, hcount, hrec, hrest, hkey, hfetch, bne_self_eq_false, Bool.not_true, Bool.or_self,
    Bool.false_eq_true, if_false]
  rfl

/-! ## The host engine (R173, R174) -/

theorem Dev.hostRead_allowed {bs : List Byte} (hsent : d.sentTo 6 1 h tk = some r) (hok : r.hostRefusal = none) (hlen : bs.length = r.count)
    (hsend : d.canSend r.part = true) :
    d.hostRead h tk bs = ((d.emit (.memRead r.part (dInAddr (d.thrCmd h).desc + r.srcOff) r.count)).toSlice h r.dstOff
      (bytesWords bs .plain)).tokDone h tk r ⟨0, .plain (BitVec.ofNat 64 r.count), GWord.zero⟩ := by
  obtain ⟨-, hop⟩ := Dev.sentTo_some hsent
  have hdst : r.dstk = 1 := (Req.dstk_of_hostRefusal (.inl hop) hok).trans hop
  simp only [Dev.hostRead, hsent, hok, hlen, hsend, bne_self_eq_false, Bool.not_true, Bool.or_self, Bool.false_eq_true, if_false]
  exact Dev.deliver_slice _ _ hdst

theorem Dev.hostWrite_allowed {ws : List GWord} (hsent : d.sentTo 6 2 h tk = some r) (hok : r.hostRefusal = none)
    (hgood : d.sliceBad h r 1 = false) (hws : ws = if r.srck = 0 then [r.rb, r.rb1] else sliceWords (d.thr h) r.srcOff r.count)
    (hplain : ∀ w ∈ ws, w.tag = .plain) :
    d.hostWrite h tk = d.modThr h fun t => setTok t tk (.done ⟨0, .plain (BitVec.ofNat 64 r.count), GWord.zero⟩ r.epoch
      (.output r.dstOff ((wordsBytes ws).take r.count))) := by
  obtain ⟨-, hop⟩ := Dev.sentTo_some hsent
  have hdst : r.dstk = 2 := (Req.dstk_of_hostRefusal (.inr hop) hok).trans hop
  simp only [Dev.hostWrite, hsent, hok, hgood, ← hws, Bool.false_eq_true, if_false]
  exact Dev.deliver_output _ hdst hplain

/-! ## HOST_FILL (R270, R274) -/

theorem Dev.hostFill_given {d1 : Dev} (hsent : d.sentTo 7 1 h tk = some r) (hform : r.formOk [0] [2] = true) (hmin : 8 ≤ r.count)
    (hmax : r.count ≤ 1048576) (hwords : r.count % 8 = 0) (hworks : d.rngFailed = false) (hlock : d.lockStatus = none)
    (hready : d.rngReady 2 = true) (hmode : r.mode < 2)
    (hserves : (if r.mode = 1 then d.reseedFor (16 * r.order + tk) else (d, d.rngServes 2)) = (d1, true)) :
    d.hostFill h tk = (d1.draw 2 1 r.count).modThr h fun t => setTok t tk (.done ⟨0, .plain (BitVec.ofNat 64 r.count), GWord.zero⟩ r.epoch
      (.output r.dstOff (Config.freeBytes d.nfree r.count))) := by
  simp only [Dev.hostFill, hsent, hform, hworks, hlock, hready, hserves, hwords, Nat.not_le.mpr hmode, Nat.not_lt.mpr hmin, Nat.not_lt.mpr hmax,
    decide_false, bne_self_eq_false, Bool.not_true, Bool.or_self, Bool.false_eq_true, if_false]
  rfl

end

/-! ## The transfer engine (R265) -/

section
variable {d d1 d2 : Dev} {n i m : Nat}

theorem Dev.xksSave_next (hn : n = d.rd Fld.XKS_XFER_CTRL_PARTITION) (hi : i = d.rd Fld.XKS_XFER_RANGE_FIRST + d.xks.xfer)
    (hread : d.xferRead i m = (d1, true)) (hruns : d.xferRuns 1 = true) (hkey : d.vlt.roots.partmk = true) :
    d.xksSave m =
      (d1.send 0 (.memWrite 0 (16 * d.rd Fld.XKS_XFER_ADDR_ADDR + 144 * d.xks.xfer) (d.recordImage n i))).xferNext 1 := by
  subst hn hi
  simp only [Dev.xksSave, Dev.xferIndex, hruns, hread, hkey, Bool.not_true, Bool.false_eq_true, if_false]

/-- The read of the next image from host memory. -/
def Dev.imageAsked (d : Dev) : Dev := d.emit (.memRead 0 (16 * d.rd Fld.XKS_XFER_ADDR_ADDR + 144 * d.xks.xfer) 144)

theorem Dev.emit_imageAsked (d : Dev) :
    d.emit (.memRead 0 (16 * d.rd Fld.XKS_XFER_ADDR_ADDR + 144 * d.xks.xfer) 144) = d.imageAsked := rfl

section
variable {d0 : Dev} {img : List Byte} (hn : n = d.rd Fld.XKS_XFER_CTRL_PARTITION) (hi : i = d.rd Fld.XKS_XFER_RANGE_FIRST + d.xks.xfer)
  (hd0 : d0 = d.imageAsked) (hruns : d.xferRuns 2 = true) (hsend : d.canSend 0 = true)
include hn hi hd0 hruns hsend

theorem Dev.xksLoad_rejected (hopen : d0.openImage n i img = none) :
    d.xksLoad (some img) m = (d0.inc Fld.XKS_XFER_STATUS_REJECTED 1).xferNext 0 := by
  subst hn hi hd0
  have hopen' : d.imageAsked.openImage (d.imageAsked.rd Fld.XKS_XFER_CTRL_PARTITION) d.imageAsked.xferIndex img = none := hopen
  simp only [Dev.xksLoad, hruns, hsend, Dev.emit_imageAsked, hopen', Bool.not_true, Bool.or_self, Bool.false_eq_true, if_false]

/-- An image that opens goes into an absent record with the greater generation; a present record is skipped. -/
theorem Dev.xksLoad_opened {p : List Byte} (hopen : d0.openImage n i img = some p) (hread : d0.xferRead i m = (d1, true)) :
    d.xksLoad (some img) m =
      if aPresent (d1.xrec i).attr then (d1.inc Fld.XKS_XFER_STATUS_SKIPPED 1).xferNext 0
      else (d1.xksWrite i n ((slice p 0x18 72).take (algBytes (aAlg (bytesBv 64 (slice p 0 8))))) (bytesBv 64 (slice p 0 8))
        (bytesBv 64 (slice p 0x10 8)) (if (d1.xrec i).gen < leAt img 4 2 then leAt img 4 2 else (d1.xrec i).gen + 1)).xferNext 1 := by
  subst hn hi hd0
  have hopen' : d.imageAsked.openImage (d.imageAsked.rd Fld.XKS_XFER_CTRL_PARTITION) d.imageAsked.xferIndex img = some p := hopen
  have hread' : d.imageAsked.xferRead d.imageAsked.xferIndex m = (d1, true) := hread
  simp only [Dev.xksLoad, hruns, hsend, Dev.emit_imageAsked, hopen', hread', Bool.not_true, Bool.or_self, Bool.false_eq_true, if_false]
  rfl

end

theorem Dev.xksLoad_unread (hruns : d.xferRuns 2 = true) (hsend : d.canSend 0 = true) :
    d.xksLoad none m = (d.imageAsked.emit (.aer 0)).xferError 4 := by
  simp only [Dev.xksLoad, hruns, hsend, Dev.emit_imageAsked, Bool.not_true, Bool.or_self, Bool.false_eq_true, if_false]

theorem Dev.xksDelete_next (hn : n = d.rd Fld.XKS_XFER_CTRL_PARTITION) (hi : i = d.rd Fld.XKS_XFER_RANGE_FIRST + d.xks.xfer)
    (hread : d.xferRead i m = (d1, true)) (hruns : d.xferRuns 4 = true) (hgen : (d1.xrec i).gen = d.rd Fld.XKS_XFER_RANGE_GEN) :
    d.xksDelete m = (d1.xksWrite i n [] 0 0 ((d1.xrec i).gen + 1)).xferNext 1 := by
  subst hn hi
  simp only [Dev.xksDelete, Dev.xferIndex, hruns, hread, hgen, bne_self_eq_false, Bool.not_true, Bool.false_eq_true, if_false]

theorem Dev.xksCopy_next {m1 : Nat} {hd : Word} {x : Slot} (hn : n = d.rd Fld.XKS_XFER_CTRL_PARTITION)
    (hi : i = d.rd Fld.XKS_XFER_RANGE_FIRST + d.xks.xfer) (hhd : hd = d.reg Fld.XKS_XFER_SLOT_HANDLE.reg) (hruns : d.xferRuns 3 = true)
    (hsource : d.copySource n hd = some x) (hslot : d.slotRead hd m = (d1, none)) (hread : d1.xferRead i m1 = (d2, true))
    (hgen : (d2.xrec i).gen = d.rd Fld.XKS_XFER_RANGE_GEN) :
    d.xksCopy m m1 = (d2.xksWrite i n x.key x.attr x.kcv ((d2.xrec i).gen + 1)).xferNext 1 := by
  subst hn hi hhd
  simp only [Dev.xksCopy, Dev.xferIndex, hruns, hsource, hslot, hread, hgen, bne_self_eq_false, Bool.not_true, Bool.false_eq_true, if_false]

theorem Dev.xferEnd_ended (hbusy : d.bit Fld.XKS_XFER_STATUS_BUSY = true)
    (hended : d.rd Fld.XKS_XFER_STATUS_ERR ≠ 0 ∨ d.rd Fld.XKS_XFER_COUNT_COUNT ≤ d.xks.xfer) :
    d.xferEnd = (d.wr Fld.XKS_XFER_STATUS_BUSY 0).eventAt Fld.XKS_XFER_EVSEQ_SEQ := by
  have hover : (d.rd Fld.XKS_XFER_STATUS_ERR != 0 || decide (d.rd Fld.XKS_XFER_COUNT_COUNT ≤ d.xks.xfer)) = true := by simpa using hended
  simp only [Dev.xferEnd, Dev.xferBusy, hbusy, hover, Bool.and_self, if_true]

end

/-! ## The DRAM's clock (R414) -/

section
variable {d : Dev}

theorem Dev.dramUnlock_locked (hlock : d.bit Fld.PLT_CLOCKS_DRAM_LOCK = true) :
    d.dramUnlock = (let d1 := ((d.wr Fld.PLT_CLOCKS_DRAM_LOCK 0).inc Fld.PLT_CLOCKS_DRAM_UNLOCKS 1).wr Fld.XKS_STATUS_READY 0
      { d1 with xks := { d1.xks with waiting := true } }) := by
  simp only [Dev.dramUnlock, hlock, Bool.not_true, Bool.false_eq_true, if_false]
  rfl

/-- The PLL has lock again, and nothing waits for it. -/
def Dev.relocked (d : Dev) : Dev := { d.wr Fld.PLT_CLOCKS_DRAM_LOCK 1 with xks := { d.xks with waiting := false, relockFailed := false } }

theorem Dev.dramRelock_unlocked (m : Nat) (hlock : d.bit Fld.PLT_CLOCKS_DRAM_LOCK = false)
    (hasked : d.xks.waiting = true ∨ d.xks.relockFailed = true) : d.dramRelock m = d.relocked.xksVerify m := by
  have hasked' : (d.xks.waiting || d.xks.relockFailed) = true := by simpa using hasked
  simp only [Dev.dramRelock, hlock, hasked', Bool.not_true, Bool.or_self, Bool.false_eq_true, if_false]
  rfl

/-- The store has its key, is neither erased nor failed, and its block is not held in reset. -/
def Dev.xksOpen (d : Dev) : Prop :=
  (d.bit Fld.XKS_STATUS_NO_KEY || d.bit Fld.XKS_STATUS_ERASED || d.bit Fld.XKS_STATUS_FAILED || d.blockHeld 4) = false

theorem Dev.xksOpen_relocked (hkey : d.bit Fld.XKS_STATUS_NO_KEY = false) (herased : d.bit Fld.XKS_STATUS_ERASED = false)
    (hfailed : d.bit Fld.XKS_STATUS_FAILED = false) (hheld : d.blockHeld 4 = false) : d.relocked.xksOpen := by
  have hreg {f : Fld} (hf : f.reg ≠ Fld.PLT_CLOCKS_DRAM_LOCK.reg) : d.relocked.rd f = d.rd f := Dev.rd_wr_reg d 1 hf
  rw [Dev.bit] at hkey herased hfailed
  rw [Dev.blockHeld] at hheld
  rw [Dev.xksOpen, Dev.blockHeld, Dev.bit, Dev.bit, Dev.bit, hreg (by decide), hreg (by decide), hreg (by decide), hreg (by decide), hkey, herased,
    hfailed, hheld]
  rfl

theorem Dev.xksVerify_good (hopen : d.xksOpen) : d.xksVerify 0 = d.wr Fld.XKS_STATUS_READY 1 := if_neg (Bool.eq_false_iff.mp hopen)

theorem Dev.xksVerify_reread (hopen : d.xksOpen) : d.xksVerify 1 = (d.inc Fld.XKS_COUNTS_REREAD 1).wr Fld.XKS_STATUS_READY 1 :=
  if_neg (Bool.eq_false_iff.mp hopen)

theorem Dev.xksVerify_corrected (hopen : d.xksOpen) : d.xksVerify 3 = (d.inc Fld.XKS_COUNTS_LINK_ECC 1).wr Fld.XKS_STATUS_READY 1 :=
  if_neg (Bool.eq_false_iff.mp hopen)

/-- Bytes that fail twice fail the store. -/
theorem Dev.xksVerify_bad {m : Nat} (hopen : d.xksOpen) (hm : 4 ≤ m ∨ m = 2) : d.xksVerify m = d.xksFail (m / 4 % 8) d.levels.length 5 := by
  refine (if_neg (Bool.eq_false_iff.mp hopen)).trans ?_
  split
  · omega
  · omega
  · omega
  · rfl

theorem Dev.dramTimeout_waiting (hwaiting : d.xks.waiting = true) :
    d.dramTimeout = { d with xks := { d.xks with waiting := false, relockFailed := true } } := if_pos hwaiting

end

/-! ## Release step 10 (R262) -/

/-- The store of a trained DRAM: without its key, erased or failed it stays shut; formatted in the same way it is opened again; else it is
formatted. -/
def Dev.storeTrained (d : Dev) (m : Nat) : Dev :=
  if d.bit Fld.VLT_STATUS_NO_XKS_KEY then d.wr Fld.XKS_STATUS_NO_KEY 1
  else if d.bit Fld.XKS_STATUS_ERASED = true ∨ d.bit Fld.XKS_STATUS_FAILED = true then d
  else if d.xks.fmt ≠ 0 ∧ (d.xks.held = false ∨ d.xks.fmt = cfgRecords d.wdn.config ∧ d.xks.ranges = d.cfgRanges) then d.reopen m
  else d.formatNow

/-- What training does to a device whose DRAM has `gb` GB: the capacity, then Held for a configuration that it cannot hold, else the store. -/
def Dev.trained (d : Dev) (gb m : Nat) : Dev :=
  let d1 : Dev := if d.xks.cap = 0 then { d with xks := { d.xks with cap := gb } } else d
  let d1 := d1.wr Fld.XKS_GEOMETRY_CAPACITY d1.xks.cap
  if d1.cfgFits d1.wdn.config = false then
    ({ d1 with wdn := { d1.wdn with config := [], km := [] }, xks := { d1.xks with held := true } } : Dev).wr Fld.PLT_RESET_STATUS_HELD 1
  else
    let d3 := (d1.wr Fld.PLT_CLOCKS_DRAM_LOCK 1).storeTrained m
    ({ d3 with xks := { d3.xks with held := false } } : Dev).wr Fld.PLT_RESET_STATUS_STEP 10

theorem Chip.dramTraining_step {c : Chip} (gb m : Nat) (hstep : c.dev.atStep 9 = true) (hheld : c.dev.held = false) :
    c.dramTraining gb m = c.watch fun c => c.onDev fun d => d.trained gb m := by
  simp only [Chip.dramTraining, Dev.trained, Dev.storeTrained, hstep, hheld, Bool.not_true, Bool.or_self, Bool.false_eq_true, if_false,
    Bool.not_eq_true', Bool.or_eq_true, Bool.and_eq_true, bne_iff_ne, beq_iff_eq]
  rfl

/-! ## The statement -/

/-- Settles O39: each clause is one rule above, taken from the device or the chip to the state. -/
theorem storeAndHostRequestsTakeEffect : Obligations.StoreAndHostRequestsTakeEffect := by
  rintro s d h tk r rfl
  refine ⟨fun m loc k d1 hsent hlock hform hmode hcount hrec hrest hkey hfetch => ?lookup, fun bs hsent hok hlen hsend => ?hostRead,
    fun ws hsent hok hgood hws hplain => ?hostWrite,
    fun hsent hform hmin hmax hwords hworks hlock hready hmode hserves => ?fill,
    fun hsent hform hmin hmax hwords hworks hlock hready hmode hdone => ?fillReseeded,
    fun n i m d0 d1 hn hi hread hd0 => ⟨fun hruns hkey => ?save, fun hruns hsend img d1 hread => ?load, fun hruns hgen => ?delete⟩,
    fun hruns hsend m => ?unread,
    fun n i m m1 hd x d1 d2 hn hi hhd hruns hsource hslot hread hgen => ?copy, fun hbusy hended => ?ended, fun hlock => ?unlock,
    fun hlock hasked hkey herased hfailed hheld => ?relock, fun hwaiting => ?timeout, fun gb m hstep hheld => ?training⟩
  case lookup =>
    rw [exec_lookup]
    exact onDev_outcome s (Dev.lookup_found hsent hlock hform hmode hcount hrec hrest hkey hfetch)
  case hostRead =>
    rw [exec_hostRead]
    exact onDev_outcome s (Dev.hostRead_allowed hsent hok hlen hsend)
  case hostWrite =>
    rw [exec_hostWrite]
    exact onDev_outcome s (Dev.hostWrite_allowed hsent hok hgood hws hplain)
  case fill =>
    rw [exec_hostFill]
    refine onDev_outcome s (Dev.hostFill_given hsent hform hmin hmax hwords hworks hlock hready (by omega) ?_)
    rw [hmode, hserves]
    rfl
  case fillReseeded =>
    rw [exec_hostFill]
    refine onDev_outcome s (Dev.hostFill_given (d1 := s.chip.dev.reseedTaken (16 * r.order + tk)) hsent hform hmin hmax hwords hworks hlock hready
      (by omega) ?_)
    rw [if_pos hmode, Dev.reseedFor_done hdone]
  case save =>
    rw [exec_xksSave]
    exact onDev_outcome s (Dev.xksSave_next hn hi hread hruns hkey)
  case load =>
    rw [exec_xksLoad]
    refine onDev_outcome s ?_
    cases hopen : d0.openImage n i img with
    | none => exact Dev.xksLoad_rejected hn hi hd0 hruns hsend hopen
    | some p => exact Dev.xksLoad_opened hn hi hd0 hruns hsend hopen hread
  case delete =>
    rw [exec_xksDelete]
    exact onDev_outcome s (Dev.xksDelete_next hn hi hread hruns hgen)
  case unread =>
    rw [exec_xksLoad]
    exact onDev_outcome s (Dev.xksLoad_unread hruns hsend)
  case copy =>
    rw [exec_xksCopy]
    exact onDev_outcome s (Dev.xksCopy_next hn hi hhd hruns hsource hslot hread hgen)
  case ended =>
    rw [exec_xksTransferEnd]
    exact onDev_outcome s (Dev.xferEnd_ended hbusy hended)
  case unlock =>
    rw [exec_dramPllUnlock]
    exact onDev_outcome s (Dev.dramUnlock_locked hlock)
  case relock =>
    have hopen := Dev.xksOpen_relocked hkey herased hfailed hheld
    have hrule (m : Nat) := Dev.dramRelock_unlocked m hlock hasked
    simp only [exec_dramPllRelock]
    exact ⟨onDev_outcome s ((hrule 0).trans (Dev.xksVerify_good hopen)), onDev_outcome s ((hrule 1).trans (Dev.xksVerify_reread hopen)),
      onDev_outcome s ((hrule 3).trans (Dev.xksVerify_corrected hopen)), fun m hm => onDev_outcome s ((hrule m).trans (Dev.xksVerify_bad hopen hm))⟩
  case timeout =>
    rw [exec_dramRelockTimeout]
    exact onDev_outcome s (Dev.dramTimeout_waiting hwaiting)
  case training =>
    rw [exec_dramTraining]
    exact onChip_next s (Chip.dramTraining_step gb m hstep hheld)

end Sys2Proof.Machine
end

section
/-! Clazeir words (R157, R158): the fields of a packed word, the codes of the operations, and the statement that decoder and encoder invert
each other. -/

namespace Sys2Proof

/-! ## Formats: a word is packed from exactly its fields (R157) -/

theorem eq_append_iff {m n : Nat} {a : BitVec m} {b : BitVec n} {w : BitVec (m + n)} :
    w = a ++ b ↔ w.extractLsb' n m = a ∧ w.extractLsb' 0 n = b := by
  constructor
  · rintro rfl
    exact ⟨BitVec.extractLsb'_append_eq_left, BitVec.extractLsb'_append_eq_right⟩
  · rintro ⟨rfl, rfl⟩
    rw [BitVec.extractLsb'_append_extractLsb'_eq_extractLsb' (Nat.zero_add n).symm]
    exact BitVec.extractLsb'_eq_self.symm

/-- A part of a part is a part of the whole. -/
theorem extractLsb'_extractLsb' {w start start' len len' : Nat} (x : BitVec w) (h : start + len ≤ len') :
    (x.extractLsb' start' len').extractLsb' start len = x.extractLsb' (start' + start) len := by
  ext i hi
  simp [Nat.add_assoc, show start + i < len' by omega]

section
variable {w : BitVec 32} {op : BitVec 6} {ra rb rc rd : BitVec 5}

theorem eq_packR_iff {fn : BitVec 11} : w = packR op ra rb rc fn ↔
    w.extractLsb' 26 6 = op ∧ w.extractLsb' 21 5 = ra ∧ w.extractLsb' 16 5 = rb ∧ w.extractLsb' 11 5 = rc ∧ w.extractLsb' 0 11 = fn := by
  refine (eq_append_iff (a := op ++ ra ++ rb ++ rc) (b := fn) (w := w)).trans ?_
  rw [eq_append_iff, eq_append_iff, eq_append_iff]
  simp only [extractLsb'_extractLsb', Nat.reduceAdd, Nat.reduceLeDiff, and_assoc]

theorem eq_packI_iff {imm : BitVec 16} : w = packI op ra rb imm ↔
    w.extractLsb' 26 6 = op ∧ w.extractLsb' 21 5 = ra ∧ w.extractLsb' 16 5 = rb ∧ w.extractLsb' 0 16 = imm := by
  refine (eq_append_iff (a := op ++ ra ++ rb) (b := imm) (w := w)).trans ?_
  rw [eq_append_iff, eq_append_iff]
  simp only [extractLsb'_extractLsb', Nat.reduceAdd, Nat.reduceLeDiff, and_assoc]

theorem eq_packB_iff {cond : BitVec 3} {off : BitVec 13} : w = packB op ra rb cond off ↔
    w.extractLsb' 26 6 = op ∧ w.extractLsb' 21 5 = ra ∧ w.extractLsb' 16 5 = rb ∧ w.extractLsb' 13 3 = cond ∧ w.extractLsb' 0 13 = off := by
  refine (eq_append_iff (a := op ++ ra ++ rb ++ cond) (b := off) (w := w)).trans ?_
  rw [eq_append_iff, eq_append_iff, eq_append_iff]
  simp only [extractLsb'_extractLsb', Nat.reduceAdd, Nat.reduceLeDiff, and_assoc]

theorem eq_packJ_iff {off : BitVec 21} : w = packJ op ra off ↔
    w.extractLsb' 26 6 = op ∧ w.extractLsb' 21 5 = ra ∧ w.extractLsb' 0 21 = off := by
  refine (eq_append_iff (a := op ++ ra) (b := off) (w := w)).trans ?_
  rw [eq_append_iff]
  simp only [extractLsb'_extractLsb', Nat.reduceAdd, Nat.reduceLeDiff, and_assoc]

theorem eq_packU_iff {sop : BitVec 6} : w = packU op ra rb rc rd sop ↔
    w.extractLsb' 26 6 = op ∧ w.extractLsb' 21 5 = ra ∧ w.extractLsb' 16 5 = rb ∧ w.extractLsb' 11 5 = rc ∧ w.extractLsb' 6 5 = rd ∧
    w.extractLsb' 0 6 = sop := by
  refine (eq_append_iff (a := op ++ ra ++ rb ++ rc ++ rd) (b := sop) (w := w)).trans ?_
  rw [eq_append_iff, eq_append_iff, eq_append_iff, eq_append_iff]
  simp only [extractLsb'_extractLsb', Nat.reduceAdd, Nat.reduceLeDiff, and_assoc]

theorem eq_packE_iff {tk : BitVec 4} : w = packE op ra rb rc tk rd ↔
    w.extractLsb' 26 6 = op ∧ w.extractLsb' 21 5 = ra ∧ w.extractLsb' 16 5 = rb ∧ w.extractLsb' 11 5 = rc ∧ w.extractLsb' 7 4 = tk ∧
    w.extractLsb' 2 5 = rd ∧ w.extractLsb' 0 2 = 0 := by
  refine (eq_append_iff (a := op ++ ra ++ rb ++ rc ++ tk ++ rd) (b := (0 : BitVec 2)) (w := w)).trans ?_
  rw [eq_append_iff, eq_append_iff, eq_append_iff, eq_append_iff, eq_append_iff]
  simp only [extractLsb'_extractLsb', Nat.reduceAdd, Nat.reduceLeDiff, and_assoc]

/-- Every field of a word all of whose fields but OP are zero. -/
theorem field_zero {k n : Nat} (hrest : w.extractLsb' 0 26 = 0) (h : k + n ≤ 26) : w.extractLsb' k n = 0#n := by
  rw [← BitVec.extractLsb'_extractLsb'_of_le h, hrest]
  exact BitVec.extractLsb'_zero

theorem eq_packI_zero (hop : w.extractLsb' 26 6 = op) (hrest : w.extractLsb' 0 26 = 0) : w = packI op 0 0 0 :=
  eq_packI_iff.mpr ⟨hop, field_zero hrest (by decide), field_zero hrest (by decide), field_zero hrest (by decide)⟩

theorem eq_packE_zero (hop : w.extractLsb' 26 6 = op) (hrest : w.extractLsb' 0 26 = 0) : w = packE op 0 0 0 0 0 :=
  eq_packE_iff.mpr ⟨hop, field_zero hrest (by decide), field_zero hrest (by decide), field_zero hrest (by decide), field_zero hrest (by decide),
    field_zero hrest (by decide), field_zero hrest (by decide)⟩

end

/-! ## Codes -/

section

theorem ROp.ofCode_code (o : ROp) : ROp.ofCode o.code = some o := by cases o <;> rfl
theorem TagOp.ofCode_code (o : TagOp) : TagOp.ofCode o.code = some o := by cases o <;> rfl
theorem SouOp.ofCode_code (o : SouOp) : SouOp.ofCode o.code = some o := by cases o <;> rfl
theorem Cond.ofBits_bits (c : Cond) : Cond.ofBits c.bits = some c := by cases c <;> rfl

theorem ROp.code_of_ofCode {c : BitVec 11} {o : ROp} (h : ROp.ofCode c = some o) : c = o.code := by
  unfold ROp.ofCode at h
  split at h <;> cases h
  all_goals exact BitVec.eq_of_toNat_eq ‹_›

theorem TagOp.code_of_ofCode {c : BitVec 11} {o : TagOp} (h : TagOp.ofCode c = some o) : c = o.code := by
  unfold TagOp.ofCode at h
  split at h <;> cases h
  all_goals exact BitVec.eq_of_toNat_eq ‹_›

theorem SouOp.code_of_ofCode {c : BitVec 6} {o : SouOp} (h : SouOp.ofCode c = some o) : c = o.code := by
  unfold SouOp.ofCode at h
  split at h <;> cases h
  all_goals exact BitVec.eq_of_toNat_eq ‹_›

theorem Cond.bits_of_ofBits {b : BitVec 3} {c : Cond} (h : Cond.ofBits b = some c) : b = c.bits := by
  unfold Cond.ofBits at h
  split at h <;> cases h
  all_goals exact BitVec.eq_of_toNat_eq ‹_›

end

/-! ## Decoding what was encoded -/

theorem decodeInsn_encodeInsn (i : Insn) (hwf : i.wf = true) : decodeInsn (encodeInsn i) = some i := by
  cases i with
  | r o rd rs1 rs2 =>
    obtain ⟨hop, ha, hb, hc, hfn⟩ := eq_packR_iff.mp (rfl : encodeInsn (.r o rd rs1 rs2) = _)
    simp only [decodeInsn, hop, ha, hb, hc, hfn, ROp.ofCode_code]
    rfl
  | k o rd rs1 imm =>
    obtain ⟨hop, ha, hb, himm⟩ := eq_packI_iff.mp (rfl : encodeInsn (.k o rd rs1 imm) = _)
    simp only [decodeInsn, hop, ha, hb, himm]
    cases o
    case shlk | shrzk | shrsk => exact if_pos hwf
    all_goals rfl
  | load w rd rs1 imm =>
    obtain ⟨hop, ha, hb, himm⟩ := eq_packI_iff.mp (rfl : encodeInsn (.load w rd rs1 imm) = _)
    simp only [decodeInsn, hop, ha, hb, himm]
    cases w <;> rfl
  | store w rs2 rs1 imm =>
    obtain ⟨hop, ha, hb, himm⟩ := eq_packI_iff.mp (rfl : encodeInsn (.store w rs2 rs1 imm) = _)
    simp only [decodeInsn, hop, ha, hb, himm]
    cases w <;> rfl
  | br c rs1 rs2 off =>
    obtain ⟨hop, ha, hb, hc, hoff⟩ := eq_packB_iff.mp (rfl : encodeInsn (.br c rs1 rs2 off) = _)
    simp only [decodeInsn, hop, ha, hb, hc, hoff, Cond.ofBits_bits]
    exact if_pos hwf
  | jump rd off =>
    obtain ⟨hop, ha, hoff⟩ := eq_packJ_iff.mp (rfl : encodeInsn (.jump rd off) = _)
    simp only [decodeInsn, hop, ha, hoff]
    rfl
  | jmpr rd rs1 =>
    obtain ⟨hop, ha, hb, hc, hfn⟩ := eq_packR_iff.mp (rfl : encodeInsn (.jmpr rd rs1) = _)
    simp only [decodeInsn, hop, ha, hb, hc, hfn]
    rfl
  | tag o rd rs1 =>
    obtain ⟨hop, ha, hb, hc, hfn⟩ := eq_packR_iff.mp (rfl : encodeInsn (.tag o rd rs1) = _)
    simp only [decodeInsn, hop, ha, hb, hc, hfn, TagOp.ofCode_code]
    rfl
  | sou o rd rs1 rs2 rs3 =>
    obtain ⟨hop, ha, hb, hc, hd, hsop⟩ := eq_packU_iff.mp (rfl : encodeInsn (.sou o rd rs1 rs2 rs3) = _)
    simp only [decodeInsn, hop, ha, hb, hc, hd, hsop, SouOp.ofCode_code]
    exact if_pos hwf
  | ecall tk ra rk rb rx =>
    obtain ⟨hop, ha, hb, hc, htk, hrx, hrsv⟩ := eq_packE_iff.mp (rfl : encodeInsn (.ecall tk ra rk rb rx) = _)
    simp only [decodeInsn, hop, ha, hb, hc, htk, hrx, hrsv]
    exact if_pos ⟨trivial, of_decide_eq_true hwf⟩
  | twait tk ra =>
    obtain ⟨hop, ha, hb, hc, htk, hrx, hrsv⟩ := eq_packE_iff.mp (rfl : encodeInsn (.twait tk ra) = _)
    simp only [decodeInsn, hop, ha, hb, hc, htk, hrx, hrsv]
    exact if_pos ⟨trivial, trivial, trivial, trivial, of_decide_eq_true hwf⟩
  | rand rd =>
    obtain ⟨hop, ha, hb, hc, hfn⟩ := eq_packR_iff.mp (rfl : encodeInsn (.rand rd) = _)
    simp only [decodeInsn, hop, ha, hb, hc, hfn]
    rfl
  | cinc tk rk =>
    obtain ⟨hop, ha, hb, hc, htk, hrx, hrsv⟩ := eq_packE_iff.mp (rfl : encodeInsn (.cinc tk rk) = _)
    simp only [decodeInsn, hop, ha, hb, hc, htk, hrx, hrsv]
    exact if_pos ⟨trivial, trivial, trivial, trivial, of_decide_eq_true hwf⟩
  | release rs1 =>
    obtain ⟨hop, ha, hb, himm⟩ := eq_packI_iff.mp (rfl : encodeInsn (.release rs1) = _)
    simp only [decodeInsn, hop, ha, hb, himm]
    rfl
  | twall | csync | done => rfl

/-! ## Encoding what was decoded -/

section
variable {w : BitVec 32} {i j : Insn}

theorem opcode_eq {n : Nat} (h : (w.extractLsb' 26 6).toNat = n) : w.extractLsb' 26 6 = BitVec.ofNat 6 n := by
  rw [← h, BitVec.ofNat_toNat, BitVec.setWidth_eq]

/-- A word that is the word of the well-formed instruction it was read as. -/
theorem encodes_of_some (hdec : some j = some i) (hwf : j.wf = true) (hw : w = encodeInsn j) : i.wf = true ∧ encodeInsn i = w := by
  cases hdec
  exact ⟨hwf, hw.symm⟩

/-- The same where the decoder asks for a condition. -/
theorem encodes_of_ite {p : Prop} [Decidable p] (hdec : (if p then some j else none) = some i) (hp : p → j.wf = true ∧ w = encodeInsn j) :
    i.wf = true ∧ encodeInsn i = w := by
  by_cases h : p
  · rw [if_pos h] at hdec
    exact encodes_of_some hdec (hp h).1 (hp h).2
  · rw [if_neg h] at hdec
    cases hdec

/-- One case for each group of opcodes that a format's rule serves. -/
theorem encodeInsn_decodeInsn (h : decodeInsn w = some i) : i.wf = true ∧ encodeInsn i = w := by
  unfold decodeInsn at h
  simp only at h
  split at h
  -- OP 0x00: the register operations
  case h_1 hop =>
    obtain ⟨o, ho, hi⟩ := Option.map_eq_some_iff.mp h
    exact encodes_of_some (congrArg some hi) rfl (eq_packR_iff.mpr ⟨opcode_eq hop, rfl, rfl, rfl, ROp.code_of_ofCode ho⟩)
  -- the constant operations but the shifts, the loads and the stores
  case h_2 hop | h_3 hop | h_4 hop | h_5 hop | h_9 hop | h_10 hop | h_11 hop | h_12 hop | h_13 hop | h_14 hop | h_15 hop | h_16 hop | h_17 hop |
      h_18 hop | h_19 hop =>
    exact encodes_of_some h rfl (eq_packI_iff.mpr ⟨opcode_eq hop, rfl, rfl, rfl⟩)
  -- the constant shifts
  case h_6 hop | h_7 hop | h_8 hop =>
    exact encodes_of_ite h fun hwf => ⟨hwf, eq_packI_iff.mpr ⟨opcode_eq hop, rfl, rfl, rfl⟩⟩
  -- BR
  case h_20 hop =>
    obtain ⟨c, hc, hi⟩ := Option.bind_eq_some_iff.mp h
    exact encodes_of_ite hi fun hwf => ⟨hwf, eq_packB_iff.mpr ⟨opcode_eq hop, rfl, rfl, Cond.bits_of_ofBits hc, rfl⟩⟩
  -- JUMP and JMPR
  case h_21 hop => exact encodes_of_some h rfl (eq_packJ_iff.mpr ⟨opcode_eq hop, rfl, rfl⟩)
  case h_22 hop => exact encodes_of_ite h fun ⟨hc, hfn⟩ => ⟨rfl, eq_packR_iff.mpr ⟨opcode_eq hop, rfl, rfl, hc, hfn⟩⟩
  -- OP 0x20: the tag instructions
  case h_23 hop =>
    obtain ⟨hc, hmap⟩ := Option.ite_none_right_eq_some.mp h
    obtain ⟨o, ho, hi⟩ := Option.map_eq_some_iff.mp hmap
    exact encodes_of_some (congrArg some hi) rfl (eq_packR_iff.mpr ⟨opcode_eq hop, rfl, rfl, hc, TagOp.code_of_ofCode ho⟩)
  -- OP 0x28: the Sealed Operand Unit
  case h_24 hop =>
    obtain ⟨o, ho, hi⟩ := Option.bind_eq_some_iff.mp h
    exact encodes_of_ite hi fun hwf => ⟨hwf, eq_packU_iff.mpr ⟨opcode_eq hop, rfl, rfl, rfl, rfl, SouOp.code_of_ofCode ho⟩⟩
  -- ECALL, TWAIT and CINC
  case h_25 hop =>
    exact encodes_of_ite h fun ⟨hrsv, htk⟩ => ⟨decide_eq_true htk, eq_packE_iff.mpr ⟨opcode_eq hop, rfl, rfl, rfl, rfl, rfl, hrsv⟩⟩
  case h_26 hop =>
    exact encodes_of_ite h fun ⟨hb, hc, hrx, hrsv, htk⟩ =>
      ⟨decide_eq_true htk, eq_packE_iff.mpr ⟨opcode_eq hop, rfl, hb, hc, rfl, hrx, hrsv⟩⟩
  case h_29 hop =>
    exact encodes_of_ite h fun ⟨ha, hc, hrx, hrsv, htk⟩ =>
      ⟨decide_eq_true htk, eq_packE_iff.mpr ⟨opcode_eq hop, ha, rfl, hc, rfl, hrx, hrsv⟩⟩
  -- RAND and RELEASE
  case h_28 hop => exact encodes_of_ite h fun ⟨hb, hc, hfn⟩ => ⟨rfl, eq_packR_iff.mpr ⟨opcode_eq hop, rfl, hb, hc, hfn⟩⟩
  case h_31 hop => exact encodes_of_ite h fun ⟨ha, himm⟩ => ⟨rfl, eq_packI_iff.mpr ⟨opcode_eq hop, ha, rfl, himm⟩⟩
  -- TWALL, CSYNC and DONE, of which every other field is zero
  case h_27 hop | h_30 hop => exact encodes_of_ite h fun hrest => ⟨rfl, eq_packE_zero (opcode_eq hop) hrest⟩
  case h_32 hop => exact encodes_of_ite h fun hrest => ⟨rfl, eq_packI_zero (opcode_eq hop) hrest⟩
  -- no instruction
  case h_33 => cases h

end

/-! ## The statement -/

/-- Settles O7: an instruction's word has its fields and no others, by format, and the decoder reads each of them back. -/
theorem clazeirWordsRoundTrip : Obligations.ClazeirWordsRoundTrip :=
  ⟨decodeInsn_encodeInsn, fun _ _ => encodeInsn_decodeInsn⟩

end Sys2Proof
end

section
/-! Operations on data (R138, R157, R161, R162): what the register, constant, multiply and divide operations make of intact operands, and the
statements about the three groups. -/

namespace Sys2Proof.Machine

/-! ## Results (R138) -/

theorem dataTag_eq (a b : GWord) : dataTag a b = if a.tag = .glazed ∨ b.tag = .glazed then .glazed else .plain := by
  simp only [dataTag, Bool.or_eq_true, beq_iff_eq]

/-- A constant is PLAIN, so the result has its register operand's tag (R162). -/
theorem dataTag_zero {a : GWord} (ha : a.isData) : dataTag a GWord.zero = a.tag := by
  rcases ha.1 with htag | htag <;> simp [dataTag, htag, GWord.zero]

section
variable {t : Thr} {rd rs1 rs2 : BitVec 5}

theorem aluR_clear {f g : Word → Word → Word} (hfg : ∀ a b, f a b = g a b) (ha : (gr t rs1).isData) (hb : (gr t rs2).isData) :
    aluR f rd rs1 rs2 t = ([], { gw t rd
      { data := g (gr t rs1).data (gr t rs2).data, tag := if (gr t rs1).tag = .glazed ∨ (gr t rs2).tag = .glazed then .glazed else .plain,
        res := BitVec.ofNat 3 ((g (gr t rs1).data (gr t rs2).data).toNat % 7) } with pc := t.pc + 4 }) := by
  obtain ⟨hares, hadata⟩ := dataOperand_clear ha
  obtain ⟨hbres, hbdata⟩ := dataOperand_clear hb
  simp only [aluR, hares, hadata, hbres, hbdata, List.append_nil, hfg, dataTag_eq, pcNext_gw]
  rfl

theorem aluK_clear {f g : Word → Word} (hfg : ∀ a, f a = g a) (ha : (gr t rs1).isData) :
    aluK f rd rs1 t = ([], { gw t rd
      { data := g (gr t rs1).data, tag := (gr t rs1).tag, res := BitVec.ofNat 3 ((g (gr t rs1).data).toNat % 7) } with pc := t.pc + 4 }) := by
  obtain ⟨hares, hadata⟩ := dataOperand_clear ha
  simp only [aluK, hares, hadata, List.append_nil, hfg, dataTag_zero ha, pcNext_gw]
  rfl

theorem mulR_clear (f : Word → Word → Word) (ha : (gr t rs1).isPlain) (hb : (gr t rs2).isPlain) :
    mulR f rd rs1 rs2 t = ([], { gw t rd (.plain (f (gr t rs1).data (gr t rs2).data)) with pc := t.pc + 4 }) := by
  obtain ⟨hares, haplain⟩ := plainOperand_clear ha
  obtain ⟨hbres, hbplain⟩ := plainOperand_clear hb
  simp only [mulR, hares, haplain, hbres, hbplain, List.append_nil, pcNext_gw]

theorem pairR_clear (f g : Word → Word → Word) (ha : (gr t rs1).isPlain) (hb : (gr t rs2).isPlain) :
    pairR f g rd rs1 rs2 t = ([], { gwPair t rd (.plain (f (gr t rs1).data (gr t rs2).data)) (.plain (g (gr t rs1).data (gr t rs2).data)) with
      pc := t.pc + 4 }) := by
  obtain ⟨hares, haplain⟩ := plainOperand_clear ha
  obtain ⟨hbres, hbplain⟩ := plainOperand_clear hb
  simp only [pairR, hares, haplain, hbres, hbplain, List.append_nil, pcNext_gwPair]

end

/-! ## Values (R161, R162, R164) -/

section
variable (a b : Word)

theorem condHolds_eq : condHolds 0 a b = decide (a = b) := rfl
theorem condHolds_ne : condHolds 1 a b = decide (a ≠ b) := by simp [condHolds, bne, BEq.beq]
theorem condHolds_lt : condHolds 2 a b = decide (a.toInt < b.toInt) := rfl
theorem condHolds_ge : condHolds 3 a b = decide (b.toInt ≤ a.toInt) := by simp [condHolds, BitVec.slt_eq_decide, ← decide_not]
theorem condHolds_ltu : condHolds 4 a b = decide (a < b) := rfl
theorem condHolds_geu : condHolds 5 a b = decide (b ≤ a) := by simp [condHolds, BitVec.ult_eq_decide, ← decide_not, BitVec.le_def]

theorem setne_value : b2w (condHolds 1 a b) = if a = b then 0 else 1 := by rw [condHolds_ne, b2w_decide, ite_not]

theorem setge_value : b2w (condHolds 3 a b) = if b.toInt ≤ a.toInt then 1 else 0 := by rw [condHolds_ge, b2w_decide]

theorem setgeu_value : b2w (condHolds 5 a b) = if b ≤ a then 1 else 0 := by rw [condHolds_geu, b2w_decide]

theorem setltk_value (k : BitVec 16) : b2w (condHolds 2 a (k.signExtend 64)) = if a.toInt < k.toInt then 1 else 0 := by
  rw [condHolds_lt, b2w_decide, BitVec.toInt_signExtend_of_le (by decide)]

/-- A shift takes its count from the low six bits of rs2. -/
theorem shiftCount_register : (b &&& 63).toNat = b.toNat % 64 := Nat.and_two_pow_sub_one_eq_mod b.toNat 6

theorem shiftCount_constant (k : BitVec 16) : (k.extractLsb' 0 6).toNat = k.toNat % 64 := by simp [BitVec.extractLsb'_toNat]

theorem ksh_value (k : BitVec 16) : (a <<< 16) ||| k.setWidth 64 = (a.extractLsb' 0 48 ++ k : BitVec 64) := by
  ext i hi
  grind

/-- The high half of a product (R161). -/
theorem mulHigh_toNat : (mulHigh a b).toNat = a.toNat * b.toNat / 2 ^ 64 := by
  have hprod : a.toNat * b.toNat < 2 ^ 64 * 2 ^ 64 := Nat.mul_lt_mul'' a.isLt b.isLt
  rw [mulHigh, BitVec.toNat_ofNat, Nat.mod_eq_of_lt (Nat.div_lt_of_lt_mul hprod)]

theorem product_halves : (a * b).toNat + 2 ^ 64 * (mulHigh a b).toNat = a.toNat * b.toNat := by
  rw [mulHigh_toNat, BitVec.toNat_mul, Nat.mod_add_div]

theorem divQ_zero : divQ a 0 = 0 := rfl
theorem divRem_zero : divRem a 0 = a := rfl

section
variable {b} (hb : b ≠ 0)
include hb

theorem divQ_of_ne_zero : divQ a b = a / b := by
  rw [divQ, if_neg hb, ← BitVec.toNat_udiv, BitVec.ofNat_toNat, BitVec.setWidth_eq]

theorem divRem_of_ne_zero : divRem a b = a % b := by
  rw [divRem, if_neg hb, ← BitVec.toNat_umod, BitVec.ofNat_toNat, BitVec.setWidth_eq]

theorem divRem_lt : divRem a b < b := by
  rw [divRem_of_ne_zero a hb]
  exact BitVec.umod_lt a ((BitVec.pos_iff_ne_zero b).mpr hb)

end

/-- The identity of R161 holds for a zero divisor too. -/
theorem divQ_mul_add_divRem : a.toNat = (divQ a b).toNat * b.toNat + (divRem a b).toNat := by
  by_cases hb : b = 0
  · subst hb
    exact (Nat.zero_add a.toNat).symm
  · rw [divQ_of_ne_zero a hb, divRem_of_ne_zero a hb, BitVec.toNat_udiv, BitVec.toNat_umod, Nat.div_add_mod']

end

/-! ## The commands -/

section
variable {s : State} {h : Nat} {rd rs1 rs2 : BitVec 5}

theorem exec_mul : exec (.mul h rd rs1 rs2) s =
    onDev s fun d => d.executes h (.r .mul rd rs1 rs2) fun d => d.instrT h fun _ t => mulR (fun a b => a * b) rd rs1 rs2 t := rfl

theorem exec_mulx : exec (.mulx h rd rs1 rs2) s =
    onDev s fun d => d.executes h (.r .mulx rd rs1 rs2) fun d => d.instrT h fun _ t => pairR (fun a b => a * b) mulHigh rd rs1 rs2 t := rfl

theorem exec_divr : exec (.divr h rd rs1 rs2) s =
    onDev s fun d => d.executes h (.r .divr rd rs1 rs2) fun d => d.instrT h fun _ t => pairR divQ divRem rd rs1 rs2 t := rfl

end

/-- The commands `x` of the operation `o` have the meaning `aluR` of a function with the values of `g`. -/
def IsRegisterOperation (x : Nat → BitVec 5 → BitVec 5 → BitVec 5 → Instr) (o : ROp) (g : Word → Word → Word) : Prop :=
  ∃ f : Word → Word → Word, (∀ a b, f a b = g a b) ∧ ∀ h rd rs1 rs2 s, exec (x h rd rs1 rs2) s =
    onDev s fun d => d.executes h (.r o rd rs1 rs2) fun d => d.instrT h fun _ t => aluR f rd rs1 rs2 t

/-- The commands `x` of the operation `o` have the meaning `aluK` of a function with the values of `g` at the constant. -/
def IsConstantOperation (x : Nat → BitVec 5 → BitVec 5 → BitVec 16 → Instr) (o : KOp) (g : Word → BitVec 16 → Word) : Prop :=
  ∃ f : BitVec 16 → Word → Word, (∀ k a, f k a = g a k) ∧ ∀ h rd rs1 imm s, exec (x h rd rs1 imm) s =
    onDev s fun d => d.executes h (.k o rd rs1 imm) fun d => d.instrT h fun _ t => aluK (f imm) rd rs1 t

/-! ## The statements -/

/-- Settles O25: each operation is `aluR` of a function with the values that R161 names. -/
theorem registerOperationsGiveResult : Obligations.RegisterOperationsGiveResult := by
  intro row hrow s h rd rs1 rs2 t a b hr ht ha hb hares hbres hatag hbtag
  have hmeaning : IsRegisterOperation row.1 row.2.1 row.2.2 := by
    clear hr
    revert row
    simp only [List.forall_mem_cons]
    refine ⟨?add, ?sub, ?and, ?or, ?xor, ?andn, ?shl, ?shrz, ?shrs, ?seteq, ?setne, ?setlt, ?setge, ?setltu, ?setgeu, List.forall_mem_nil _⟩
    case add => exact ⟨fun a b => a + b, fun _ _ => rfl, fun _ _ _ _ _ => rfl⟩
    case sub => exact ⟨fun a b => a - b, fun _ _ => rfl, fun _ _ _ _ _ => rfl⟩
    case and => exact ⟨fun a b => a &&& b, fun _ _ => rfl, fun _ _ _ _ _ => rfl⟩
    case or => exact ⟨fun a b => a ||| b, fun _ _ => rfl, fun _ _ _ _ _ => rfl⟩
    case xor => exact ⟨fun a b => a ^^^ b, fun _ _ => rfl, fun _ _ _ _ _ => rfl⟩
    case andn => exact ⟨fun a b => a &&& ~~~b, fun _ _ => rfl, fun _ _ _ _ _ => rfl⟩
    case shl => exact ⟨fun a b => a <<< (b.toNat % 64), fun a b => congrArg (a <<< ·) (shiftCount_register b).symm, fun _ _ _ _ _ => rfl⟩
    case shrz => exact ⟨fun a b => a >>> (b.toNat % 64), fun a b => congrArg (a >>> ·) (shiftCount_register b).symm, fun _ _ _ _ _ => rfl⟩
    case shrs =>
      exact ⟨fun a b => a.sshiftRight (b.toNat % 64), fun a b => congrArg a.sshiftRight (shiftCount_register b).symm, fun _ _ _ _ _ => rfl⟩
    case seteq => exact ⟨fun a b => b2w (condHolds 0 a b), fun _ _ => b2w_decide _, fun _ _ _ _ _ => rfl⟩
    case setne => exact ⟨fun a b => b2w (condHolds 1 a b), setne_value, fun _ _ _ _ _ => rfl⟩
    case setlt => exact ⟨fun a b => b2w (condHolds 2 a b), fun _ _ => b2w_decide _, fun _ _ _ _ _ => rfl⟩
    case setge => exact ⟨fun a b => b2w (condHolds 3 a b), setge_value, fun _ _ _ _ _ => rfl⟩
    case setltu => exact ⟨fun a b => b2w (condHolds 4 a b), fun _ _ => b2w_decide _, fun _ _ _ _ _ => rfl⟩
    case setgeu => exact ⟨fun a b => b2w (condHolds 5 a b), setgeu_value, fun _ _ _ _ _ => rfl⟩
  obtain ⟨f, hfg, hx⟩ := hmeaning
  subst ht ha hb
  rw [hx]
  exact onDev_executes_clear hr fun _ => aluR_clear hfg ⟨hatag, hares⟩ ⟨hbtag, hbres⟩

/-- Settles O26: each operation is `aluK` of a function with the values that R162 names. -/
theorem constantOperationsGiveResult : Obligations.ConstantOperationsGiveResult := by
  intro row hrow s h rd rs1 imm t a hr ht ha hres htag
  have hmeaning : IsConstantOperation row.1 row.2.1 row.2.2 := by
    clear hr
    revert row
    simp only [List.forall_mem_cons]
    refine ⟨?addk, ?andk, ?ork, ?xork, ?shlk, ?shrzk, ?shrsk, ?ksh, ?setltk, ?setltuk, List.forall_mem_nil _⟩
    case addk => exact ⟨fun k a => a + k.signExtend 64, fun _ _ => rfl, fun _ _ _ _ _ => rfl⟩
    case andk => exact ⟨fun k a => a &&& k.setWidth 64, fun _ _ => rfl, fun _ _ _ _ _ => rfl⟩
    case ork => exact ⟨fun k a => a ||| k.setWidth 64, fun _ _ => rfl, fun _ _ _ _ _ => rfl⟩
    case xork => exact ⟨fun k a => a ^^^ k.setWidth 64, fun _ _ => rfl, fun _ _ _ _ _ => rfl⟩
    case shlk => exact ⟨fun k a => a <<< (k.toNat % 64), fun k a => congrArg (a <<< ·) (shiftCount_constant k).symm, fun _ _ _ _ _ => rfl⟩
    case shrzk => exact ⟨fun k a => a >>> (k.toNat % 64), fun k a => congrArg (a >>> ·) (shiftCount_constant k).symm, fun _ _ _ _ _ => rfl⟩
    case shrsk =>
      exact ⟨fun k a => a.sshiftRight (k.toNat % 64), fun k a => congrArg a.sshiftRight (shiftCount_constant k).symm, fun _ _ _ _ _ => rfl⟩
    case ksh => exact ⟨fun k a => (a <<< 16) ||| k.setWidth 64, fun k a => ksh_value a k, fun _ _ _ _ _ => rfl⟩
    case setltk => exact ⟨fun k a => b2w (condHolds 2 a (k.signExtend 64)), fun k a => setltk_value a k, fun _ _ _ _ _ => rfl⟩
    case setltuk => exact ⟨fun k a => b2w (condHolds 4 a (k.signExtend 64)), fun _ _ => b2w_decide _, fun _ _ _ _ _ => rfl⟩
  obtain ⟨f, hfg, hx⟩ := hmeaning
  subst ht ha
  rw [hx]
  exact onDev_executes_clear hr fun _ => aluK_clear (hfg imm) ⟨htag, hres⟩

/-- Settles O27: the halves of the product, and quotient and remainder with the identity of R161. -/
theorem multiplyAndDivideGiveResult : Obligations.MultiplyAndDivideGiveResult := by
  rintro s h rd rs1 rs2 t a b rfl rfl rfl hares hbres hatag hbtag
  refine ⟨fun hr => ?mul, fun hr => ⟨_, _, product_halves .., ?mulx⟩,
    fun hr => ⟨_, _, divQ_mul_add_divRem .., divRem_lt _, fun hzero => ?zero, ?divr⟩⟩
  case mul =>
    rw [exec_mul]
    exact onDev_executes_clear hr fun _ => mulR_clear _ ⟨hatag, hares⟩ ⟨hbtag, hbres⟩
  case mulx =>
    rw [exec_mulx]
    exact onDev_executes_clear hr fun _ => pairR_clear _ _ ⟨hatag, hares⟩ ⟨hbtag, hbres⟩
  case zero =>
    rw [hzero]
    exact ⟨divQ_zero _, divRem_zero _⟩
  case divr =>
    rw [exec_divr]
    exact onDev_executes_clear hr fun _ => pairR_clear _ _ ⟨hatag, hares⟩ ⟨hbtag, hbres⟩

end Sys2Proof.Machine
end

section
/-! Loads and stores (R133, R134, R140, R150, R163): which word holds an address, what a load takes of it, what a store leaves in the slice and
in RESULT, and the statements about the two groups. -/

namespace Sys2Proof.Machine

/-- What an instruction of its thread alone does, when its operands and its command's entry give no cause of a trap. -/
theorem onDev_executes_entry {s : State} {h e : Nat} {i : Insn} {t' : Thr} {f : Dev → Nat → Thr → List Trap × Thr}
    (hr : s.chip.dev.runs h i = true) (he : (s.chip.dev.thr h).cmd = some e) (hf : f s.chip.dev e (s.chip.dev.thr h) = ([], t')) :
    onDev s (fun d => d.executes h i (fun d => d.instrT h (f d))) = .next (s.onDev fun d => d.setThr h t') :=
  onDev_outcome s ((Dev.executes_instrT hr he (congrArg (fun x => pickTrap x.1) hf)).trans (congrArg (fun x => s.chip.dev.setThr h x.2) hf))

/-! ## Addresses (R133, R163) -/

theorem effAddr_eq (b : Word) (imm : BitVec 16) (w : Nat) : effAddr b imm w = (b + imm.signExtend 64).toNat / w * w := by
  have hdiv := Nat.div_add_mod' (b + imm.signExtend 64).toNat w
  rw [effAddr]
  omega

section
variable {h : Nat} {c : Cmd} {t : Thr} {ea : Nat}

theorem loadWord_slice (hea : ea < 0x4000) : loadWord h c t ea = some (sliceWord t (ea / 8)) := if_pos hea

theorem loadWord_window (hlo : 0x10000 ≤ ea) (hhi : ea < 0x10200) : loadWord h c t ea = some (windowWord c t ((ea - 0x10000) / 8 * 8)) := by
  have hslice : ¬ ea < 0x4000 := by omega
  simp only [loadWord, hslice, hlo, hhi, if_false, decide_true, Bool.and_self, if_true]

theorem loadWord_threadId (hlo : 0x20000 ≤ ea) (hhi : ea < 0x20008) : loadWord h c t ea = some (threadId h c) := by
  have hslice : ¬ ea < 0x4000 := by omega
  have hwindow : ¬ ea < 0x10200 := by omega
  simp only [loadWord, hslice, hwindow, hlo, hhi, if_false, decide_true, decide_false, Bool.and_false, Bool.and_self, Bool.false_eq_true, if_true]

end

/-! ## Intact words (R142, R150) -/

theorem resOk_iff (w : GWord) :
    resOk w = true ↔ (w.tag = .poison ∧ w.res ≠ 7) ∨ (w.tag ≠ .poison ∧ w.res = BitVec.ofNat 3 (w.data.toNat % 7)) := by
  by_cases hpoison : w.tag = .poison <;> simp [resOk, residue, hpoison]

/-! ## Loads (R138, R140) -/

section
variable (v : GWord) (a w : Nat)

theorem loadValue_tag : (loadValue v a w).tag = v.tag := by
  unfold loadValue
  split
  · rfl
  split
  next hpoison => exact (beq_iff_eq.mp hpoison).symm
  · rfl

theorem loadValue_poison (hv : v.tag = .poison) : (loadValue v a w).res = v.res := by
  unfold loadValue
  split
  · rfl
  · rw [if_pos (beq_iff_eq.mpr hv)]

/-- The octets of a number from octet `k` on. -/
theorem narrowOf_toNat (x : Word) (k : Nat) (hw : w ≤ 8) : (narrowOf x k w).toNat = x.toNat / 2 ^ (8 * k) % 2 ^ (8 * w) := by
  have hle : 2 ^ (8 * w) ≤ 2 ^ 64 := Nat.pow_le_pow_right (by decide) (by omega)
  have hlt : x.toNat / 2 ^ (8 * k) % 2 ^ (8 * w) < 2 ^ 64 := lt_of_lt_of_le (Nat.mod_lt _ (by positivity)) hle
  rw [narrowOf, getF, BitVec.extractLsb'_toNat, Nat.shiftRight_eq_div_pow, BitVec.toNat_ofNat, Nat.mod_eq_of_lt hlt]

/-- The value of a load is the octets from its address on; a full word's address is a multiple of 8. -/
theorem loadValue_data (hw : w ≤ 8) (ha : w = 8 → a % 8 = 0) :
    (loadValue v a w).data.toNat = v.data.toNat / 2 ^ (8 * (a % 8)) % 2 ^ (8 * w) := by
  unfold loadValue
  split
  next hfull =>
    rw [ha hfull, hfull, Nat.mul_zero, Nat.pow_zero, Nat.div_one]
    exact (Nat.mod_eq_of_lt v.data.isLt).symm
  split
  · exact narrowOf_toNat w v.data (a % 8) hw
  · exact narrowOf_toNat w v.data (a % 8) hw

theorem loadValue_residue (hv : v.tag ≠ .poison) (hres : v.res = BitVec.ofNat 3 (v.data.toNat % 7)) :
    (loadValue v a w).res = BitVec.ofNat 3 ((loadValue v a w).data.toNat % 7) := by
  unfold loadValue
  split
  · exact hres
  · rw [if_neg (mt beq_iff_eq.mp hv)]
    rfl

end

section
variable {h w : Nat} {rd rs1 : BitVec 5} {imm : BitVec 16} {c : Cmd} {t : Thr} {v : GWord}

/-- A load of an intact word that an intact PLAIN base addresses. -/
theorem doLoad_clear (hb : (gr t rs1).isPlain) (hword : loadWord h c t (effAddr (gr t rs1).data imm w) = some v) (hv : resOk v = true) :
    doLoad h w rd rs1 imm c t = ([], { gw t rd (loadValue v (effAddr (gr t rs1).data imm w) w) with pc := t.pc + 4 }) := by
  obtain ⟨hbres, hbplain⟩ := plainOperand_clear hb
  simp only [doLoad, hword, hbres, hbplain, hb.1, resC_ok hv, beq_self_eq_true, if_true, List.append_nil, pcNext_gw]

end

/-! ## Stores into the slice (R138, R140) -/

section
variable (old new : GWord) (k w i : Nat)

/-- The tag of a merged word is GLAZED exactly when the stored or the old word is. -/
theorem tagMax_eq {a b : Tag} (ha : a = .plain ∨ a = .glazed) (hb : b = .plain ∨ b = .glazed) :
    tagMax a b = if b = .glazed ∨ a = .glazed then .glazed else .plain := by
  rcases ha with rfl | rfl <;> rcases hb with rfl | rfl <;> rfl

/-- The stored word's low octets stand at octet `k`, and every other bit is the old word's. -/
theorem mergeWord_getLsbD (hi : i < 64) : (mergeWord old new k w).data.getLsbD i =
    if 8 * k ≤ i ∧ i < 8 * k + 8 * w then new.data.getLsbD (i - 8 * k) else old.data.getLsbD i := by
  have hbits : (mergeWord old new k w).data = setF old.data (8 * k) (8 * w) (getF new.data 0 (8 * w)) := rfl
  rw [hbits, getLsbD_setF, decide_eq_true hi, Bool.true_and]
  by_cases hin : 8 * k ≤ i ∧ i < 8 * k + 8 * w
  · have hoff : i - 8 * k < 8 * w := by omega
    rw [if_pos hin, if_pos hin, getF, BitVec.testBit_toNat, BitVec.getLsbD_extractLsb', Nat.zero_add, decide_eq_true hoff, Bool.true_and]
  · rw [if_neg hin, if_neg hin]

end

/-! ## Stores into RESULT (R134) -/

/-- RESULT after a store of `w` octets of `v` at octet `off`. -/
def resultStored (r : BitVec 128) (v : Word) (off w : Nat) : BitVec 128 :=
  (r &&& ~~~((BitVec.allOnes (8 * w)).setWidth 128 <<< (8 * off))) ||| ((v.setWidth (8 * w)).setWidth 128 <<< (8 * off))

theorem resultStored_getLsbD (r : BitVec 128) (v : Word) (off w i : Nat) (hi : i < 128) : (resultStored r v off w).getLsbD i =
    if 8 * off ≤ i ∧ i < 8 * off + 8 * w then v.getLsbD (i - 8 * off) else r.getLsbD i := by
  simp only [resultStored, BitVec.getLsbD_or, BitVec.getLsbD_and, BitVec.getLsbD_not, BitVec.getLsbD_shiftLeft, BitVec.getLsbD_setWidth,
    BitVec.getLsbD_allOnes, hi, decide_true, Bool.true_and]
  by_cases hlo : 8 * off ≤ i
  · by_cases hhi : i < 8 * off + 8 * w
    · simp [hlo, hhi, Nat.not_lt.mpr hlo, show i - 8 * off < 128 by omega, show i - 8 * off < 8 * w by omega]
    · simp [hlo, hhi, Nat.not_lt.mpr hlo, show ¬ i - 8 * off < 8 * w by omega]
  · simp [hlo, Nat.lt_of_not_le hlo]

section
variable {w ea : Nat} {rs2 rs1 : BitVec 5} {imm : BitVec 16} {t : Thr} (hea : effAddr (gr t rs1).data imm w = ea) (hb : (gr t rs1).isPlain)
  (hv : resOk (gr t rs2) = true)
include hea hb hv

/-- A store whose word the slice takes. -/
theorem doStore_slice (hlt : ea < 0x4000) (hclear : (storeSlice w (gr t rs2) ea t).1 = []) :
    doStore w rs2 rs1 imm t = ([], pcNext (storeSlice w (gr t rs2) ea t).2) := by
  obtain ⟨hbres, hbplain⟩ := plainOperand_clear hb
  simp only [doStore, hea, hbres, hbplain, resC_ok hv, hb.1, hlt, hclear, bne_self_eq_false, Bool.false_eq_true, if_false, if_true, List.append_nil]

/-- A store of a PLAIN word into RESULT before RELEASE. -/
theorem doStore_result (hlo : 0x100C0 ≤ ea) (hhi : ea < 0x100D0) (hplain : (gr t rs2).tag = .plain) (hrel : t.rel = false) :
    doStore w rs2 rs1 imm t = ([], { t with result := resultStored t.result (gr t rs2).data (ea - 0x100C0) w, pc := t.pc + 4 }) := by
  obtain ⟨hbres, hbplain⟩ := plainOperand_clear hb
  have hslice : ¬ ea < 0x4000 := by omega
  simp only [doStore, storeResult, hea, hbres, hbplain, resC_ok hv, hb.1, hslice, hlo, hhi, plainC_ok hplain, hrel, bne_self_eq_false,
    Bool.false_eq_true, decide_true, Bool.and_self, if_false, if_true, List.append_nil]
  rfl

end

section
variable (v : GWord) (ea : Nat) (t : Thr)

theorem storeSlice_full : storeSlice 8 v ea t = ([], setSlice t (ea / 8) v) := rfl

/-- A narrow store of an intact data word over another merges the two. -/
theorem storeSlice_narrow {w : Nat} (hw : w ≠ 8) (hold : resOk (sliceWord t (ea / 8)) = true) (hv : v.tag = .plain ∨ v.tag = .glazed)
    (htag : (sliceWord t (ea / 8)).tag = .plain ∨ (sliceWord t (ea / 8)).tag = .glazed) :
    storeSlice w v ea t = ([], setSlice t (ea / 8) (mergeWord (sliceWord t (ea / 8)) v (ea % 8) w)) := by
  simp only [storeSlice, if_neg hw, resC_ok hold, dataC_ok hv, dataC_ok htag, List.append_nil]

end

/-- The commands `x` of width `w`, `n` octets, have the meaning `doLoad`. -/
def IsLoad (x : Nat → BitVec 5 → BitVec 5 → BitVec 16 → Instr) (w : Width) (n : Nat) : Prop :=
  n ≤ 8 ∧ ∀ h rd rs1 imm s, exec (x h rd rs1 imm) s =
    onDev s fun d => d.executes h (.load w rd rs1 imm) fun d => d.instrT h fun e t => doLoad h n rd rs1 imm (d.cmd e) t

/-- Settles O28: the address decides the word, and `loadValue` what the load takes of it. -/
theorem loadsReadTheDataSpace : Obligations.LoadsReadTheDataSpace := by
  intro row hrow s h e rd rs1 imm t b v ea hr ht he hb hbres hbtag hea hword hv
  have hmeaning : IsLoad row.1 row.2.1 row.2.2 := by
    clear hr hea
    revert row
    simp only [List.forall_mem_cons]
    refine ⟨?ld, ?lw, ?lh, ?lb, List.forall_mem_nil _⟩
    all_goals exact ⟨by decide, fun _ _ _ _ _ => rfl⟩
  obtain ⟨hwidth, hx⟩ := hmeaning
  subst ht hb
  rw [← effAddr_eq] at hea
  have hheld : loadWord h (s.chip.dev.cmd e) (s.chip.dev.thr h) ea = some v := by
    rcases hword with ⟨hlt, rfl⟩ | ⟨hlo, hhi, rfl⟩ | ⟨hlo, hhi, rfl⟩
    · exact loadWord_slice hlt
    · exact loadWord_window hlo hhi
    · exact loadWord_threadId hlo hhi
  subst hea
  refine ⟨_, ?_, loadValue_tag .., loadValue_data _ _ _ hwidth ?_, loadValue_poison _ _ _, fun htag => ?_⟩
  · rw [hx]
    exact onDev_executes_entry (f := fun d e t => doLoad h row.2.2 rd rs1 imm (d.cmd e) t) hr he
      (doLoad_clear ⟨hbtag, hbres⟩ hheld ((resOk_iff v).mpr hv))
  · intro hfull
    rw [effAddr_eq, hfull]
    omega
  · obtain ⟨hpoison, -⟩ | ⟨-, hres⟩ := hv
    · exact absurd hpoison htag
    · exact loadValue_residue _ _ _ htag hres

/-- The commands `x` of width `w`, `n` octets, have the meaning `doStore`. -/
def IsStore (x : Nat → BitVec 5 → BitVec 5 → BitVec 16 → Instr) (w : Width) (n : Nat) : Prop :=
  ∀ h rs2 rs1 imm s, exec (x h rs2 rs1 imm) s =
    onDev s fun d => d.executes h (.store w rs2 rs1 imm) fun d => d.instrT h fun _ t => doStore n rs2 rs1 imm t

/-- Settles O29: a full word is copied into the slice, a narrow one merged; RESULT takes the octets of a PLAIN word. -/
theorem storesWriteSliceAndResult : Obligations.StoresWriteSliceAndResult := by
  intro row hrow s h rs2 rs1 imm t b v w ea k hr ht hb hv hbres hbtag hvok hea
  have hmeaning : IsStore row.1 row.2.1 row.2.2 := by
    clear hr hea
    revert row
    simp only [List.forall_mem_cons]
    refine ⟨?st, ?sw, ?sh, ?sb, List.forall_mem_nil _⟩
    all_goals exact fun _ _ _ _ _ => rfl
  subst ht hb hv
  rw [← effAddr_eq] at hea
  rw [hmeaning]
  refine ⟨fun hlt hw hk hword => ?slice, fun hlo hhi hk hplain hrel => ?result⟩
  case slice =>
    subst hw hk
    by_cases hfull : row.2.2 = 8
    · refine ⟨_, onDev_executes_clear hr fun _ => ?_, fun _ => rfl, fun hne => absurd hfull hne⟩
      rw [doStore_slice hea.symm ⟨hbtag, hbres⟩ hvok hlt (by rw [hfull, storeSlice_full]), hfull, storeSlice_full]
      rfl
    · obtain ⟨hold, hvtag, hwtag⟩ := hword.resolve_left hfull
      have hmerge := storeSlice_narrow (gr (s.chip.dev.thr h) rs2) ea (s.chip.dev.thr h) hfull hold hvtag hwtag
      refine ⟨_, onDev_executes_clear hr fun _ => ?_, fun h8 => absurd h8 hfull,
        fun _ => ⟨tagMax_eq hwtag hvtag, rfl, mergeWord_getLsbD _ _ _ _⟩⟩
      rw [doStore_slice hea.symm ⟨hbtag, hbres⟩ hvok hlt (by rw [hmerge]), hmerge]
      rfl
  case result =>
    rw [hk]
    exact ⟨_, onDev_executes_clear hr fun _ => doStore_result hea.symm ⟨hbtag, hbres⟩ hvok hlo hhi hplain hrel,
      resultStored_getLsbD _ _ _ _⟩

end Sys2Proof.Machine
end

section
/-! Branches, jumps and tag instructions (R139, R164, R165): where the pc goes, which word a copy leaves, and the statement about all six. -/

namespace Sys2Proof.Machine

/-! ## The commands -/

section
variable (h : Nat) (rd rs1 rs2 : BitVec 5) (s : State)

theorem exec_br (c : Cond) (off : BitVec 13) : exec (.br h c rs1 rs2 off) s =
    onDev s (fun d => d.executes h (.br c rs1 rs2 off) fun d => d.instrT h fun _ t => doBr c.code rs1 rs2 off t) := rfl

theorem exec_jump (off : BitVec 21) : exec (.jump h rd off) s =
    onDev s (fun d => d.executes h (.jump rd off) fun d => d.instrT h fun _ t => doJump rd off t) := rfl

theorem exec_jmpr : exec (.jmpr h rd rs1) s = onDev s (fun d => d.executes h (.jmpr rd rs1) fun d => d.instrT h fun _ t => doJmpr rd rs1 t) := rfl

theorem exec_mov : exec (.mov h rd rs1) s = onDev s (fun d => d.executes h (.tag .mov rd rs1) fun d => d.instrT h fun _ t => doMov rd rs1 t) := rfl

theorem exec_glz : exec (.glz h rd rs1) s = onDev s (fun d => d.executes h (.tag .glz rd rs1) fun d => d.instrT h fun _ t => doGlz rd rs1 t) := rfl

theorem exec_hmake : exec (.hmake h rd rs1) s =
    onDev s (fun d => d.executes h (.tag .hmake rd rs1) fun d => d.instrT h fun _ t => doHmake rd rs1 t) := rfl

end

/-! ## Branches (R164) -/

/-- An offset counts words of four octets. -/
theorem wordOffset (x : Word) : x <<< 2 = 4 * x := by
  rw [BitVec.shiftLeft_eq_mul_twoPow, BitVec.mul_comm]
  rfl

section
variable {t : Thr} {rs1 rs2 : BitVec 5} {k : Nat} (off : BitVec 13) (ha : resOk (gr t rs1) = true) (hb : resOk (gr t rs2) = true)
  (hatag : (gr t rs1).tag = .plain) (hbtag : (gr t rs2).tag = .plain)
include ha hb hatag hbtag

theorem doBr_clear : doBr k rs1 rs2 off t =
    ([], { t with pc := if condHolds k (gr t rs1).data (gr t rs2).data then t.pc + 4 * off.signExtend 64 else t.pc + 4 }) := by
  simp only [doBr, resC_ok ha, resC_ok hb, plainC_ok hatag, plainC_ok hbtag, List.append_nil, wordOffset, pcNext]
  split <;> rfl

end

/-! ## Jumps (R164) -/

section
variable {t : Thr} {rd rs1 : BitVec 5}

theorem doJump_eq (off : BitVec 21) :
    doJump rd off t = ([], { gw t rd (.plain (t.pc + 4)) with pc := t.pc + 4 * off.signExtend 64 }) := by
  rw [doJump, wordOffset]

variable (ha : resOk (gr t rs1) = true)
include ha

theorem doJmpr_clear (htag : (gr t rs1).tag = .plain) :
    doJmpr rd rs1 t = ([], { gw t rd (.plain (t.pc + 4)) with pc := (gr t rs1).data &&& ~~~3 }) := by
  simp only [doJmpr, resC_ok ha, plainC_ok htag, List.append_nil]

/-! ## Copies (R165) -/

theorem doMov_clear : doMov rd rs1 t = ([], { gw t rd (gr t rs1) with pc := t.pc + 4 }) := by
  simp only [doMov, resC_ok ha, pcNext_gw]

theorem doGlz_clear (htag : (gr t rs1).tag = .plain ∨ (gr t rs1).tag = .glazed) :
    doGlz rd rs1 t = ([], { gw t rd { gr t rs1 with tag := .glazed } with pc := t.pc + 4 }) := by
  simp only [doGlz, resC_ok ha, dataC_ok htag, List.append_nil, pcNext_gw]

theorem doHmake_clear (htag : (gr t rs1).tag = .plain) :
    doHmake rd rs1 t = ([], { gw t rd { gr t rs1 with tag := .handle } with pc := t.pc + 4 }) := by
  simp only [doHmake, resC_ok ha, plainC_ok htag, List.append_nil, pcNext_gw]

end

/-! ## The statement -/

/-- Settles O30: a branch goes where its condition says, a jump leaves the link, and a copy keeps all but the tag it gives. -/
theorem branchesJumpsAndTagsGiveResult : Obligations.BranchesJumpsAndTagsGiveResult := by
  rintro s h rd rs1 rs2 t a b rfl rfl rfl ha hb
  refine ⟨fun row hrow off hr hatag hbtag => ?branch, fun off hr => ?jump, fun hr htag => ?jmpr, fun hr => ?mov, fun hr htag => ?glz,
    fun hr htag => ?hmake⟩
  case branch =>
    have hcond : ∀ x y, condHolds row.1.code x y = true ↔ row.2 x y := by
      clear hr
      revert row
      simp only [List.forall_mem_cons]
      refine ⟨?eq, ?ne, ?lt, ?ge, ?ltu, ?geu, ?always, List.forall_mem_nil _⟩
      case eq => exact fun x y => by rw [Cond.code, condHolds_eq, decide_eq_true_iff]
      case ne => exact fun x y => by rw [Cond.code, condHolds_ne, decide_eq_true_iff]
      case lt => exact fun x y => by rw [Cond.code, condHolds_lt, decide_eq_true_iff]
      case ge => exact fun x y => by rw [Cond.code, condHolds_ge, decide_eq_true_iff]
      case ltu => exact fun x y => by rw [Cond.code, condHolds_ltu, decide_eq_true_iff]
      case geu => exact fun x y => by rw [Cond.code, condHolds_geu, decide_eq_true_iff]
      case always => exact fun x y => iff_of_true rfl trivial
    rw [exec_br, onDev_executes_clear hr fun _ => doBr_clear off ha hb hatag hbtag]
    refine ⟨fun htaken => ?_, fun hnot => ?_⟩
    · rw [if_pos ((hcond _ _).mpr htaken)]
    · rw [if_neg (mt (hcond _ _).mp hnot)]
  case jump =>
    rw [exec_jump]
    exact onDev_executes_clear hr fun _ => doJump_eq off
  case jmpr =>
    rw [exec_jmpr]
    exact onDev_executes_clear hr fun _ => doJmpr_clear ha htag
  case mov =>
    rw [exec_mov]
    exact onDev_executes_clear hr fun _ => doMov_clear ha
  case glz =>
    rw [exec_glz]
    exact onDev_executes_clear hr fun _ => doGlz_clear ha htag
  case hmake =>
    rw [exec_hmake]
    exact onDev_executes_clear hr fun _ => doHmake_clear ha htag

end Sys2Proof.Machine
end

section
/-! Fetches outside the code section (R159): every instruction command executes as DONE there, and the statement about all of them. -/

namespace Sys2Proof.Machine

/-! ## DONE (R180) -/

section
variable {d : Dev} {h e : Nat}

theorem Dev.endThread_eq : d.endThread h = (d.setThr h (d.thr h).givenUp).setCmd (pastEntry h) Cmd.reset := rfl

/-- After RELEASE the thread is given up and the completion already due stands. -/
theorem Dev.doDone_released (hrel : (d.thr h).rel = true) : d.doDone h = (d.setThr h (d.thr h).givenUp).setCmd (pastEntry h) Cmd.reset := by
  rw [Dev.doDone, if_pos hrel, Dev.endThread_eq]

/-- Before RELEASE it is the containment trap, which ends the command. -/
theorem Dev.doDone_unreleased (hcmd : (d.thr h).cmd = some e) (hrel : (d.thr h).rel = false) :
    d.doDone h = (((d.inc Fld.TILE_TRAPS_CONTAIN 1).setCmd e { d.cmd e with st := .ended, status := 0x0604, result := 0 }).setThr h
      (d.thr h).givenUp).setCmd (pastEntry h) Cmd.reset := by
  rw [Dev.doDone, hrel, if_neg Bool.false_ne_true]
  exact Dev.endCommand_unreleased (d := d.inc Fld.TILE_TRAPS_CONTAIN 1) _ hcmd hrel

/-! ## A pc outside the code section -/

section
variable (hout : 4 * (d.codeOf e).length ≤ (d.thr h).pc.toNat)
include hout

theorem Dev.inCode_outside : d.inCode h e = false := by
  have hpc : ¬ (d.thr h).pc.toNat < 4 * (d.codeOf e).length := by omega
  rw [Dev.inCode, decide_eq_false hpc, Bool.false_and]

variable (hcmd : (d.thr h).cmd = some e)
include hcmd

theorem Dev.fetched_outside (i : Insn) : d.fetched h i = true := by
  have hnone : (d.codeOf e)[(d.thr h).pc.toNat / 4]? = none := List.getElem?_eq_none (by omega)
  simp only [Dev.fetched, hcmd, hnone]

theorem Dev.atCode_outside : d.atCode h = false := by
  simp only [Dev.atCode, hcmd, Dev.inCode_outside hout, Bool.and_false]

variable (hopen : d.unheld h = true)
include hopen

theorem Dev.instr_outside (f : Nat → Thr → List Trap × Dev) : d.instr h f = d.doDone h := by
  simp only [Dev.instr, hcmd, hopen, Dev.inCode_outside hout, Bool.not_true, Bool.not_false, Bool.false_eq_true, if_false, if_true]

/-- An instruction that may draw random fill draws none there. -/
theorem Dev.souDraw_outside (draws : Thr → Bool) (f : Bool → Word → Word → Thr → List Trap × Thr) : d.souDraw h draws f = d.doDone h := by
  simp only [Dev.souDraw, Dev.atCode_outside hout hcmd, Bool.not_false, Bool.or_true, if_true]
  exact Dev.instr_outside hout hcmd hopen _

end

end

/-- The command's meaning is one instruction of thread `h`. -/
def IsInstruction (h : Nat) (x : Instr) : Prop :=
  ∃ (i : Insn) (g : Dev → Dev), (∀ s, exec x s = onDev s fun d => d.executes h i g) ∧
    ((∃ f : Dev → Nat → Thr → List Trap × Dev, ∀ d, g d = d.instr h (f d)) ∨ ∃ draws f, ∀ d, g d = d.souDraw h draws f)

theorem exec_outside {s : State} {h e : Nat} {x : Instr} (hx : IsInstruction h x) (hcmd : (s.chip.dev.thr h).cmd = some e)
    (hout : 4 * (s.chip.dev.codeOf e).length ≤ (s.chip.dev.thr h).pc.toNat) (hopen : s.chip.dev.unheld h = true) :
    exec x s = .next (s.onDev fun d => d.doDone h) := by
  obtain ⟨i, g, hexec, hg⟩ := hx
  rw [hexec]
  refine onDev_outcome s ((if_pos (Dev.fetched_outside hout hcmd i)).trans ?_)
  obtain ⟨f, hf⟩ | ⟨draws, f, hf⟩ := hg
  · rw [hf, Dev.instr_outside hout hcmd hopen]
  · rw [hf, Dev.souDraw_outside hout hcmd hopen]

/-- Settles O34: outside the code section every instruction is the DONE of R180, whose two cases are its containment trap and its end. -/
theorem fetchOutsideCodeExecutesAsDone : Obligations.FetchOutsideCodeExecutesAsDone := by
  rintro s h e t rd rs1 rs2 rs3 ra rk rb rx imm c o13 o21 tk rfl hcmd hopen hout x hx
  have hinsn : IsInstruction h x := by
    revert x
    simp only [List.forall_mem_cons]
    refine ⟨?add, ?sub, ?and, ?or, ?xor, ?andn, ?shl, ?shrz, ?shrs, ?seteq, ?setne, ?setlt, ?setge, ?setltu, ?setgeu, ?mul, ?mulx, ?divr,
      ?addk, ?andk, ?ork, ?xork, ?shlk, ?shrzk, ?shrsk, ?ksh, ?setltk, ?setltuk, ?ld, ?lw, ?lh, ?lb, ?st, ?sw, ?sh, ?sb, ?br, ?jump, ?jmpr,
      ?mov, ?glz, ?hmake, ?panfield, ?pinchk, ?decim, ?offadd, ?offsub, ?cmpeq, ?maccmp, ?pinconv, ?offpack, ?zeroise, ?ecall, ?twait,
      ?twall, ?rand, ?cinc, ?csync, ?release, ?done, List.forall_mem_nil _⟩
    case pinconv | offpack => exact ⟨_, _, fun _ => rfl, .inr ⟨_, _, fun _ => rfl⟩⟩
    case twall => exact ⟨_, _, fun _ => rfl, .inl ⟨_, fun d => by rw [Dev.doTwall, Dev.instrT]⟩⟩
    case csync => exact ⟨_, _, fun _ => rfl, .inl ⟨_, fun d => by rw [Dev.doCsync, Dev.instrT]⟩⟩
    all_goals exact ⟨_, _, fun _ => rfl, .inl ⟨_, fun _ => rfl⟩⟩
  rw [exec_outside hinsn hcmd hout hopen]
  refine ⟨fun hrel => ?_, fun hrel => ?_⟩
  · exact congrArg _ (State.onDev_congr s (Dev.doDone_unreleased hcmd hrel))
  · exact congrArg _ (State.onDev_congr s (Dev.doDone_released hrel))

end Sys2Proof.Machine
end

section
/-! Token and thread-control instructions (R156, R167 to R180): what ECALL, TWAIT, TWALL, RAND, CINC, CSYNC, RELEASE and DONE do where they meet no
cause of a trap, and the statement about all eight. -/

namespace Sys2Proof.Machine

/-! ## The commands -/

section
variable (h : Nat) (tk : BitVec 4) (ra rk rb rx rd rs1 : BitVec 5) (s : State)

theorem exec_ecall : exec (.ecall h tk ra rk rb rx) s =
    onDev s (fun d => d.executes h (.ecall tk ra rk rb rx) fun d => d.doEcall h tk.toNat ra rk rb rx) := rfl

theorem exec_twait : exec (.twait h tk ra) s = onDev s (fun d => d.executes h (.twait tk ra) fun d => d.doTwait h tk.toNat ra) := rfl

theorem exec_twall : exec (.twall h) s = onDev s (fun d => d.executes h .twall fun d => d.doTwall h) := rfl

theorem exec_rand : exec (.rand h rd) s = onDev s (fun d => d.executes h (.rand rd) fun d => d.doRand h rd) := rfl

theorem exec_cinc : exec (.cinc h tk rk) s = onDev s (fun d => d.executes h (.cinc tk rk) fun d => d.doCinc h tk.toNat rk) := rfl

theorem exec_csync : exec (.csync h) s = onDev s (fun d => d.executes h .csync fun d => d.doCsync h) := rfl

theorem exec_release : exec (.release h rs1) s = onDev s (fun d => d.executes h (.release rs1) fun d => d.doRelease h rs1) := rfl

theorem exec_done : exec (.done h) s = onDev s (fun d => d.executes h .done fun d => d.instr h fun _ _ => ([], d.doDone h)) := rfl

end

/-! ## Running one that meets no cause -/

section
variable {d : Dev} {h e : Nat} {i : Insn}

theorem Dev.instr_clear {f : Nat → Thr → List Trap × Dev} {d' : Dev} (hr : d.runs h i = true) (he : (d.thr h).cmd = some e)
    (hf : f e (d.thr h) = ([], d')) : d.instr h f = d' := by
  have hrun := Dev.executes_instr (f := fun _ => f) hr he (congrArg (fun x => pickTrap x.1) hf)
  rw [Dev.executes_runs hr, hf] at hrun
  exact hrun

/-- A thread that runs an instruction waits for nothing. -/
theorem Dev.runs_wait (hr : d.runs h i = true) : (d.thr h).wait = .none := by
  obtain ⟨_, _, hopen, _, _⟩ := Dev.runs_spec hr
  rw [Dev.unheld, Bool.and_eq_true, beq_iff_eq] at hopen
  exact hopen.1

theorem onDev_runs {s : State} {f g : Dev → Dev} (hr : s.chip.dev.runs h i = true) (hf : f s.chip.dev = g s.chip.dev) :
    onDev s (fun d => d.executes h i f) = .next (s.onDev g) := onDev_outcome s ((Dev.executes_runs hr f).trans hf)

/-! ## ECALL (R156, R167, R172) -/

section
variable {tk : Nat} {ra rk rb rx : BitVec 5} {r : Req} (hr : d.runs h i = true) (he : (d.thr h).cmd = some e)
  (hreq : r = sentReq (d.thr h) (d.cmd e) rk ra rb rx) (hfree : (tok (d.thr h) tk).pending = false)
  (hclear : ecallCauses (d.thr h) (d.cmd e) rk ra rb rx = [])
include hr he hreq hfree hclear

theorem Dev.doEcall_clear : d.doEcall h tk ra rk rb rx =
    if d.tmp.lock then d.endCommand h stLocked
    else if d.engineHeld r.eng then d.setThr h (pcNext (setTok (d.thr h) tk (.done ⟨stUnitReset, GWord.zero, GWord.zero⟩ r.epoch .pair)))
    else if d.queueFull r then d
    else d.setThr h (sendReq (d.thr h) tk r) := by
  refine Dev.instr_clear hr he ?_
  rw [hfree, if_neg Bool.false_ne_true, hclear, ← hreq]

theorem Dev.doEcall_locked (hlock : d.tmp.lock = true) : d.doEcall h tk ra rk rb rx = d.endCommand h stLocked := by
  rw [Dev.doEcall_clear hr he hreq hfree hclear, if_pos hlock]

theorem Dev.doEcall_sends (hlock : d.tmp.lock = false) (hheld : d.engineHeld r.eng = false) (hroom : d.queueFull r = false) :
    d.doEcall h tk ra rk rb rx = d.setThr h (sendReq (d.thr h) tk r) := by
  rw [Dev.doEcall_clear hr he hreq hfree hclear, hlock, hheld, hroom]
  rfl

end

theorem sendReq_assigned {t : Thr} {tk : Nat} {r : Req} (hassigned : r.assigned = true) :
    sendReq t tk r = { setTok t tk (.sent r) with pc := t.pc + 4, writes := if r.dstk = 2 then t.writes ++ [(tk, none)] else t.writes } := by
  rw [sendReq, hassigned, Bool.not_true, if_neg Bool.false_ne_true]
  by_cases hdst : r.dstk = 2
  · rw [if_pos hdst, if_pos hdst]
    rfl
  · rw [if_neg hdst, if_neg hdst]
    rfl

theorem sendReq_unassigned {t : Thr} {tk : Nat} {r : Req} (hassigned : r.assigned = false) :
    sendReq t tk r = { setTok t tk (.done ⟨0x0101, GWord.zero, GWord.zero⟩ r.epoch .pair) with pc := t.pc + 4 } := by
  rw [sendReq, hassigned]
  rfl

/-! ## TWAIT and TWALL (R168) -/

theorem pcNext_gwToken (t : Thr) (r : BitVec 5) (a b : GWord) :
    pcNext (gwToken t r a b) = { (if r = 0 ∨ r = 1 then t else gwPair t r a b) with pc := t.pc + 4 } := by
  rw [gwToken_eq]
  split
  · rfl
  · exact pcNext_gwPair ..

section
variable {tk : Nat} {ra : BitVec 5} (hr : d.runs h i = true) (he : (d.thr h).cmd = some e)
include hr he

theorem Dev.doTwait_free (htok : tok (d.thr h) tk = .free) : d.doTwait h tk ra = d.setThr h
    { (if ra = 0 ∨ ra = 1 then d.thr h else gwPair (d.thr h) ra GWord.zero GWord.zero) with pc := (d.thr h).pc + 4 } :=
  Dev.instr_clear hr he (by rw [htok, pcNext_gwToken])

theorem Dev.doTwait_arrived {v : Res} (htok : tok (d.thr h) tk = .arrived v) : d.doTwait h tk ra = d.setThr h
    { (if ra = 0 ∨ ra = 1 then setTok (d.thr h) tk .free else gwPair (setTok (d.thr h) tk .free) ra v.even v.odd) with
      pc := (d.thr h).pc + 4 } := by
  refine Dev.instr_clear hr he ?_
  rw [htok]
  exact congrArg (fun t => ([], d.setThr h t)) (pcNext_gwToken ..)

theorem Dev.doTwait_pending (htok : (tok (d.thr h) tk).pending = true) :
    d.doTwait h tk ra = d.setThr h { d.thr h with pc := (d.thr h).pc + 4, wait := .token tk ra } := by
  refine Dev.instr_clear hr he ?_
  cases hv : tok (d.thr h) tk with
  | free | arrived => simp [hv, Tok.pending] at htok
  | sent | queued | done => rfl

end

/-- The next instruction, or a wait before it. -/
theorem pcNext_unless {t : Thr} (w : Wait) (b : Bool) (hwait : t.wait = .none) :
    (if b then pcNext t else { pcNext t with wait := w }) = { t with pc := t.pc + 4, wait := if b then .none else w } := by
  cases b
  · rfl
  · simp only [pcNext, if_true, ← hwait]

theorem Dev.doTwall_eq (hr : d.runs h i = true) : d.doTwall h = d.setThr h
    { d.thr h with pc := (d.thr h).pc + 4, wait := if noPending (d.thr h) then .none else .all } :=
  Dev.instrT_clear hr fun _ => congrArg (Prod.mk []) (pcNext_unless .all _ (Dev.runs_wait hr))

/-- CSYNC waits for the commits that are not yet durable (R178). -/
theorem Dev.doCsync_eq (hr : d.runs h i = true) : d.doCsync h = d.setThr h
    { d.thr h with pc := (d.thr h).pc + 4, wait := if (d.thr h).commits = [] then .none else .counters } := by
  refine Dev.instrT_clear hr fun _ => congrArg (Prod.mk []) ?_
  rw [pcNext_unless .counters _ (Dev.runs_wait hr)]
  simp only [List.isEmpty_iff]

/-! ## RAND (R176) -/

section
variable {rd : BitVec 5} (hr : d.runs h i = true) (he : (d.thr h).cmd = some e) (hlock : d.tmp.lock = false) (hheld : d.blockHeld 3 = false)
include hr he hlock hheld

theorem Dev.doRand_waits (hworks : d.rngFailed = false) :
    d.doRand h rd = d.setThr h { d.thr h with pc := (d.thr h).pc + 4, wait := .rand rd } :=
  Dev.instr_clear hr he (by rw [hlock, hheld, hworks]; rfl)

theorem Dev.doRand_failed (hfailed : d.rngFailed = true) :
    d.doRand h rd = d.setThr h { gw (d.thr h) rd ⟨0, .poison, 2⟩ with pc := (d.thr h).pc + 4 } := by
  refine Dev.instr_clear hr he ?_
  rw [hlock, hheld, hfailed]
  exact congrArg (fun t => ([], d.setThr h t)) (pcNext_gw ..)

end

/-! ## CINC (R177, R296, R298) -/

/-- A request to the arbiter for an increment leaves the threads alone. -/
theorem Dev.nvsAsk_setThr (d : Dev) (h : Nat) (t : Thr) (prio n part order : Nat) :
    (d.setThr h t).nvsAsk prio (.increment n) part order = (d.nvsAsk prio (.increment n) part order).setThr h t := by
  simp only [Dev.nvsAsk, NvKind.tooLong, Bool.false_eq_true, if_false, apply_ite (fun x => Dev.setThr x h t)]
  rfl

/-- It assigns no event number. -/
theorem Dev.nvsAsk_seq (d : Dev) (prio n part order : Nat) : (d.nvsAsk prio (.increment n) part order).seq = d.seq := by
  simp only [Dev.nvsAsk, NvKind.tooLong, Bool.false_eq_true, if_false]
  split <;> rfl

theorem Dev.cincIssue_setThr (d : Dev) (h tk : Nat) (t : Thr) (c : Cmd) (n : Nat) :
    (d.setThr h t).cincIssue h tk c n = (d.event.nvsAsk 2 (.increment n) c.part c.order).setThr h
      { setTok t tk (.done ⟨0, .plain (BitVec.ofNat 64 (d.ctrNext n)), .plain (d.seq + 1)⟩ t.epoch .pair) with
        commits := t.commits ++ [d.nvs.nextOp] } := by
  have hask : (d.setThr h t).event.nvsAsk 2 (.increment n) c.part c.order = (d.event.nvsAsk 2 (.increment n) c.part c.order).setThr h t :=
    Dev.nvsAsk_setThr d.event h t 2 n c.part c.order
  have hseq : ((d.event.nvsAsk 2 (.increment n) c.part c.order).setThr h t).seq = d.seq + 1 := Dev.nvsAsk_seq d.event 2 n c.part c.order
  simp only [Dev.cincIssue, hask, hseq, Dev.modThr, Dev.thr_setThr_same, Dev.setThr_setThr]
  rfl

section
variable {tk : Nat} {rk : BitVec 5} (hr : d.runs h i = true) (he : (d.thr h).cmd = some e) (hfree : (tok (d.thr h) tk).pending = false)
  (hindex : (gr (d.thr h) rk).isPlain) (hlock : d.tmp.lock = false)
include hr he hfree hindex hlock

/-- A CINC that the rules of R177 refuse answers the status on its token. -/
theorem Dev.doCinc_refused {status : Nat} (hstatus : d.cincStatus (d.cmd e).part (gr (d.thr h) rk).data = some status) :
    d.doCinc h tk rk = d.setThr h
      { setTok (d.thr h) tk (.done ⟨status, GWord.zero, GWord.zero⟩ (d.thr h).epoch .pair) with pc := (d.thr h).pc + 4 } := by
  obtain ⟨hres, hplain⟩ := plainOperand_clear hindex
  have hlater : (d.setThr h (pcNext (d.thr h))).cincStatus ((d.setThr h (pcNext (d.thr h))).cmd e).part (gr (d.thr h) rk).data = some status :=
    hstatus
  refine Dev.instr_clear hr he ?_
  simp only [hfree, hres, hplain, hlock, hlater, Bool.false_eq_true, if_false, List.append_nil, Dev.modThr, Dev.thr_setThr_same, Dev.setThr_setThr]
  rfl

/-- One that they do not refuse is issued to the arbiter with its event; its value and event number are the result. -/
theorem Dev.doCinc_issued {n : Nat} (hn : n = (gr (d.thr h) rk).data.toNat)
    (hstatus : d.cincStatus (d.cmd e).part (gr (d.thr h) rk).data = none) :
    d.doCinc h tk rk = (d.event.nvsAsk 2 (.increment n) (d.cmd e).part (d.cmd e).order).setThr h
      { setTok (d.thr h) tk (.done ⟨0, .plain (BitVec.ofNat 64 (d.ctrNext n)), .plain (d.seq + 1)⟩ (d.thr h).epoch .pair) with
        pc := (d.thr h).pc + 4, commits := (d.thr h).commits ++ [d.nvs.nextOp] } := by
  obtain ⟨hres, hplain⟩ := plainOperand_clear hindex
  have hlater : (d.setThr h (pcNext (d.thr h))).cincStatus ((d.setThr h (pcNext (d.thr h))).cmd e).part (gr (d.thr h) rk).data = none := hstatus
  refine Dev.instr_clear hr he ?_
  simp only [hfree, hres, hplain, hlock, hlater, ← hn, Bool.false_eq_true, if_false, List.append_nil]
  exact congrArg (Prod.mk []) (Dev.cincIssue_setThr ..)

end

theorem Dev.cincStatus_none {part : Nat} {w : Word} (hsmall : w.toNat < 65536) (hown : d.ownsCounter part w.toNat = true)
    (hgood : d.ctrDamaged w.toNat = false) (hroom : d.ctrNext w.toNat < 2 ^ 48) : d.cincStatus part w = none := by
  simp only [Dev.cincStatus, Nat.not_le.mpr hsmall, hown, hgood, Nat.not_le.mpr hroom, Bool.not_true, Bool.false_eq_true, if_false]

theorem Dev.cincStatus_exhausted {part : Nat} {w : Word} (hsmall : w.toNat < 65536) (hown : d.ownsCounter part w.toNat = true)
    (hgood : d.ctrDamaged w.toNat = false) (hfull : 2 ^ 48 ≤ d.ctrNext w.toNat) : d.cincStatus part w = some 0x0403 := by
  simp only [Dev.cincStatus, Nat.not_le.mpr hsmall, hown, hgood, hfull, Bool.not_true, Bool.false_eq_true, if_false, if_true, stCounterExhausted]

theorem Dev.cincStatus_foreign {part : Nat} {w : Word} (hsmall : w.toNat < 65536) (hown : d.ownsCounter part w.toNat = false) :
    d.cincStatus part w = some 0x0202 := by
  simp only [Dev.cincStatus, Nat.not_le.mpr hsmall, hown, Bool.not_false, if_false, if_true, stPartition]

theorem Dev.cincStatus_large {part : Nat} {w : Word} (hlarge : 65536 ≤ w.toNat) : d.cincStatus part w = some 0x0101 := by
  simp only [Dev.cincStatus, hlarge, if_true, stBadDescriptor]

/-! ## RELEASE and DONE (R90, R179, R180) -/

theorem givesResult_iff (n : Nat) : givesResult n = true ↔ n = 0 ∨ n = 0x0302 := by
  simp only [givesResult, stOk, stVerifyFail, Bool.or_eq_true, beq_iff_eq]

/-- The hand-over of a thread that has just changed. -/
theorem Dev.doHandOver_setThr {t : Thr} (n : Nat) (hcmd : t.cmd = some e) :
    (d.setThr h t).doHandOver h n = (d.setCmd e { d.cmd e with
      st := .released, status := n, result := if n = 0 ∨ n = 0x0302 then t.result else 0 }).setThr h { t with rel := true, wait := .none } := by
  conv_lhs => simp only [Dev.doHandOver, Dev.thr_setThr_same, hcmd, givesResult_iff, Dev.modThr, Dev.modCmd]
  have hthr (c : Cmd) : ((d.setThr h t).setCmd e c).thr h = t := Dev.thr_setThr_same ..
  rw [hthr]
  exact Dev.setThr_setThr (d.setCmd e _) h t _

/-- The status is taken from an intact PLAIN register. -/
theorem Dev.giveRelease_clear {r : BitVec 5} (hplain : (gr (d.thr h) r).isPlain) :
    d.giveRelease h r = d.doHandOver h ((gr (d.thr h) r).data.toNat % 65536) := by
  obtain ⟨hres, hplain⟩ := plainOperand_clear hplain
  simp only [Dev.giveRelease, hres, hplain]
  rfl

section
variable {rs1 : BitVec 5} (hr : d.runs h i = true) (he : (d.thr h).cmd = some e) (hrel : (d.thr h).rel = false)
include hr he hrel

theorem Dev.doRelease_waits (hdue : noPending (d.thr h) = false) :
    d.doRelease h rs1 = d.setThr h { d.thr h with pc := (d.thr h).pc + 4, wait := .release rs1 } := by
  refine Dev.instr_clear hr he ?_
  rw [hrel, hdue]
  rfl

theorem Dev.doRelease_gives {n : Nat} (hn : n = (gr (d.thr h) rs1).data.toNat % 65536) (hdue : noPending (d.thr h) = true)
    (hplain : (gr (d.thr h) rs1).isPlain) :
    d.doRelease h rs1 = (d.setCmd e { d.cmd e with
      st := .released, status := n, result := if n = 0 ∨ n = 0x0302 then (d.thr h).result else 0 }).setThr h
        { d.thr h with pc := (d.thr h).pc + 4, rel := true } := by
  have hthr : (d.setThr h (pcNext (d.thr h))).thr h = pcNext (d.thr h) := Dev.thr_setThr_same ..
  have hgive : (d.setThr h (pcNext (d.thr h))).giveRelease h rs1 = _ := Dev.giveRelease_clear (by rw [hthr]; exact hplain)
  refine Dev.instr_clear hr he ?_
  rw [hrel, hdue, if_pos rfl, hgive, hthr]
  subst hn
  refine congrArg (Prod.mk []) ((Dev.doHandOver_setThr (t := pcNext (d.thr h)) _ he).trans ?_)
  rw [← Dev.runs_wait hr]
  rfl

end

theorem Dev.doDone_clear (hr : d.runs h i = true) (he : (d.thr h).cmd = some e) (hrel : (d.thr h).rel = true) :
    d.instr h (fun _ _ => ([], d.doDone h)) = (d.setThr h (d.thr h).givenUp).setCmd (pastEntry h) Cmd.reset :=
  Dev.instr_clear hr he (congrArg (Prod.mk []) (Dev.doDone_released hrel))

end
/-! ## The statement -/

/-- Settles O32: each clause is one rule above, taken from the device to the state. That RAND waits for its RAND_RESULT even where a
random word is ready, and that an unassigned ECALL answers on its token, is the model's choice (assumption 16). -/
theorem tokenInstructionsTakeEffect : Obligations.TokenInstructionsTakeEffect := by
  rintro s d h e t rfl rfl he
  refine ⟨fun tk ra rk rb rx r hr hreq hfree hclear => ⟨fun hlock => ?locked, fun hlock hheld hroom => ⟨fun hassigned => ?sent, fun hassigned =>
      ?unassigned⟩⟩,
    fun tk ra hr => ⟨fun htok => ?free, fun v htok => ?arrived, fun htok => ?pending⟩, fun hr => ?twall,
    fun rd hr hlock hheld => ⟨fun hworks => ?rand, fun hfailed => ?randFailed⟩, ?cinc, fun hr => ?csync,
    fun rs1 n hr hn hrel => ⟨fun hdue hplain => ?release, fun hdue => ?releaseWaits⟩, fun hr hrel => ?done⟩
  case locked =>
    rw [exec_ecall]
    exact onDev_runs hr (Dev.doEcall_locked hr he hreq hfree hclear hlock)
  case sent =>
    rw [exec_ecall, ← sendReq_assigned hassigned]
    exact onDev_runs hr (Dev.doEcall_sends hr he hreq hfree hclear hlock hheld hroom)
  case unassigned =>
    rw [exec_ecall, ← sendReq_unassigned hassigned]
    exact onDev_runs hr (Dev.doEcall_sends hr he hreq hfree hclear hlock hheld hroom)
  case free =>
    rw [exec_twait]
    exact onDev_runs hr (Dev.doTwait_free hr he htok)
  case arrived =>
    rw [exec_twait]
    exact onDev_runs hr (Dev.doTwait_arrived hr he htok)
  case pending =>
    rw [exec_twait]
    exact onDev_runs hr (Dev.doTwait_pending hr he htok)
  case twall =>
    rw [exec_twall]
    exact onDev_runs hr (Dev.doTwall_eq hr)
  case rand =>
    rw [exec_rand]
    exact onDev_runs hr (Dev.doRand_waits hr he hlock hheld hworks)
  case randFailed =>
    rw [exec_rand]
    exact onDev_runs hr (Dev.doRand_failed hr he hlock hheld hfailed)
  case cinc =>
    rintro tk rk i hr hfree hindex rfl hlock
    have hrefused {status : Nat} := Dev.doCinc_refused hr he hfree hindex hlock (status := status)
    rw [exec_cinc]
    refine ⟨fun hlarge => ?large, fun hsmall hown => ?foreign, fun hsmall hown hgood hfull => ?exhausted, fun hsmall hown hgood hroom => ?issued⟩
    case large => exact onDev_runs hr (hrefused (Dev.cincStatus_large hlarge))
    case foreign => exact onDev_runs hr (hrefused (Dev.cincStatus_foreign hsmall hown))
    case exhausted => exact onDev_runs hr (hrefused (Dev.cincStatus_exhausted hsmall hown hgood hfull))
    case issued =>
      exact onDev_runs hr (Dev.doCinc_issued hr he hfree hindex hlock rfl (Dev.cincStatus_none hsmall hown hgood hroom))
  case csync =>
    rw [exec_csync]
    exact onDev_runs hr (Dev.doCsync_eq hr)
  case release =>
    rw [exec_release]
    exact onDev_runs hr (Dev.doRelease_gives hr he hrel hn hdue hplain)
  case releaseWaits =>
    rw [exec_release]
    exact onDev_runs hr (Dev.doRelease_waits hr he hrel hdue)
  case done =>
    rw [exec_done]
    exact onDev_runs hr (Dev.doDone_clear hr he hrel)

end Sys2Proof.Machine
end

section
/-! Configuration, program images, patches, code-signing keys, image values and TR-34 credentials (R182, R264, R334, R335, R343 to R348, R351):
how the Warden serves a request, what each request does once its form is right, and the statement about the ten requests. -/

namespace Sys2Proof.Machine

/-! ## The commands -/

section
variable (bulk : Option (List Byte)) (s : State)

theorem exec_configSubmit : exec (.configSubmit bulk) s = onChip s (fun c => c.configSubmit bulk) := rfl
theorem exec_imageAdmit : exec (.imageAdmit bulk) s = onChip s (fun c => c.imageAdmit bulk) := rfl
theorem exec_imageRetire : exec .imageRetire s = onChip s (fun c => c.imageRetire) := rfl
theorem exec_patchInstall : exec (.patchInstall bulk) s = onChip s (fun c => c.patchInstall bulk) := rfl
theorem exec_codesignInstall : exec .codesignInstall s = onChip s (fun c => c.codesignInstall) := rfl
theorem exec_codesignRevoke : exec .codesignRevoke s = onChip s (fun c => c.codesignRevoke) := rfl
theorem exec_xksImageAdvance : exec .xksImageAdvance s = onChip s (fun c => c.imageAdvance) := rfl
theorem exec_tr34KrdCreate : exec .tr34KrdCreate s = onChip s (fun c => c.krdCreate) := rfl
theorem exec_tr34KrdDelete : exec .tr34KrdDelete s = onChip s (fun c => c.krdDelete) := rfl
theorem exec_tr34KdhCa : exec .tr34KdhCa s = onChip s (fun c => c.kdhCa) := rfl

end

/-! ## Serving a request (R324 to R326, R334, R335, R351) -/

section
variable {c : Chip} {r : WReq} {code : Nat} {dry : Bool}

/-- A request at the front that nothing refuses is served. -/
theorem Chip.serve_serves (hs : c.Serves code dry r) (f : Chip → WReq → Chip) : c.serve code dry f = f c r := by
  obtain ⟨hfront, hfree, hcode, hstore, hstate, hhead⟩ := hs
  obtain ⟨rest, hqueue⟩ := List.head?_eq_some_iff.mp hfront
  simp only [Chip.serve, hqueue, hfree, hcode, hstore, hstate, hhead, bne_self_eq_false, Bool.not_true, Bool.or_self, Bool.false_eq_true, if_false,
    if_true]

/-- A request whose audit entry can be durable has its effect after the entry. -/
theorem Chip.audited_durable (haudit : c.dev.canAudit = true) (f : Chip → Chip) : c.audited r f = f (c.auditReq r stOk) := if_pos haudit

/-! ## CONFIG_SUBMIT (R343) -/

theorem Chip.configSubmit_serves {b : List Byte} (hs : c.Serves 0x0201 false r) (hcontent : r.content (some b) = some b) (hbulk : 0 < r.bulkLen) :
    c.configSubmit (some b) = (let c1 := c.onDev fun d => d.bulkRead r
      if c1.dev.cfgOk b = false then c1.reply r stFormat
      else if (match c1.dev.cfgNewest with | some x => decide (leAt b 4 4 ≤ leAt x.2.2 4 4) | none => false) = true then c1.reply r stStaleEpoch
      else match c1.dev.authCheck r b 2 (c1.dev.cfgAuthority b) with
      | some status => c1.reply r status
      | none => if c1.dev.canAudit then
          ((c1.auditReq r stOk).watch fun c => c.onDev fun d =>
            let d1 := d.nvsNow (.increment 2)
            let d2 := d1.nvsNow (.record ⟨d1.cfgTarget, 0x0010, 0, b, 0, 0, true, false⟩)
            let d3 := (d2.wardenState 1 (setPayload b)).takeSet (cfgM b) (cfgN b) (cfgKeys b)
            if d3.held then d3.wr Fld.PLT_RESET_STATUS_STEP 8 else d3.wr Fld.WDN_LIFECYCLE_CONFIG_PENDING 1).reply r stOk
            (leBytes 4 (leAt b 4 4) ++ [if (c1.auditReq r stOk).dev.held then 0 else 1, 0, 0, 0])
        else c1.reply r stQuota) := by
  have hnonzero : r.bulkLen ≠ 0 := by omega
  rw [Chip.configSubmit, Chip.serve_serves hs]
  simp only [hcontent, if_neg hnonzero, Bool.not_eq_true']
  generalize c.onDev (fun d => d.bulkRead r) = c1
  refine ite_congr rfl (fun _ => rfl) fun _ => ite_congr ?_ (fun _ => rfl) fun _ => ?_
  · cases c1.dev.cfgNewest <;> rfl
  · cases c1.dev.authCheck r b 2 (c1.dev.cfgAuthority b) with
    | some status => rfl
    | none => rfl

/-! ## Program images and patches (R182, R344, R346) -/

theorem Chip.imageAdmit_serves {b : List Byte} (hs : c.Serves 0x0202 false r) (hparams : r.paramLen = 0) (hauth : r.authLen = 0)
    (hlen : b.length = r.bulkLen) :
    c.imageAdmit (some b) = (let c1 := c.onDev fun d => d.bulkRead r
      match c1.dev.imageCheck b with
      | some x => c1.reply r x.1 x.2
      | none => if c1.dev.signFull then c1.reply r stQuota else if c1.dev.canAudit then
          ((c1.auditReq r stOk).onDev fun d =>
            (d.nvsNow (.record ⟨1, 0x20, imgId b % 2 ^ 32, floorPayload b, 0, 0, true, false⟩)).placeImage b).reply r stOk (leBytes 8 (imgId b) ++ leBytes 4 (imgVersion b) ++ leBytes 2 (imgFuncs b) ++ [0, 0])
        else c1.reply r stQuota) := by
  rw [Chip.imageAdmit, Chip.serve_serves hs]
  simp only [hparams, hauth, hlen, bne_self_eq_false, Bool.or_self, Bool.false_eq_true, if_false]
  generalize c.onDev (fun d => d.bulkRead r) = c1
  cases c1.dev.imageCheck b with
  | some x => rfl
  | none => rfl

section
variable {ks : List Nat} (hs : c.Serves 0x0203 false r) (hplain : r.plain 8 = true)
  (hks : ks = (c.dev.prog.images.filter (fun x => x.2.id.toNat == r.par 0 8)).map Prod.fst)
include hs hplain hks

/-- An IMAGE_ID of which no image is in service is answered, and nothing is removed. -/
theorem Chip.imageRetire_absent (hout : ks.all (fun k => !c.dev.inService k) = true) : c.imageRetire = c.reply r stOk (List.replicate 8 0) := by
  rw [Chip.imageRetire, Chip.serve_serves hs]
  simp only [hplain, ← hks, hout, Bool.not_true, Bool.false_eq_true, if_false, if_true]

theorem Chip.imageRetire_present (hout : ks.all (fun k => !c.dev.inService k) = false) (haudit : c.dev.canAudit = true) :
    c.imageRetire = ((c.auditReq r stOk).onDev fun d => ks.foldl (fun x k => x.retireImage k) d).reply r stOk
      (leBytes 2 ((ks.map (c.auditReq r stOk).dev.entriesOf).foldl (· + ·) 0) ++ List.replicate 6 0) := by
  rw [Chip.imageRetire, Chip.serve_serves hs]
  simp only [hplain, ← hks, hout, Chip.audited_durable haudit, Bool.not_true, Bool.false_eq_true, if_false]

end

/-- A patch is written into the inactive bank, and answered as its header record stands there (R288). -/
def Chip.patchWrite (c : Chip) (r : WReq) (b : List Byte) : Chip :=
  let c2 := c.onDev fun d => d.writePatch c.dev.inactiveBank b
  if (c2.dev.newestRec 1 0x22 c.dev.inactiveBank).map Rec.payload = some (slice b 0 64) then
    c2.reply r stOk ([BitVec.ofNat 8 c.dev.inactiveBank, 0, 0, 0] ++ leBytes 4 (leAt b 4 4))
  else c2.reply r stQuota

theorem Chip.patchWrite_eq (c : Chip) (r : WReq) (b : List Byte) : c.patchWrite r b =
    if (c.onDev fun d => d.writePatch c.dev.inactiveBank b).dev.patchWritten c.dev.inactiveBank b = false then
      (c.onDev fun d => d.writePatch c.dev.inactiveBank b).reply r stQuota
    else (c.onDev fun d => d.writePatch c.dev.inactiveBank b).reply r stOk
      ([BitVec.ofNat 8 c.dev.inactiveBank, 0, 0, 0] ++ leBytes 4 (leAt b 4 4)) := by
  simp only [Chip.patchWrite, Dev.patchWritten, beq_eq_false_iff_ne, ite_not]

theorem Chip.patchInstall_serves {b : List Byte} (hs : c.Serves 0x0204 false r) (hparams : r.paramLen = 0) (hlen : b.length = r.bulkLen) {n : Nat}
    (hn : n = 64 + leAt b 8 4) :
    c.patchInstall (some b) = (let c1 := c.onDev fun d => d.bulkRead r
      if patchOk b = false then c1.reply r stFormat
      else if (Config.verify 0 Config.vendorKey (slice b 0 n) (slice b n 96) &&
          Config.verify 1 Config.vendorKey (slice b 0 n) (slice b (n + 96) 4627)) = false then
        c1.reply r stAuthFail
      else if leAt b 4 4 ≤ c1.dev.rd Fld.WDN_LIFECYCLE_PATCH_VERSION then c1.reply r stStaleEpoch
      else if c1.dev.signFull then c1.reply r stQuota
      else c1.underQuorum r b 2 fun c => c.patchWrite r b) := by
  rw [Chip.patchInstall, Chip.serve_serves hs]
  simp only [hparams, hlen, ← hn, Bool.not_eq_true', ← Chip.patchWrite_eq, bne_self_eq_false, Bool.or_self, Bool.false_eq_true, if_false]
  rfl

/-! ## Code-signing keys (R345) -/

theorem Chip.codesignInstall_serves {i : Nat} (hs : c.Serves 0x0205 false r) (hi : i = r.par 0 1) (hbulk : r.bulkLen = 0) (hmin : 1 ≤ i)
    (hmax : i ≤ 15) (hzero : r.par 1 7 = 0) (hparams : r.paramLen = 2704) (hzero' : r.par 105 7 = 0) (hkept : (c.dev.codesign i).1 ≠ 2)
    (hroom : c.dev.signFull = false) :
    c.codesignInstall = c.underQuorum r [] 2 fun c => (c.onDev fun d => d.nvsNow (.record ⟨1, 0x21, i,
      leBytes 8 1 ++ slice r.params 8 104 ++ slice r.params 112 2592, 0, 0, true, false⟩)).reply r stOk (keyId (slice r.params 8 97)) := by
  have hnonzero : i ≠ 0 := by omega
  have hbound : ¬ 15 < i := by omega
  rw [Chip.codesignInstall, Chip.serve_serves hs]
  simp only [← hi, hbulk, hparams, hzero, hzero', hnonzero, hbound, hkept, hroom, bne_self_eq_false, Bool.or_self, decide_false, Bool.false_eq_true,
    if_false]
  rfl

section
variable {i : Nat} (hs : c.Serves 0x0206 false r) (hi : i = r.par 0 1) (hbulk : r.bulkLen = 0) (hmin : 1 ≤ i) (hmax : i ≤ 15) (hzero : r.par 1 7 = 0)
  (hparams : r.paramLen = 8)
include hs hi hbulk hmin hmax hzero hparams

/-- A CODESIGN_REVOKE of a right form goes by the index's record. -/
theorem Chip.codesignRevoke_form : c.codesignRevoke =
    if (c.dev.codesign i).1 = 0 then c.reply r stKeyAbsent
    else if c.dev.signFull then c.reply r stQuota
    else c.underQuorum r [] 2 fun c =>
      let out := (c.dev.prog.images.filter (fun x => x.2.signer == i && c.dev.inService x.1)).map Prod.fst
      (c.onDev fun d => out.foldl (fun x k => x.retireImage k)
        (d.nvsNow (.record ⟨1, 0x21, i, leBytes 8 2 ++ (c.dev.codesign i).2.drop 8, 0, 0, true, false⟩))).reply r stOk
          (leBytes 2 out.length ++ List.replicate 6 0) := by
  have hnonzero : i ≠ 0 := by omega
  have hbound : ¬ 15 < i := by omega
  rw [Chip.codesignRevoke, Chip.serve_serves hs]
  simp only [← hi, hbulk, hparams, hzero, hnonzero, hbound, bne_self_eq_false, Bool.or_self, decide_false, Bool.false_eq_true, if_false]
  rfl

end

/-! ## XKS_IMAGE_ADVANCE (R264) -/

theorem Chip.imageAdvance_serves {n : Nat} (hn : n = r.par 0 1) (hs : c.Serves 0x0305 false r) (hplain : r.plain 8 = true) (hzero : r.par 1 7 = 0)
    (hlt : n < 64) (hown : r.origin ≠ 1 ∨ n = r.requester) (haudit : c.dev.canAudit = true) :
    c.imageAdvance = (let c2 := c.auditReq r stOk
      let e := c2.dev.rd (Fld.XKS_IMAGE_EPOCH_EPOCH n)
      (c2.onDev fun d => ((d.nvsNow (.record ⟨0, 4, n, leBytes 4 ((e + 1) % 2 ^ 32) ++ leBytes 4 e, 0, 0, true, false⟩)).wr
        (Fld.XKS_IMAGE_EPOCH_EPOCH n) ((e + 1) % 2 ^ 32)).wr (Fld.XKS_IMAGE_EPOCH_FLOOR n) e).reply r stOk
          (leBytes 4 ((e + 1) % 2 ^ 32) ++ leBytes 4 e)) := by
  have hpart : (r.origin == 1 && n != r.requester) = false := by
    rcases hown with h | h <;> simp [h]
  rw [Chip.imageAdvance, Chip.serve_serves hs]
  simp only [hplain, ← hn, hzero, Nat.not_le.mpr hlt, hpart, Chip.audited_durable haudit, bne_self_eq_false, Bool.not_true, Bool.or_self,
    decide_false, Bool.false_eq_true, if_false]

/-! ## TR-34 credentials (R348) -/

section
variable {i : Nat} (hi : i = r.par 0 1) (hplain : r.plain 8 = true) (hlt : i < 16) (haudit : c.dev.canAudit = true)
include hi hplain hlt haudit

theorem Chip.krdCreate_serves {bits : Nat} (hs : c.Serves 0x0306 false r) (hbits : bits = r.par 2 2) (hzero : r.par 1 1 = 0) (hzero' : r.par 4 4 = 0)
    (hsize : bits = 2048 ∨ bits = 3072) (hworks : c.dev.rngFailed = false) (hserves : c.dev.rngServes 0 = true) :
    c.krdCreate = (let c2 := c.auditReq r stOk
      let seed := Config.freeBytes c2.dev.nfree 64
      (c2.onDev fun d => (d.wardenState (0x200 + 16 * r.requester + i)
        (Config.sivSeal (d.krdWrap r.requester) [] (Config.rsaPrivate bits seed))).draw 0 1 64).reply r stOk
          (leBytes 2 bits ++ List.replicate 6 0 ++ Config.rsaPublic bits seed)) := by
  have hsizes : (bits == 2048 || bits == 3072) = true := by simpa using hsize
  rw [Chip.krdCreate, Chip.serve_serves hs]
  simp only [hplain, ← hi, ← hbits, hzero, hzero', hsizes, Nat.not_le.mpr hlt, hworks, hserves, Chip.audited_durable haudit, bne_self_eq_false,
    Bool.not_true, Bool.or_self, decide_false, Bool.false_eq_true, if_false]

theorem Chip.krdDelete_serves (hs : c.Serves 0x0307 false r) (hzero : r.par 1 7 = 0) :
    c.krdDelete = ((c.auditReq r stOk).onDev fun d => d.wardenState (0x200 + 16 * r.requester + i) []).reply r stOk := by
  rw [Chip.krdDelete, Chip.serve_serves hs]
  simp only [hplain, ← hi, hzero, Nat.not_le.mpr hlt, Chip.audited_durable haudit, bne_self_eq_false, Bool.not_true, Bool.or_self, decide_false,
    Bool.false_eq_true, if_false]

end

theorem Chip.kdhCa_serves {n : Nat} (hn : n = r.par 0 4) (hs : c.Serves 0x0308 false r) (hbulk : r.bulkLen = 0) (hmax : n ≤ 3000)
    (hparams : r.paramLen = 8 + (n + 7) / 8 * 8) (hzero : r.par 4 4 = 0) (hrest : allZero (r.params.drop (8 + n)) = true) :
    c.kdhCa = if Config.certOk (slice r.params 8 n) = true then c.underQuorum r [] 2 fun c =>
        (c.onDev fun d => d.wardenState (0x600 + r.requester) (List.replicate 8 0 ++ slice r.params 8 n)).reply r stOk
          (Config.sha384 (slice r.params 8 n))
      else c.reply r stFormat := by
  rw [Chip.kdhCa, Chip.serve_serves hs]
  simp only [← hn, hbulk, hparams, hzero, hrest, Nat.not_lt.mpr hmax, bne_self_eq_false, Bool.not_true, Bool.or_self, decide_false,
    Bool.false_eq_true, if_false]
  cases Config.certOk (slice r.params 8 n) <;> rfl

end

/-! ## The statement -/

/-- Settles O45: each clause is one request's rule above, taken from the chip to the state. Which bytes a refused image names and what of an image is
not checked, and the points of R341 to R343 that the rules leave open, are the model's choice (assumptions 33 and 38). -/
theorem configurationImageAndCredentialRequests : Obligations.ConfigurationImageAndCredentialRequests := by
  rintro s c rfl r b c1 rfl
  refine ⟨fun hs hcontent hbulk => ?config, fun hs hparams hauth hlen => ?imageAdmit,
    fun hs hplain ks hks => ⟨fun hout => ?retireAbsent, fun hout haudit => ?retire⟩, fun hs hparams hlen n hn => ?patch,
    fun i hi hbulk hmin hmax hzero => ⟨fun hs hparams hzero' hkept hroom => ?install, fun hs hparams => ⟨fun habsent => ?revokeAbsent,
      fun hpresent hroom => ?revoke⟩⟩,
    fun n hn hs hplain hzero hlt hown haudit => ?advance,
    fun i bits hi hbits hplain hlt hzero haudit => ⟨fun hs hzero' hsize hworks hserves => ?create, fun hs hzero' => ?delete⟩,
    fun n hn hs hbulk hmax hparams hzero hrest => ?kdhCa⟩
  case config =>
    rw [exec_configSubmit]
    exact onChip_next s (Chip.configSubmit_serves hs hcontent hbulk)
  case imageAdmit =>
    rw [exec_imageAdmit]
    exact onChip_next s (Chip.imageAdmit_serves hs hparams hauth hlen)
  case retireAbsent =>
    rw [exec_imageRetire]
    exact onChip_next s (Chip.imageRetire_absent hs hplain hks hout)
  case retire =>
    rw [exec_imageRetire]
    exact onChip_next s (Chip.imageRetire_present hs hplain hks hout haudit)
  case patch =>
    rw [exec_patchInstall]
    exact onChip_next s (Chip.patchInstall_serves hs hparams hlen hn)
  case install =>
    rw [exec_codesignInstall]
    exact onChip_next s (Chip.codesignInstall_serves hs hi hbulk hmin hmax hzero hparams hzero' hkept hroom)
  case revokeAbsent =>
    rw [exec_codesignRevoke]
    exact onChip_next s ((Chip.codesignRevoke_form hs hi hbulk hmin hmax hzero hparams).trans (if_pos habsent))
  case revoke =>
    rw [exec_codesignRevoke]
    refine onChip_next s ((Chip.codesignRevoke_form hs hi hbulk hmin hmax hzero hparams).trans ((if_neg hpresent).trans ?_))
    rw [hroom]
    rfl
  case advance =>
    rw [exec_xksImageAdvance]
    exact onChip_next s (Chip.imageAdvance_serves hn hs hplain hzero hlt hown haudit)
  case create =>
    rw [exec_tr34KrdCreate]
    exact onChip_next s (Chip.krdCreate_serves hi hplain hlt haudit hs hbits hzero hzero' hsize hworks hserves)
  case delete =>
    rw [exec_tr34KrdDelete]
    exact onChip_next s (Chip.krdDelete_serves hi hplain hlt haudit hs hzero')
  case kdhCa =>
    rw [exec_tr34KdhCa]
    exact onChip_next s (Chip.kdhCa_serves hn hs hbulk hmax hparams hzero hrest)

end Sys2Proof.Machine
end

section
/-! The cipher cluster (R185 to R199): how a request enters the queue, what a core does with the entry it takes, how nonces are issued from the
leases, how leases come and go, and the statement about the eleven commands. -/

namespace Sys2Proof.Machine

/-! ## The commands -/

/-- The three commands by which a request for blocks enters the queue, each with its operation. -/
theorem exec_cipherEnter {h tk : Nat} {x : Nat × (Nat → Instr)}
    (hx : x ∈ [(1, fun m => Instr.cipherEncrypt h tk m), (2, fun m => .cipherDecrypt h tk m), (3, fun m => .ghash h tk m)]) (m : Nat) (s : State) :
    exec (x.2 m) s = onDev s (fun d => d.cipherEnter x.1 h tk m) := by
  simp only [List.mem_cons, List.not_mem_nil, or_false] at hx
  obtain rfl | rfl | rfl := hx
  · rfl
  · rfl
  · rfl

theorem exec_nonce (h tk : Nat) (s : State) : exec (.nonce h tk) s = onDev s (fun d => d.nonce h tk) := rfl

theorem exec_windowCommitDurable (s : State) : exec .windowCommitDurable s = onDev s (fun d => d.windowDurable) := rfl

theorem exec_needLeaseRetry (s : State) : exec .needLeaseRetry s = onDev s (fun d => d.needRetry) := rfl

theorem exec_leaseTake (l : Nat) (s : State) : exec (.leaseTake l) s = onDev s (fun d => d.leaseTake l) := rfl

theorem exec_leaseExpiry (s : State) : exec .leaseExpiry s = onDev s (fun d => d.leaseExpiry s.chip.bd.timeValid s.chip.seconds) := rfl

theorem exec_wardenLeaseGrant (s : State) : exec .wardenLeaseGrant s = onDev s (fun d => d.wardenGrant) := rfl

theorem exec_coreDispatch (c : Nat) (area : List Byte) (par k : Nat) (s : State) :
    exec (.coreDispatch c area par k) s = onDev s (fun d => d.coreDispatch c area par k) := rfl

theorem exec_coreSelftestDone (c : Nat) (pass : Bool) (s : State) :
    exec (.coreSelftestDone c pass) s = onDev s (fun d => d.coreTested c pass) := rfl

section
variable {d d1 : Dev} {h tk : Nat} {r : Req}

/-! ## Queue entry (R185, R186, R190) -/

/-- A request whose checks have passed against key `k` takes a use of it, counts its counter-sequence blocks and joins the queue. -/
def Dev.cipherQueued (d : Dev) (h tk : Nat) (r : Req) (k : KeyRef) : Dev :=
  let y := ((d.takeUse k).tokQueue h tk r k.key k.attr).modThr h fun t => if r.srck = 3 then { t with seqBlocks := t.seqBlocks + r.count } else t
  { y with ciph := { y.ciph with queue := y.ciph.queue ++ [(16 * h + tk, 0)] } }

theorem Dev.cipherEnter_passes {op m : Nat} {k : KeyRef} (hsent : d.sentTo 1 op h tk = some r) (hlock : d.lockStatus = none)
    (hcore : d.noCore = false) (hroom : d.ciph.queue.length < 4096) (hfetch : d.keyFetch h r.part r.key m = (d1, .ok k))
    (hattr : cipherAttrOk op k.attr = true) (huses : usesLeft k.attr = true)
    (hfields : r.cipherFields (d.thr h) (d.thrCmd h) (blockLen (aAlg k.attr)) = none) :
    d.cipherEnter op h tk m = d1.cipherQueued h tk r k := by
  simp only [Dev.cipherEnter, hsent, hlock, hcore, Nat.not_le.mpr hroom, hfetch, hattr, huses, hfields, Bool.not_true, Bool.false_eq_true, if_false]
  rfl

/-! ## Nonces (R191, R193, R195) -/

/-- A NONCE request that does not wait yet and has the right form is served as the lease allows. -/
theorem Dev.nonce_serve (hsent : d.sentTo 1 4 h tk = some r) (hnew : d.ciph.waitNonce.contains (16 * h + tk) = false) (hlock : d.lockStatus = none)
    (hform : r.formOk [0] [0] = true) (hcount : r.count = 1) : d.nonce h tk = d.nonceServe h tk r := by
  simp only [Dev.nonce, hsent, hnew, hlock, hform, hcount, bne_self_eq_false, Bool.not_true, Bool.false_eq_true, if_false]

theorem Dev.nonceServe_none (hnone : d.valuesLeft = 0 ∨ d.bit Fld.CIPH_NONCE_ID_VALID = false) : d.nonceServe h tk r = d.nonceExhausted h tk r :=
  if_pos (by simpa using hnone)

/-- With values left and a NONCE_ID, the mark decides between the next value and a wait. -/
theorem Dev.nonceServe_left (hleft : d.valuesLeft ≠ 0) (hid : d.bit Fld.CIPH_NONCE_ID_VALID = true) :
    d.nonceServe h tk r = if d.nonceNext < d.mark then d.issueNonce h tk r
      else { d with ciph := { d.ciph with waitNonce := d.ciph.waitNonce ++ [16 * h + tk] } }.windowDue :=
  if_neg (by simp [hleft, hid])

theorem Dev.nonceServe_below (hleft : d.valuesLeft ≠ 0) (hid : d.bit Fld.CIPH_NONCE_ID_VALID = true) (hmark : d.nonceNext < d.mark) :
    d.nonceServe h tk r = d.issueNonce h tk r := (Dev.nonceServe_left hleft hid).trans (if_pos hmark)

theorem Dev.nonceServe_atMark (hleft : d.valuesLeft ≠ 0) (hid : d.bit Fld.CIPH_NONCE_ID_VALID = true) (hmark : d.mark ≤ d.nonceNext) :
    d.nonceServe h tk r = { d with ciph := { d.ciph with waitNonce := d.ciph.waitNonce ++ [16 * h + tk] } }.windowDue :=
  (Dev.nonceServe_left hleft hid).trans (if_neg (Nat.not_lt.mpr hmark))

/-! ## Window commits (R193, R195) -/

/-- No window commit is under way. -/
abbrev Dev.commitOver (d : Dev) : Dev := { d with ciph := { d.ciph with commitOp := none } }

section
variable {id : Nat} (hop : d.ciph.commitOp = some id) (hdone : d.nvs.failed.contains id = false) (hdurable : d.nvsDurable id = true)
include hop hdone hdurable

theorem Dev.windowDurable_done :
    d.windowDurable = ((if d.activeValid && d.ciph.commitMark == d.mark + 4096 then d.commitOver.wr Fld.CIPH_JOURNAL_MARK_MARK d.ciph.commitMark
      else d.commitOver).forWaiting Dev.nonceServe Dev.libAgain).windowDue := by
  simp only [Dev.windowDurable, hop, hdone, hdurable, Bool.not_true, Bool.false_eq_true, if_false]
  rfl

/-- A durable window of the active lease raises the mark to the one it was asked for, and serves what waits. -/
theorem Dev.windowDurable_raises (hactive : d.activeValid = true) (hmark : d.ciph.commitMark = d.mark + 4096) :
    d.windowDurable =
      ((d.commitOver.wr Fld.CIPH_JOURNAL_MARK_MARK (d.mark + 4096)).forWaiting Dev.nonceServe Dev.libAgain).windowDue := by
  have hraises : (d.activeValid && d.ciph.commitMark == d.mark + 4096) = true := by simp [hactive, hmark]
  rw [Dev.windowDurable_done hop hdone hdurable, if_pos hraises, hmark]

end

theorem Dev.needRetry_asks (hnone : d.valuesLeft = 0) (hnext : d.nextValid = false) (hidle : d.ciph.commitOp = none) :
    d.needRetry = d.askWindow noLease d.mark true := if_pos (by simp [hnone, hnext, hidle])

/-! ## Leases (R192, R193, R197) -/

section
variable {l : Nat} {g : Rec}

theorem Dev.leaseTake_renewed (hgrant : d.grantOf l = some g) (hlease : grantLease g = l) (hactive : d.activeValid = true)
    (hheld : d.activeLease = l) : d.leaseTake l = d.wr Fld.CIPH_LEASE_EXPIRY_SECONDS (grantExpiry g) := by
  simp only [Dev.leaseTake, hgrant, hlease, hactive, hheld, bne_self_eq_false, beq_self_eq_true, Bool.and_self, Bool.false_eq_true, if_false, if_true]

/-- Lease `l` stands as the next one, with its event, and its grant's identity, bond epoch and expiry are kept for it. -/
def Dev.leaseNext (d : Dev) (l : Nat) (g : Rec) : Dev :=
  let d1 := ((d.wr Fld.CIPH_LEASE_NEXT_NUMBER l).wr Fld.CIPH_LEASE_NEXT_VALID 1).eventAt Fld.CIPH_LEASE_EVSEQ_SEQ
  { d1 with ciph := { d1.ciph with nextId := grantId g, nextBond := grantBond g, nextExpiry := grantExpiry g } }

/-- A lease that is neither the active nor the next one is taken if none is next, it is not burned and it lies above what is used; where
the active lease has no values left it becomes active at once. -/
theorem Dev.leaseTake_new (hgrant : d.grantOf l = some g) (hlease : grantLease g = l) (hnext : d.nextValid = false)
    (hunburned : d.ciph.burned.contains l = false) (hgiven : grantExpiry g ≠ 1) (habove : d.activeValid = true → d.activeLease < l)
    (hmark : d.mark ≤ leaseFirst l) :
    d.leaseTake l = if (d.leaseNext l g).valuesLeft = 0 then (d.leaseNext l g).nextLease else d.leaseNext l g := by
  have hother : (d.activeValid && d.activeLease == l) = false := by
    rw [Bool.and_eq_false_imp]
    intro hactive
    exact beq_eq_false_iff_ne.mpr (habove hactive).ne
  have hnewer : (d.activeValid && decide (l ≤ d.activeLease)) = false := by
    rw [Bool.and_eq_false_imp]
    intro hactive
    exact decide_eq_false (Nat.not_le.mpr (habove hactive))
  have hexpiry : (grantExpiry g == 1) = false := beq_eq_false_iff_ne.mpr hgiven
  simp only [Dev.leaseTake, hgrant, hlease, hother, hnewer, hnext, hunburned, hexpiry, Nat.not_lt.mpr hmark, bne_self_eq_false, decide_false,
    Bool.false_and, Bool.or_self, Bool.false_eq_true, if_false]
  rfl

end

/-- The active lease has expired: it is burned, the next one takes its place, and what waits is served from that. -/
theorem Dev.leaseExpiry_burns {valid : Bool} {now : Nat} (hactive : d.activeValid = true) (hnext : d.nextValid = false)
    (hexpired : expired valid now (d.rd Fld.CIPH_LEASE_EXPIRY_SECONDS) = true) :
    d.leaseExpiry valid now = ((d.burnNote d.activeLease).nextLease).forWaiting Dev.nonceServe Dev.libAgain := by
  simp only [Dev.leaseExpiry, hactive, hnext, hexpired, Bool.false_and, Bool.and_self, Bool.false_eq_true, if_false, if_true]

/-- The Warden's answer to a need: LEASE_GRANTS goes up, and the lease of its new value is granted without bond or expiry (R194). -/
def Dev.leaseGranted (d : Dev) : Dev :=
  let d1 := d.nvsNow (.increment 1)
  let l := d1.ctrValue 1
  d1.nvsNow (.record ⟨0, 2, l % 2 ^ 32, grantPayload l d1.ownNonceId 0 0, 0, 0, true, false⟩)

theorem Dev.wardenGrant_answers {w : Rec} (hcommit : d.newestRec 0 3 0 = some w) (hneed : leAt w.payload 16 8 % 2 = 1)
    (hunanswered : d.ciph.answered < w.seq) (hnext : d.nextValid = false) (hmember : d.rd Fld.MTR_EPOCH_MEMBER_ID = 0) (halone : d.enrolled = false)
    (haccepts : d.nvsRefuses (.increment 1) = false) (hfree : d.nvs.frozen = false) (hwhole : d.ctrDamaged 1 = false) :
    d.wardenGrant = ({ d with ciph := { d.ciph with answered := w.seq } } : Dev).leaseGranted := by
  have hworks : (({ d with ciph := { d.ciph with answered := w.seq } } : Dev).nvsRefuses (.increment 1) || d.nvs.frozen ||
      ({ d with ciph := { d.ciph with answered := w.seq } } : Dev).ctrDamaged 1) = false :=
    Bool.or_eq_false_iff.mpr ⟨Bool.or_eq_false_iff.mpr ⟨haccepts, hfree⟩, hwhole⟩
  have hasks : (leAt w.payload 16 8 % 2 == 0) = false := by rw [hneed]; rfl
  simp only [Dev.wardenGrant, hcommit, hasks, Nat.not_le.mpr hunanswered, hnext, hmember, halone, hworks, bne_self_eq_false, decide_false,
    Bool.or_self, Bool.false_eq_true, if_false]
  rfl

end

/-! ## Cores (R187 to R189, R198, R199) -/

section
variable {d : Dev} {c h tk : Nat} {r : Req} {key : List Byte} {attr : Word} {area : List Byte}

/-- Core `c` has taken entry `e`, the request `r`: it has left the queue, and the core holds its key's schedule. -/
def Dev.coreTakes (d : Dev) (c e : Nat) (r : Req) : Dev :=
  { d with ciph := { d.ciph with queue := dequeue d.ciph.queue e, cache := tput (fun _ => none) d.ciph.cache c (some (reqTag r)) } }

/-- A core in service runs the entry that it picks, if the octets that it reads from the input area are there and its slice words are good. -/
theorem Dev.coreDispatch_runs {e : Nat} (par k : Nat) (hcore : d.coreAvailable c = true)
    (hpick : d.pickEntry (tget (fun _ => none) d.ciph.cache c) = some e) (htok : d.queuedTok (e / 16) (e % 16) = some (r, key, attr))
    (hcmd : (d.thr (e / 16)).cmd.isNone = false)
    (harea : r.areaReads 8 = [] ∨ area.length = dInLen (d.thrCmd (e / 16)).desc ∧ d.canSend r.part = true)
    (hgood : d.sliceBad (e / 16) r (blockLen (aAlg attr)) = false) :
    d.coreDispatch c area par k = if par = 0 then (d.coreTakes c e r).coreRun (e / 16) (e % 16) r key attr area par k
      else ((d.coreTakes c e r).coreRun (e / 16) (e % 16) r key attr area par k).coreFault c par := by
  have hread : (!(r.areaReads 8).isEmpty && (area.length != dInLen (d.thrCmd (e / 16)).desc || !d.canSend r.part)) = false := by
    rcases harea with hnone | ⟨hlen, hsend⟩
    · simp [hnone]
    · simp [hlen, hsend]
  simp only [Dev.coreDispatch, hcore, hpick, htok, hcmd, hread, hgood, Bool.not_true, Bool.false_eq_true, if_false]
  rfl

/-- ENCRYPT and DECRYPT deliver what the blocks give. -/
theorem Dev.coreRun_blocks (k : Nat) (heng : r.eng ≠ 4) (hop : r.op ≠ 3) :
    d.coreRun h tk r key attr area 0 k =
      (let x := runBlocks (cipherBlock r key attr (d.thr h) area) r.count 0
       (d.readAreas h r.part (r.areaReads (blockLen (aAlg attr)))).cipherResult h tk r (blockLen (aAlg attr)) x.1 x.2) := by
  simp only [Dev.coreRun, heng, hop, if_false, if_true]

/-- GHASH delivers the accumulator, or the status of the first operand word that stops it. -/
theorem Dev.coreRun_ghash (k : Nat) (heng : r.eng ≠ 4) (hop : r.op = 3) :
    d.coreRun h tk r key attr area 0 k =
      (let t := d.thr h
       let d2 := d.readAreas h r.part (r.areaReads (blockLen (aAlg attr)))
       let x := runGhash r (Config.aesEnc key 0) t area r.count 0 (bytesBv 128 (wordsBytes (r.accIn t))) (anyGlazed (r.accIn t))
       let ws := bytesWords (bvBytes 16 x.1) (if x.2.1 then .glazed else .plain)
       match (badWord (r.accIn t)).or x.2.2 with
       | some st => d2.tokFail h tk r st
       | none => d2.tokDone h tk r ⟨0, ws.getD 0 GWord.zero, ws.getD 1 GWord.zero⟩) := by
  simp only [Dev.coreRun, heng, hop, if_false, if_true]
  rfl

/-! ## Self-tests (R199) -/

theorem Dev.coreTested_passes (htest : (d.rd Fld.CIPH_SELFTEST_SELFTEST).testBit c = true) :
    d.coreTested c true = (d.setBit Fld.CIPH_SELFTEST_SELFTEST c false).setBit Fld.CIPH_AVAIL_AVAIL c true := by
  simp only [Dev.coreTested, htest, Bool.not_true, Bool.false_eq_true, if_false, if_true]

theorem Dev.coreTested_fails (htest : (d.rd Fld.CIPH_SELFTEST_SELFTEST).testBit c = true) :
    d.coreTested c false = (((((d.setBit Fld.CIPH_SELFTEST_SELFTEST c false).wr Fld.CIPH_FAULT_CORE c).wr Fld.CIPH_FAULT_CAUSE 3).wr
      Fld.CIPH_FAULT_PERMANENT 1).eventAt Fld.CIPH_FAULT_EVSEQ_SEQ).setBit Fld.CIPH_RETIRED_RETIRED c true := by
  simp only [Dev.coreTested, htest, Bool.not_true, Bool.false_eq_true, if_false]

end

/-! ## The statement -/

/-- Settles O35: each clause is one rule above, taken from the device to the state. -/
theorem cipherClusterServesRequests : Obligations.CipherClusterServesRequests := by
  rintro s d h tk r rfl
  refine ⟨fun x hx m k d1 hsent hlock hcore hroom hfetch hattr huses hfields => ?enter,
    fun hsent hnew hlock hform hcount => ⟨fun hleft hid hmark => ?issued, fun hleft hid hmark => ?waits, fun hnone => ?refused⟩,
    fun id hop hdone hdurable hactive hmark => ?durable, fun hnone hnext hidle => ?need,
    fun l g hgrant hlease => ⟨fun hactive hheld => ?renewed, fun hnext hunburned hgiven habove hmark _ hleft => ?taken⟩,
    fun hactive hnext hexpired => ?expired,
    fun w hcommit hneed hunanswered hnext hmember halone haccepts hfree hwhole => ?granted,
    fun c e key attr area par k hcore hpick hh htk htok hcmd harea hgood => ?dispatch, fun c htest => ⟨?passes, ?fails⟩⟩
  case enter =>
    rw [exec_cipherEnter hx]
    exact onDev_outcome s (Dev.cipherEnter_passes hsent hlock hcore hroom hfetch hattr huses hfields)
  case issued =>
    rw [exec_nonce]
    exact onDev_outcome s ((Dev.nonce_serve hsent hnew hlock hform hcount).trans (Dev.nonceServe_below hleft hid hmark))
  case waits =>
    rw [exec_nonce]
    exact onDev_outcome s ((Dev.nonce_serve hsent hnew hlock hform hcount).trans (Dev.nonceServe_atMark hleft hid hmark))
  case refused =>
    rw [exec_nonce]
    exact onDev_outcome s ((Dev.nonce_serve hsent hnew hlock hform hcount).trans (Dev.nonceServe_none hnone))
  case durable =>
    rw [exec_windowCommitDurable]
    exact onDev_outcome s (Dev.windowDurable_raises hop hdone hdurable hactive hmark)
  case need =>
    rw [exec_needLeaseRetry]
    exact onDev_outcome s (Dev.needRetry_asks hnone hnext hidle)
  case renewed =>
    rw [exec_leaseTake]
    exact onDev_outcome s (Dev.leaseTake_renewed hgrant hlease hactive hheld)
  case taken =>
    rw [exec_leaseTake]
    exact onDev_outcome s ((Dev.leaseTake_new hgrant hlease hnext hunburned hgiven habove hmark).trans (if_neg hleft))
  case expired =>
    rw [exec_leaseExpiry]
    exact onDev_outcome s (Dev.leaseExpiry_burns hactive hnext hexpired)
  case granted =>
    rw [exec_wardenLeaseGrant]
    exact onDev_outcome s (Dev.wardenGrant_answers hcommit hneed hunanswered hnext hmember halone haccepts hfree hwhole)
  case dispatch =>
    subst hh htk
    have hrule := Dev.coreDispatch_runs par k hcore hpick htok hcmd harea hgood
    simp only [exec_coreDispatch]
    refine ⟨fun hpar heng hop => onDev_outcome s ?_, fun hpar heng hop => onDev_outcome s ?_, fun hpar => onDev_outcome s (hrule.trans (if_neg hpar))⟩
    · subst hpar
      exact hrule.trans (Dev.coreRun_blocks k heng hop)
    · subst hpar
      exact hrule.trans (Dev.coreRun_ghash k heng hop)
  case passes =>
    rw [exec_coreSelftestDone]
    exact onDev_outcome s (Dev.coreTested_passes htest)
  case fails =>
    rw [exec_coreSelftestDone]
    exact onDev_outcome s (Dev.coreTested_fails htest)

end Sys2Proof.Machine
end

section
/-! The hash engines (R204 to R209, R221): how a request enters its queue, what an engine does with the entry it takes, how a unit's self-test
ends, and the statement about the eleven commands. -/

namespace Sys2Proof.Machine

/-! ## The commands -/

/-- The eight commands by which a hash request enters its queue, each with its operation. -/
theorem exec_hashEnter {h tk : Nat} {x : Nat × Instr}
    (hx : x ∈ [(1, Instr.sha256 h tk), (2, .sha384 h tk), (3, .sha512 h tk), (4, .sha3256 h tk), (5, .sha3384 h tk), (6, .sha3512 h tk),
      (7, .shake128 h tk), (8, .shake256 h tk)]) (s : State) : exec x.2 s = onDev s (fun d => d.hashEnter x.1 h tk false) := by
  simp only [List.mem_cons, List.not_mem_nil, or_false] at hx
  obtain rfl | rfl | rfl | rfl | rfl | rfl | rfl | rfl := hx <;> rfl

theorem exec_hashSqueeze (h tk : Nat) (s : State) : exec (.hashSqueeze h tk) s = onDev s (fun d => d.hashSqueezeEnter h tk) := rfl

theorem exec_hashEngineDispatch (u : Nat) (area : List Byte) (bad : Bool) (s : State) :
    exec (.hashEngineDispatch u area bad) s = onDev s (fun d => d.hashDispatch u area bad) := rfl

theorem exec_hpkSelftestDone (u : Nat) (pass : Bool) (s : State) : exec (.hpkSelftestDone u pass) s = onDev s (fun d => d.unitTested u pass) := rfl

/-! ## Queue entry (R205, R207, R208) -/

section
variable {d : Dev} {op h tk : Nat} {r : Req}

/-- A hash request whose checks have passed waits at the end of the queue of its operation's engines. -/
def Dev.hashQueued (d : Dev) (op h tk : Nat) (r : Req) : Dev :=
  let y := d.tokQueue h tk r [] 0
  if op ≤ 3 then { y with hpk := { y.hpk with sha2 := y.hpk.sha2 ++ [16 * h + tk] } }
  else { y with hpk := { y.hpk with sha3 := y.hpk.sha3 ++ [16 * h + tk] } }

theorem Dev.hashEnter_passes {squeeze : Bool} (hsent : d.sentTo 2 op h tk = some r) (hkind : hashSqueeze r = squeeze) (hlock : d.lockStatus = none)
    (hserves : d.hpkServes r = true) (hroom : d.queueFull r = false) (hok : r.hashRefusal (d.thr h) = none) :
    d.hashEnter op h tk squeeze = d.hashQueued op h tk r := by
  simp only [Dev.hashEnter, hsent, hkind, hlock, hserves, hroom, hok, bne_self_eq_false, Bool.not_true, Bool.false_eq_true, if_false, Dev.hashQueued]
  split <;> rfl

/-- A sent request that the DRAM PLL does not hold stands at the engine and the operation that it names. -/
theorem Dev.sentTo_of_sentTok (hsent : d.sentTok h tk = some r) (hruns : d.recordWaits h r = false) : d.sentTo r.eng r.op h tk = some r := by
  simp only [Dev.sentTo, hsent, hruns, decide_true, Bool.not_false, Bool.and_self, if_true]

/-- The operations that a SQUEEZE may name are those of the SHA-3 queue. -/
theorem Dev.hashQueued_shake (hop : r.op = 7 ∨ r.op = 8) :
    d.hashQueued r.op h tk r =
      (let y := d.tokQueue h tk r [] 0
       { y with hpk := { y.hpk with sha3 := y.hpk.sha3 ++ [16 * h + tk] } }) := if_neg (by omega)

theorem Dev.hashSqueezeEnter_passes (hsent : d.sentTok h tk = some r) (heng : r.eng = 2) (hruns : d.recordWaits h r = false)
    (hkind : hashSqueeze r = true) (hlock : d.lockStatus = none) (hserves : d.hpkServes r = true) (hroom : d.queueFull r = false)
    (hok : r.hashRefusal (d.thr h) = none) : d.hashSqueezeEnter h tk = d.hashQueued r.op h tk r := by
  have hat := Dev.sentTo_of_sentTok hsent hruns
  rw [heng] at hat
  simp only [Dev.hashSqueezeEnter, hsent, heng, if_true]
  exact Dev.hashEnter_passes hat hkind hlock hserves hroom hok

/-! ## Engines (R205, R206, R221) -/

/-- Engine `u` has taken the oldest entry of its queue: `rest` is what stays of it. -/
def Dev.hashTakes (d : Dev) (u : Nat) (rest : List Nat) : Dev :=
  { d with hpk := if u ≤ 15 then { d.hpk with sha2 := rest } else { d.hpk with sha3 := rest } }

/-- An engine in service runs the oldest entry of its queue, if the octets that it reads from the input area are there and its slice words are
good. -/
theorem Dev.hashDispatch_runs {u e : Nat} {rest : List Nat} {area key : List Byte} {a : Word} (bad : Bool) (hu : u < 20)
    (hunit : d.unitAvailable u = true) (hqueue : (if u ≤ 15 then d.hpk.sha2 else d.hpk.sha3) = e :: rest)
    (htok : d.queuedTok (e / 16) (e % 16) = some (r, key, a)) (hcmd : (d.thr (e / 16)).cmd.isNone = false)
    (harea : r.srck = 2 → area.length = dInLen (d.thrCmd (e / 16)).desc ∧ d.canSend r.part = true) (hgood : d.sliceBad (e / 16) r 1 = false) :
    d.hashDispatch u area bad = (d.hashTakes u rest).hashRun u (e / 16) (e % 16) r area bad := by
  have hread : (decide (r.srck = 2) && (area.length != dInLen (d.thrCmd (e / 16)).desc || !d.canSend r.part)) = false := by
    rw [Bool.and_eq_false_imp, decide_eq_true_eq]
    intro hsrc
    obtain ⟨hlen, hsend⟩ := harea hsrc
    simp [hlen, hsend]
  simp only [Dev.hashDispatch, Nat.not_le.mpr hu, hunit, hqueue, htok, hcmd, hread, hgood, decide_false, Bool.not_true, Bool.or_self,
    Bool.false_eq_true, if_false]
  rfl

/-- The reads of the request's source have left, where the source lies in the input area. -/
abbrev Dev.hashReads (d : Dev) (h : Nat) (r : Req) : Dev :=
  if r.srck = 2 && r.count != 0 then d.readAreas h r.part [(r.srcOff, r.count)] else d

/-- The slice words of the request's message. -/
abbrev Req.hashSrc (r : Req) (t : Thr) : List GWord := if r.srck = 1 then sliceWords t r.srcOff r.count else []

/-- The message octets of the request: of the slice, of the input area, or none. -/
abbrev Req.hashMsg (r : Req) (t : Thr) (area : List Byte) : List Byte :=
  if r.srck = 1 then (wordsBytes (r.hashSrc t)).take r.count else if r.srck = 2 then slice area r.srcOff r.count else []

/-- A comparison that fails ends the request, and the engine leaves service. -/
theorem Dev.hashRun_faults (u : Nat) (area : List Byte) :
    d.hashRun u h tk r area true = ((d.hashReads h r).tokFail h tk r 0x0601).unitFault u 4 := rfl

/-- With no unusable word the new state area goes to the slice. -/
theorem Dev.hashRun_writes (u : Nat) (area : List Byte)
    (hgood : badWord (r.hashSrc (d.thr h) ++ (if hashFirst r then [] else sliceWords (d.thr h) r.dstOff 256)) = none) :
    d.hashRun u h tk r area false =
      ((d.hashReads h r).toSlice h r.dstOff (bytesWords (hashState r (d.thr h) (r.hashMsg (d.thr h) area))
        (if anyGlazed (r.hashSrc (d.thr h) ++ sliceWords (d.thr h) r.dstOff 256) then .glazed else .plain))).tokDone h tk r
          ⟨0, .plain 256, GWord.zero⟩ := by
  simp only [Dev.hashRun, Bool.false_eq_true, if_false, hgood]
  rfl

/-! ## Self-tests (R221) -/

theorem Dev.unitTested_passes {u : Nat} (htest : (d.rd Fld.HPK_SELFTEST_SELFTEST).testBit u = true) :
    d.unitTested u true = (d.setBit Fld.HPK_SELFTEST_SELFTEST u false).setBit Fld.HPK_AVAIL_AVAIL u true := by
  simp only [Dev.unitTested, htest, Bool.not_true, Bool.false_eq_true, if_false, if_true]

theorem Dev.unitTested_fails {u : Nat} (htest : (d.rd Fld.HPK_SELFTEST_SELFTEST).testBit u = true) :
    d.unitTested u false = (((((d.setBit Fld.HPK_SELFTEST_SELFTEST u false).wr Fld.HPK_FAULT_UNIT u).wr Fld.HPK_FAULT_CAUSE 6).wr
      Fld.HPK_FAULT_PERMANENT 1).eventAt Fld.HPK_FAULT_EVSEQ_SEQ).setBit Fld.HPK_RETIRED_RETIRED u true := by
  simp only [Dev.unitTested, htest, Bool.not_true, Bool.false_eq_true, if_false]
  rfl

end

/-! ## The statement -/

/-- Settles O36: each clause is one rule above, taken from the device to the state. -/
theorem hashRequestsAreQueuedAndRun : Obligations.HashRequestsAreQueuedAndRun := by
  rintro s d h tk r rfl
  refine ⟨fun x hx hsent hkind hlock hserves hroom hok => ?enter, fun hsent heng hop hruns hkind hlock hserves hroom hok => ?squeeze,
    fun u area e rest key a hu hunit hqueue hh htk htok hcmd harea hgood => ?dispatch, fun u htest => ⟨?passes, ?fails⟩⟩
  case enter =>
    rw [exec_hashEnter hx]
    exact onDev_outcome s (Dev.hashEnter_passes hsent hkind hlock hserves hroom hok)
  case squeeze =>
    rw [exec_hashSqueeze]
    exact onDev_outcome s ((Dev.hashSqueezeEnter_passes hsent heng hruns hkind hlock hserves hroom hok).trans (Dev.hashQueued_shake hop))
  case dispatch =>
    subst hh htk
    have hrule (bad : Bool) := Dev.hashDispatch_runs bad hu hunit hqueue htok hcmd harea hgood
    simp only [exec_hashEngineDispatch]
    refine ⟨onDev_outcome s ((hrule true).trans (Dev.hashRun_faults u area)), fun husable => onDev_outcome s ?_⟩
    exact (hrule false).trans (Dev.hashRun_writes u area husable)
  case passes =>
    rw [exec_hpkSelftestDone]
    exact onDev_outcome s (Dev.unitTested_passes htest)
  case fails =>
    rw [exec_hpkSelftestDone]
    exact onDev_outcome s (Dev.unitTested_fails htest)

end Sys2Proof.Machine
end

section
/-! The public-key and lattice engine (R204, R210 to R217, R219 to R221): how a request enters its queue, what a unit does with the entry it
takes, when its clock is gated, and the statement about the twenty commands. -/

namespace Sys2Proof.Machine

/-! ## The commands -/

/-- The seventeen commands by which a request enters a queue of the PKL engine, each with its operation. -/
theorem exec_pklEnter {h tk m : Nat} {x : Nat × Instr}
    (hx : x ∈ [(0x01, Instr.pklRsaPrivate h tk m), (0x02, .pklRsaPublic h tk m), (0x03, .pklEcdsaSign h tk m), (0x04, .pklEcdsaVerify h tk m),
      (0x05, .pklEcKeyGeneration h tk m), (0x06, .pklEcdh h tk m), (0x07, .pklEd25519Sign h tk m), (0x08, .pklEd25519Verify h tk m),
      (0x09, .pklX25519 h tk m), (0x0A, .pklMlkemKeyGeneration h tk m), (0x0B, .pklMlkemEncapsulation h tk m),
      (0x0C, .pklMlkemDecapsulation h tk m), (0x0D, .pklMldsaSign h tk m), (0x0E, .pklMldsaVerify h tk m), (0x10, .pklRawModularMultiply h tk m),
      (0x11, .pklRawNtt h tk m), (0x12, .pklRawInverseNtt h tk m)]) (s : State) : exec x.2 s = onDev s (fun d => d.pklEnter x.1 h tk m) := by
  simp only [List.mem_cons, List.not_mem_nil, or_false] at hx
  obtain rfl | rfl | rfl | rfl | rfl | rfl | rfl | rfl | rfl | rfl | rfl | rfl | rfl | rfl | rfl | rfl | rfl := hx <;> rfl

theorem exec_pklUnitDispatch (u : Nat) (area : List Byte) (cause : Nat) (s : State) :
    exec (.pklUnitDispatch u area cause) s = onDev s (fun d => d.pklDispatch u area cause) := rfl

theorem exec_pklClockGate (s : State) : exec .pklClockGate s = onDev s (fun d => d.pklGate) := rfl

theorem exec_pklClockRestart (s : State) : exec .pklClockRestart s = onDev s (fun d => d.pklRestart) := rfl

section
variable {d d1 d2 : Dev} {op h tk : Nat} {r : Req}

/-! ## Queue entry (R210 to R212, R215) -/

/-- A request whose checks have passed against key `k` takes a use of it, waits at the end of the queue of its operation's units, and asks for
the clock where it is gated. -/
def Dev.pklQueued (d : Dev) (op h tk : Nat) (r : Req) (k : KeyRef) : Dev :=
  let y := (d.takeUse k).tokQueue h tk r k.key k.attr
  let wake := y.hpk.restarting || y.bit Fld.HPK_STATUS_PKL_GATED
  if laneOp op then { y with hpk := { y.hpk with lane := y.hpk.lane ++ [16 * h + tk], restarting := wake } }
  else { y with hpk := { y.hpk with ntt := y.hpk.ntt ++ [16 * h + tk], restarting := wake } }

theorem Dev.pklEnter_passes {m : Nat} {k : KeyRef} (hsent : d.sentTo 3 op h tk = some r) (hlock : d.lockStatus = none)
    (hserves : d.hpkServes r = true) (hroom : d.queueFull r = false) (hkey : d.pklKey h r (m % 512) = (d1, .ok k))
    (hgood : d.sliceBad h r 1 = false) (hok : r.pklRefusal (d.thr h) (d.thrCmd h) = none)
    (hwords : badWord ((sliceWords (d.thr h) r.srcOff r.count).drop (if pklTargeted op then 1 else 0)) = none)
    (htarget : (if pklTargeted op then d1.targetCheck r.part (pklHdr (d.thr h) r.srcOff).target.data (m / 512) else (d1, none)) = (d2, none)) :
    d.pklEnter op h tk m = d2.pklQueued op h tk r k := by
  simp only [Dev.pklEnter, hsent, hlock, hserves, hroom, hkey, hgood, hok, hwords, htarget, Bool.not_true, Bool.false_eq_true, if_false,
    Dev.pklQueued]
  split <;> rfl

/-! ## A unit takes an entry (R210) -/

/-- The queue that unit `u` serves loses its oldest entry: `rest` is what stays of it. -/
def Dev.pklDequeues (d : Dev) (u : Nat) (rest : List Nat) : Dev :=
  { d with hpk := if u ≤ 27 then { d.hpk with lane := rest } else { d.hpk with ntt := rest } }

/-- Unit `u` has taken the oldest entry; where none is left, GATE_IDLE reaches its change boundary. -/
def Dev.pklTakes (d : Dev) (u : Nat) (rest : List Nat) : Dev :=
  let y := d.pklDequeues u rest
  if y.hpk.lane.isEmpty && y.hpk.ntt.isEmpty then y.boundary Fld.HPK_CFG_GATE_IDLE.reg else y

/-- The request's message lies in the input area. -/
def Req.pklReads (r : Req) (t : Thr) : Bool := (pklHdr t r.srcOff).msgSrc == 1 && pklMessage r.op

/-- The message octets that come from the input area. -/
def Req.pklMsg (r : Req) (t : Thr) (area : List Byte) : List Byte :=
  if r.pklReads t then slice area (pklHdr t r.srcOff).msgOff (pklHdr t r.srcOff).msgLen else []

/-- The unit has taken the entry of request `r` of thread `h`, and the read of its message has left, where it lies in the input area. -/
def Dev.pklStarts (d : Dev) (u : Nat) (rest : List Nat) (h : Nat) (r : Req) : Dev :=
  let p := pklHdr (d.thr h) r.srcOff
  if r.pklReads (d.thr h) then (d.pklTakes u rest).readAreas h r.part [(p.msgOff, p.msgLen)] else d.pklTakes u rest

@[simp] theorem Dev.readAreas_thr (k part : Nat) (rs : List (Nat × Nat)) : (d.readAreas k part rs).thr h = d.thr h := by
  induction rs generalizing d with
  | nil => rfl
  | cons p rs ih => exact ih

@[simp] theorem Dev.readAreas_thrCmd (k part : Nat) (rs : List (Nat × Nat)) : (d.readAreas k part rs).thrCmd h = d.thrCmd h := by
  induction rs generalizing d with
  | nil => rfl
  | cons p rs ih => exact ih

@[simp] theorem Dev.pklTakes_thr (u : Nat) (rest : List Nat) : (d.pklTakes u rest).thr h = d.thr h := by
  simp only [Dev.pklTakes]
  split <;> rfl

@[simp] theorem Dev.pklTakes_thrCmd (u : Nat) (rest : List Nat) : (d.pklTakes u rest).thrCmd h = d.thrCmd h := by
  simp only [Dev.pklTakes]
  split <;> rfl

@[simp] theorem Dev.pklStarts_thr (u : Nat) (rest : List Nat) (k : Nat) : (d.pklStarts u rest k r).thr h = d.thr h := by
  simp only [Dev.pklStarts]
  split <;> simp

@[simp] theorem Dev.pklStarts_thrCmd (u : Nat) (rest : List Nat) (k : Nat) : (d.pklStarts u rest k r).thrCmd h = d.thrCmd h := by
  simp only [Dev.pklStarts]
  split <;> simp

/-- The operand block that is in order when the unit takes the entry is the one that it reads. -/
theorem Dev.pklStarts_reread (u : Nat) (rest : List Nat) (hblock : r.pklReread (d.thr h) (d.thrCmd h) = none) :
    r.pklReread ((d.pklStarts u rest h r).thr h) ((d.pklStarts u rest h r).thrCmd h) = none := by
  rwa [Dev.pklStarts_thr, Dev.pklStarts_thrCmd]

section
variable {u e : Nat} {rest : List Nat} {area key : List Byte} {a : Word} (hu : 20 ≤ u) (hmax : u < 32) (hunit : d.unitAvailable u = true)
  (hclock : d.bit Fld.HPK_STATUS_PKL_GATED = false) (hqueue : (if u ≤ 27 then d.hpk.lane else d.hpk.ntt) = e :: rest)
  (htok : d.queuedTok (e / 16) (e % 16) = some (r, key, a)) (hcmd : (d.thr (e / 16)).cmd.isNone = false) (hdram : d.xks.waiting = false)
  (hgood : d.sliceBad (e / 16) r 1 = false)
  (harea : r.pklReads (d.thr (e / 16)) = true → area.length = dInLen (d.thrCmd (e / 16)).desc ∧ d.canSend r.part = true)
include hu hmax hunit hclock hqueue htok hcmd hdram hgood harea

/-- A unit in service, its clock running, takes up the oldest entry of its queue, if the octets that it reads from the input area are there and
its slice words are good: it finds a fault, or it computes once the randomness that the operation draws is there. -/
theorem Dev.pklDispatch_takes (cause : Nat) :
    d.pklDispatch u area cause =
      if r.pklFaults (d.thr (e / 16)) key (cause % 4) ≠ 0 then
        ((d.pklStarts u rest (e / 16) r).tokFail (e / 16) (e % 16) r stFault).unitFault u (r.pklFaults (d.thr (e / 16)) key (cause % 4))
      else if pklDraws r.op (pklHdr (d.thr (e / 16)) r.srcOff) && d.rngFailed then
        (d.pklStarts u rest (e / 16) r).tokFail (e / 16) (e % 16) r stRngUnavailable
      else if pklDraws r.op (pklHdr (d.thr (e / 16)) r.srcOff) && d.fillWaits then d
      else ((d.pklStarts u rest (e / 16) r).pklRun (e / 16) (e % 16) r key (r.pklMsg (d.thr (e / 16)) area) (cause / 4)).expandKey u r := by
  have hsome : (d.thr (e / 16)).cmd.isSome = true := by rwa [← Option.not_isNone, Bool.not_eq_true']
  have hlo : ¬ u < 20 := Nat.not_lt.mpr hu
  have hreads : ((pklHdr (d.thr (e / 16)) r.srcOff).msgSrc == 1 && pklMessage r.op) = r.pklReads (d.thr (e / 16)) := rfl
  have hread : (r.pklReads (d.thr (e / 16)) && (area.length != dInLen (d.thrCmd (e / 16)).desc || !d.canSend r.part)) = false := by
    rw [Bool.and_eq_false_imp]
    intro hinput
    obtain ⟨hlen, hsend⟩ := harea hinput
    simp [hlen, hsend]
  simp only [Dev.pklDispatch, hlo, Nat.not_le.mpr hmax, hunit, hclock, hqueue, htok, hcmd, hsome, hdram, hgood, hreads, hread, decide_false,
    bne_iff_ne, Bool.and_true, Bool.and_false, Bool.false_and, Bool.not_true, Bool.or_self, Bool.false_eq_true, if_false]
  rfl

/-- A fault that the unit finds ends the request, and the unit leaves service (R219 to R221). -/
theorem Dev.pklDispatch_faults {cause : Nat} (hfault : r.pklFaults (d.thr (e / 16)) key (cause % 4) ≠ 0) :
    d.pklDispatch u area cause =
      ((d.pklStarts u rest (e / 16) r).tokFail (e / 16) (e % 16) r 0x0601).unitFault u (r.pklFaults (d.thr (e / 16)) key (cause % 4)) :=
  (Dev.pklDispatch_takes hu hmax hunit hclock hqueue htok hcmd hdram hgood harea cause).trans (if_pos hfault)

/-- A unit that finds no fault, and whose operation's randomness is there, runs the operation; `m` is what the read of TARGET's record meets. -/
theorem Dev.pklDispatch_runs (m : Nat) (hsound : r.pklFaults (d.thr (e / 16)) key 0 = 0)
    (hdraws : pklDraws r.op (pklHdr (d.thr (e / 16)) r.srcOff) = true → d.rngFailed = false ∧ d.fillWaits = false) :
    d.pklDispatch u area (4 * m) =
      ((d.pklStarts u rest (e / 16) r).pklRun (e / 16) (e % 16) r key (r.pklMsg (d.thr (e / 16)) area) m).expandKey u r := by
  have hfailed : (pklDraws r.op (pklHdr (d.thr (e / 16)) r.srcOff) && d.rngFailed) = false := by
    rw [Bool.and_eq_false_imp]
    exact fun hdraw => (hdraws hdraw).1
  have hwaits : (pklDraws r.op (pklHdr (d.thr (e / 16)) r.srcOff) && d.fillWaits) = false := by
    rw [Bool.and_eq_false_imp]
    exact fun hdraw => (hdraws hdraw).2
  rw [Dev.pklDispatch_takes hu hmax hunit hclock hqueue htok hcmd hdram hgood harea, Nat.mul_mod_right, Nat.mul_div_cancel_left m (by decide)]
  simp only [hsound, hfailed, hwaits, ne_eq, not_true_eq_false, Bool.false_eq_true, if_false]

end

/-! ## The operation (R212, R213, R215, R216) -/

/-- The operation's randomness is drawn, if it draws any. -/
def Dev.pklDrawn (d : Dev) (r : Req) (p : PklHdr) : Dev := if pklDraws r.op p then d.draw 1 1 66 else d

/-- What a computed operation with TARGET ends with: the secret stands in the record under its new generation, and the handle goes to the slice
before the public part. -/
def Dev.pklInstalls (d : Dev) (h tk : Nat) (r : Req) (p : PklHdr) (ws : List GWord) (out : List Byte) : Dev :=
  let i := hRec p.target.data
  let sl := secretLen r.op r.mode
  let n := pklResLen r.op r.mode p.limbs
  let y := d.install i (installAttr r.op r.mode r.part p.usage) (slice out 0 sl)
  (y.toSlice h r.dstOff (.fresh (mkHandle 2 i (y.xrec i).gen) .handle :: bytesWords (slice out sl (n - 8)) (pklTag r.op ws))).tokDone h tk r
    (okBytes n)

/-- What becomes of the octets that an operation gives: ST_FORMAT where it gives none; else they are delivered as they are, or the key among them
is installed in the record that TARGET names, if that is still the partition's at its generation. -/
def Dev.pklAnswers (d : Dev) (h tk : Nat) (r : Req) (p : PklHdr) (ws : List GWord) (m : Nat) : Option (List Byte) → Dev
  | none => d.tokFail h tk r 0x0303
  | some out =>
    let n := pklResLen r.op r.mode p.limbs
    if pklTargeted r.op = false then d.deliver h tk r (bytesWords (slice out 0 n) (pklTag r.op ws)) n
    else match d.targetCheck r.part p.target.data m with
      | (d, some st) => d.tokFail h tk r st
      | (d, none) => d.pklInstalls h tk r p ws out

/-- An operand block that is still in order when the unit reads it decides with the key, the message and the randomness what the operation
gives. -/
theorem Dev.pklRun_computes {key msg : List Byte} {m : Nat} (hblock : r.pklReread (d.thr h) (d.thrCmd h) = none) :
    d.pklRun h tk r key msg m =
      (let p := pklHdr (d.thr h) r.srcOff
       let ws := sliceWords (d.thr h) r.srcOff r.count
       (d.pklDrawn r p).pklAnswers h tk r p ws m (pklCompute r.op r.mode ((wordsBytes ws).take r.count ++ msg) key
         (if pklDraws r.op p then Config.freeBytes ((d.pklDrawn r p).nfree - 1) 66 else []))) := by
  unfold Dev.pklRun
  simp only [hblock, Dev.pklDrawn]
  generalize (if pklDraws r.op (pklHdr (d.thr h) r.srcOff) then d.draw 1 1 66 else d) = y
  generalize pklCompute r.op r.mode _ key _ = res
  cases res with
  | none => rfl
  | some out =>
    simp only [Dev.pklAnswers]
    cases pklTargeted r.op with
    | false => rfl
    | true =>
      obtain ⟨z, st⟩ := y.targetCheck r.part (pklHdr (d.thr h) r.srcOff).target.data m
      cases st <;> rfl

/-! ## The clock (R210) -/

theorem Dev.pklGate_gates (hlane : d.hpk.lane = []) (hntt : d.hpk.ntt = []) (hidle : d.eff Fld.HPK_CFG_GATE_IDLE ≠ 0) :
    d.pklGate = d.wr Fld.HPK_STATUS_PKL_GATED 1 := if_pos (by simp [hlane, hntt, hidle])

theorem Dev.pklRestart_restarts (hwaits : d.hpk.restarting = true) :
    d.pklRestart = { d.wr Fld.HPK_STATUS_PKL_GATED 0 with hpk := { d.hpk with restarting := false } } := if_pos hwaits

end

/-! ## The statement -/

/-- Settles O37: each clause is one rule above, taken from the device to the state. -/
theorem pklRequestsAreQueuedAndRun : Obligations.PklRequestsAreQueuedAndRun := by
  rintro s d h tk r rfl
  refine ⟨fun m x hx k d1 d2 hsent hlock hserves hroom hkey hgood hok hwords htarget => ?enter,
    fun u area e rest key a p hu hmax hunit hclock hqueue hh htk htok hp hcmd hdram hgood harea => ?dispatch,
    fun hlane hntt hidle => ?gate, fun hwaits => ?restart⟩
  case enter =>
    rw [exec_pklEnter hx]
    exact onDev_outcome s (Dev.pklEnter_passes hsent hlock hserves hroom hkey hgood hok hwords htarget)
  case dispatch =>
    subst hh htk hp
    simp only [exec_pklUnitDispatch]
    refine ⟨fun cause f hf hfault => onDev_outcome s ?_, fun m hsound hblock hdraws => onDev_outcome s ?_⟩
    · subst hf
      exact Dev.pklDispatch_faults hu hmax hunit hclock hqueue htok hcmd hdram hgood harea hfault
    · exact (Dev.pklDispatch_runs hu hmax hunit hclock hqueue htok hcmd hdram hgood harea m hsound hdraws).trans
        (congrArg (Dev.expandKey · u r) (Dev.pklRun_computes (Dev.pklStarts_reread u rest hblock)))
  case gate =>
    rw [exec_pklClockGate]
    exact onDev_outcome s (Dev.pklGate_gates hlane hntt hidle)
  case restart =>
    rw [exec_pklClockRestart]
    exact onDev_outcome s (Dev.pklRestart_restarts hwaits)

end Sys2Proof.Machine
end

section
/-! The key vault (R16, R232, R236, R241 to R249, R421): how a derivation is sent and stepped, what key requests ask of the vault, how a change is
staged, becomes visible and drains, how faulted slots and root keys are made good, and the statement about the thirteen commands. -/

namespace Sys2Proof.Machine

/-! ## The commands -/

section
variable (s : State)

theorem exec_deriveValue (h tk m : Nat) : exec (.deriveValue h tk m) s = onDev s (fun d => d.derive true h tk m) := rfl
theorem exec_deriveHandle (h tk m : Nat) : exec (.deriveHandle h tk m) s = onDev s (fun d => d.derive false h tk m) := rfl
theorem exec_info (h tk m : Nat) : exec (.info h tk m) s = onDev s (fun d => d.info h tk m) := rfl
theorem exec_keyGenerate : exec .keyGenerate s = onChip s (fun c => c.keyGenerate) := rfl
theorem exec_keyDelete : exec .keyDelete s = onChip s (fun c => c.keyDelete) := rfl
theorem exec_keySetAttr : exec .keySetAttr s = onChip s (fun c => c.keySetAttr) := rfl
theorem exec_keyQuery : exec .keyQuery s = onChip s (fun c => c.keyQuery) := rfl
theorem exec_vaultStaging (e : Nat) : exec (.vaultStaging e) s = onChip s (fun c => c.staging e) := rfl
theorem exec_vaultCommitVisible (e : Nat) : exec (.vaultCommitVisible e) s = onChip s (fun c => c.commitVisible e) := rfl
theorem exec_retiringCopyDrain (e : Nat) : exec (.retiringCopyDrain e) s = onDev s (fun d => d.vaultDrain e) := rfl
theorem exec_faultedSlotClear (slot : Nat) : exec (.faultedSlotClear slot) s = onDev s (fun d => d.faultedClear slot) := rfl
theorem exec_rootRederivation : exec .rootRederivation s = onDev s (fun d => d.rederiveNow) := rfl
theorem exec_vaultDerivation : exec .vaultDerivation s = onChip s (fun c => c.vaultDerivation) := rfl

end

/-! ## Derivation and INFO (R16, R245, R246, R248) -/

section
variable {d d1 : Dev} {h tk : Nat} {r : Req} {key : List Byte} {attr : Word}

/-- A derivation of `n` steps waits at the end of the cipher queue for its first one. -/
def Dev.deriveQueued (d : Dev) (h tk : Nat) (r : Req) (key : List Byte) (attr : Word) (n : Nat) : Dev :=
  let x := d.tokQueue h tk r key attr
  { x with ciph := { x.ciph with queue := x.ciph.queue ++ [(16 * h + tk, 0)], steps := tput (fun _ => 0) x.ciph.steps (16 * h + tk) n } }

/-- A derivation that needs no step is done at once; any other enters the cipher queue, where a core serves the block. -/
theorem Dev.deriveSend_sends {n : Nat} (hn : n = deriveSteps (r.mode % 16) ((wordsBytes [r.rb, r.rb1]).take r.count))
    (hserved : n ≠ 0 → d.blockHeld 1 = false ∧ d.noCore = false) :
    d.deriveSend h tk r key attr = if n = 0 then d.deriveDone h tk r key attr else d.deriveQueued h tk r key attr n := by
  subst hn
  by_cases hnone : deriveSteps (r.mode % 16) ((wordsBytes [r.rb, r.rb1]).take r.count) = 0
  · rw [Dev.deriveSend, if_pos hnone, if_pos hnone]
  · obtain ⟨hheld, hcore⟩ := hserved hnone
    simp only [Dev.deriveSend, hnone, hheld, hcore, Bool.false_eq_true, if_false]
    rfl

/-- A derivation whose checks have passed against key `k` takes a use of it and is sent. -/
theorem Dev.derive_passes {value : Bool} {m : Nat} {k : KeyRef} (hsent : d.sentTo 4 (if value then 1 else 2) h tk = some r)
    (hlock : d.lockStatus = none) (hroom : d.ciph.queue.length < 4096) (hfetch : d.keyFetch h r.part r.key m = (d1, .ok k))
    (husage : aUsage k.attr = 3) (hok : r.deriveRefusal (aAlg k.attr) (aGlaze k.attr) value (d1.scopedFull h) = none)
    (huses : usesLeft k.attr = true) : d.derive value h tk m = (d1.takeUse k).deriveSend h tk r k.key k.attr := by
  have hderives : (aUsage k.attr != useDerive) = false := by rw [husage]; rfl
  simp only [Dev.derive, hsent, hlock, Nat.not_le.mpr hroom, hfetch, hderives, hok, huses, Bool.not_true, Bool.false_eq_true, if_false]

/-- A core that takes up a derivation runs one step of it. -/
theorem Dev.coreRun_derives (area : List Byte) (k : Nat) (heng : r.eng = 4) (hareas : r.areaReads (blockLen (aAlg attr)) = []) :
    d.coreRun h tk r key attr area 0 k = d.deriveStepped h tk r key attr := by
  simp only [Dev.coreRun, heng, hareas, if_true]
  rfl

theorem Dev.deriveDone_value (hop : r.op = 1) :
    d.deriveDone h tk r key attr =
      (let out := (deriveBytes (r.mode % 16) (aAlg attr) key ((wordsBytes [r.rb, r.rb1]).take r.count)).take 16
       let ws := bytesWords (slice out 0 16) .glazed
       d.tokDone h tk r ⟨0, ws.getD 0 GWord.zero, if out.length ≤ 8 then .fresh 0 .glazed else ws.getD 1 GWord.zero⟩) := if_pos hop

theorem Dev.deriveDone_handle {i : Nat} (hop : r.op = 2) (hfree : d.scopedFree h = some i) :
    d.deriveDone h tk r key attr = d.installChild h tk r key attr i := by
  simp only [Dev.deriveDone, hop, hfree, OfNat.ofNat_ne_one, if_false]

/-- A TDEA child of equal halves is refused; any other takes its entry under a new generation. -/
theorem Dev.installChild_eq {i alg gen : Nat} {data child : List Byte} (hdata : data = (wordsBytes [r.rb, r.rb1]).take r.count)
    (halg : alg = childAlg (r.mode % 16) (aAlg attr) data)
    (hchild : child = storedKey alg ((deriveBytes (r.mode % 16) (aAlg attr) key data).take (algBytes alg))) (hgen : gen = ((d.slot i).gen + 1) % 2 ^ 16) :
    d.installChild h tk r key attr i =
      if alg = 4 ∧ tdeaEqual child = true then d.tokFail h tk r 0x0203
      else
        let a := BitVec.ofNat 64 (alg + r.mode / 16 * 2 ^ 8 + (childGlaze (r.mode % 16) data).toNat * 2 ^ 10 + 2 ^ 14 + 2 ^ 15 + aPart attr * 2 ^ 16)
        (d.setSlot i ⟨child, a, gen, keyCheckValue alg child⟩).tokDone h tk r ⟨0, .fresh (mkHandle 1 i gen) .handle, GWord.zero⟩ := by
  subst hdata halg hchild hgen
  simp only [Dev.installChild, Bool.and_eq_true, beq_iff_eq]
  rfl

theorem Dev.info_passes {m : Nat} {k : KeyRef} (hsent : d.sentTo 4 3 h tk = some r) (hlock : d.lockStatus = none)
    (hfetch : d.keyFetch h r.part r.key m = (d1, .ok k)) (hform : r.formOk [0] [0] = true) (hmode : r.mode = 0) (hcount : r.count = 0) :
    d.info h tk m = d1.tokDone h tk r ⟨0, .plain k.attr, .plain (d1.kcvOf k)⟩ := by
  simp only [Dev.info, hsent, hlock, hfetch, hform, hmode, hcount, bne_self_eq_false, Bool.not_true, Bool.or_self, Bool.false_eq_true, if_false]
  rfl

end

/-! ## Key requests (R241 to R244) -/

section
variable {c : Chip} {r : WReq} {slot : Nat} {a : Word} (hslot : slot = hSlot (bytesBv 64 (slice r.params 0 8)))

section
variable (ha : a = ownAttr r.requester (bytesBv 64 (slice r.params 8 8)))

include hslot ha in
theorem Chip.keyGenerate_serves (hs : c.Serves 0x0301 false r) (hcheck : c.dev.keyReqCheck r true true = none) (hload : loadAttrOk slot a = true)
    (hworks : c.dev.rngFailed = false) (hserves : c.dev.rngServes 0 = true) (haudit : c.dev.canAudit = true) :
    c.keyGenerate = (let c1 := c.auditReq r 0
      (c1.change r (mkChange slot r.requester (newKey (aAlg a) c1.dev.nfree) a true (aPersistent (c1.dev.slot slot).attr || aPersistent a) 1)).onDev
        fun d => d.draw 0 2 (algBytes (aAlg a))) := by
  subst hslot ha
  rw [Chip.keyGenerate, Chip.serve_serves hs]
  simp only [hcheck, hload, hworks, hserves, Chip.audited_durable haudit, Bool.not_true, Bool.false_eq_true, if_false]
  rfl

include hslot ha in
theorem Chip.keySetAttr_serves (hs : c.Serves 0x0303 false r) (hcheck : c.dev.keyReqCheck r true true = none)
    (hpresent : aPresent (c.dev.slot slot).attr = true) (hload : loadAttrOk slot a = true) (hallowed : setAttrOk slot (c.dev.slot slot).attr a = true)
    (haudit : c.dev.canAudit = true) :
    c.keySetAttr = (c.auditReq r 0).change r (mkChange slot r.requester (c.dev.slot slot).key a
      (aPersistent (c.dev.slot slot).attr != aPersistent a) (aPersistent (c.dev.slot slot).attr || aPersistent a) 1) := by
  subst hslot ha
  rw [Chip.keySetAttr, Chip.serve_serves hs]
  simp only [hcheck, hpresent, hload, hallowed, Chip.audited_durable haudit, Bool.not_true, Bool.or_self, Bool.false_eq_true, if_false]
  rfl

end

include hslot in
theorem Chip.keyDelete_serves (hs : c.Serves 0x0302 false r) (hcheck : c.dev.keyReqCheck r true false = none)
    (hpresent : aPresent (c.dev.slot slot).attr = true) (haudit : c.dev.canAudit = true) :
    c.keyDelete = (c.auditReq r 0).change r
      (mkChange slot (aPart (c.dev.slot slot).attr) [] 0 true (aPersistent (c.dev.slot slot).attr) 1) := by
  subst hslot
  rw [Chip.keyDelete, Chip.serve_serves hs]
  simp only [hcheck, hpresent, Chip.audited_durable haudit, Bool.not_true, Bool.false_eq_true, if_false]
  rfl

include hslot in
theorem Chip.keyQuery_serves (hs : c.Serves 0x0304 true r) (hcheck : c.dev.keyReqCheck r false false = none) :
    c.keyQuery = c.reply r 0 (c.dev.keyResponse slot) := by
  subst hslot
  rw [Chip.keyQuery, Chip.serve_serves hs]
  simp only [hcheck]
  rfl

end

/-! ## Staging (R236, R237, R389) -/

section
variable {d : Dev} {e : Nat} {v : VStage}

@[simp] theorem Dev.vstage_setVstage_same (d : Dev) (e : Nat) (v : VStage) : (d.setVstage e v).vstage e = v := tget_tput_same _ _ _

/-- An abandoned change leaves its entry free, whatever its source is answered. -/
theorem Dev.vstage_noteAnswer_changeDrop (d : Dev) (e : Nat) (v : VStage) (status : Nat) :
    ((d.changeDrop e).noteAnswer v status).vstage e = VStage.reset := Dev.vstage_setVstage_same d e VStage.reset

theorem Dev.changeGo_volatile (hpersist : v.persist = false) :
    d.changeGo Dev.noteAnswer e v = d.setVstage e { v with phase := .staged } := if_pos (by simp [hpersist])

theorem Dev.changeGo_noKek (hpersist : v.persist = true) (hkek : d.vlt.roots.kek = false) :
    d.changeGo Dev.noteAnswer e v = (d.changeDrop e).noteAnswer v 0x0703 := by
  simp only [Dev.changeGo, hpersist, hkek, Bool.not_true, Bool.not_false, Bool.false_eq_true, if_false, if_true]
  rfl

theorem Dev.changeGo_persistent (hpersist : v.persist = true) (hkek : d.vlt.roots.kek = true) :
    d.changeGo Dev.noteAnswer e v =
      (let x := d.changeRecord e v
       if x.nvs.failed.contains (x.vstage e).op then (x.changeDrop e).noteAnswer v 0x0401 else x) := by
  simp only [Dev.changeGo, hpersist, hkek, Bool.not_true, Bool.false_eq_true, if_false]
  rfl

/-- A change that goes on is not held for the bond. -/
theorem Dev.changeGo_phase (d : Dev) (e : Nat) (v : VStage) : ((d.changeGo Dev.noteAnswer e v).vstage e).phase ≠ .bond := by
  cases hpersist : v.persist with
  | false => simp [Dev.changeGo_volatile hpersist]
  | true =>
    cases hkek : d.vlt.roots.kek with
    | false => simp [Dev.changeGo_noKek hpersist hkek, Dev.vstage_noteAnswer_changeDrop, VStage.reset]
    | true =>
      simp only [Dev.changeGo_persistent hpersist hkek]
      split
      · simp [Dev.vstage_noteAnswer_changeDrop, VStage.reset]
      · simp [Dev.changeRecord]

/-- The oldest waiting change has left the queue: `rest` is what stays of it. -/
def Dev.changeTaken (d : Dev) (rest : List VStage) : Dev := { d with vlt := { d.vlt with waiting := rest } }

section
variable {c : Chip} {rest : List VStage} (hwaits : c.dev.vlt.waiting = v :: rest) (he : e < 4096) (hfree : c.dev.vstageUsed e = false)
include hwaits he hfree

/-- The oldest waiting change takes the free entry, is held or goes on, and PREPARE is answered where the manager's change is now held. -/
theorem Chip.staging_takes {x : Dev}
    (hx : x = if c.dev.bondHolds v then (c.dev.changeTaken rest).setVstage e { v with phase := .bond }
      else (c.dev.changeTaken rest).changeGo Dev.noteAnswer e v) :
    c.staging e = (((if (x.vstage e).phase == .bond && (x.vstage e).origin == 2 then c.onDev fun _ => x.preparedHere e
      else c.onDev fun _ => x).onDev Dev.txNext).answerAll) := by
  have hstaged : c.dev.vaultStaging Dev.noteAnswer c.dev.bondHolds e = x := by
    simp only [hx, Dev.vaultStaging, hwaits, hfree, Nat.not_le.mpr he, decide_false, Bool.or_self, Bool.false_eq_true, if_false]
    rfl
  simp only [Chip.staging, Chip.onDev, hstaged, hfree, Bool.not_false, Bool.true_and]

/-- A change that the bond does not hold goes on at once. -/
theorem Chip.staging_goesOn {x : Dev} (hhold : c.dev.bondHolds v = false) (hgo : (c.dev.changeTaken rest).changeGo Dev.noteAnswer e v = x) :
    c.staging e = (c.onDev fun _ => x.txNext).answerAll := by
  rw [Chip.staging_takes hwaits he hfree rfl, ← hgo]
  simp [hhold, Dev.changeGo_phase, Chip.onDev]

/-- A change of the manager's own requests waits for its transaction. -/
theorem Chip.staging_held (hhold : c.dev.bondHolds v = true) (horigin : v.origin = 1) :
    c.staging e = (c.onDev fun _ => ((c.dev.changeTaken rest).setVstage e { v with phase := .bond }).txNext).answerAll := by
  rw [Chip.staging_takes hwaits he hfree rfl]
  simp [hhold, horigin, Chip.onDev]

/-- A change prepared for the manager is held, and PREPARE is answered. -/
theorem Chip.staging_prepared (hhold : c.dev.bondHolds v = true) (horigin : v.origin = 2) :
    c.staging e = (c.onDev fun _ => (((c.dev.changeTaken rest).setVstage e { v with phase := .bond }).preparedHere e).txNext).answerAll := by
  rw [Chip.staging_takes hwaits he hfree rfl]
  simp [hhold, horigin, Chip.onDev]

end

/-! ## A change becomes visible, and the old material drains (R236) -/

theorem Dev.vaultCommit_ready (hused : d.vstageUsed e = true) (hready : d.changeReady (d.vstage e) = true) :
    d.vaultCommit Dev.noteAnswer e = (d.changeCommit e (d.vstage e)).noteAnswer (d.vstage e) 0 := by
  simp only [Dev.vaultCommit, hused, hready, Bool.not_true, Bool.false_eq_true, if_false, if_true]
  rfl

theorem Chip.commitVisible_ready {c : Chip} (hused : c.dev.vstageUsed e = true) (hready : c.dev.changeReady (c.dev.vstage e) = true) :
    c.commitVisible e =
      (c.onDev fun _ => (c.dev.changeCommit e (c.dev.vstage e)).noteAnswer (c.dev.vstage e) 0).answerAll.onDev Dev.txNext := by
  rw [← Dev.vaultCommit_ready hused hready]
  rfl

theorem Dev.vaultDrain_drains (hv : v = d.vstage e) (hretires : v.phase = .retiring) (hover : d.slotInUse v.slot v.old.gen v.commitSeq = false) :
    d.vaultDrain e =
      (let d1 := d.setVstage e VStage.reset
       { d1 with ciph := { d1.ciph with cache := d1.ciph.cache.filter fun x => match x.2 with | some t => !t.ofSlot v.slot v.old.gen | none => true },
                 hpk := { d1.hpk with ntCache := tmap (fun _ => []) (fun _ l => l.filter fun t => !t.ofSlot v.slot v.old.gen) d1.hpk.ntCache } }) := by
  subst hv
  exact if_neg (by simp [hretires, hover])

/-! ## Faulted slots (R421) -/

/-- A faulted volatile slot that no change concerns yet asks to be emptied. -/
theorem Dev.faultedClear_volatile {i : Nat} (hfault : tget (fun _ => false) d.vlt.faulted i = true)
    (hidle : (d.vlt.waiting ++ d.vlt.staging.map Prod.snd).any (fun v => v.slot == i && v.phase != .retiring) = false)
    (hpersist : aPersistent (d.slot i).attr = false) :
    d.faultedClear i = d.changeAsk (mkChange i (aPart (d.slot i).attr) [] 0 true false 0) := by
  simp only [Dev.faultedClear, hfault, hidle, hpersist, Bool.not_true, Bool.or_self, Bool.false_eq_true, if_false]

/-! ## Root keys (R232, R233, R249) -/

theorem Dev.rederiveNow_rederives (herase : d.tmp.erasing = true ∨ d.tmp.erased = true) (hgone : d.vlt.roots.storage = false) :
    d.rederiveNow = (d.deriveFree.wr Fld.VLT_STATUS_DERIVED 1).wr Fld.VLT_STATUS_BK_PRESENT 0 := by
  have hnow : (d.tmp.erasing || d.tmp.erased) = true := Bool.or_eq_true_iff.mpr herase
  simp only [Dev.rederiveNow, Dev.rederive, hnow, hgone, Bool.false_eq_true, if_false, if_true]

theorem Chip.vaultDerivation_derives {c : Chip} (hstep : c.dev.atStep 6 = true) (hnew : c.dev.bit Fld.VLT_STATUS_DERIVED = false) :
    c.vaultDerivation = c.onDev fun d => (d.vaultDerive (c.lifecycle == 4) c.bd.bk d.plt.fresh).setStep 7 := by
  simp only [Chip.vaultDerivation, Chip.onDev, hstep, hnew, Bool.not_true, Bool.false_eq_true, if_false]

end

/-! ## The statement -/

/-- Settles O38: each clause is one rule above, taken from the device or the chip to the state. -/
theorem vaultRequestsAndChangesTakeEffect : Obligations.VaultRequestsAndChangesTakeEffect := by
  rintro s c d rfl rfl
  refine ⟨fun h tk m r k d1 data n hlock hroom hfetch hdata husage huses hn hserved => ⟨fun hsent hok => ?value, fun hsent hok => ?handle⟩,
    fun q e h tk r key attr area k hcore hpick hh htk htok hcmd heng hnone hareas hgood => ?step,
    fun x h tk r key attr data hdata => ⟨fun hop => ?doneValue, fun i alg child gen hop hfree halg hchild hgen => ?doneHandle⟩,
    fun h tk m r k d1 hsent hlock hfetch hform hmode hcount => ?info,
    fun r slot a hslot ha => ⟨fun hs hcheck hload hworks hserves haudit => ?generate, fun hs hcheck hpresent haudit => ?delete,
      fun hs hcheck hpresent hload hallowed haudit => ?setAttr, fun hs hcheck => ?query⟩,
    fun e v rest hwaits he hfree => ⟨fun hhold hpersist => ?volatile, fun hhold hpersist hkek => ?noKek, fun hhold hpersist hkek => ?persistent,
      fun hhold horigin => ?held, fun hhold horigin => ?prepared⟩,
    fun e v hv hused hready => ?visible, fun e v hv hretires hover => ?drains, fun i hfault hidle hpersist => ?faulted,
    fun herase hgone => ?rederived, fun hstep hnew => ?derived⟩
  case value =>
    rw [exec_deriveValue]
    subst hdata
    exact onDev_outcome s ((Dev.derive_passes hsent hlock hroom hfetch husage hok huses).trans (Dev.deriveSend_sends hn hserved))
  case handle =>
    rw [exec_deriveHandle]
    subst hdata
    exact onDev_outcome s ((Dev.derive_passes hsent hlock hroom hfetch husage hok huses).trans (Dev.deriveSend_sends hn hserved))
  case step =>
    subst hh htk
    have hrule := (Dev.coreDispatch_runs (area := area) 0 k hcore hpick htok hcmd (.inl hnone) hgood).trans (if_pos rfl)
    rw [exec_coreDispatch]
    refine onDev_outcome s (hrule.trans ((Dev.coreRun_derives area k heng hareas).trans ?_))
    rw [Dev.deriveStepped, Nat.div_add_mod]
    rfl
  case doneValue =>
    subst hdata
    exact Dev.deriveDone_value hop
  case doneHandle => exact (Dev.deriveDone_handle hop hfree).trans (Dev.installChild_eq hdata halg hchild hgen)
  case info =>
    rw [exec_info]
    exact onDev_outcome s (Dev.info_passes hsent hlock hfetch hform hmode hcount)
  case generate =>
    rw [exec_keyGenerate]
    exact onChip_next s (Chip.keyGenerate_serves hslot ha hs hcheck hload hworks hserves haudit)
  case delete =>
    rw [exec_keyDelete]
    exact onChip_next s (Chip.keyDelete_serves hslot hs hcheck hpresent haudit)
  case setAttr =>
    rw [exec_keySetAttr]
    exact onChip_next s (Chip.keySetAttr_serves hslot ha hs hcheck hpresent hload hallowed haudit)
  case query =>
    rw [exec_keyQuery]
    exact onChip_next s (Chip.keyQuery_serves hslot hs hcheck)
  case volatile =>
    rw [exec_vaultStaging]
    exact onChip_next s (Chip.staging_goesOn hwaits he hfree hhold (Dev.changeGo_volatile hpersist))
  case noKek =>
    rw [exec_vaultStaging]
    exact onChip_next s (Chip.staging_goesOn hwaits he hfree hhold (Dev.changeGo_noKek hpersist hkek))
  case persistent =>
    rw [exec_vaultStaging]
    exact onChip_next s (Chip.staging_goesOn hwaits he hfree hhold (Dev.changeGo_persistent hpersist hkek))
  case held =>
    rw [exec_vaultStaging]
    exact onChip_next s (Chip.staging_held hwaits he hfree hhold horigin)
  case prepared =>
    rw [exec_vaultStaging]
    exact onChip_next s (Chip.staging_prepared hwaits he hfree hhold horigin)
  case visible =>
    subst hv
    rw [exec_vaultCommitVisible]
    exact onChip_next s (Chip.commitVisible_ready hused hready)
  case drains =>
    rw [exec_retiringCopyDrain]
    exact onDev_outcome s (Dev.vaultDrain_drains hv hretires hover)
  case faulted =>
    rw [exec_faultedSlotClear]
    exact onDev_outcome s (Dev.faultedClear_volatile hfault hidle hpersist)
  case rederived =>
    rw [exec_rootRederivation]
    exact onDev_outcome s (Dev.rederiveNow_rederives herase hgone)
  case derived =>
    rw [exec_vaultDerivation]
    refine onChip_outcome s ((Chip.vaultDerivation_derives hstep hnew).trans ?_)
    simp only [Dev.vaultDerive, Bool.not_eq_true']
    rfl

end Sys2Proof.Machine
end

section
/-! The noise path (R268 to R274): what a health-test failure, the end of a start-up test, the retest timer and a conditioned block do, when an
instance has its entropy and what it takes, when a reseed is asked for, and the statement about the eight commands. -/

namespace Sys2Proof.Machine

/-! ## The commands -/

section
variable (s : State)

theorem exec_repetitionCountFail (src : Nat) : exec (.repetitionCountFail src) s = onDev s (fun d => d.sourceFail src 1) := rfl
theorem exec_adaptiveProportionFail (src : Nat) : exec (.adaptiveProportionFail src) s = onDev s (fun d => d.sourceFail src 2) := rfl
theorem exec_startupTestDone (test sources : Nat) : exec (.startupTestDone test sources) s = onDev s (fun d => d.startupDone test sources) := rfl
theorem exec_retestTimerExpiry : exec .retestTimerExpiry s = onDev s (fun d => d.retestTimer) := rfl
theorem exec_conditionedBlock : exec .conditionedBlock s = onDev s (fun d => d.conditioned) := rfl
theorem exec_drbgInstantiateDone (i : Nat) (raw : List Bool) :
    exec (.drbgInstantiateDone (i, raw)) s = onDev s (fun d => d.instantiated i raw) := rfl
theorem exec_drbgReseedDue (i : Nat) : exec (.drbgReseedDue i) s = onDev s (fun d => d.reseedDue i) := rfl
theorem exec_drbgReseedDone (i : Nat) (raw : List Bool) : exec (.drbgReseedDone (i, raw)) s = onDev s (fun d => d.reseeded i raw) := rfl

end

section
variable {d : Dev}

/-! ## Health tests (R271 to R273) -/

/-- A tested source that fails is a health-test failure of the whole RNG. -/
theorem Dev.sourceFail_tested {src : Nat} (test : Nat) (htested : d.rngTested = true) (hsrc : src < 2) :
    d.sourceFail src test = d.healthFail (2 ^ src) test := if_pos (by simp [htested, hsrc])

/-- A start-up test runs in START once the kiln has begun, and in RETEST once its timer has run out. -/
def Dev.StartupTestRuns (d : Dev) : Prop := (d.rngState = 0 ∧ d.kilnRuns = true) ∨ (d.rngState = 2 ∧ d.rng.testing = true)

/-- `StartupTestRuns` is the guard of the model's startupDone. -/
theorem Dev.startupTestRuns_iff :
    d.StartupTestRuns ↔ ((d.rngState == rngStart && d.kilnRuns) || (d.rngState == rngRetest && d.rng.testing)) = true := by
  simp only [Dev.StartupTestRuns, rngStart, rngRetest, Bool.or_eq_true, Bool.and_eq_true, beq_iff_eq]

theorem Dev.startupDone_passes (sources : Nat) (hruns : d.StartupTestRuns) :
    d.startupDone 0 sources = (({ d with rng := { d.rng with startup := false, testing := false } } : Dev).rngTo rngRunning).rngInstantiate := by
  simp only [Dev.startupDone, Dev.startupTestRuns_iff.mp hruns, Bool.not_true, Bool.false_eq_true, if_false, if_true]

theorem Dev.startupDone_fails {test : Nat} (sources : Nat) (hruns : d.StartupTestRuns) (htest : test ≠ 0) :
    d.startupDone test sources = d.healthFail sources test := by
  simp only [Dev.startupDone, Dev.startupTestRuns_iff.mp hruns, htest, Bool.not_true, Bool.false_eq_true, if_false]

theorem Dev.retestTimer_retests (hstate : d.rngState = 2) : d.retestTimer = { d with rng := { d.rng with testing := true } } := if_pos hstate

/-! ## Conditioning (R268, R270) -/

theorem Dev.internalDemand_iff : d.internalDemand = true ↔ d.rng.needC = true ∨ d.rng.needD = true := by
  rw [Dev.internalDemand, Bool.or_eq_true]

theorem Dev.conditioned_demanded (hstate : d.rngState = 1) (hneed : d.rng.needC = true ∨ d.rng.needD = true) :
    d.conditioned =
      (let v := lfsrRun d.rng.lfsr (Config.rawBits d.nfree) 1024
       { d.takeFree with rng := { d.rng with lfsr := v, blocks := (d.rng.blocks ++ [v]).drop (d.rng.blocks.length - 1) } }) :=
  if_pos (by simp [hstate, rngRunning, Dev.internalDemand_iff.mpr hneed])

/-! ## An instance takes its entropy (R269, R270) -/

/-- What each instance waits for, in the fixed priority: C two conditioned blocks; D two once C has no demand; the host instance 512 debiased
bits once neither has. -/
def Dev.EntropyGathered (d : Dev) (i : Nat) (raw : List Bool) : Prop :=
  (i = 0 ∧ d.rng.needC = true ∧ d.rng.blocks.length = 2) ∨
  (i = 1 ∧ d.rng.needD = true ∧ d.rng.needC = false ∧ d.rng.blocks.length = 2) ∨
  (i = 2 ∧ d.rng.needH = true ∧ d.rng.needC = false ∧ d.rng.needD = false ∧ 512 ≤ (debias (xorPairs raw)).length)

section
variable {i : Nat} {raw : List Bool}

theorem Dev.EntropyGathered.instance_le (hgot : d.EntropyGathered i raw) : i ≤ 2 := by
  obtain ⟨rfl, -⟩ | ⟨rfl, -⟩ | ⟨rfl, -⟩ := hgot <;> decide

/-- In RUNNING, `EntropyGathered` is what the model asks of an instance's entropy. -/
theorem Dev.entropyIn_gathered (hstate : d.rngState = 1) (hgot : d.EntropyGathered i raw) : d.entropyIn i raw = true := by
  obtain ⟨rfl, hneed, hblocks⟩ | ⟨rfl, hneed, hC, hblocks⟩ | ⟨rfl, hneed, hC, hD, hbits⟩ := hgot
  · simp [Dev.entropyIn, hstate, rngRunning, Rng.need, hneed, hblocks]
  · simp [Dev.entropyIn, hstate, rngRunning, Rng.need, hneed, hC, hblocks]
  · simp [Dev.entropyIn, hstate, rngRunning, Rng.need, hneed, Dev.internalDemand, hC, hD, hbits]

/-- Only the demand of the instance that takes the entropy is met. -/
theorem Rng.setNeed_false (r : Rng) (hi : i ≤ 2) :
    r.setNeed i false = { r with needC := r.needC && i != 0, needD := r.needD && i != 1, needH := r.needH && i != 2 } := by
  obtain rfl | rfl | rfl : i = 0 ∨ i = 1 ∨ i = 2 := by omega
  all_goals simp [Rng.setNeed]

theorem Dev.entropyTake_eq (hi : i ≤ 2) :
    d.entropyTake i = { d with rng := { d.rng with
      needC := d.rng.needC && i != 0, needD := d.rng.needD && i != 1, needH := d.rng.needH && i != 2, blocks := if i < 2 then [] else d.rng.blocks,
      counted := if i < 2 then d.rng.counted else false, calls := tput (fun _ => 0) d.rng.calls i 0, buf := tput (fun _ => 0) d.rng.buf i 0 } } := by
  rw [Dev.entropyTake, Rng.setNeed_false d.rng hi]

/-- The requests that wait for a reseed, and those whose reseed is done, are as before. -/
theorem Dev.entropyTake_hostWait (hi : i ≤ 2) : (d.entropyTake i).rng.hostWait = d.rng.hostWait := by rw [Dev.entropyTake_eq hi]
theorem Dev.entropyTake_hostDone (hi : i ≤ 2) : (d.entropyTake i).rng.hostDone = d.rng.hostDone := by rw [Dev.entropyTake_eq hi]

theorem Dev.instantiated_gathered (hstate : d.rngState = 1) (hgot : d.EntropyGathered i raw) (hready : d.rngReady i = false) :
    d.instantiated i raw = (d.entropyTake i).wr (instReady i) 1 := if_pos (by simp [Dev.entropyIn_gathered hstate hgot, hready])

theorem Dev.reseeded_gathered (hstate : d.rngState = 1) (hgot : d.EntropyGathered i raw) (hready : d.rngReady i = true) :
    d.reseeded i raw = if i < 2 then d.entropyTake i
      else { d.entropyTake i with rng := { (d.entropyTake i).rng with hostDone := d.rng.hostDone ++ d.rng.hostWait, hostWait := [] } } := by
  simp only [Dev.reseeded, Dev.entropyIn_gathered hstate hgot, hready, Bool.and_self, Bool.not_true, Bool.false_eq_true, if_false,
    Dev.entropyTake_hostWait hgot.instance_le, Dev.entropyTake_hostDone hgot.instance_le]

/-! ## A reseed is asked for (R269, R270) -/

theorem Dev.hostWaits_eq :
    d.hostWaits = if (d.rng.needC = true ∨ d.rng.needD = true) ∧ d.rng.needH = true ∧ d.rngReady 2 = true ∧ d.rng.counted = false then
      { d.inc Fld.RNG_COUNTS_HOST_WAITS 1 with rng := { d.rng with counted := true } } else d := by
  simp only [Dev.hostWaits, Bool.and_eq_true, Dev.internalDemand_iff, Bool.not_eq_true', and_assoc]

/-- A ready instance that has made its generate calls asks for a reseed, unless one is pending. -/
theorem Dev.reseedDue_asks (hcalls : 65536 ≤ tget (fun _ => 0) d.rng.calls i) (hready : d.rngReady i = true) (hneed : d.rng.need i = false) :
    d.reseedDue i = ({ d with rng := d.rng.setNeed i true } : Dev).hostWaits := by
  simp only [Dev.reseedDue, Dev.reseedAsk, Nat.not_lt.mpr hcalls, hready, hneed, Bool.not_true, Bool.or_self, Bool.false_eq_true, if_false]

end

end

/-! ## The statement -/

/-- Settles O40: each clause is one rule above, taken from the device to the state. -/
theorem noisePathFollowsItsStates : Obligations.NoisePathFollowsItsStates := by
  rintro s d fails rfl hfails
  have hfail (sources test : Nat) : fails sources test = s.chip.dev.healthFail sources test := hfails sources test
  refine ⟨fun htested src hsrc => ⟨?repetition, ?proportion⟩, fun hruns => ⟨fun src => ?passes, fun test src htest => ?fails⟩, fun hstate => ?retest,
    fun hstate hneed => ?block, fun i raw took hstate hgot htook => ?entropy, fun i z hcalls hready hask => ?due⟩
  case repetition =>
    rw [exec_repetitionCountFail]
    exact onDev_outcome s ((Dev.sourceFail_tested 1 htested hsrc).trans (hfail _ _).symm)
  case proportion =>
    rw [exec_adaptiveProportionFail]
    exact onDev_outcome s ((Dev.sourceFail_tested 2 htested hsrc).trans (hfail _ _).symm)
  case passes =>
    rw [exec_startupTestDone]
    exact onDev_outcome s (Dev.startupDone_passes src hruns)
  case fails =>
    rw [exec_startupTestDone]
    exact onDev_outcome s ((Dev.startupDone_fails src hruns htest).trans (hfail _ _).symm)
  case retest =>
    rw [exec_retestTimerExpiry]
    exact onDev_outcome s (Dev.retestTimer_retests hstate)
  case block =>
    rw [exec_conditionedBlock]
    exact onDev_outcome s (Dev.conditioned_demanded hstate hneed)
  case entropy =>
    have htake : took s.chip.dev = s.chip.dev.entropyTake i := (htook _).trans (Dev.entropyTake_eq (Dev.EntropyGathered.instance_le hgot)).symm
    rw [exec_drbgInstantiateDone, exec_drbgReseedDone]
    refine ⟨fun hready => onDev_outcome s ((Dev.instantiated_gathered hstate hgot hready).trans ?_),
      fun hready => onDev_outcome s ((Dev.reseeded_gathered hstate hgot hready).trans ?_)⟩
    all_goals rw [htake]
  case due =>
    rw [exec_drbgReseedDue]
    obtain ⟨rfl, hneed, rfl⟩ | ⟨rfl, hneed, rfl⟩ | ⟨rfl, hneed, rfl⟩ := hask
    all_goals exact onDev_outcome s ((Dev.reseedDue_asks hcalls hready hneed).trans Dev.hostWaits_eq)

end Sys2Proof.Machine
end

section
/-! What no reset reaches (R301, R315, R318, R328 to R331, R338, R340): which commands change the backup domain and the fuses and how, and the
statements that they stay in form, that fuses only blow and that only named requests clear a latch. -/

namespace Sys2Proof.Machine

/-- What outlasts every reset: the backup domain and the fuses. -/
def Chip.lasting (c : Chip) : Backup × Fuses := (c.bd, c.fz)

section
variable (c : Chip)

/-! ## What concerns the device alone -/

@[simp] theorem Chip.lasting_onDev (f : Dev → Dev) : (c.onDev f).lasting = c.lasting := rfl
@[simp] theorem Chip.lasting_withDev (d : Dev) : (Chip.mk d c.bd c.fz).lasting = c.lasting := rfl
@[simp] theorem Chip.lasting_sync (d : Dev) : (c.sync d).lasting = c.lasting := rfl
@[simp] theorem Chip.lasting_watch (f : Chip → Chip) : (c.watch f).lasting = (f c).lasting := rfl
@[simp] theorem Chip.lasting_reply (r : WReq) (st : Nat) (body : List Byte) : (c.reply r st body).lasting = c.lasting := rfl
@[simp] theorem Chip.lasting_finishCmd (e st n : Nat) : (c.finishCmd e st n).lasting = c.lasting := rfl
@[simp] theorem Chip.lasting_change (r : WReq) (v : VStage) : (c.change r v).lasting = c.lasting := rfl

theorem Chip.lasting_foldl {α : Type} {f : Chip → α → Chip} (h : ∀ c a, (f c a).lasting = c.lasting) (l : List α) :
    (l.foldl f c).lasting = c.lasting := by
  induction l generalizing c with
  | nil => rfl
  | cons a l ih => exact (ih (f c a)).trans (h c a)

/-! ## The Warden's requests (R324, R334, R351) -/

@[simp] theorem Chip.lasting_audit (code st rq og : Nat) (dg : List Byte) : (c.audit code st rq og dg).lasting = c.lasting := by
  unfold Chip.audit
  split <;> rfl
@[simp] theorem Chip.lasting_auditReq (r : WReq) (st : Nat) : (c.auditReq r st).lasting = c.lasting := c.lasting_audit ..
@[simp] theorem Chip.lasting_auditEvent (og : Nat) : (c.auditEvent og).lasting = c.lasting := Chip.lasting_audit ..
@[simp] theorem Chip.lasting_auditAlarm : c.auditAlarm.lasting = c.lasting := by
  unfold Chip.auditAlarm
  split
  · exact c.lasting_auditEvent 5
  · rfl

/-- What a served request does decides what becomes of the chip; every refusal concerns the device alone. -/
theorem Chip.serve_cases (code : Nat) (dry : Bool) (f : Chip → WReq → Chip) :
    (∃ r, c.stateRefusal code = none ∧ c.serve code dry f = f c r) ∨ (c.serve code dry f).lasting = c.lasting := by
  unfold Chip.serve
  grind [Chip.lasting_reply]

theorem Chip.lasting_serve {code : Nat} {dry : Bool} {f : Chip → WReq → Chip} (h : ∀ r, (f c r).lasting = c.lasting) :
    (c.serve code dry f).lasting = c.lasting := by
  rcases c.serve_cases code dry f with ⟨r, -, hf⟩ | hkept
  · rw [hf, h r]
  · exact hkept

/-- The requests of which none reaches the backup domain or a fuse. -/
theorem Chip.lasting_request (bulk : Option (List Byte)) : ∀ x ∈ [c.statusQuery, c.configSubmit bulk, c.imageAdmit bulk, c.imageRetire,
    c.patchInstall bulk, c.codesignInstall, c.codesignRevoke, c.keyGenerate, c.keyDelete, c.keySetAttr, c.keyQuery, c.imageAdvance, c.krdCreate,
    c.krdDelete, c.kdhCa, c.ceremonyOpen, c.ceremonyCollect, c.archiveKeyCreate, c.backupWrite, c.auditRead, c.bondEnrol, c.bondStart, c.bondRoster,
    c.bondLeave, c.bondStatus], x.lasting = c.lasting := by
  simp only [List.forall_mem_cons, List.not_mem_nil, false_imp_iff, implies_true, and_true]
  refine ⟨?_, ?_, ?_, ?_, ?_, ?_, ?_, ?_, ?_, ?_, ?_, ?_, ?_, ?_, ?_, ?_, ?_, ?_, ?_, ?_, ?_, ?_, ?_, ?_, ?_⟩
  all_goals
    refine c.lasting_serve fun r => ?_
    grind [Chip.audited, Chip.quorumed, Chip.cfgTake, Chip.lasting_reply, Chip.lasting_change, Chip.lasting_auditReq, Chip.lasting_onDev,
      Chip.lasting_watch, Chip.lasting_withDev]

/-! ## The rest of the Warden's work -/

theorem Chip.lasting_archiveWindowEnd : c.archiveWindowEnd.lasting = c.lasting := by
  grind [Chip.archiveWindowEnd, Chip.lasting_reply, Chip.lasting_auditReq, Chip.lasting_onDev]

@[simp] theorem Chip.lasting_restoreEnd (st : Nat) (body : List Byte) : (c.restoreEnd st body).lasting = c.lasting := by
  grind [Chip.restoreEnd, Chip.lasting_reply, Chip.lasting_onDev]

@[simp] theorem Chip.lasting_backupEnd (b : Backup1) (st : Nat) (body : List Byte) : (c.backupEnd b st body).lasting = c.lasting := by
  grind [Chip.backupEnd, Chip.lasting_reply, Chip.lasting_auditReq, Chip.lasting_onDev]

theorem Chip.lasting_answerOne (a : VStage × Nat) : (c.answerOne a).lasting = c.lasting := by
  grind [Chip.answerOne, Chip.jobDone, Chip.importDone, Chip.lasting_reply, Chip.lasting_finishCmd, Chip.lasting_auditReq, Chip.lasting_onDev]

@[simp] theorem Chip.lasting_answerAll : c.answerAll.lasting = c.lasting :=
  Chip.lasting_foldl _ Chip.lasting_answerOne _

theorem Chip.lasting_mortar (f : Dev → Dev) : (c.mortar f).lasting = c.lasting := Chip.lasting_answerAll _

theorem Chip.lasting_staging (e : Nat) : (c.staging e).lasting = c.lasting := by
  grind [Chip.staging, Chip.lasting_answerAll, Chip.lasting_onDev]

theorem Chip.lasting_commitVisible (e : Nat) : (c.commitVisible e).lasting = c.lasting := by
  simp [Chip.commitVisible]

/-- The functions of the key-management course. -/
theorem Chip.lasting_install (e code : Nat) (input key : List Byte) (attr : Word) (slot : Nat) :
    (c.install e code input key attr slot).lasting = c.lasting := by
  grind [Chip.install, Chip.lasting_finishCmd, Chip.lasting_change, Chip.lasting_audit]

theorem Chip.lasting_keyFunction (e m m1 : Nat) (bs : List Byte) :
    ∀ x ∈ [c.keyblockImport e bs m, c.keyblockExport e m m1, c.tr34Nonce e, c.tr34Import e bs], x.lasting = c.lasting := by
  simp only [List.forall_mem_cons, List.not_mem_nil, false_imp_iff, implies_true, and_true]
  refine ⟨?_, ?_, ?_, ?_⟩
  · simp only [Chip.keyblockImport]
    repeat' split
    all_goals simp [Chip.lasting_install]
  · grind [Chip.keyblockExport, Chip.lasting_finishCmd, Chip.lasting_onDev, Chip.lasting_withDev]
  · grind [Chip.tr34Nonce, Chip.lasting_finishCmd, Chip.lasting_onDev, Chip.lasting_audit]
  · simp only [Chip.tr34Import]
    repeat' split
    all_goals simp [Chip.lasting_install]

/-! ## Cards -/

theorem Chip.lasting_takeShare (b : List Byte) : (c.takeShare b).lasting = c.lasting := by
  grind [Chip.takeShare, Chip.lasting_auditEvent, Chip.lasting_onDev]

theorem Chip.lasting_cards (p n : Nat) (bs : List Byte) (data : Bool) :
    ∀ x ∈ [c.signAuth p, c.getShare p, c.sdBlockWrite n, c.sdBlockRead bs n, c.sdBusyEnd, c.sdBusyTimeout, c.sdRemoval data], x.lasting = c.lasting := by
  simp only [List.forall_mem_cons, List.not_mem_nil, false_imp_iff, implies_true, and_true]
  refine ⟨?_, ?_, ?_, ?_, ?_, ?_, ?_⟩
  · grind [Chip.signAuth, Chip.lasting_auditEvent, Chip.lasting_onDev]
  · grind [Chip.getShare, Chip.lasting_takeShare, Chip.lasting_onDev]
  · grind [Chip.sdBlockWrite, Chip.lasting_backupEnd, Chip.lasting_onDev]
  · grind [Chip.sdBlockRead, Chip.lasting_restoreEnd, Chip.lasting_onDev]
  · grind [Chip.sdBusyEnd, Chip.lasting_backupEnd, Chip.lasting_onDev]
  · grind [Chip.sdBusyTimeout, Chip.lasting_backupEnd, Chip.lasting_onDev]
  · grind [Chip.sdRemoval, Chip.lasting_backupEnd, Chip.lasting_restoreEnd, Chip.lasting_onDev]

/-! ## The bond -/

theorem Chip.lasting_mtrApply {f : Chip → Chip} (h : ∀ x, (f x).lasting = x.lasting) (kind : Nat) (fr : Frame) (role : Dev → Bool) :
    (c.mtrApply kind fr role f).lasting = c.lasting := by
  grind [Chip.mtrApply, Chip.lasting_withDev]

theorem Chip.lasting_leaseAccept (l : Nat) : (c.leaseAccept l).1.lasting = c.lasting := by
  grind [Chip.leaseAccept, Chip.lasting_withDev]

theorem Chip.lasting_leaseGrant (fr : Frame) (l : Nat) : (c.leaseGrant fr l).lasting = c.lasting :=
  c.lasting_mtrApply (fun x => by grind [Chip.lasting_leaseAccept, Chip.lasting_onDev]) ..

theorem Chip.lasting_leaseStateAck (fr : Frame) (hw : Nat) : (c.leaseStateAck fr hw).lasting = c.lasting :=
  c.lasting_mtrApply (fun x => by grind [Chip.lasting_leaseAccept, Chip.lasting_onDev]) ..

theorem Chip.lasting_heartbeat (fr : Frame) (standby renew : Nat) : (c.heartbeat fr standby renew).lasting = c.lasting := by
  grind [Chip.heartbeat, Chip.renewLeases, Chip.lasting_withDev, Chip.lasting_onDev]

theorem Chip.lasting_heartbeatInterval : c.heartbeatInterval.lasting = c.lasting := by
  grind [Chip.heartbeatInterval, Chip.renewLeases, Chip.lasting_withDev, Chip.lasting_onDev]

/-! ## SPDM -/

theorem Chip.lasting_doeTake {f : Chip → Chip} (h : ∀ x, (f x).lasting = x.lasting) (len : Nat) : (c.doeTake len f).lasting = c.lasting := by
  grind [Chip.doeTake, Chip.lasting_onDev]

theorem Chip.lasting_spdmAsk {f : Chip → Chip} (h : ∀ x, (f x).lasting = x.lasting) (req : List Byte) (code : Nat) (ready : Spdm → Bool) :
    (c.spdmAsk req code ready f).lasting = c.lasting :=
  c.lasting_doeTake (fun x => by grind [Chip.spdmError, Chip.doeSay, Chip.lasting_onDev]) _

theorem Chip.lasting_securedAsk {f : List Byte → Chip → Chip} (h : ∀ m x, (f m x).lasting = x.lasting) (rec : List Byte) (code phase : Nat) :
    (c.securedAsk rec code phase f).lasting = c.lasting :=
  c.lasting_doeTake (fun x => by grind [Chip.spdmError, Chip.securedSay, Chip.doeSay, Chip.lasting_onDev]) _

theorem Chip.lasting_spdm (req : List Byte) (asym hash dhe aead : Nat) : ∀ x ∈ [c.getVersion req, c.getCapabilities req,
    c.negotiate req asym hash dhe aead, c.getDigests req, c.getCertificate req, c.challenge req, c.getMeasurements req, c.keyExchange req],
    x.lasting = c.lasting := by
  simp only [List.forall_mem_cons, List.not_mem_nil, false_imp_iff, implies_true, and_true]
  refine ⟨?_, ?_, ?_, ?_, ?_, ?_, ?_, ?_⟩
  all_goals
    refine c.lasting_spdmAsk (fun x => ?_) ..
    grind [Chip.spdmError, Chip.certSay, Chip.doeSay, Chip.lasting_onDev]

theorem Chip.lasting_spdmSession (rec : List Byte) : (c.finishSession rec).lasting = c.lasting ∧ (c.endSession rec).lasting = c.lasting := by
  constructor
  all_goals
    refine c.lasting_securedAsk (fun m x => ?_) ..
    grind [Chip.spdmError, Chip.securedSay, Chip.doeSay, Chip.lasting_onDev]

/-! ## Resets, blocks and registers -/

theorem Chip.lasting_resetNow (reach src origin : Nat) : (c.resetNow reach src origin).lasting = c.lasting := by
  grind [Chip.resetNow, Chip.lasting_sync, Chip.lasting_watch, Chip.lasting_withDev, Chip.lasting_onDev]

@[simp] theorem Chip.lasting_assertReset (reach src origin : Nat) : (c.assertReset reach src origin).lasting = c.lasting := by
  grind [Chip.assertReset, Chip.lasting_resetNow, Chip.lasting_onDev]

theorem Chip.lasting_resetWrite (v : Via) (w : Word) : (c.resetWrite v w).lasting = c.lasting := by
  grind [Chip.resetWrite, Chip.lasting_assertReset, Chip.lasting_onDev]

theorem Chip.lasting_resets (low caught : Bool) (ns type : Nat) (v : Via) (w : Word) :
    ∀ x ∈ [c.powerOn, c.porRelease, c.resetIn low ns caught, c.perstN low, c.resetCmd v type w, c.hotReset, c.watchdog],
      x.lasting = c.lasting := by
  simp only [List.forall_mem_cons, List.not_mem_nil, false_imp_iff, implies_true, and_true]
  refine ⟨?_, ?_, ?_, ?_, ?_, ?_, ?_⟩
  · grind [Chip.powerOn, Chip.lasting_resetNow, Chip.lasting_onDev]
  · grind [Chip.porRelease, Chip.lasting_onDev]
  · grind [Chip.resetIn, Chip.lasting_assertReset, Chip.lasting_onDev]
  · grind [Chip.perstN, Chip.lasting_assertReset, Chip.lasting_onDev]
  · grind [Chip.resetCmd, Chip.lasting_resetWrite]
  · exact c.lasting_assertReset 1 6 0
  · grind [Chip.watchdog, Chip.lasting_assertReset]

theorem Chip.lasting_mtrResetFrame (fr : Frame) : (c.mtrResetFrame fr).lasting = c.lasting :=
  c.lasting_mtrApply (fun x => x.lasting_assertReset ..) ..

theorem Chip.lasting_release (capacity m : Nat) :
    ∀ x ∈ [c.wardenRom, c.vaultDerivation, c.configValidation, c.dramTraining capacity m, c.dataPlane], x.lasting = c.lasting := by
  simp only [List.forall_mem_cons, List.not_mem_nil, false_imp_iff, implies_true, and_true]
  refine ⟨?_, ?_, ?_, ?_, ?_⟩
  · grind [Chip.wardenRom, Chip.lasting_onDev]
  · grind [Chip.vaultDerivation, Chip.lasting_onDev]
  · grind [Chip.configValidation, Chip.lasting_watch, Chip.lasting_onDev]
  · grind [Chip.dramTraining, Chip.lasting_watch, Chip.lasting_onDev]
  · grind [Chip.dataPlane, Chip.lasting_watch, Chip.lasting_onDev]

theorem Chip.lasting_hold (b : Nat) : (c.hold b).lasting = c.lasting := by
  unfold Chip.hold
  split <;> grind [Chip.cardHold, Chip.sdHold, Chip.lasting_reply, Chip.lasting_backupEnd, Chip.lasting_restoreEnd, Chip.lasting_onDev]

theorem Chip.lasting_blockHold (v : Via) (w : Word) : (c.blockHold v w).lasting = c.lasting := by
  grind [Chip.blockHold, Chip.lasting_foldl, Chip.lasting_hold, Chip.lasting_onDev]

theorem Chip.lasting_blockTests (b : Nat) (bad : List Nat) (m : Nat) : (c.blockTests b bad m).lasting = c.lasting := by
  unfold Chip.blockTests
  split <;> rfl

theorem Chip.lasting_blockReady (b : Nat) (bad : List Nat) (m : Nat) : (c.blockReady b bad m).lasting = c.lasting := by
  grind [Chip.blockReady, Chip.lasting_blockTests, Chip.lasting_onDev]

theorem Chip.lasting_snapshot (v : Via) (w : Word) : (c.snapshot v w).lasting = c.lasting := by
  grind [Chip.snapshot, Chip.lasting_onDev]

theorem Chip.lasting_hostRead (n : Nat) (st : Option Nat) (off size : Nat) : (c.hostRead n st off size).lasting = c.lasting := by
  grind [Chip.hostRead, Chip.lasting_onDev]

theorem Chip.lasting_registerRead (v : Via) (off size : Nat) : (c.registerRead v off size).lasting = c.lasting := by
  cases v with
  | i3c => grind [Chip.registerRead, Chip.lasting_onDev]
  | host n st => exact c.lasting_hostRead n st off size
  | _ => rfl

theorem Chip.lasting_i3cBytes (k n off : Nat) : (Chip.i3cBytes k n off c).1.lasting = c.lasting := by
  induction k generalizing n off c with
  | zero => rfl
  | succ k ih => grind [Chip.i3cBytes, Chip.lasting_onDev]

theorem Chip.lasting_i3cRead (off n : Nat) (i2c : Bool) : (c.i3cRead off n i2c).lasting = c.lasting := by
  grind [Chip.i3cRead, Chip.lasting_i3cBytes, Chip.lasting_onDev]

theorem Chip.lasting_scrubHit (x : ScrubHit) : (c.scrubHit x).lasting = c.lasting := by
  grind [Chip.scrubHit, Chip.lasting_auditAlarm, Chip.lasting_answerAll, Chip.lasting_onDev]

theorem Chip.lasting_sramScrub (xs : List ScrubHit) : (c.sramScrub xs).lasting = c.lasting := by
  grind [Chip.sramScrub, Chip.lasting_foldl, Chip.lasting_scrubHit]

theorem Chip.lasting_icacheFill (h : Nat) (ok : Bool) : (c.icacheFill h ok).lasting = c.lasting := by
  grind [Chip.icacheFill, Chip.lasting_auditAlarm, Chip.lasting_onDev]


end

/-! ## The form of the backup domain (R316, R318 to R320) -/

/-- An octet string's number fits its octets. -/
theorem ofLe_lt (bs : List Byte) : ofLe bs < 256 ^ bs.length := by
  induction bs with
  | nil => simp [ofLe]
  | cons b bs ih =>
    have hb : b.toNat < 256 := b.isLt
    rw [ofLe, List.length_cons, Nat.pow_succ]
    omega

theorem leAt_lt (bs : List Byte) (off n : Nat) : leAt bs off n < 256 ^ n := by
  have h := ofLe_lt (slice bs off n)
  rwa [slice, List.length_take, List.length_append, List.length_replicate, Nat.min_eq_left (by omega)] at h

/-- The backup domain's part of `Chip.inForm`. -/
structure Backup.InForm (b : Backup) : Prop where
  time : b.time < 2 ^ 63
  phase : b.phase < 10 ^ 8
  ring : twf (fun _ => ((0 : Word), (0 : Word))) b.ring = true
  places : ∀ e ∈ b.ring, e.1 < 16
  newest : b.newest < 2 ^ 16
  reviewed : b.reviewed < 2 ^ 16

theorem Chip.inForm_iff (c : Chip) : c.inForm ↔ c.bd.InForm ∧ c.fz.debug ≤ 8 ∧ (c.fz.provision = true → c.fz.programmed = true) := by
  constructor
  · rintro ⟨htime, hphase, hring, hplaces, hnewest, hreviewed, hdebug, hprogrammed⟩
    exact ⟨⟨htime, hphase, hring, hplaces, hnewest, hreviewed⟩, hdebug, hprogrammed⟩
  · rintro ⟨⟨htime, hphase, hring, hplaces, hnewest, hreviewed⟩, hdebug, hprogrammed⟩
    exact ⟨htime, hphase, hring, hplaces, hnewest, hreviewed, hdebug, hprogrammed⟩

theorem Backup.InForm.enter {b : Backup} (h : b.InForm) (a : Alarm) (cls : Nat) (backupOnly : Bool) : (b.enter a cls backupOnly).InForm := by
  refine ⟨h.time, h.phase, twf_tput _ _ _ h.ring, fun e he => ?_, Nat.mod_lt _ (by decide), h.reviewed⟩
  by_cases hk : e.1 = (b.newest + 1) % 2 ^ 16 % 16
  · exact hk ▸ Nat.mod_lt _ (by decide)
  · exact h.places e (mem_of_mem_tput (dflt := fun _ => ((0 : Word), (0 : Word))) he hk)

/-- The Backup Key and the latches are no part of the form. -/
theorem Backup.InForm.latches {b : Backup} (h : b.InForm) (bk : Option Nat) (l e : Bool) :
    ({ b with bk := bk, locked := l, erased := e } : Backup).InForm :=
  ⟨h.time, h.phase, h.ring, h.places, h.newest, h.reviewed⟩

theorem Backup.fresh_inForm (main : Bool) : (Backup.fresh main).InForm := by
  cases main <;> exact ⟨by decide, by decide, by decide, by decide, by decide, by decide⟩

/-! ## Steady effects -/

/-- What every effect but the named requests' does to what outlasts a reset: fuses as they are, the backup domain in form, no latch clear. -/
structure Chip.Steady (c c' : Chip) : Prop where
  fuses : c'.fz = c.fz
  form : c.bd.InForm → c'.bd.InForm
  locked : c.bd.locked = true → c'.bd.locked = true
  erased : c.bd.erased = true → c'.bd.erased = true

theorem Chip.Steady.of_lasting {c c' : Chip} (h : c'.lasting = c.lasting) : c.Steady c' := by
  obtain ⟨hbd, hfz⟩ := Prod.mk.inj h
  exact ⟨hfz, fun h => hbd ▸ h, fun h => hbd ▸ h, fun h => hbd ▸ h⟩

theorem Chip.Steady.refl (c : Chip) : c.Steady c := .of_lasting rfl

theorem Chip.Steady.trans {c c' c'' : Chip} (h : c.Steady c') (h' : c'.Steady c'') : c.Steady c'' :=
  ⟨h'.fuses.trans h.fuses, h'.form ∘ h.form, h'.locked ∘ h.locked, h'.erased ∘ h.erased⟩

/-- What comes into force of the latches changes nothing of them. -/
theorem Chip.Steady.watched {c : Chip} {f : Chip → Chip} (h : c.Steady (f c)) : c.Steady (c.watch f) := h.trans (.of_lasting rfl)

theorem Chip.Steady.foldl {α : Type} {f : Chip → α → Chip} (h : ∀ (c : Chip) a, c.Steady (f c a)) (l : List α) (c : Chip) : c.Steady (l.foldl f c) := by
  induction l generalizing c with
  | nil => exact .refl c
  | cons a l ih => exact (h c a).trans (ih (f c a))

section
variable (c : Chip)

theorem Chip.steady_serve {code : Nat} {dry : Bool} {f : Chip → WReq → Chip} (h : ∀ r, c.Steady (f c r)) : c.Steady (c.serve code dry f) := by
  rcases c.serve_cases code dry f with ⟨r, -, hf⟩ | hkept
  · exact hf ▸ h r
  · exact .of_lasting hkept

theorem Chip.steady_audited {r : WReq} {f : Chip → Chip} (h : ∀ x : Chip, x.Steady (f x)) : c.Steady (c.audited r f) := by
  unfold Chip.audited
  split
  · exact (Chip.Steady.of_lasting (c.lasting_auditReq r stOk)).trans (h _)
  · exact .of_lasting rfl

theorem Chip.steady_quorumed {r : WReq} {bulk : List Byte} {ctr : Nat} {f : Chip → Chip} (h : ∀ x : Chip, x.Steady (f x)) :
    c.Steady (c.quorumed r bulk ctr f) := by
  unfold Chip.quorumed
  split
  · exact .of_lasting rfl
  · exact c.steady_audited fun x => (Chip.Steady.of_lasting (x.lasting_onDev _)).trans (h _)

/-! ## Time and alarms (R304, R313, R316, R317, R320) -/

theorem Chip.steady_advance (n : Nat) : c.Steady (c.advance n) :=
  ⟨rfl, fun h => ⟨Nat.mod_lt _ (by decide), Nat.mod_lt _ (by decide), h.ring, h.places, h.newest, h.reviewed⟩, id, id⟩

theorem Chip.steady_record (cls : Nat) (a : Alarm) : c.Steady (c.record cls a) := ⟨rfl, fun h => h.enter a cls false, id, id⟩

/-- Another Backup Key, and latches that set, change nothing else of the domain. -/
theorem Chip.steady_latches {c c' : Chip} (bk : Option Nat) (l e : Bool) (hbd : c'.bd = { c.bd with bk := bk, locked := l, erased := e })
    (hfz : c'.fz = c.fz) (hl : c.bd.locked = true → l = true) (he : c.bd.erased = true → e = true) : c.Steady c' :=
  ⟨hfz, fun h => hbd ▸ h.latches bk l e, fun h => hbd ▸ hl h, fun h => hbd ▸ he h⟩

theorem Chip.steady_judge : c.Steady c.judge := by
  unfold Chip.judge
  extract_lets b erase lockedNow act again d t c1 c2 bd c3
  have hrecords : c.Steady c2 :=
    (Chip.Steady.of_lasting (c := c) (c' := c1) rfl).trans (Chip.Steady.foldl (fun x a => x.steady_record act a) b c1)
  have hkey : c.Steady c3 := by
    unfold c3
    split
    · exact hrecords.trans (Chip.steady_latches none c2.bd.locked c2.bd.erased rfl rfl id id)
    · exact hrecords
  repeat' split
  all_goals exact hkey.trans (.of_lasting rfl)

theorem Chip.steady_backupAlarm (a : Alarm) : c.Steady (c.backupAlarm a) :=
  ⟨rfl, fun h => (h.enter a 2 true).latches none true true, fun _ => rfl, fun _ => rfl⟩

theorem Chip.steady_alarm (src det detail : Nat) (same : Bool) : c.Steady (c.alarm src det detail same) := by
  unfold Chip.alarm
  extract_lets a d t c1
  repeat' split
  · exact c.steady_backupAlarm a
  · exact .refl c
  · exact .refl c
  · exact c.steady_judge.watched
  · exact .of_lasting rfl
  · exact (Chip.Steady.of_lasting (c := c) (c' := c1) rfl).trans c1.steady_judge.watched


theorem Chip.steady_paired (src det detail : Nat) (same : Bool) : c.Steady (c.paired src det detail same) := by
  unfold Chip.paired
  split
  · exact .refl c
  · exact c.steady_alarm ..

@[simp] theorem Chip.lasting_backupStop (st : Nat) : (c.backupStop st).lasting = c.lasting := by
  grind [Chip.backupStop, Chip.lasting_backupEnd, Chip.lasting_onDev]

theorem Chip.lasting_lockEffects : c.lockEffects.lasting = c.lasting := by
  simp [Chip.lockEffects]

theorem Chip.steady_rail (src : Nat) (low : Bool) (det detail : Nat) (same : Bool) : c.Steady (c.rail src low det detail same) := by
  unfold Chip.rail Chip.railLow
  repeat' split
  · exact .refl c
  · exact .of_lasting rfl
  · exact .of_lasting (Chip.lasting_lockEffects _)
  · exact .refl c
  · exact c.steady_alarm ..

theorem Chip.steady_freezeResolve (same : Bool) : c.Steady (c.freezeResolve same) := by
  unfold Chip.freezeResolve
  extract_lets c1
  repeat' split
  · exact .refl c
  · exact .of_lasting rfl
  · exact (Chip.Steady.of_lasting (c.lasting_onDev _)).trans (Chip.steady_judge _).watched

theorem Chip.steady_clkGlitch (pll : Bool) (det detail : Nat) (same : Bool) : c.Steady (c.clkGlitch pll det detail same) := by
  unfold Chip.clkGlitch
  repeat' split
  · exact .refl c
  · exact (Chip.Steady.of_lasting (c.lasting_onDev _)).trans (Chip.steady_paired ..)
  · exact c.steady_paired ..

/-- The remaining sources (R304, R308 to R311): each enters as one alarm, after what it clears of the device. -/
theorem Chip.steady_source (det trace p ns cause : Nat) (short caught same : Bool) :
    ∀ x ∈ [c.mesh det trace short same, c.tampIn p det same, c.panicPin ns caught same, c.selfCheck cause same, c.faultReport same], c.Steady x := by
  simp only [List.forall_mem_cons, List.not_mem_nil, false_imp_iff, implies_true, and_true]
  refine ⟨?_, ?_, ?_, ?_, ?_⟩
  · unfold Chip.mesh
    split
    · exact c.steady_paired ..
    · exact .refl c
  · unfold Chip.tampIn
    split
    · exact c.steady_paired ..
    · exact .refl c
  · unfold Chip.panicPin
    split
    · exact c.steady_alarm ..
    · exact .refl c
  · unfold Chip.selfCheck
    repeat' split
    · exact c.steady_alarm ..
    · exact .refl c
    · exact (Chip.Steady.of_lasting (c.lasting_onDev _)).trans (Chip.steady_alarm ..)
  · cases hreports : c.dev.tmp.reports with
    | nil => simpa only [Chip.faultReport, hreports] using Chip.Steady.refl c
    | cons u rest =>
      cases hother : (c.dev.tmp.recent.filter fun w => w.1 != u).getLast? with
      | none => exact Chip.faultReport_alone hreports rfl hother same ▸ .of_lasting rfl
      | some w =>
        rw [Chip.faultReport_cluster hreports rfl hother]
        split
        · exact (Chip.Steady.of_lasting ((Chip.lasting_onDev _ _).trans (c.lasting_onDev _))).trans (Chip.steady_alarm ..)
        · exact .of_lasting rfl

theorem Chip.steady_windowExpiry : c.Steady c.windowExpiry := by
  unfold Chip.windowExpiry
  split
  · exact .refl c
  · exact (c.steady_advance _).trans (.of_lasting (Chip.lasting_onDev _ _))

theorem Chip.steady_backupLoss (main : Bool) : c.Steady (c.backupLoss main) := by
  unfold Chip.backupLoss
  split
  · exact .refl c
  · exact ⟨rfl, fun _ => Backup.fresh_inForm main, fun _ => rfl, fun _ => rfl⟩

/-! ## Deliveries and power (R302, R303, R399) -/

theorem Chip.lasting_wardenErase : c.wardenErase.lasting = c.lasting := by
  grind [Chip.wardenErase, Chip.lasting_restoreEnd, Chip.lasting_reply, Chip.lasting_onDev]

theorem Chip.lasting_eraseEffects : c.eraseEffects.lasting = c.lasting := by
  simp [Chip.eraseEffects, Chip.lasting_wardenErase]

/-- A delivery judges first what entered together and waits for it. -/
theorem Chip.steady_judged : c.Steady (if c.dev.tmp.batch.isEmpty then c else c.watch Chip.judge) := by
  split
  · exact .refl c
  · exact c.steady_judge.watched

theorem Chip.steady_lockDelivery : c.Steady c.lockDelivery := by
  unfold Chip.lockDelivery
  extract_lets c1 c2
  have hjudged : c.Steady c1 := c.steady_judged
  split
  · exact hjudged
  · have hlatched : c.Steady c2 := hjudged.trans (Chip.steady_latches c1.bd.bk true c1.bd.erased rfl rfl (fun _ => rfl) id)
    split
    · exact hlatched.trans (.of_lasting c2.lasting_lockEffects)
    · exact hlatched

theorem Chip.steady_eraseDelivery : c.Steady c.eraseDelivery := by
  unfold Chip.eraseDelivery
  extract_lets c1 c2
  have hjudged : c.Steady c1 := c.steady_judged
  split
  · exact hjudged
  · have hzeroised : c.Steady c2 := hjudged.trans (Chip.steady_latches none c1.bd.locked c1.bd.erased rfl rfl id id)
    exact hzeroised.trans (.of_lasting c2.lasting_eraseEffects)

theorem Chip.steady_eraseDone : c.Steady c.eraseDone := by
  unfold Chip.eraseDone
  split
  · exact .refl c
  · exact Chip.steady_latches c.bd.bk true true rfl rfl (fun _ => rfl) fun _ => rfl

theorem Chip.steady_eraseComplete : c.Steady c.eraseComplete := by
  unfold Chip.eraseComplete
  split
  · exact .refl c
  · extract_lets c1
    have hdone : c.Steady c1 := c.steady_eraseDone
    split
    · exact hdone.trans (.of_lasting (c1.lasting_assertReset ..))
    · exact hdone

theorem Chip.steady_pendingResponse : c.Steady c.pendingResponse := by
  unfold Chip.pendingResponse
  extract_lets c1 t
  have hjudged : c.Steady c1 := by
    unfold c1
    split
    · exact .refl c
    · exact c.steady_judge
  repeat' split
  · exact hjudged.trans (Chip.steady_latches none true true rfl rfl (fun _ => rfl) fun _ => rfl)
  · exact hjudged.trans (Chip.steady_latches c1.bd.bk true c1.bd.erased rfl rfl (fun _ => rfl) id)
  · exact hjudged

theorem Chip.steady_powerLoss (o : WordOutcome) : c.Steady (c.powerLoss o) := by
  unfold Chip.powerLoss
  split
  · exact .refl c
  · exact c.steady_pendingResponse.trans (.of_lasting (by simp [Chip.lasting_resetNow]))

/-! ## Writes and requests (R316, R319, R340, R431) -/

theorem Chip.steady_managementPanic (v : Via) (w : Word) (same : Bool) : c.Steady (c.managementPanic v w same) := by
  unfold Chip.managementPanic
  repeat' split
  · exact .refl c
  · exact c.steady_alarm ..
  · exact .of_lasting rfl

theorem Chip.Steady.ite {p : Prop} [Decidable p] {c x y : Chip} (hx : c.Steady x) (hy : c.Steady y) : c.Steady (if p then x else y) := by
  split
  · exact hx
  · exact hy

/-- Of the fields that act only PLT_PANIC's raises an alarm; the others concern the device. -/
theorem Chip.steady_actFields (v : Via) (a : Nat) (w : Word) : c.Steady (c.actFields v a w) := by
  have hdev (f : Dev → Dev) : c.Steady (c.onDev f) := .of_lasting (c.lasting_onDev f)
  have hreset : c.Steady (c.resetWrite v w) := .of_lasting (c.lasting_resetWrite ..)
  have hhold : c.Steady ((c.blockHold v w).onDev (fun d => d.blockRelease v w)) :=
    .of_lasting (by simp only [Chip.lasting_onDev, Chip.lasting_blockHold])
  have hsnap : c.Steady (c.snapshot v w) := .of_lasting (c.lasting_snapshot ..)
  exact .ite (hdev _) <| .ite (hdev _) <| .ite (.ite (hdev _) (.refl c)) <| .ite (.ite (hdev _) (.refl c)) <|
    .ite (.ite (hdev _) (.refl c)) <| .ite (hdev _) <| .ite (hdev _) <| .ite hreset <| .ite hhold <| .ite (hdev _) <| .ite hsnap <|
    .ite (c.steady_managementPanic v w false) (.refl c)

theorem Chip.steady_writeReg (v : Via) (a : Nat) (w : Word) : c.Steady (c.writeReg v a w) := by
  unfold Chip.writeReg
  repeat' split
  · exact .refl c
  · exact .of_lasting rfl
  · exact .refl c
  · exact (Chip.Steady.of_lasting (c.lasting_onDev _)).trans (Chip.steady_actFields ..)

theorem Chip.steady_i3cPut (off : Nat) (w : Word) : c.Steady (c.i3cPut off w) := by
  unfold Chip.i3cPut
  split
  · exact .of_lasting rfl
  · exact c.steady_writeReg ..

theorem Chip.steady_registerWrite (v : Via) (off size : Nat) (w : Word) : c.Steady (c.registerWrite v off size w) := by
  cases v with
  | i3c =>
    unfold Chip.registerWrite
    dsimp only
    split
    · exact .refl c
    · exact c.steady_i3cPut off w
  | host n st =>
    unfold Chip.registerWrite
    dsimp only
    repeat' split
    on_goal 5 => exact c.steady_writeReg ..
    all_goals exact .of_lasting rfl
  | config n =>
    unfold Chip.registerWrite
    dsimp only
    split <;> exact .of_lasting rfl
  | _ => exact .of_lasting rfl

theorem Chip.steady_i3cWrite (bs : List Byte) (i2c : Bool) : c.Steady (c.i3cWrite bs i2c) := by
  unfold Chip.i3cWrite
  extract_lets c1 off
  have hmode : c.Steady c1 := .of_lasting (c.lasting_onDev _)
  repeat' split
  · exact .refl c
  · exact hmode.trans (c1.steady_i3cPut ..)
  · exact hmode
  · exact hmode.trans (.of_lasting (c1.lasting_onDev _))

theorem Chip.steady_restoreBegin : c.Steady c.restoreBegin := by
  refine c.steady_serve fun r => ?_
  extract_lets copies
  repeat' split
  · exact .of_lasting rfl
  · exact .of_lasting rfl
  · exact .refl c
  · refine c.steady_quorumed fun x => ?_
    extract_lets n y bd x1 x2
    have hkey : x.Steady x2 := Chip.steady_latches (some n) x.bd.locked x.bd.erased rfl rfl id id
    split
    · exact hkey.trans (.of_lasting (x2.lasting_restoreEnd ..))
    · exact hkey.trans (.of_lasting (x2.lasting_onDev _))

theorem Chip.steady_flagClear : c.Steady c.flagClear := by
  refine c.steady_serve fun r => ?_
  have hreviewed : r.par 8 2 < 2 ^ 16 := leAt_lt r.params 8 2
  extract_lets named
  split
  · exact .of_lasting rfl
  · exact c.steady_quorumed fun x => ⟨rfl, fun h => ⟨h.time, h.phase, h.ring, h.places, h.newest, hreviewed⟩, id, id⟩

theorem Chip.steady_timeSet : c.Steady c.timeSet := by
  refine c.steady_serve fun r => ?_
  split
  · exact .of_lasting rfl
  · next hform =>
    have htime : r.par 0 8 < 2 ^ 48 := by
      simp only [Bool.or_eq_true, decide_eq_true_eq, not_or] at hform
      omega
    refine c.steady_quorumed fun x => ⟨rfl, fun h => ⟨?_, Nat.pow_pos (by decide), h.ring, h.places, h.newest, h.reviewed⟩, id, id⟩
    change r.par 0 8 * 32768 < 2 ^ 63
    omega

/-! ## The requests that blow a fuse or clear a latch (R328 to R331, R338, R340) -/

theorem Chip.serve_induct {P : Backup × Fuses → Prop} {code : Nat} {dry : Bool} {f : Chip → WReq → Chip} (hkept : P c.lasting)
    (h : ∀ r, c.stateRefusal code = none → P (f c r).lasting) : P (c.serve code dry f).lasting := by
  rcases c.serve_cases code dry f with ⟨r, hstate, hf⟩ | hl
  · exact hf ▸ h r hstate
  · exact hl ▸ hkept

theorem Chip.audited_induct {P : Backup × Fuses → Prop} {r : WReq} {f : Chip → Chip} (hkept : P c.lasting)
    (h : ∀ x : Chip, x.lasting = c.lasting → P (f x).lasting) : P (c.audited r f).lasting := by
  unfold Chip.audited
  split
  · exact h _ (c.lasting_auditReq r stOk)
  · exact hkept

theorem Chip.quorumed_induct {P : Backup × Fuses → Prop} {r : WReq} {bulk : List Byte} {ctr : Nat} {f : Chip → Chip} (hkept : P c.lasting)
    (h : ∀ x : Chip, x.lasting = c.lasting → P (f x).lasting) : P (c.quorumed r bulk ctr f).lasting := by
  unfold Chip.quorumed
  split
  · exact hkept
  · exact c.audited_induct hkept fun x hx => h _ hx

@[simp] theorem Chip.lasting_lifeReset : c.lifeReset.lasting = c.lasting := Chip.lasting_assertReset ..

/-- PROVISION starts the backup domain afresh under the new Backup Key and blows its fuse and the class bank's. -/
def Provisioned (l l' : Backup × Fuses) : Prop :=
  l' = l ∨ ∃ bk cls, l' = (l.1.provisioned bk, { l.2 with provision := true, tampClass := cls, programmed := true })

/-- At most one more debug fuse is blown, and only where `p` holds. -/
def DebugBlown (p : Prop) (l l' : Backup × Fuses) : Prop := l' = l ∨ p ∧ l' = (l.1, { l.2 with debug := l.2.debug + 1 })

/-- At most the decommissioning fuse is blown, after steady effects. -/
def Chip.Decommissioned (c : Chip) (l : Backup × Fuses) : Prop :=
  ∃ x : Chip, c.Steady x ∧ (l = x.lasting ∨ l = (x.bd, { x.fz with decommission := true }))

theorem Chip.lasting_provision (bulk : Option (List Byte)) : Provisioned c.lasting (c.provision bulk).lasting := by
  refine c.serve_induct (P := Provisioned c.lasting) (.inl rfl) fun r _ => ?_
  extract_lets c1 c2 bk cert fz c3
  repeat' split
  on_goal 7 =>
    have haudit : c2.lasting = c.lasting := c1.lasting_audit ..
    refine .inr ⟨bk, r.par 0 1, (Chip.lasting_lifeReset _).trans ?_⟩
    rw [← haudit]
    rfl
  all_goals exact .inl rfl

theorem Chip.debugBlown_debugFuse {p : Prop} (hp : p) (r : WReq) {x : Chip} (hx : x.lasting = c.lasting) :
    DebugBlown p c.lasting (x.debugFuse r).lasting :=
  .inr ⟨hp, hx ▸ Chip.lasting_lifeReset _⟩

theorem Chip.lasting_debugEnter (bulk : Option (List Byte)) : DebugBlown (c.fz.debug < 8) c.lasting (c.debugEnter bulk).lasting := by
  refine c.serve_induct (P := DebugBlown (c.fz.debug < 8) c.lasting) (.inl rfl) fun r _ => ?_
  extract_lets c1
  repeat' split
  on_goal 5 => exact c1.audited_induct (.inl rfl) fun x hx => c.debugBlown_debugFuse (Nat.lt_of_not_le ‹_›) r hx
  on_goal 6 => exact c1.quorumed_induct (.inl rfl) fun x hx => c.debugBlown_debugFuse (Nat.lt_of_not_le ‹_›) r hx
  all_goals exact .inl rfl

theorem Chip.lasting_debugExit : DebugBlown (c.lifecycle = 4) c.lasting c.debugExit.lasting := by
  refine c.serve_induct (P := DebugBlown (c.lifecycle = 4) c.lasting) (.inl rfl) fun r hstate => ?_
  have hlife : c.lifecycle = 4 := by
    by_contra hlife
    simp [Chip.stateRefusal, hlife] at hstate
  split
  · exact c.audited_induct (.inl rfl) fun x hx => c.debugBlown_debugFuse hlife r hx
  · exact .inl rfl

/-- A part in TEST has an odd number of debug fuses blown (R328). -/
theorem Chip.debug_odd_of_lifecycle (h : c.lifecycle = 4) : c.fz.debug % 2 = 1 := by
  unfold Chip.lifecycle at h
  grind

theorem Chip.decommissioned_now : c.Decommissioned c.decommissionNow.lasting := by
  unfold Chip.decommissionNow
  extract_lets c1 c2
  have hkey : c.Steady c1 := Chip.steady_latches none c.bd.locked c.bd.erased rfl rfl id id
  have hzeroed : c.Steady c2 := hkey.trans (.of_lasting ((Chip.lasting_onDev _ _).trans c1.lasting_eraseEffects))
  refine ⟨c2.eraseDone, hzeroed.trans c2.steady_eraseDone, .inr ?_⟩
  simp only [Chip.lasting_watch, Chip.eraseDone]
  split <;> rfl

theorem Chip.lasting_decommission (bulk : Option (List Byte)) : c.Decommissioned (c.decommission bulk).lasting := by
  have hkept : c.Decommissioned c.lasting := ⟨c, .refl c, .inl rfl⟩
  have hnow (r : WReq) (x : Chip) (hx : x.lasting = c.lasting) : c.Decommissioned ((x.reply r stOk).decommissionNow).lasting := by
    obtain ⟨y, hy, hl⟩ := (x.reply r stOk).decommissioned_now
    exact ⟨y, (Chip.Steady.of_lasting (c := c) (c' := x.reply r stOk) hx).trans hy, hl⟩
  refine c.serve_induct hkept fun r _ => ?_
  extract_lets c1
  repeat' split
  on_goal 7 => exact c.quorumed_induct hkept (hnow r)
  on_goal 5 => exact c1.audited_induct hkept (hnow r)
  all_goals exact hkept

/-- At most LOCKED is cleared, with it ERASED where it becomes `e`. -/
def Unlatched (e : Bool) (l l' : Backup × Fuses) : Prop := l' = l ∨ l' = ({ l.1 with locked := false, erased := e }, l.2)

theorem Chip.lasting_unlock : Unlatched c.bd.erased c.lasting (c.thenResume Chip.unlock).lasting := by
  refine c.serve_induct (P := Unlatched c.bd.erased c.lasting) (.inl rfl) fun r _ => ?_
  repeat' split
  · exact .inl rfl
  · exact .inl rfl
  · refine c.audited_induct (.inl rfl) fun x hx => ?_
    extract_lets y
    have hy : y.lasting = c.lasting := hx
    split
    · exact .inl hy
    · obtain ⟨hbd, hfz⟩ := Prod.mk.inj hy
      refine .inr (Prod.ext ?_ hfz)
      change { y.bd with locked := false } = { c.bd with locked := false, erased := c.bd.erased }
      rw [hbd]

theorem Chip.lasting_restoreFinish : Unlatched false c.lasting (c.thenResume Chip.restoreFinish).lasting := by
  refine c.serve_induct (P := Unlatched false c.lasting) (.inl rfl) fun r _ => ?_
  repeat' split
  · exact .inl rfl
  · exact .inl rfl
  · exact .inl (by simp)
  · exact .inl (by simp)
  · exact .inl rfl
  · refine c.audited_induct (.inl rfl) fun x hx => ?_
    extract_lets y z w
    refine .inr ((Chip.lasting_restoreEnd ..).trans ?_)
    rw [← hx]
    rfl

end

/-! ## Every command (R301, R318, R328) -/

theorem Fuses.le_refl (f : Fuses) : Fuses.le f f := ⟨id, Nat.le_refl _, id, id⟩

/-- What every command keeps: blown fuses stay blown and the form stays. -/
structure Chip.Keeps (c c' : Chip) : Prop where
  fuses : Fuses.le c.fz c'.fz
  form : c.inForm → c'.inForm

/-- The form depends on what outlasts a reset alone. -/
theorem Chip.inForm_congr {c c' : Chip} (h : c'.lasting = c.lasting) (hform : c.inForm) : c'.inForm := by
  obtain ⟨hbd, hfz⟩ := Prod.mk.inj h
  rw [c'.inForm_iff, hbd, hfz]
  exact c.inForm_iff.mp hform

theorem Chip.Keeps.of_lasting {c c' : Chip} {l : Backup × Fuses} (hl : c'.lasting = l) (hfuses : Fuses.le c.fz l.2)
    (hform : c.inForm → (⟨c.dev, l.1, l.2⟩ : Chip).inForm) : c.Keeps c' := by
  subst hl
  exact ⟨hfuses, Chip.inForm_congr rfl ∘ hform⟩

theorem Chip.Steady.keeps {c c' : Chip} (h : c.Steady c') : c.Keeps c' :=
  ⟨h.fuses ▸ Fuses.le_refl _, fun hform => c'.inForm_iff.mpr ⟨h.form (c.inForm_iff.mp hform).1, h.fuses ▸ (c.inForm_iff.mp hform).2⟩⟩

theorem Chip.keeps_of_kept {c c' : Chip} (hl : c'.lasting = c.lasting) : c.Keeps c' := (Chip.Steady.of_lasting hl).keeps

theorem Chip.keeps_provision (c : Chip) (bulk : Option (List Byte)) : c.Keeps (c.provision bulk) := by
  obtain hl | ⟨bk, cls, hl⟩ := c.lasting_provision bulk
  · exact Chip.keeps_of_kept hl
  · refine .of_lasting hl ⟨fun _ => rfl, Nat.le_refl _, id, fun _ => rfl⟩ fun h => ?_
    obtain ⟨hbd, hdebug, -⟩ := c.inForm_iff.mp h
    exact (Chip.inForm_iff _).mpr
      ⟨⟨hbd.time, hbd.phase, rfl, by simp [Backup.provisioned], Nat.two_pow_pos 16, Nat.two_pow_pos 16⟩, hdebug, fun _ => rfl⟩

theorem DebugBlown.keeps {p : Prop} {c c' : Chip} (h : DebugBlown p c.lasting c'.lasting) (hp : p → c.fz.debug ≤ 8 → c.fz.debug < 8) :
    c'.bd = c.bd ∧ c.Keeps c' := by
  obtain hl | ⟨hp', hl⟩ := h
  · exact ⟨(Prod.mk.inj hl).1, Chip.keeps_of_kept hl⟩
  · refine ⟨(Prod.mk.inj hl).1, .of_lasting hl ⟨id, Nat.le_succ _, id, id⟩ fun h => ?_⟩
    obtain ⟨hbd, hdebug, hprogrammed⟩ := c.inForm_iff.mp h
    exact (Chip.inForm_iff _).mpr ⟨hbd, hp hp' hdebug, hprogrammed⟩

theorem Chip.keeps_debugEnter (c : Chip) (bulk : Option (List Byte)) : (c.debugEnter bulk).bd = c.bd ∧ c.Keeps (c.debugEnter bulk) :=
  (c.lasting_debugEnter bulk).keeps fun h _ => h

/-- DEBUG_EXIT blows the second of a pair of debug fuses, so that at most 8 are blown after it. -/
theorem Chip.keeps_debugExit (c : Chip) : c.debugExit.bd = c.bd ∧ c.Keeps c.debugExit := by
  refine c.lasting_debugExit.keeps fun hlife hle => ?_
  have hodd := c.debug_odd_of_lifecycle hlife
  omega

theorem Chip.keeps_decommission (c : Chip) (bulk : Option (List Byte)) : c.Keeps (c.decommission bulk) ∧
    (c.bd.locked = true → (c.decommission bulk).bd.locked = true) ∧ (c.bd.erased = true → (c.decommission bulk).bd.erased = true) := by
  obtain ⟨x, hx, hl | hl⟩ := c.lasting_decommission bulk
  · obtain ⟨hbd, -⟩ := Prod.mk.inj hl
    exact ⟨(hx.trans (.of_lasting hl)).keeps, hbd ▸ hx.locked, hbd ▸ hx.erased⟩
  · obtain ⟨hbd, -⟩ := Prod.mk.inj hl
    obtain ⟨⟨hprovision, hdebug, -, hprogrammed⟩, hform⟩ := hx.keeps
    exact ⟨.of_lasting hl ⟨hprovision, hdebug, fun _ => rfl, hprogrammed⟩ hform, hbd ▸ hx.locked, hbd ▸ hx.erased⟩

theorem Unlatched.keeps {e : Bool} {c c' : Chip} (h : Unlatched e c.lasting c'.lasting) : c'.fz = c.fz ∧ c.Keeps c' := by
  obtain hl | hl := h
  · exact ⟨(Prod.mk.inj hl).2, Chip.keeps_of_kept hl⟩
  · refine ⟨(Prod.mk.inj hl).2, .of_lasting hl (Fuses.le_refl _) fun h => ?_⟩
    obtain ⟨hbd, hfz⟩ := c.inForm_iff.mp h
    exact (Chip.inForm_iff _).mpr ⟨hbd.latches c.bd.bk false e, hfz⟩

theorem Chip.erased_unlock (c : Chip) (h : c.bd.erased = true) : (c.thenResume Chip.unlock).bd.erased = true := by
  obtain hl | hl := c.lasting_unlock
  · exact (Prod.mk.inj hl).1 ▸ h
  · exact (Prod.mk.inj hl).1 ▸ h

/-- The commands that blow a fuse or clear a latch. -/
def blowsOrClears : Instr → Prop
  | .provision _ | .debugEnter _ | .debugExit | .decommission _ | .unlock | .restoreEnd => True
  | _ => False

theorem exec_steady {i : Instr} (hi : ¬ blowsOrClears i) (s : State) : ∃ c, exec i s = .next (s.setChip c) ∧ s.chip.Steady c := by
  cases i with
  | provision _ | debugEnter _ | debugExit | decommission _ | unlock | restoreEnd => exact (hi trivial).elim
  | hello _ _ | helloReply _ _ | finish _ _ | sessionRetry _ _ | join _ _ _ _ _ | joinAccept _ _ _ _ _ _ | sync _ _ | syncEnd _ _ _
  | heartbeatAck _ _ _ | prepare _ _ _ _ _ | prepared _ _ _ | commit _ _ | applied _ _ _ | abort _ _ | leaseRequest _ _ | leaseHeld _ _
  | leaseState _ _ _ _ _ | standbyDesignate _ _ _ _ | standbyAccept _ _ | promoted _ _ _ | nak _ _ _ _ | unlockRelay _ _ _ | unlockResult _ _
  | retransmitTimer | memberLost _ | cutOff | promotion | mortarLinkUp _ _ _ | mortarLinkDown _ =>
    exact ⟨_, rfl, .of_lasting (s.chip.lasting_mortar _)⟩
  | heartbeat _ _ _ => exact ⟨_, rfl, .of_lasting (Chip.lasting_heartbeat ..)⟩
  | heartbeatInterval => exact ⟨_, rfl, .of_lasting (Chip.lasting_heartbeatInterval _)⟩
  | leaseGrant _ _ => exact ⟨_, rfl, .of_lasting (Chip.lasting_leaseGrant ..)⟩
  | leaseStateAck _ _ => exact ⟨_, rfl, .of_lasting (Chip.lasting_leaseStateAck ..)⟩
  | signAuth p | getShare p => exact ⟨_, rfl, .of_lasting (s.chip.lasting_cards p 0 [] false _ (by simp))⟩
  | sdBlockWrite n => exact ⟨_, rfl, .of_lasting (s.chip.lasting_cards 0 n [] false _ (by simp))⟩
  | sdBlockRead bs n => exact ⟨_, rfl, .of_lasting (s.chip.lasting_cards 0 n bs false _ (by simp))⟩
  | sdCardRemoval data => exact ⟨_, rfl, .of_lasting (s.chip.lasting_cards 0 0 [] data _ (by simp))⟩
  | sdBusyEnd | sdBusyTimeout => exact ⟨_, rfl, .of_lasting (s.chip.lasting_cards 0 0 [] false _ (by simp))⟩
  | registerWrite v off size w => exact ⟨_, rfl, Chip.steady_registerWrite ..⟩
  | rcRead v off size => exact ⟨_, rfl, .of_lasting (Chip.lasting_registerRead ..)⟩
  | rngDataRead n st size => exact ⟨_, rfl, .of_lasting (Chip.lasting_hostRead ..)⟩
  | keyblockImport e bs m => exact ⟨_, rfl, .of_lasting (s.chip.lasting_keyFunction e m 0 bs _ (by simp))⟩
  | keyblockExport e m m1 => exact ⟨_, rfl, .of_lasting (s.chip.lasting_keyFunction e m m1 [] _ (by simp))⟩
  | tr34Nonce e => exact ⟨_, rfl, .of_lasting (s.chip.lasting_keyFunction e 0 0 [] _ (by simp))⟩
  | tr34Import e bs => exact ⟨_, rfl, .of_lasting (s.chip.lasting_keyFunction e 0 0 bs _ (by simp))⟩
  | sramScrubPass xs => exact ⟨_, rfl, .of_lasting (Chip.lasting_sramScrub ..)⟩
  | snapshotCapture v w => exact ⟨_, rfl, .of_lasting (Chip.lasting_snapshot ..)⟩
  | i3cPrivateRead off n i2c => exact ⟨_, rfl, .of_lasting (Chip.lasting_i3cRead ..)⟩
  | i3cPrivateWrite bs i2c => exact ⟨_, rfl, Chip.steady_i3cWrite ..⟩
  | powerLoss o => exact ⟨_, rfl, Chip.steady_powerLoss ..⟩
  | resetInN low ns caught => exact ⟨_, rfl, .of_lasting (s.chip.lasting_resets low caught ns 0 .i3c 0 _ (by simp))⟩
  | perstN low => exact ⟨_, rfl, .of_lasting (s.chip.lasting_resets low false 0 0 .i3c 0 _ (by simp))⟩
  | resetCmdCold v w => exact ⟨_, rfl, .of_lasting (s.chip.lasting_resets false false 0 2 v w _ (by simp))⟩
  | resetCmdWarm v w => exact ⟨_, rfl, .of_lasting (s.chip.lasting_resets false false 0 1 v w _ (by simp))⟩
  | powerOn | porRelease | hotReset | watchdogExpiry => exact ⟨_, rfl, .of_lasting (s.chip.lasting_resets false false 0 0 .i3c 0 _ (by simp))⟩
  | reset fr => exact ⟨_, rfl, .of_lasting (s.chip.lasting_mtrResetFrame fr)⟩
  | dramTraining capacity m => exact ⟨_, rfl, .of_lasting (s.chip.lasting_release capacity m _ (by simp))⟩
  | wardenRom | configValidation | dataPlaneEnable | vaultDerivation =>
    exact ⟨_, rfl, .of_lasting (s.chip.lasting_release 0 0 _ (by simp))⟩
  | blockResetHold v w => exact ⟨_, rfl, .of_lasting (Chip.lasting_blockHold ..)⟩
  | blockReleaseTestsDone b bad m => exact ⟨_, rfl, .of_lasting (Chip.lasting_blockReady ..)⟩
  | spdmGetVersion req | spdmGetCapabilities req | spdmGetDigests req | spdmGetCertificate req | spdmChallenge req | spdmGetMeasurements req
  | spdmKeyExchange req => exact ⟨_, rfl, .of_lasting (s.chip.lasting_spdm req 0 0 0 0 _ (by simp))⟩
  | spdmNegotiateAlgorithms req asym hash dhe aead =>
    exact ⟨_, rfl, .of_lasting (s.chip.lasting_spdm req asym hash dhe aead _ (by simp))⟩
  | spdmFinish rec => exact ⟨_, rfl, .of_lasting (s.chip.lasting_spdmSession rec).1⟩
  | spdmEndSession rec => exact ⟨_, rfl, .of_lasting (s.chip.lasting_spdmSession rec).2⟩
  | coreRail _ _ _ _ | ioRail _ _ _ _ => exact ⟨_, rfl, Chip.steady_rail ..⟩
  | railRecovery _ | railFreezeTimeout _ => exact ⟨_, rfl, Chip.steady_freezeResolve ..⟩
  | clkFreq _ _ _ | tempLow _ _ _ | tempHigh _ _ _ | light _ _ _ | magnetic _ _ _ => exact ⟨_, rfl, Chip.steady_paired ..⟩
  | clkGlitch _ _ _ _ => exact ⟨_, rfl, Chip.steady_clkGlitch ..⟩
  | mesh det trace short same => exact ⟨_, rfl, s.chip.steady_source det trace 0 0 0 short false same _ (by simp)⟩
  | tampIn p det same => exact ⟨_, rfl, s.chip.steady_source det 0 p 0 0 false false same _ (by simp)⟩
  | panic ns caught same => exact ⟨_, rfl, s.chip.steady_source 0 0 0 ns 0 false caught same _ (by simp)⟩
  | wardenSelfcheck cause same => exact ⟨_, rfl, s.chip.steady_source 0 0 0 0 cause false false same _ (by simp)⟩
  | tileFaultReport same => exact ⟨_, rfl, s.chip.steady_source 0 0 0 0 0 false false same _ (by simp)⟩
  | debugAccess same => exact ⟨_, rfl, Chip.steady_alarm ..⟩
  | faultWindowExpiry => exact ⟨_, rfl, Chip.steady_windowExpiry _⟩
  | managementPanic _ _ _ => exact ⟨_, rfl, Chip.steady_managementPanic ..⟩
  | backupLoss main => exact ⟨_, rfl, Chip.steady_backupLoss ..⟩
  | lockDelivery => exact ⟨_, rfl, Chip.steady_lockDelivery _⟩
  | eraseDelivery => exact ⟨_, rfl, Chip.steady_eraseDelivery _⟩
  | eraseComplete => exact ⟨_, rfl, Chip.steady_eraseComplete _⟩
  | instructionCacheFill h ok => exact ⟨_, rfl, .of_lasting (Chip.lasting_icacheFill ..)⟩
  | vaultStaging e => exact ⟨_, rfl, .of_lasting (Chip.lasting_staging ..)⟩
  | vaultCommitVisible e => exact ⟨_, rfl, .of_lasting (Chip.lasting_commitVisible ..)⟩
  | statusQuery | imageRetire | codesignInstall | codesignRevoke | keyGenerate | keyDelete | keySetAttr | keyQuery | xksImageAdvance
  | tr34KrdCreate | tr34KrdDelete | tr34KdhCa | ceremonyOpen | ceremonyCollect | archiveKeyCreate | backupWrite | auditRead | bondEnrol
  | bondStart | bondRoster | bondLeave | bondStatus => exact ⟨_, rfl, .of_lasting (s.chip.lasting_request none _ (by simp))⟩
  | configSubmit bulk | imageAdmit bulk | patchInstall bulk => exact ⟨_, rfl, .of_lasting (s.chip.lasting_request bulk _ (by simp))⟩
  | restoreBegin => exact ⟨_, rfl, Chip.steady_restoreBegin _⟩
  | flagClear => exact ⟨_, rfl, Chip.steady_flagClear _⟩
  | timeSet => exact ⟨_, rfl, Chip.steady_timeSet _⟩
  | archiveWindowEnd => exact ⟨_, rfl, .of_lasting (Chip.lasting_archiveWindowEnd _)⟩
  | _ => exact ⟨_, rfl, .of_lasting (s.chip.lasting_onDev _)⟩

theorem exec_keeps (i : Instr) (s : State) : ∃ c, exec i s = .next (s.setChip c) ∧ s.chip.Keeps c := by
  by_cases hi : blowsOrClears i
  · cases i with
    | provision b => exact ⟨_, rfl, Chip.keeps_provision ..⟩
    | debugEnter b => exact ⟨_, rfl, (Chip.keeps_debugEnter ..).2⟩
    | debugExit => exact ⟨_, rfl, (Chip.keeps_debugExit _).2⟩
    | decommission b => exact ⟨_, rfl, (Chip.keeps_decommission ..).1⟩
    | unlock => exact ⟨_, rfl, (Chip.lasting_unlock _).keeps.2⟩
    | restoreEnd => exact ⟨_, rfl, (Chip.lasting_restoreFinish _).keeps.2⟩
    | _ => exact hi.elim
  · obtain ⟨c, hc, hs⟩ := exec_steady hi s
    exact ⟨c, hc, hs.keeps⟩

/-- Settles O1: the definition of a step, case by case of the queue, as the model's assumptions 1 and 2 choose them. -/
theorem stepRunsTheFrontCommand : Obligations.StepRunsTheFrontCommand := by
  refine fun s => ⟨fun i rest hqueue => ?_, fun hempty => ?_⟩
  · rw [step, hqueue]
  · rw [step, hempty]
    rfl

/-- Settles O3. -/
theorem resetIsInForm : Obligations.ResetIsInForm :=
  (Chip.inForm_iff _).mpr ⟨Backup.fresh_inForm true, by decide, by decide⟩

/-- Settles O4: what a command does to the backup domain and the fuses keeps the form, and so does the clock of an idle cycle. -/
theorem everyStepKeepsTheForm : Obligations.EveryStepKeepsTheForm := by
  intro s t hform hstep
  cases hqueue : s.pending with
  | nil =>
    rw [step, hqueue] at hstep
    cases hstep
    exact (s.chip.steady_advance 1).keeps.form hform
  | cons i rest =>
    obtain ⟨c, hc, hkeeps⟩ := exec_keeps i { s with pending := rest }
    rw [step, hqueue] at hstep
    cases hc.symm.trans hstep
    exact hkeeps.form hform

/-- Settles O5. -/
theorem fusesOnlyBlow : Obligations.FusesOnlyBlow := by
  intro i s t hexec
  refine ⟨?_, fun hprovision henter hexit hdecommission => ?_⟩
  · obtain ⟨c, hc, hkeeps⟩ := exec_keeps i s
    cases hc.symm.trans hexec
    exact hkeeps.fuses
  · by_cases hi : blowsOrClears i
    · cases i with
      | provision b => exact (hprovision b rfl).elim
      | debugEnter b => exact (henter b rfl).elim
      | debugExit => exact (hexit rfl).elim
      | decommission b => exact (hdecommission b rfl).elim
      | unlock =>
        cases hexec
        exact (Chip.lasting_unlock _).keeps.1
      | restoreEnd =>
        cases hexec
        exact (Chip.lasting_restoreFinish _).keeps.1
      | _ => exact hi.elim
    · obtain ⟨c, hc, hs⟩ := exec_steady hi s
      cases hc.symm.trans hexec
      exact hs.fuses

/-- Settles O6: the effects that are steady clear no latch, DEBUG_ENTER and DEBUG_EXIT leave the backup domain, DECOMMISSION only sets
latches, and UNLOCK keeps ERASED. -/
theorem onlyNamedRequestsClearLatches : Obligations.OnlyNamedRequestsClearLatches := by
  intro i s t hexec
  have hkept (hl : s.chip.bd.locked = true → t.chip.bd.locked = true) (he : s.chip.bd.erased = true → t.chip.bd.erased = true) :
      (s.chip.bd.locked = true → t.chip.bd.locked = false → Instr.mayClearLatch i) ∧
        (s.chip.bd.erased = true → t.chip.bd.erased = false → Instr.mayClearLatch i ∧ i ≠ .unlock) :=
    ⟨fun h h' => by simp [hl h] at h', fun h h' => by simp [he h] at h'⟩
  by_cases hi : blowsOrClears i
  · cases i with
    | provision b => exact ⟨fun _ _ => trivial, fun _ _ => ⟨trivial, nofun⟩⟩
    | restoreEnd => exact ⟨fun _ _ => trivial, fun _ _ => ⟨trivial, nofun⟩⟩
    | unlock =>
      cases hexec
      exact ⟨fun _ _ => trivial, fun h h' => absurd (s.chip.erased_unlock h) (by simpa using h')⟩
    | debugEnter b =>
      cases hexec
      have hbd := (s.chip.keeps_debugEnter b).1
      exact hkept (fun h => hbd ▸ h) fun h => hbd ▸ h
    | debugExit =>
      cases hexec
      have hbd := s.chip.keeps_debugExit.1
      exact hkept (fun h => hbd ▸ h) fun h => hbd ▸ h
    | decommission b =>
      cases hexec
      obtain ⟨-, hlocked, herased⟩ := s.chip.keeps_decommission b
      exact hkept hlocked herased
    | _ => exact hi.elim
  · obtain ⟨c, hc, hs⟩ := exec_steady hi s
    cases hc.symm.trans hexec
    exact hkept hs.locked hs.erased

theorem exec_managementPanic (v : Via) (w : Word) (same : Bool) (s : State) :
    exec (.managementPanic v w same) s = onChip s (fun c => c.managementPanic v w same) := rfl

/-- Settles O10: PLT_PANIC stands at offset 0x78, and source 19 is masked by nothing but its arming. -/
theorem panicThroughManagementPort : Obligations.PanicThroughManagementPort := by
  rintro s c w rfl
  refine ⟨?i3c, ?host⟩
  case i3c =>
    rintro hon hpor hkey hgo harmed x rfl
    have hreached : s.chip.dev.pltReached .i3c (pltOff Fld.PLT_PANIC_GO) = true := by simp [Dev.pltReached, hon, hpor]
    have hkeyed : keyed w [1] = true := by simp [keyed, hkey, hgo]
    have hsource : s.chip.armed 19 = true := by simp only [Chip.armed, harmed]; rfl
    have hpanic (same : Bool) : s.chip.managementPanic .i3c w same = s.chip.alarm 19 0 1 same := by
      simp [Chip.managementPanic, hreached, hkeyed]
    constructor
    · rw [exec_managementPanic, onChip_next s (hpanic true), Chip.alarm]
      simp [hon, hsource]
    · rw [exec_managementPanic, onChip_next s (hpanic false), Chip.alarm]
      simp [hon, hsource]
  case host =>
    intro fn src same hreached
    have hreached : s.chip.dev.pltReached (.host fn src) (pltOff Fld.PLT_PANIC_GO) = true := hreached
    rw [exec_managementPanic]
    exact onChip_outcome s (by simp [Chip.managementPanic, hreached])

/-- Settles O8: the reset state's one stored register is the cause register (assumptions 6 and 1). -/
theorem resetValues : Obligations.ResetValues := by
  rintro d rfl
  have hreg (a : Nat) (ha : a ≠ Fld.PLT_RESET_CAUSE_SOURCE.reg) : State.reset.chip.dev.reg a = regReset a := by
    have ha' : a ≠ 0xF0008 := ha
    simp [Dev.reg, State.reset, Dev.reset, tget, ha'.symm]
  refine ⟨by decide, by decide, hreg, ?_, rfl, rfl, rfl, rfl, rfl, rfl, rfl, rfl, rfl, rfl, rfl, rfl, rfl, rfl, rfl, rfl, rfl, by decide, by decide,
    rfl, rfl, rfl⟩
  rw [Dev.rd, hreg _ (by decide)]
  decide

end Sys2Proof.Machine
end

section
/-! Lifecycle requests, status, the audit log and the watchdog (R323, R327 to R332, R334, R335, R351, R352). -/

namespace Sys2Proof.Machine

/-! ## The commands -/

section
variable (bulk : Option (List Byte)) (s : State)

theorem exec_provision : exec (.provision bulk) s = onChip s (fun c => c.provision bulk) := rfl
theorem exec_debugEnter : exec (.debugEnter bulk) s = onChip s (fun c => c.debugEnter bulk) := rfl
theorem exec_debugExit : exec .debugExit s = onChip s (fun c => c.debugExit) := rfl
theorem exec_decommission : exec (.decommission bulk) s = onChip s (fun c => c.decommission bulk) := rfl
theorem exec_statusQuery : exec .statusQuery s = onChip s (fun c => c.statusQuery) := rfl
theorem exec_auditRead : exec .auditRead s = onChip s (fun c => c.auditRead) := rfl
theorem exec_watchdogExpiry : exec .watchdogExpiry s = onChip s (fun c => c.watchdog) := rfl

end

section
variable {c : Chip} {r : WReq} {b : List Byte}

/-! ## The bulk area's read (R324) -/

@[simp] theorem Dev.bulkRead_vbatLow (d : Dev) : (d.bulkRead r).tmp.vbatLow = d.tmp.vbatLow := by
  unfold Dev.bulkRead
  split <;> rfl

@[simp] theorem Dev.bulkRead_rngFailed (d : Dev) : (d.bulkRead r).rngFailed = d.rngFailed := by
  unfold Dev.bulkRead
  split <;> rfl

@[simp] theorem Dev.bulkRead_rngServes (d : Dev) (i : Nat) : (d.bulkRead r).rngServes i = d.rngServes i := by
  unfold Dev.bulkRead
  split <;> rfl

@[simp] theorem Dev.bulkRead_canAudit (d : Dev) : (d.bulkRead r).canAudit = d.canAudit := by
  unfold Dev.bulkRead
  split <;> rfl

@[simp] theorem Dev.bulkRead_lifecycle (c : Chip) : (c.onDev fun d => d.bulkRead r).lifecycle = c.lifecycle := by
  simp only [Chip.onDev, Dev.bulkRead]
  split <;> rfl

/-! ## PROVISION (R330) -/

theorem Chip.provision_serves (hs : c.Serves 0x0101 false r) (hlen : b.length = r.bulkLen) (hform : r.provisionOk = true)
    (hvbat : c.dev.tmp.vbatLow = false) (hworks : c.dev.rngFailed = false) (hserves : c.dev.rngServes 0 = true) (haudit : c.dev.canAudit = true)
    {c1 : Chip} (hc1 : c1 = c.onDev fun d => d.bulkRead r) : c.provision (some b) =
      match c1.dev.vendorCheck r b 0 with
      | some status => c1.reply r status
      | none =>
        let c2 := c1.audit 0x0101 stOk 0 r.origin (c1.provisionDigest r)
        let c3 := c2.watch fun c => ⟨(c.dev.draw 0 1 32).wardenState 2 (slice r.params 16 (r.par 8 4)), c.bd.provisioned c2.dev.nfree,
          { c.fz with provision := true, tampClass := r.par 0 1, programmed := true }⟩
        (c3.reply r stOk c3.dev.deviceId).lifeReset := by
  have hcode : r.code = 0x0101 := hs.2.2.1
  rw [Chip.provision, Chip.serve_serves hs]
  simp only [← hc1]
  have hvbat1 : c1.dev.tmp.vbatLow = false := by simp [hc1, Chip.onDev, hvbat]
  have hworks1 : c1.dev.rngFailed = false := by simp [hc1, Chip.onDev, hworks]
  have hserves1 : c1.dev.rngServes 0 = true := by simp [hc1, Chip.onDev, hserves]
  have haudit1 : c1.dev.canAudit = true := by simp [hc1, Chip.onDev, haudit]
  simp only [hform, hlen, hvbat1, hworks1, hserves1, haudit1, hcode, bne_self_eq_false, Bool.not_true, Bool.or_self, Bool.false_eq_true, if_false]
  cases c1.dev.vendorCheck r b 0 <;> rfl

/-! ## DEBUG_ENTER and DEBUG_EXIT (R329, R331) -/

section
variable {c1 : Chip} (hs : c.Serves 0x0102 false r) (hparams : r.paramLen = 0) (hlen : b.length = r.bulkLen) (hc1 : c1 = c.onDev fun d => d.bulkRead r)
include hs hc1

/-- No more than 8 debug fuses are blown. -/
theorem Chip.debugEnter_ninth (hcount : 8 ≤ c.fz.debug) : c.debugEnter (some b) = c1.reply r stUseLimit := by
  have hcount1 : 8 ≤ c1.fz.debug := hc1 ▸ hcount
  rw [Chip.debugEnter, Chip.serve_serves hs]
  simp only [← hc1, hcount1, if_true]

theorem Chip.debugEnter_refused (hcount : c.fz.debug < 8) (hlife : c.lifecycle = 3 ∨ c.lifecycle = 4) :
    c.debugEnter (some b) = c1.reply r stBadDescriptor := by
  have hcount1 : ¬ 8 ≤ c1.fz.debug := hc1 ▸ Nat.not_le.mpr hcount
  have hlife1 : c1.lifecycle = c.lifecycle := by rw [hc1, Dev.bulkRead_lifecycle]
  rw [Chip.debugEnter, Chip.serve_serves hs]
  simp only [← hc1, hcount1, if_false]
  rcases hlife with h | h <;> simp [hlife1, h]

include hparams hlen

/-- Once its form is right and its fuse is there, DEBUG_ENTER is the vendor's and, outside MANUFACTURE, the quorum's. -/
theorem Chip.debugEnter_serves (hcount : c.fz.debug < 8) (hunlocked : c.lifecycle ≠ 3) (htest : c.lifecycle ≠ 4) : c.debugEnter (some b) =
    match c1.dev.vendorCheck r b c.fz.debug with
    | some status => c1.reply r status
    | none => if c.lifecycle = 0 then (if r.authLen = 0 then c1.audited r (fun c => c.debugFuse r) else c1.reply r stBadDescriptor)
      else c1.quorumed r b 2 (fun c => c.debugFuse r) := by
  have hfz : c1.fz = c.fz := by rw [hc1]; rfl
  have hlife1 : c1.lifecycle = c.lifecycle := by rw [hc1, Dev.bulkRead_lifecycle]
  rw [Chip.debugEnter, Chip.serve_serves hs]
  simp only [← hc1, hfz, hlife1, Nat.not_le.mpr hcount, hunlocked, htest, hparams, hlen, bne_self_eq_false, decide_false, Bool.or_self,
    Bool.false_eq_true, if_false] <;> rfl

end

theorem Chip.debugExit_serves (hs : c.Serves 0x0103 false r) (hplain : r.plain 0 = true) (haudit : c.dev.canAudit = true) :
    c.debugExit = (c.auditReq r stOk).debugFuse r := by
  rw [Chip.debugExit, Chip.serve_serves hs]
  simp only [hplain, Chip.audited_durable haudit, if_true]

/-! ## DECOMMISSION (R329) -/

section
variable (hs : c.Serves 0x0104 false r) (hparams : r.paramLen = 0)
include hs hparams

theorem Chip.decommission_quorum (hlife : c.lifecycle ≠ 0) (hbulk : r.bulkLen = 0) :
    c.decommission none = c.underQuorum r [] 2 fun c => (c.reply r stOk).decommissionNow := by
  rw [Chip.decommission, Chip.serve_serves hs]
  simp only [hparams, hlife, hbulk, bne_self_eq_false, Bool.false_eq_true, if_false]
  rfl

theorem Chip.decommission_vendor (hlife : c.lifecycle = 0) (hauth : r.authLen = 0) (hlen : b.length = r.bulkLen) (haudit : c.dev.canAudit = true)
    {c1 : Chip} (hc1 : c1 = c.onDev fun d => d.bulkRead r) : c.decommission (some b) =
      match c1.dev.vendorCheck r b 0 with
      | some status => c1.reply r status
      | none => ((c1.auditReq r stOk).reply r stOk).decommissionNow := by
  have haudit1 : c1.dev.canAudit = true := by simp [hc1, Chip.onDev, haudit]
  rw [Chip.decommission, Chip.serve_serves hs]
  simp only [← hc1, hparams, hlife, hauth, hlen, Chip.audited_durable haudit1, bne_self_eq_false, Bool.or_self, Bool.false_eq_true, if_false, if_true] <;>
    rfl

end

/-! ## STATUS_QUERY and AUDIT_READ (R327, R352) -/

theorem Chip.statusQuery_serves (hs : c.Serves 0x0105 true r) (hplain : r.plain 0 = true) : c.statusQuery = c.reply r stOk c.statusBlock := by
  rw [Chip.statusQuery, Chip.serve_serves hs]
  simp only [hplain, if_true]

theorem Chip.auditRead_serves (hs : c.Serves 0x0501 true r) (hparams : r.paramLen = 16) (hauth : r.authLen = 0) (horigin : r.origin ≠ 2) :
    c.auditRead = (let bs := c.dev.auditEntries (r.par 0 8) (min (r.par 8 8) (min (r.bulkLen / 128) 4096))
      (c.onDev fun d => if bs.isEmpty then d else d.send 0 (.memWrite 0 r.bulkAddr bs)).reply r stOk (c.dev.auditSig (bs.length / 128))) := by
  have hmail : (r.origin == 2) = false := by simpa using horigin
  rw [Chip.auditRead, Chip.serve_serves hs]
  simp only [hparams, hauth, hmail, horigin, bne_self_eq_false, Bool.false_and, Bool.or_self, Bool.false_eq_true, if_false]

end

/-! ## The statement -/

/-- Settles O44: each clause is one request's rule above, taken from the chip to the state. The reset that a lifecycle request applies and the audit
entries of events hold values that the manual leaves open (assumptions 39 and 44). -/
theorem lifecycleRequestsBlowFuses : Obligations.LifecycleRequestsBlowFuses := by
  rintro s c rfl fuse gone r b c1 hc1 hlen
  refine ⟨fun hs hform hvbat hworks hserves haudit => ?provision,
    fun hs hparams => ⟨fun hcount => ?ninth, fun hcount hlife => ?refused, fun hcount hunlocked htest hlife => ?quorum,
      fun hcount hlife hauth haudit => ?manufacture⟩,
    fun hs hplain haudit => ?exit, fun hs hparams => ⟨fun hlife hbulk => ?decommission, fun hlife hauth haudit => ?decommissionNew⟩,
    fun hs hplain => ?status, fun hs hparams hauth horigin => ?audit, fun hruns => ?watchdog⟩
  case provision =>
    rw [exec_provision]
    exact onChip_next s (Chip.provision_serves hs hlen hform hvbat hworks hserves haudit hc1)
  case ninth =>
    rw [exec_debugEnter]
    exact onChip_next s (Chip.debugEnter_ninth hs hc1 hcount)
  case refused =>
    rw [exec_debugEnter]
    exact onChip_next s (Chip.debugEnter_refused hs hc1 hcount hlife)
  case quorum =>
    rw [exec_debugEnter, onChip_next s (Chip.debugEnter_serves hs hparams hlen hc1 hcount hunlocked htest)]
    simp only [hlife, if_false]
    rfl
  case manufacture =>
    have haudit1 : c1.dev.canAudit = true := by simp [hc1, Chip.onDev, haudit]
    rw [exec_debugEnter, onChip_next s (Chip.debugEnter_serves hs hparams hlen hc1 hcount (by omega) (by omega))]
    simp only [hlife, hauth, Chip.audited_durable haudit1, if_true]
    rfl
  case exit =>
    rw [exec_debugExit]
    exact onChip_next s (Chip.debugExit_serves hs hplain haudit)
  case decommission =>
    rw [exec_decommission]
    exact onChip_next s (Chip.decommission_quorum hs hparams hlife hbulk)
  case decommissionNew =>
    rw [exec_decommission]
    exact onChip_next s (Chip.decommission_vendor hs hparams hlife hauth hlen haudit hc1)
  case status =>
    rw [exec_statusQuery]
    exact onChip_next s (Chip.statusQuery_serves hs hplain)
  case audit =>
    rw [exec_auditRead]
    exact onChip_next s (Chip.auditRead_serves hs hparams hauth horigin)
  case watchdog =>
    rw [exec_watchdogExpiry]
    exact onChip_next s (if_pos hruns)

end Sys2Proof.Machine
end

section
/-! Ceremonies, UNLOCK, FLAG_CLEAR, TIME_SET, the archive key, BACKUP_WRITE and the restore (R301, R316, R319, R334 to R340, R351, R368, R376). -/

namespace Sys2Proof.Machine

/-! ## The commands -/

section
variable (s : State)

theorem exec_ceremonyOpen : exec .ceremonyOpen s = onChip s (fun c => c.ceremonyOpen) := rfl
theorem exec_ceremonyCollect : exec .ceremonyCollect s = onChip s (fun c => c.ceremonyCollect) := rfl
theorem exec_ceremonyTimeout : exec .ceremonyTimeout s = onDev s (fun d => d.ceremonyTimeout) := rfl
theorem exec_unlock : exec .unlock s = onChip s (fun c => c.thenResume Chip.unlock) := rfl
theorem exec_flagClear : exec .flagClear s = onChip s (fun c => c.flagClear) := rfl
theorem exec_timeSet : exec .timeSet s = onChip s (fun c => c.timeSet) := rfl
theorem exec_archiveKeyCreate : exec .archiveKeyCreate s = onChip s (fun c => c.archiveKeyCreate) := rfl
theorem exec_archiveWindowEnd : exec .archiveWindowEnd s = onChip s (fun c => c.archiveWindowEnd) := rfl
theorem exec_backupWrite : exec .backupWrite s = onChip s (fun c => c.backupWrite) := rfl
theorem exec_restoreBegin : exec .restoreBegin s = onChip s (fun c => c.restoreBegin) := rfl
theorem exec_restoreEnd : exec .restoreEnd s = onChip s (fun c => c.thenResume Chip.restoreFinish) := rfl

end

section
variable {c : Chip} {r : WReq}

/-! ## Ceremonies (R336) -/

section
variable (hs : c.Serves 0x0401 false r) (hplain : r.plain 80 = true)
include hs hplain

/-- At most one ceremony is open. -/
theorem Chip.ceremonyOpen_second (hopen : c.dev.wdn.ceremony.isSome = true) : c.ceremonyOpen = c.reply r stQuota := by
  rw [Chip.ceremonyOpen, Chip.serve_serves hs]
  simp only [hplain, hopen, Bool.not_true, Bool.false_eq_true, if_false, if_true]

theorem Chip.ceremonyOpen_serves (hnone : c.dev.wdn.ceremony = none) (haudit : c.dev.canAudit = true) :
    c.ceremonyOpen = ((c.auditReq r stOk).onDev fun d =>
      let d := { d.wr Fld.WDN_MBOX_STATUS_CEREMONY 1 with wdn := { d.wdn with ceremony := some ⟨r.params, []⟩ } }
      ((d.modCc 0 (fun x => { x with refused := false })).modCc 1 (fun x => { x with refused := false })).cardsStart).reply r stOk := by
  rw [Chip.ceremonyOpen, Chip.serve_serves hs]
  simp only [hplain, hnone, Chip.audited_durable haudit, Option.isSome_none, Bool.not_true, Bool.false_eq_true, if_false]

end

theorem Chip.ceremonyCollect_serves {w : Ceremony} (hopen : c.dev.wdn.ceremony = some w) (hs : c.Serves 0x0402 false r) (hplain : r.plain 0 = true)
    (haudit : c.dev.canAudit = true) : c.ceremonyCollect = ((c.auditReq r stOk).onDev Dev.closeCeremony).reply r stOk w.bytes := by
  rw [Chip.ceremonyCollect, Chip.serve_serves hs]
  simp only [hplain, hopen, Chip.audited_durable haudit, Bool.not_true, Bool.false_eq_true, if_false]

theorem Dev.ceremonyTimeout_open {d : Dev} {w : Ceremony} (hopen : d.wdn.ceremony = some w) : d.ceremonyTimeout = d.closeCeremony := by
  rw [Dev.ceremonyTimeout, hopen]
  rfl

/-! ## UNLOCK, FLAG_CLEAR and TIME_SET (R316, R319, R338) -/

theorem Chip.unlock_serves (hs : c.Serves 0x0403 false r) (hparams : r.paramLen = 0) (hbulk : r.bulkLen = 0) (hlocked : c.bd.locked = true) :
    c.unlock = match c.dev.authCheck r [] 0 c.dev.authority with
      | some status => c.reply r status
      | none => c.audited r fun c =>
        let c1 := c.onDev fun d => d.nvsNow (.increment 0)
        if c1.dev.wdn.alarms = r.s0 then c1.clearLocked.reply r stOk (leBytes 8 (c1.dev.ctrValue 0)) else c1.reply r stLocked := by
  rw [Chip.unlock, Chip.serve_serves hs]
  simp only [hparams, hbulk, hlocked, bne_self_eq_false, Bool.not_true, Bool.or_self, Bool.false_eq_true, if_false, bne_iff_ne, ite_not] <;> rfl

theorem Chip.flagClear_serves (hs : c.Serves 0x0406 false r) (hparams : r.paramLen = 16) (hbulk : r.bulkLen = 0) (hnamed : r.par 0 8 < 2 ^ 22)
    (hzero : r.par 10 6 = 0) : c.flagClear = c.underQuorum r [] 2 fun c =>
      let w := c.bd.clearable (r.par 0 8) (r.par 8 2)
      ({ c with bd := { c.bd with flags := c.bd.flags &&& ~~~ w, reviewed := r.par 8 2 } } : Chip).reply r stOk
        (bvBytes 8 w ++ bvBytes 8 (c.bd.flags &&& BitVec.ofNat 64 (r.par 0 8) &&& ~~~ w)) := by
  rw [Chip.flagClear, Chip.serve_serves hs]
  simp only [hparams, hbulk, hzero, Nat.not_le.mpr hnamed, bne_self_eq_false, decide_false, Bool.or_self, Bool.false_eq_true, if_false]
  rfl

theorem Chip.timeSet_serves (hs : c.Serves 0x0407 false r) (hparams : r.paramLen = 8) (hbulk : r.bulkLen = 0) (htime : r.par 0 8 < 2 ^ 48) :
    c.timeSet = c.underQuorum r [] 2 fun c =>
      ({ c with bd := { c.bd with time := r.par 0 8 * 32768, phase := 0, timeValid := true } } : Chip).reply r stOk (bvBytes 8 c.timeWord) := by
  rw [Chip.timeSet, Chip.serve_serves hs]
  simp only [hparams, hbulk, Nat.not_le.mpr htime, bne_self_eq_false, decide_false, Bool.or_self, Bool.false_eq_true, if_false]
  rfl

/-! ## The archive key (R339, R368) -/

theorem Chip.archiveKeyCreate_serves (hs : c.Serves 0x0408 false r) (hparams : r.paramLen = 0) (hbulk : r.bulkLen = 0)
    (hnone : c.dev.wdn.ceremony = none) (hworks : c.dev.rngFailed = false) (hserves : c.dev.rngServes 0 = true) :
    c.archiveKeyCreate = c.underQuorum r [] 2 fun c => c.onDev fun d =>
      let d := { d.draw 0 2 32 with wdn := { d.wdn with arch := some ⟨r, d.nfree, d.archGen + 1, []⟩ } }.wr Fld.WDN_MBOX_STATUS_CEREMONY 1
      ((d.modCc 0 (fun x => { x with refused := false })).modCc 1 (fun x => { x with refused := false })).cardsStart := by
  rw [Chip.archiveKeyCreate, Chip.serve_serves hs]
  simp only [hparams, hbulk, hnone, hworks, hserves, bne_self_eq_false, Option.isSome_none, Bool.not_true, Bool.or_self, Bool.false_eq_true, if_false]
  rfl

/-- The window's end adopts the key where every custodian's share is written, the storage KEK stands and the entry can be durable. -/
theorem Chip.archiveWindowEnd_ends {w : ArchWin} (hopen : c.dev.wdn.arch = some w) (hstore : c.dev.nvs.frozen = false) {c1 : Chip}
    (hc1 : c1 = c.onDev fun d => { d.wr Fld.WDN_MBOX_STATUS_CEREMONY 0 with wdn := { d.wdn with arch := none } }) :
    c.archiveWindowEnd =
      if 0 < c.dev.wdn.setN ∧ c.dev.wdn.keys.all (fun k => w.written.contains (keyId k)) = true ∧ c.dev.vlt.roots.kek = true ∧
          c1.dev.canAudit = true then
        ((c1.auditReq w.req stOk).onDev fun d => d.archRecord w.gen (Config.freeBytes w.key 32)).reply w.req stOk
          (leBytes 4 w.gen ++ [BitVec.ofNat 8 w.written.length, 0, 0, 0])
      else (c1.auditReq w.req stKeyAbsent).reply w.req stKeyAbsent := by
  simp only [Chip.archiveWindowEnd, hopen, hstore, Bool.false_eq_true, if_false, ← hc1, Bool.and_eq_true, decide_eq_true_eq, and_assoc]

/-! ## BACKUP_WRITE (R339, R376) -/

section
variable {copies count : Nat} {es : List (List Byte)}

theorem Chip.backupWrite_serves (hcopies : copies = r.par 8 1) (hes : es = c.dev.archEntries) (hcount : count = 2 + (es.length + 6) / 7)
    (hs : c.Serves 0x0409 false r) (hplain : r.plain 16 = true) (hvalid : copies = 1 ∨ copies = 2) (hzero : r.par 9 7 = 0)
    (hworks : c.dev.rngFailed = false) (hserves : c.dev.rngServes 0 = true) (hready : c.dev.sdState = 3) (haudit : c.dev.canAudit = true)
    (hroom : r.par 0 8 + copies * count ≤ c.dev.rd Fld.CRD_SD_CARD_BLOCKS) : c.backupWrite =
      if c.dev.stateOf 3 = none then c.reply r stKeyAbsent [1]
      else if c.dev.archKey = none then c.reply r stKeyAbsent [2]
      else (c.auditReq r stOk).onDev fun d =>
        { d.draw 0 1 16 with wdn := { d.wdn with backup := some ⟨r, r.par 0 8, copies, count, d.nfree, es, 0, 0⟩ } }.setSd 4 := by
  have hvalid : (copies == 1 || copies == 2) = true := by simpa using hvalid
  rw [Chip.backupWrite, Chip.serve_serves hs]
  simp only [← hcopies, ← hes, ← hcount, hplain, hvalid, hzero, hworks, hserves, hready, Nat.not_lt.mpr hroom, Chip.audited_durable haudit,
    Option.isNone_iff_eq_none, bne_self_eq_false, Bool.not_true, Bool.or_self, Bool.false_eq_true, if_false]

end

/-! ## The restore (R340, R377) -/

theorem Chip.restoreBegin_serves (hs : c.Serves 0x0404 false r) (hparams : r.paramLen = 16) (hbulk : r.bulkLen = 0)
    (hcopies : r.par 12 1 = 1 ∨ r.par 12 1 = 2) (hzero : r.par 13 3 = 0) (hcount : 2 ≤ r.par 8 4) (hworks : c.dev.rngFailed = false)
    (hserves : c.dev.rngServes 0 = true) : c.restoreBegin = c.underQuorum r [] 2 fun c =>
      let n := c.dev.nfree
      let c1 := ({ c with bd := { c.bd with bk := some n } } : Chip).onDev fun d =>
        { ((d.draw 0 1 32).deriveBk n).wr Fld.WDN_LIFECYCLE_RESTORING 1 with
          wdn := { d.wdn with restore := some ⟨some r, r.par 0 8, r.par 8 4, r.par 12 1, c.dev.wdn.alarms, [], 0, [], [], 0, 0, [], none, 0, 0⟩ } }
      if c1.dev.sdState = 3 then c1.onDev (fun d => d.setSd 5) else c1.restoreEnd stUnitReset (leBytes 8 (r.par 0 8)) := by
  have hvalid : (r.par 12 1 == 1 || r.par 12 1 == 2) = true := by simpa using hcopies
  rw [Chip.restoreBegin, Chip.serve_serves hs]
  simp only [hparams, hbulk, hvalid, hzero, hworks, hserves, Nat.not_lt.mpr hcount, bne_self_eq_false, Bool.not_true, decide_false, Bool.or_self,
    Bool.false_eq_true, if_false, bne_iff_ne, ite_not]
  rfl

section
variable {x : Restore} (hrestore : c.dev.wdn.restore = some x) (hs : c.Serves 0x0405 false r) (hplain : r.plain 0 = true)
include hrestore hs hplain

theorem Chip.restoreFinish_alarmed (halarm : c.dev.wdn.alarms ≠ x.s0) : c.restoreFinish = (c.restoreEnd stErased []).reply r stErased := by
  rw [Chip.restoreFinish, Chip.serve_serves hs]
  simp only [hrestore, hplain, bne_iff_ne.mpr halarm, Bool.not_true, Bool.false_eq_true, if_false, if_true]

theorem Chip.restoreFinish_bad {n : Nat} (halarm : c.dev.wdn.alarms = x.s0) (hbad : x.bad = some n) :
    c.restoreFinish = (c.restoreEnd stFormat []).reply r stFormat (leBytes 4 n) := by
  rw [Chip.restoreFinish, Chip.serve_serves hs]
  simp only [hrestore, hplain, halarm, hbad, bne_self_eq_false, Bool.not_true, Bool.false_eq_true, if_false]

theorem Chip.restoreFinish_restores (halarm : c.dev.wdn.alarms = x.s0) (hgood : x.bad = none) (hkey : x.key ≠ []) (hread : x.count ≤ x.nextSeq)
    (hloaded : x.loading = 0) (haudit : c.dev.canAudit = true) : c.restoreFinish =
      let c1 := (c.auditReq r stOk).onDev fun d => d.archRecord (beAt x.header 0x20 4) x.key
      let c2 := c1.watch fun c => { c with bd := { c.bd with erased := false, locked := false } }
      let c3 := (c2.onDev fun d => d.nvsNow (.increment 0)).restoreEnd stOk []
      c3.reply r stOk (leBytes 4 x.loaded ++ [0, 0, 0, 0] ++ leBytes 8 (c3.dev.ctrValue 0)) := by
  rw [Chip.restoreFinish, Chip.serve_serves hs]
  simp only [hrestore, hplain, halarm, hgood, hloaded, List.isEmpty_eq_false_iff.mpr hkey, Nat.not_lt.mpr hread, Chip.audited_durable haudit,
    bne_self_eq_false, Bool.not_true, decide_false, Bool.or_self, Bool.false_eq_true, if_false]

end

end

/-! ## The statement -/

/-- Settles O46: each clause is one request's rule above, taken from the chip to the state. That a restore without a ready card ends with
ST_UNIT_RESET, that the archive window shows in CEREMONY and that a request's count of alarms is taken as it arrives are the model's choice
(assumption 45). -/
theorem ceremonyUnlockArchiveAndRestoreRequests : Obligations.CeremonyUnlockArchiveAndRestoreRequests := by
  rintro s c rfl r ask
  refine ⟨fun hs hplain => ⟨fun hopen => ?second, fun hnone haudit => ?opens⟩,
    fun w hopen => ⟨fun hs hplain haudit => ?collect, ?timeout⟩,
    fun hs hparams hbulk hlocked => ?unlock, fun hs hparams hbulk hnamed hzero => ?flags, fun hs hparams hbulk htime => ?time,
    fun hs hparams hbulk hnone hworks hserves => ?archiveKey, fun w hopen hstore c1 hc1 => ?window,
    fun copies es count hcopies hes hcount hs hplain hvalid hzero hworks hserves hready haudit hroom => ?backup,
    fun hs hparams hbulk hcopies hzero hcount hworks hserves => ?begin,
    fun x hrestore hs hplain => ⟨fun halarm => ?alarmed, fun halarm n hbad => ?bad, fun halarm hgood hkey hread hloaded haudit => ?restores⟩⟩
  case second =>
    rw [exec_ceremonyOpen]
    exact onChip_next s (Chip.ceremonyOpen_second hs hplain hopen)
  case opens =>
    rw [exec_ceremonyOpen]
    exact onChip_next s (Chip.ceremonyOpen_serves hs hplain hnone haudit)
  case collect =>
    rw [exec_ceremonyCollect]
    exact onChip_next s (Chip.ceremonyCollect_serves hopen hs hplain haudit)
  case timeout =>
    rw [exec_ceremonyTimeout]
    exact onDev_outcome s (Dev.ceremonyTimeout_open hopen)
  case unlock =>
    rw [exec_unlock]
    exact onChip_next s (congrArg (fun x : Chip => x.onDev Dev.bondResume) (Chip.unlock_serves hs hparams hbulk hlocked))
  case flags =>
    rw [exec_flagClear]
    exact onChip_next s (Chip.flagClear_serves hs hparams hbulk hnamed hzero)
  case time =>
    rw [exec_timeSet]
    exact onChip_next s (Chip.timeSet_serves hs hparams hbulk htime)
  case archiveKey =>
    rw [exec_archiveKeyCreate]
    exact onChip_next s (Chip.archiveKeyCreate_serves hs hparams hbulk hnone hworks hserves)
  case window =>
    rw [exec_archiveWindowEnd]
    exact onChip_next s (Chip.archiveWindowEnd_ends hopen hstore hc1)
  case backup =>
    rw [exec_backupWrite]
    exact onChip_next s (Chip.backupWrite_serves hcopies hes hcount hs hplain hvalid hzero hworks hserves hready haudit hroom)
  case begin =>
    rw [exec_restoreBegin]
    exact onChip_next s (Chip.restoreBegin_serves hs hparams hbulk hcopies hzero hcount hworks hserves)
  case alarmed =>
    rw [exec_restoreEnd]
    exact onChip_next s (congrArg (fun x : Chip => x.onDev Dev.bondResume) (Chip.restoreFinish_alarmed hrestore hs hplain halarm))
  case bad =>
    rw [exec_restoreEnd]
    exact onChip_next s (congrArg (fun x : Chip => x.onDev Dev.bondResume) (Chip.restoreFinish_bad hrestore hs hplain halarm hbad))
  case restores =>
    rw [exec_restoreEnd]
    exact onChip_next s (congrArg (fun x : Chip => x.onDev Dev.bondResume)
      (Chip.restoreFinish_restores hrestore hs hplain halarm hgood hkey hread hloaded haudit))

end Sys2Proof.Machine
end

section
/-! The backup card port: initialisation, tuning, block writes and reads, busy phases and removal (R340, R353, R369 to R377). -/

namespace Sys2Proof.Machine

/-! ## The commands -/

section
variable (s : State)

theorem exec_sdCardInit (cmd8 ready ccs s18a sw : Bool) (blocks : Nat) (sdxc : Bool) (top : Nat) :
    exec (.sdCardInit cmd8 ready ccs s18a sw blocks sdxc top) s = onDev s (fun d => d.sdStart cmd8 ready ccs s18a sw blocks sdxc top) := rfl
theorem exec_sdTuning (ok : Bool) : exec (.sdTuning ok) s = onDev s (fun d => d.sdTuning ok) := rfl
theorem exec_sdBlockWrite (n : Nat) : exec (.sdBlockWrite n) s = onChip s (fun c => c.sdBlockWrite n) := rfl
theorem exec_sdBlockRead (bs : List Byte) (n : Nat) : exec (.sdBlockRead bs n) s = onChip s (fun c => c.sdBlockRead bs n) := rfl
theorem exec_sdBusyEnd : exec .sdBusyEnd s = onChip s (fun c => c.sdBusyEnd) := rfl
theorem exec_sdBusyTimeout : exec .sdBusyTimeout s = onChip s (fun c => c.sdBusyTimeout) := rfl
theorem exec_sdCardRemoval (data : Bool) : exec (.sdCardRemoval data) s = onChip s (fun c => c.sdRemoval data) := rfl

end

/-! ## The port's state -/

section
variable (d : Dev)

@[simp] theorem Dev.setSd_crd (n : Nat) : (d.setSd n).crd = d.crd := by
  unfold Dev.setSd
  split <;> rfl

@[simp] theorem Dev.setSd_wdn (n : Nat) : (d.setSd n).wdn = d.wdn := by
  unfold Dev.setSd
  split <;> rfl

@[simp] theorem Dev.sdEmpty_wdn : d.sdEmpty.wdn = d.wdn := by
  unfold Dev.sdEmpty
  exact Dev.setSd_wdn ..

end

/-! ## Initialisation and tuning (R369 to R371) -/

section
variable {d d1 : Dev} {cmd8 ready ccs s18a sw sdxc : Bool} {blocks top : Nat} (hruns : d.wdn.running = true) (hempty : d.sdState = 0)
  (hheld : (d.rd Fld.PLT_BLOCK_RESET_HOLD).testBit 7 = false)
  (hd1 : d1 = ({ d.emit (.pin "SD_PWR_EN" true) with crd := { d.crd with sdPresent := true, sdTuned := false } } : Dev).setSd 1)
include hruns hempty hheld hd1

theorem Dev.sdStart_refused (hfails : cmd8 = false ∨ ready = false ∨ ccs = false) :
    d.sdStart cmd8 ready ccs s18a sw blocks sdxc top = d1.setSd 7 := by
  have hfails : (!cmd8 || !ready || !ccs) = true := by simpa [or_assoc] using hfails
  simp only [Dev.sdStart, hruns, Dev.sdInit, hempty, hheld, ← hd1, hfails, bne_self_eq_false, Bool.or_self, Bool.false_eq_true, if_false, if_true]

theorem Dev.sdStart_powered {tries : Bool} (htries : tries = (s18a && !d.crd.sdLimit && decide (2 ≤ d1.rd Fld.CRD_SD_CFG_MAX_MODE))) :
    d.sdStart true true true s18a sw blocks sdxc top =
      let d2 : Dev := { d1 with crd := { d1.crd with sdLimit := d.crd.sdLimit || (tries && !sw) } }
      let d3 := ((d2.wr Fld.CRD_SD_CARD_BLOCKS blocks).wr Fld.CRD_SD_CARD_SDXC sdxc.toNat).wr Fld.CRD_SD_STATUS_V18 (tries && sw).toNat
      let m := d3.sdMode (tries && sw) top
      (d3.wr Fld.CRD_SD_STATUS_MODE m).setSd (if 4 ≤ m then 2 else 3) := by
  have hlimit : d1.crd.sdLimit = d.crd.sdLimit := by rw [hd1, Dev.setSd_crd]
  simp only [Dev.sdStart, hruns, Dev.sdInit, hempty, hheld, ← hd1, hlimit, ← htries, bne_self_eq_false, Bool.not_true, Bool.or_self,
    Bool.false_eq_true, if_false, if_true]

end

theorem Dev.sdTuning_tunes {d : Dev} (hstate : d.sdState = 2) (ok : Bool) : d.sdTuning ok =
    let d1 := if d.crd.sdTuned then d.inc Fld.CRD_SD_COUNTS_RETUNE 1 else d
    let d2 : Dev := { d1 with crd := { d1.crd with sdTuned := true } }
    if ok then d2.setSd 3
    else (d2.wr Fld.CRD_SD_STATUS_MODE (d2.rd Fld.CRD_SD_STATUS_MODE - 1)).setSd (if 4 ≤ d2.rd Fld.CRD_SD_STATUS_MODE - 1 then 2 else 3) := by
  simp only [Dev.sdTuning, hstate, bne_self_eq_false, Bool.false_eq_true, if_false]

/-! ## Block writes and their busy phases (R353, R372, R374) -/

section
variable {c : Chip} {b : Backup1} (hbackup : c.dev.wdn.backup = some b)
include hbackup

/-- A fourth CRC error fails the request; else the block goes out. -/
theorem Chip.sdBlockWrite_writes (hstate : c.dev.sdState = 4) (hready : c.dev.crd.sdBusy = false) (n : Nat) :
    c.sdBlockWrite n = match c.dev.archKey with
      | none => c
      | some k => if 4 ≤ n then (c.onDev fun d => (d.sdCrc n).setSd 6).backupEnd b stUnitReset (leBytes 8 b.lba)
        else c.onDev fun d => { (d.sdCrc n).emit (.sd 24 b.lba (c.archBlock b k)) with crd := { d.crd with sdBusy := true, sdLba := b.lba } } := by
  unfold Chip.sdBlockWrite
  cases c.dev.archKey with
  | none => simp only [hbackup]
  | some k => simp only [hbackup, hstate, hready, bne_self_eq_false, Bool.or_self, Bool.false_eq_true, if_false]

section
variable (hbusy : c.dev.crd.sdBusy = true) {c1 : Chip} (hc1 : c1 = c.onDev fun d => { d with crd := { d.crd with sdBusy := false } })
include hbusy hc1

theorem Chip.sdBusyEnd_stopped {st : Nat} (hstop : c.dev.crd.sdStop = some st) : c.sdBusyEnd = (c1.onDev fun d => d.setSd 3).backupEnd b st [] := by
  have hstop1 : c1.dev.crd.sdStop = some st := by simpa [hc1, Chip.onDev] using hstop
  simp only [Chip.sdBusyEnd, hbackup, hbusy, ← hc1, hstop1, Bool.not_true, Bool.false_eq_true, if_false]

theorem Chip.sdBusyEnd_goesOn (hgoes : c.dev.crd.sdStop = none) : c.sdBusyEnd =
    if b.seq + 1 < b.count then c1.onDev fun d => { d with wdn := { d.wdn with backup := some { b with seq := b.seq + 1 } } }
    else if b.copy + 1 < b.copies then c1.onDev fun d => { d with wdn := { d.wdn with backup := some { b with seq := 0, copy := b.copy + 1 } } }
    else (c1.onDev fun d => d.setSd 3).backupEnd b stOk (Config.freeBytes b.archive 16 ++ leBytes 4 b.count) := by
  have hgoes1 : c1.dev.crd.sdStop = none := by simpa [hc1, Chip.onDev] using hgoes
  simp only [Chip.sdBusyEnd, hbackup, hbusy, ← hc1, hgoes1, Bool.not_true, Bool.false_eq_true, if_false]

theorem Chip.sdBusyTimeout_fails : c.sdBusyTimeout =
    (c1.onDev fun d => (d.inc Fld.CRD_SD_COUNTS_BUSY_TIMEOUT 1).setSd 6).backupEnd b stUnitReset (leBytes 8 b.lba) := by
  simp only [Chip.sdBusyTimeout, hbusy, Bool.not_true, Bool.false_eq_true, if_false, hc1, Chip.onDev, Dev.setSd_wdn, Dev.inc_wdn, hbackup,
    Backup1.lba]

end

/-! ## Removal (R373) -/

theorem Chip.sdRemoval_fails (hstate : c.dev.sdState ≠ 0) (hpresent : c.dev.crd.sdPresent = true) (data : Bool) : c.sdRemoval data =
    (c.onDev fun d => (if d.crd.sdBusy then d.sdRemoved Fld.CRD_SD_STATUS_REMOVED_IN_BUSY d.crd.sdLba
      else if data then d.sdRemoved Fld.CRD_SD_STATUS_REMOVED_IN_DATA b.lba
      else (d.wr Fld.CRD_SD_STATUS_REMOVED 1).eventAt Fld.CRD_SD_EVSEQ_SEQ).sdEmpty).backupEnd b stUnitReset (leBytes 8 b.lba) := by
  simp only [Chip.sdRemoval, hstate, hpresent, hbackup, decide_false, Bool.not_true, Bool.or_self, Bool.false_eq_true, if_false, Chip.onDev]

end

theorem Chip.sdRemoval_idle {c : Chip} (hbackup : c.dev.wdn.backup = none) (hrestore : c.dev.wdn.restore = none) (hstate : c.dev.sdState ≠ 0)
    (hpresent : c.dev.crd.sdPresent = true) (data : Bool) :
    c.sdRemoval data = c.onDev fun _ => ((c.dev.wr Fld.CRD_SD_STATUS_REMOVED 1).eventAt Fld.CRD_SD_EVSEQ_SEQ).sdEmpty := by
  simp only [Chip.sdRemoval, hstate, hpresent, hbackup, decide_false, Bool.not_true, Bool.or_self, Bool.false_eq_true, if_false, Chip.onDev,
    Dev.sdEmpty_wdn, Dev.eventAt_wdn, Dev.wr_wdn, hrestore]

/-! ## Block reads (R340, R374, R377) -/

section
variable {c c1 : Chip} {x : Restore} {bs : List Byte} {n lba : Nat} (hrestore : c.dev.wdn.restore = some x) (hstate : c.dev.sdState = 5)
  (hlba : lba = x.start + x.copy * x.count + x.nextSeq)
include hrestore hstate hlba

theorem Chip.sdBlockRead_fourth (hcrc : 4 ≤ n) :
    c.sdBlockRead bs n = (c.onDev fun d => (d.sdCrc n).setSd 6).restoreEnd stUnitReset (leBytes 8 lba) := by
  simp only [Chip.sdBlockRead, hrestore, hstate, hcrc, ← hlba, bne_self_eq_false, Bool.false_eq_true, if_false, if_true]

variable (hc1 : c1 = c.onDev fun d => (d.sdCrc n).emit (.sd 17 lba [])) (hcrc : n < 4)
include hc1 hcrc

theorem Chip.sdBlockRead_header (hheader : x.header = []) {r : WReq} (hreq : x.req = some r) : c.sdBlockRead bs n =
    if headerFormed x x.copy bs = true then
      if slice bs 40 16 = c1.dev.deviceId then
        (c1.onDev fun d => { d with wdn := { d.wdn with restore := some { x with header := bs, headCopy := x.copy, req := none, copy := 0 } } }).onDev
          fun d => (d.reply r stOk (slice bs 8 16 ++ leBytes 4 (beAt bs 56 4) ++ [0, 0, 0, 0])).cardsStart
      else (c1.onDev fun d => d.setSd 3).restoreEnd stFormat []
    else if x.copy + 1 < x.copies then c1.onDev fun d => { d with wdn := { d.wdn with restore := some { x with copy := 1 } } }
    else (c1.onDev fun d => d.setSd 3).restoreEnd stFormat [] := by
  simp only [Chip.sdBlockRead, hrestore, hstate, Nat.not_le.mpr hcrc, ← hlba, ← hc1, hheader, hreq, List.isEmpty_nil, ne_eq, not_true_eq_false,
    bne_iff_ne, ite_not, if_false, if_true]

theorem Chip.sdBlockRead_block (hheader : x.header ≠ []) (hkey : x.key ≠ []) (hgood : x.bad = none) (hmore : x.nextSeq < x.count) :
    c.sdBlockRead bs n = match c1.dev.archValid x x.copy bs with
      | some pay =>
        let y := { x with blocks := x.blocks ++ [pay], nextSeq := x.nextSeq + 1, copy := 0 }
        if x.nextSeq + 1 < x.count then c1.onDev fun d => { d with wdn := { d.wdn with restore := some y } }
        else c1.onDev fun d => (d.loadArchive y).setSd 3
      | none =>
        if x.copy + 1 < x.copies then c1.onDev fun d => { d with wdn := { d.wdn with restore := some { x with copy := 1 } } }
        else c1.onDev fun d => ({ d with wdn := { d.wdn with restore := some { x with bad := some x.nextSeq } } } : Dev).setSd 3 := by
  simp only [Chip.sdBlockRead, hrestore, hstate, Nat.not_le.mpr hcrc, ← hlba, ← hc1, List.isEmpty_eq_false_iff.mpr hheader,
    List.isEmpty_eq_false_iff.mpr hkey, hgood, Nat.not_le.mpr hmore, Option.isSome_none, decide_false, Bool.or_self, Bool.false_eq_true, if_false,
    bne_self_eq_false]
  cases c1.dev.archValid x x.copy bs <;> rfl

end

/-! ## The statement -/

/-- Settles O49: each clause is one rule above, taken from the device or the chip to the state. -/
theorem backupCardPortRunsItsSequence : Obligations.BackupCardPortRunsItsSequence := by
  rintro s c d rfl rfl
  refine ⟨fun hruns hempty hheld cmd8 ready ccs s18a sw blocks sdxc top d1 hd1 => ⟨fun hfails => ?refused, fun tries htries => ?powered⟩,
    fun hstate ok => ?tuning,
    fun b hbackup => ⟨fun hstate hready n => ?write, fun hbusy c1 hc1 => ⟨fun st hstop => ?stopped, fun hgoes => ?goesOn, ?timeout⟩,
      fun hstate hpresent data => ?removal⟩,
    fun hbackup hrestore hstate hpresent data => ?idle,
    fun x bs n lba c1 hrestore hstate hlba hc1 => ⟨fun hcrc => ?fourth, fun hcrc hheader r hreq => ?header,
      fun hcrc hheader hkey hgood hmore => ?block⟩⟩
  case refused =>
    rw [exec_sdCardInit]
    exact onDev_outcome s (Dev.sdStart_refused hruns hempty hheld hd1 hfails)
  case powered =>
    rw [exec_sdCardInit]
    exact onDev_outcome s (Dev.sdStart_powered hruns hempty hheld hd1 htries)
  case tuning =>
    rw [exec_sdTuning]
    exact onDev_outcome s (Dev.sdTuning_tunes hstate ok)
  case write =>
    rw [exec_sdBlockWrite]
    exact onChip_next s (Chip.sdBlockWrite_writes hbackup hstate hready n)
  case stopped =>
    rw [exec_sdBusyEnd]
    exact onChip_next s (Chip.sdBusyEnd_stopped hbackup hbusy hc1 hstop)
  case goesOn =>
    rw [exec_sdBusyEnd]
    exact onChip_next s (Chip.sdBusyEnd_goesOn hbackup hbusy hc1 hgoes)
  case timeout =>
    rw [exec_sdBusyTimeout]
    exact onChip_next s (Chip.sdBusyTimeout_fails hbackup hbusy hc1)
  case removal =>
    rw [exec_sdCardRemoval]
    exact onChip_next s (Chip.sdRemoval_fails hbackup hstate hpresent data)
  case idle =>
    rw [exec_sdCardRemoval]
    exact onChip_outcome s (Chip.sdRemoval_idle hbackup hrestore hstate hpresent data)
  case fourth =>
    rw [exec_sdBlockRead]
    exact onChip_next s (Chip.sdBlockRead_fourth hrestore hstate hlba hcrc)
  case header =>
    rw [exec_sdBlockRead]
    exact onChip_next s (Chip.sdBlockRead_header hrestore hstate hlba hc1 hcrc hheader hreq)
  case block =>
    rw [exec_sdBlockRead]
    exact onChip_next s (Chip.sdBlockRead_block hrestore hstate hlba hc1 hcrc hheader hkey hgood hmore)

end Sys2Proof.Machine
end

section
/-! The Mortar relay's rings and the five BOND requests (R334, R335, R378, R381, R395, R397, R398). -/

namespace Sys2Proof.Machine

/-! ## The commands -/

section
variable (s : State)

theorem exec_relayEnable (st : Option Nat) (w : Word) : exec (.relayEnable st w) s = onDev s (fun d => d.relayEnable st w) := rfl
theorem exec_relayInboundDoorbell (st : Option Nat) (w : Word) : exec (.relayInboundDoorbell st w) s = onDev s (fun d => d.relayInDb st w) := rfl
theorem exec_relayOutboundDoorbell (st : Option Nat) (w : Word) : exec (.relayOutboundDoorbell st w) s = onDev s (fun d => d.relayOutDb st w) := rfl
theorem exec_relayInboundEntry (ok : Bool) (len peer src : Nat) (clean : Bool) :
    exec (.relayInboundEntry ok len peer src clean) s = onDev s (fun d => d.relayInEntry ok len peer src clean) := rfl
theorem exec_relayOutboundEntry : exec .relayOutboundEntry s = onDev s (fun d => d.relayOutEntry) := rfl
theorem exec_bondEnrol : exec .bondEnrol s = onChip s (fun c => c.bondEnrol) := rfl
theorem exec_bondStart : exec .bondStart s = onChip s (fun c => c.bondStart) := rfl
theorem exec_bondRoster : exec .bondRoster s = onChip s (fun c => c.bondRoster) := rfl
theorem exec_bondLeave : exec .bondLeave s = onChip s (fun c => c.bondLeave) := rfl
theorem exec_bondStatus : exec .bondStatus s = onChip s (fun c => c.bondStatus) := rfl

end

/-! ## The relay's configuration (R381) -/

section
variable {d : Dev} {src : Option Nat} {w : Word} (hreached : d.bar0 0 src (relayReg 0x80) = true)
include hreached

section
variable {d1 : Dev} (hoff : d.rd Fld.MTR_RELAY_CFG_ENABLE = 0) (hd1 : d1 = ((d.wr Fld.MTR_RELAY_CFG_IN_SIZE_LOG2 (getF w 0 4)).wr
  Fld.MTR_RELAY_CFG_OUT_SIZE_LOG2 (getF w 4 4)).wr Fld.MTR_RELAY_CFG_VECTOR (getF w 16 11))
include hoff hd1

theorem Dev.relayEnable_staysOff (henable : w.getLsbD 63 = false) :
    d.relayEnable src w = (d1.wr Fld.MTR_RELAY_CFG_ENABLE 0).wr Fld.MTR_RELAY_STATE_ERR 0 := by
  have hbit : d.bit Fld.MTR_RELAY_CFG_ENABLE = false := by simp [Dev.bit, hoff]
  simp only [Dev.relayEnable, hreached, hbit, henable, ← hd1, Bool.not_true, Bool.not_false, Bool.false_eq_true, if_false, if_true]

theorem Dev.relayEnable_turnsOn (henable : w.getLsbD 63 = true) : d.relayEnable src w =
    let d2 := (((d1.wr Fld.MTR_RELAY_STATE_IN_HEAD 0).wr Fld.MTR_RELAY_STATE_OUT_TAIL 0).wr Fld.MTR_RELAY_STATE_PHASE 1).wr Fld.MTR_RELAY_CFG_ENABLE 1
    let d3 := ({ d2 with mtr := { d2.mtr with relay := [], relayIn := 0, relayOut := 0, relayGot := [] } } : Dev).relayShow
    if 4 ≤ getF w 0 4 ∧ getF w 0 4 ≤ 10 ∧ 4 ≤ getF w 4 4 ∧ getF w 4 4 ≤ 10 ∧ 2 ≤ getF w 16 11 then d3 else d3.wr Fld.MTR_RELAY_STATE_ERR 3 := by
  have hbit : d.bit Fld.MTR_RELAY_CFG_ENABLE = false := by simp [Dev.bit, hoff]
  simp only [Dev.relayEnable, hreached, hbit, henable, ← hd1, Bool.not_true, Bool.false_eq_true, if_false, Bool.and_eq_true, decide_eq_true_eq,
    and_assoc]

end

/-- While the relay is enabled its sizes and vector stand, and a change of one is rejected. -/
theorem Dev.relayEnable_whileOn (hon : d.rd Fld.MTR_RELAY_CFG_ENABLE = 1) : d.relayEnable src w =
    let d1 := if getF w 0 4 = d.rd Fld.MTR_RELAY_CFG_IN_SIZE_LOG2 ∧ getF w 4 4 = d.rd Fld.MTR_RELAY_CFG_OUT_SIZE_LOG2 ∧
      getF w 16 11 = d.rd Fld.MTR_RELAY_CFG_VECTOR then d else d.wr Fld.MTR_STATUS_CFG_REJECT 1
    if w.getLsbD 63 = true then d1 else (d1.wr Fld.MTR_RELAY_CFG_ENABLE 0).wr Fld.MTR_RELAY_STATE_ERR 0 := by
  have hbit : d.bit Fld.MTR_RELAY_CFG_ENABLE = true := by simp [Dev.bit, hon]
  have hsame : (if (getF w 0 4 != d.rd Fld.MTR_RELAY_CFG_IN_SIZE_LOG2 || getF w 4 4 != d.rd Fld.MTR_RELAY_CFG_OUT_SIZE_LOG2 ||
        getF w 16 11 != d.rd Fld.MTR_RELAY_CFG_VECTOR) = true then d.wr Fld.MTR_STATUS_CFG_REJECT 1 else d) =
      if getF w 0 4 = d.rd Fld.MTR_RELAY_CFG_IN_SIZE_LOG2 ∧ getF w 4 4 = d.rd Fld.MTR_RELAY_CFG_OUT_SIZE_LOG2 ∧
        getF w 16 11 = d.rd Fld.MTR_RELAY_CFG_VECTOR then d else d.wr Fld.MTR_STATUS_CFG_REJECT 1 := by
    rw [← ite_not]
    simp only [Bool.or_eq_true, bne_iff_ne, not_or, not_not, and_assoc]
  simp only [Dev.relayEnable, hreached, hbit, hsame, Bool.not_true, Bool.false_eq_true, if_false, if_true]
  cases w.getLsbD 63 <;> rfl

end

/-! ## Doorbells and entries (R381) -/

section
variable {d : Dev} {src : Option Nat} {w : Word} (hon : d.relayOn = true)
include hon

theorem Dev.relayInDb_tail (hreached : d.bar0 0 src (relayReg 0x98) = true) (hvalid : w.getLsbD 32 = true) : d.relayInDb src w =
    if getF w 0 16 < 2 ^ d.rd Fld.MTR_RELAY_CFG_IN_SIZE_LOG2 then { d with mtr := { d.mtr with relayIn := getF w 0 16 } }
    else d.wr Fld.MTR_RELAY_STATE_ERR 1 := by
  simp only [Dev.relayInDb, hreached, hon, hvalid, Dev.relayInSize, Dev.relayStop, Bool.not_true, Bool.or_self, Bool.false_eq_true, if_false,
    ← Nat.not_lt, ite_not]

theorem Dev.relayOutDb_head (hreached : d.bar0 0 src (relayReg 0x98) = true) (hvalid : w.getLsbD 33 = true) {n v : Nat} (hn : n = d.relaySize)
    (hv : v = getF w 16 16) : d.relayOutDb src w =
      if v < n ∧ ringDist n d.mtr.relayOut v ≤ ringDist n d.mtr.relayOut (d.rd Fld.MTR_RELAY_STATE_OUT_TAIL) then
        ({ d with mtr := { d.mtr with relayOut := v } } : Dev).relayShow
      else d.wr Fld.MTR_RELAY_STATE_ERR 1 := by
  rw [← ite_not]
  simp only [Dev.relayOutDb, hreached, hon, hvalid, ← hn, ← hv, Dev.relayStop, Bool.not_true, Bool.or_self, Bool.false_eq_true, if_false,
    Bool.or_eq_true, decide_eq_true_eq, Decidable.not_and_iff_or_not, Nat.not_lt, Nat.not_le]

section
variable (hsend : d.canSend 0 = true) {h : Nat} (hh : h = d.rd Fld.MTR_RELAY_STATE_IN_HEAD) (hmore : h ≠ d.mtr.relayIn) {d1 : Dev}
  (hd1 : d1 = d.emit (.memRead 0 (d.rd Fld.MTR_RELAY_IN_BASE_BASE * 4096 + 16384 * h) 16384)) (len peer from_ : Nat) (clean : Bool)
include hsend hh hmore hd1

/-- A read that fails stops the relay. -/
theorem Dev.relayInEntry_fails : d.relayInEntry false len peer from_ clean = d1.wr Fld.MTR_RELAY_STATE_ERR 2 := by
  have hmore : (h == d.mtr.relayIn) = false := by simpa using hmore
  simp only [Dev.relayInEntry, ← hh, hon, hsend, hmore, ← hd1, Dev.relayStop, Bool.not_true, Bool.not_false, Bool.or_self, Bool.false_eq_true, if_false,
    if_true]

theorem Dev.relayInEntry_arrives : d.relayInEntry true len peer from_ clean =
    let d2 := d1.wr Fld.MTR_RELAY_STATE_IN_HEAD ((h + 1) % 2 ^ d1.rd Fld.MTR_RELAY_CFG_IN_SIZE_LOG2)
    if 16 ≤ len ∧ len ≤ 16368 ∧ peer = from_ ∧ clean = true then { d2 with mtr := { d2.mtr with relayGot := d2.mtr.relayGot ++ [from_] } }
    else d2.inc Fld.MTR_COUNTS_DROPPED 1 := by
  have hmore : (h == d.mtr.relayIn) = false := by simpa using hmore
  have hchecks : (decide (len < 16) || decide (16368 < len) || peer != from_ || !clean) = true ↔
      ¬ (16 ≤ len ∧ len ≤ 16368 ∧ peer = from_ ∧ clean = true) := by
    simp only [Bool.or_eq_true, decide_eq_true_eq, bne_iff_ne, Bool.not_eq_true', ← Bool.not_eq_true, Decidable.not_and_iff_or_not, Nat.not_le,
      or_assoc, ne_eq]
  simp only [Dev.relayInEntry, ← hh, hon, hsend, hmore, ← hd1, hchecks, ite_not, Dev.relayInSize, Dev.mtrDrop, Bool.not_true, Bool.or_self,
    Bool.false_eq_true, if_false]

end

theorem Dev.relayOutEntry_writes {m : Sent} {rest : List Sent} (hfront : d.mtr.relay = m :: rest) (hsend : d.canSend 0 = true)
    (hroom : d.relayFull = false) {t : Nat} (ht : t = d.rd Fld.MTR_RELAY_STATE_OUT_TAIL) {d1 : Dev}
    (hd1 : d1 = d.setSess (relaySess m.dst) { d.sess (relaySess m.dst) with tx := (d.sess (relaySess m.dst)).tx + 1 }) :
    d.relayOutEntry =
      let f := d.wireFrame (d.sess (relaySess m.dst)) m.dst m.kind m.fields
      let d2 := ({ d1 with mtr := { d1.mtr with relay := rest } } : Dev).emit (.memWrite 0 (d.rd Fld.MTR_RELAY_OUT_BASE_BASE * 4096 + 16384 * t)
        (leBytes 2 f.length ++ [BitVec.ofNat 8 m.dst, BitVec.ofNat 8 (d.rd Fld.MTR_RELAY_STATE_PHASE)] ++ List.replicate 12 0 ++ f))
      let d3 := d2.wr Fld.MTR_RELAY_STATE_OUT_TAIL ((t + 1) % d2.relaySize)
      let d4 := if t + 1 = d3.relaySize then d3.wr Fld.MTR_RELAY_STATE_PHASE (1 - d3.rd Fld.MTR_RELAY_STATE_PHASE) else d3
      d4.relayShow.fire 0 (d4.rd Fld.MTR_RELAY_CFG_VECTOR) := by
  have hrd (f : Fld) : d1.rd f = d.rd f := by rw [hd1]; rfl
  simp only [Dev.relayOutEntry, hfront, hon, hsend, hroom, ← ht, ← hd1, hrd, Bool.not_true, Bool.or_self, Bool.false_eq_true, if_false]

end

/-! ## The bond requests (R378, R395, R397) -/

section
variable {c : Chip} {r : WReq}

theorem Chip.bondEnrol_serves {b : List Byte} (hs : c.Serves 0x0601 false r) (hb : b = r.params) (hparams : r.paramLen = 2784) (hbulk : r.bulkLen = 0)
    (hzero : allZero (slice b 0x22 6) = true) (hzero' : allZero (slice b 0xB9 7) = true) (hrole : leAt b 0x21 1 < 2) (hmin : 1 ≤ leAt b 0x20 1)
    (hmax : leAt b 0x20 1 ≤ 64) : c.bondEnrol =
      if slice b 0x10 16 = c.dev.deviceId ∧ slice b 0x58 97 = c.dev.mortarPub 0 ∧ slice b 0xC0 2592 = c.dev.mortarPub 1 ∧
          slice b 0x28 48 = c.dev.profileDigest then
        c.underQuorum r [] 2 fun c => (c.onDev fun d =>
          let d1 := d.wardenState 0x0100 (b ++ r.auth)
          let d2 := ({ d1 with mtr := { d1.mtr with cert := b ++ r.auth } } : Dev).wr Fld.MTR_EPOCH_MEMBER_ID (leAt b 0x20 1)
          (d2.enterJoining Dev.noteAnswer false).mtrSet 0 1).reply r stOk
      else c.reply r stFormat := by
  have hnonzero : leAt b 0x20 1 ≠ 0 := by omega
  have hchecks : (slice b 0x10 16 != c.dev.deviceId || slice b 0x58 97 != c.dev.mortarPub 0 || slice b 0xC0 2592 != c.dev.mortarPub 1 ||
      slice b 0x28 48 != c.dev.profileDigest) = true ↔ ¬ (slice b 0x10 16 = c.dev.deviceId ∧ slice b 0x58 97 = c.dev.mortarPub 0 ∧
      slice b 0xC0 2592 = c.dev.mortarPub 1 ∧ slice b 0x28 48 = c.dev.profileDigest) := by
    simp only [Bool.or_eq_true, bne_iff_ne, Decidable.not_and_iff_or_not, or_assoc, ne_eq]
  rw [Chip.bondEnrol, Chip.serve_serves hs]
  simp only [← hb, hparams, hbulk, hzero, hzero', hnonzero, ge_iff_le, Nat.not_le.mpr hrole, Nat.not_lt.mpr hmax, hchecks, ite_not,
    bne_self_eq_false, Bool.not_true, decide_false, Bool.or_self, Bool.false_eq_true, if_false]
  rfl

theorem Chip.bondStart_serves (hs : c.Serves 0x0602 false r) (hparams : r.paramLen = 1568) (hbulk : r.bulkLen = 0) (hzero : r.par 25 7 = 0)
    (hbase : r.par 16 8 < 2 ^ 44) (hbonded : c.dev.bonded = true) : c.bondStart =
      if c.dev.rosterOk (r.params.drop 32) = false then c.reply r stBadDescriptor
      else if slice r.params 0 16 ≠ slice c.dev.mtr.cert 0 16 then c.reply r stFormat
      else c.underQuorum r [] 2 fun c => (c.onDev fun d =>
        let d1 := d.leaveRole Dev.noteAnswer stStaleEpoch
        let d2 := d1.mtrEpochOf d (if (d1.stateOf 0x0101).isSome then d1.rd Fld.MTR_EPOCH_EPOCH + 1 else 1)
        let d3 := (d2.wr Fld.MTR_EPOCH_MANAGER_ID d1.ownMember).wr Fld.MTR_EPOCH_STANDBY_ID 0
        let d4 : Dev := { d3 with mtr := { d3.mtr with
          roster := rosterOf (r.params.drop 32), table := [], want := r.par 24 1, joining := 0, byReset := false, lost := [], beats := 0 } }
        let d5 := (d4.wr Fld.MTR_LEASE_HIGH_WATER (r.par 16 8)).mtrSet 1 3
        (d5.setLive d5.ownMember true).bondRecord).reply r stOk := by
  rw [Chip.bondStart, Chip.serve_serves hs]
  simp only [hparams, hbulk, hzero, hbonded, Nat.not_le.mpr hbase, bne_self_eq_false, Bool.not_true, decide_false, Bool.false_or, Bool.or_false,
    Bool.not_eq_true', bne_iff_ne]
  rfl

section
variable (hs : c.Serves 0x0603 false r) (hparams : r.paramLen = 1536) (hbulk : r.bulkLen = 0)
include hs hparams hbulk

theorem Chip.bondRoster_stale (hstale : c.dev.bondRole ≠ 1 ∨ r.epoch ≠ c.dev.bondEpoch) : c.bondRoster = c.reply r stStaleEpoch := by
  have hstale : (c.dev.bondRole != roleManager || r.epoch != c.dev.bondEpoch) = true := by simpa [roleManager] using hstale
  rw [Chip.bondRoster, Chip.serve_serves hs]
  simp only [hparams, hbulk, hstale, bne_self_eq_false, Bool.or_self, Bool.false_eq_true, if_false, if_true]

theorem Chip.bondRoster_serves (hrole : c.dev.bondRole = 1) (hepoch : r.epoch = c.dev.bondEpoch) : c.bondRoster =
    if c.dev.rosterOk r.params = false then c.reply r stBadDescriptor else c.underQuorum r [] 2 fun c => (c.onDev fun d =>
      let d1 := (d.liveMembers.filter (fun m => !((rosterOf r.params).any (fun e => e.1 == m)))).foldl (fun x m => x.memberLost m) d
      { d1 with mtr := { d1.mtr with roster := rosterOf r.params } }).reply r stOk := by
  rw [Chip.bondRoster, Chip.serve_serves hs]
  simp only [hparams, hbulk, hrole, hepoch, roleManager, bne_self_eq_false, Bool.or_self, Bool.false_eq_true, if_false, Bool.not_eq_true']
  rfl

end

theorem Chip.bondLeave_serves (hs : c.Serves 0x0604 false r) (hparams : r.paramLen = 0) (hbulk : r.bulkLen = 0) :
    c.bondLeave = c.underQuorum r [] 2 fun c => (c.onDev fun d =>
      let d1 := d.leaveRole Dev.noteAnswer stStaleEpoch
      let d2 := (d1.heldLeases.foldl (fun x l => x.burnLease l) d1).sessionsEnd false
      let d3 := (d2.wardenState 0x0100 []).wardenState 0x0101 []
      let d4 := (((d3.wr Fld.MTR_EPOCH_EPOCH 0).wr Fld.MTR_EPOCH_MEMBER_ID 0).wr Fld.MTR_EPOCH_MANAGER_ID 0).wr Fld.MTR_EPOCH_STANDBY_ID 0
      let d5 := (d4.wr Fld.MTR_LEASE_HIGH_WATER 0).wr Fld.MTR_TXN_TXN 0
      (({ d5 with mtr := { Mtr.reset with msgId := d5.mtr.msgId } } : Dev).mtrSet 0 0).abortBond d).reply r stOk := by
  rw [Chip.bondLeave, Chip.serve_serves hs]
  simp only [hparams, hbulk, bne_self_eq_false, Bool.or_self, Bool.false_eq_true, if_false]
  rfl

theorem Chip.bondStatus_serves (hs : c.Serves 0x0605 true r) (hplain : r.plain 0 = true) : c.bondStatus = c.reply r stOk
    (bvBytes 8 (c.dev.reg Fld.MTR_STATUS_ROLE.reg) ++ bvBytes 8 (c.dev.reg Fld.MTR_EPOCH_EPOCH.reg) ++ bvBytes 8 (c.dev.reg Fld.MTR_LIVE_LIVE.reg) ++
      bvBytes 8 (c.dev.reg Fld.MTR_LEASE_HIGH_WATER.reg)) := by
  rw [Chip.bondStatus, Chip.serve_serves hs]
  simp only [hplain, Bool.not_true, Bool.false_eq_true, if_false]

end

/-! ## The statement -/

/-- Settles O54: each clause is one rule above, taken from the device or the chip to the state. -/
theorem mortarRelayAndBondRequests : Obligations.MortarRelayAndBondRequests := by
  rintro s c d rfl rfl r src w
  refine ⟨fun hreached => ⟨fun d1 hoff hd1 => ⟨fun henable => ?staysOff, fun henable => ?turnsOn⟩, fun hon => ?whileOn⟩,
    fun hon => ⟨fun hreached hvalid => ?tail, fun hreached hvalid n v hn hv => ?head,
      fun hsend h hh hmore d1 hd1 len peer from_ clean => ⟨?fails, ?arrives⟩, fun m rest hfront hsend hroom t ht d1 hd1 => ?writes⟩,
    fun b hs hb hparams hbulk hzero hzero' hrole hmin hmax => ?enrol, fun hs hparams hbulk hzero hbase hbonded => ?start,
    fun hs hparams hbulk => ⟨fun hstale => ?stale, fun hrole hepoch => ?roster⟩, fun hs hparams hbulk => ?leave, fun hs hplain => ?status⟩
  case staysOff =>
    rw [exec_relayEnable]
    exact onDev_outcome s (Dev.relayEnable_staysOff hreached hoff hd1 henable)
  case turnsOn =>
    rw [exec_relayEnable]
    exact onDev_outcome s (Dev.relayEnable_turnsOn hreached hoff hd1 henable)
  case whileOn =>
    rw [exec_relayEnable]
    exact onDev_outcome s (Dev.relayEnable_whileOn hreached hon)
  case tail =>
    rw [exec_relayInboundDoorbell]
    exact onDev_outcome s (Dev.relayInDb_tail hon hreached hvalid)
  case head =>
    rw [exec_relayOutboundDoorbell]
    exact onDev_outcome s (Dev.relayOutDb_head hon hreached hvalid hn hv)
  case fails =>
    rw [exec_relayInboundEntry]
    exact onDev_outcome s (Dev.relayInEntry_fails hon hsend hh hmore hd1 len peer from_ clean)
  case arrives =>
    rw [exec_relayInboundEntry]
    exact onDev_outcome s (Dev.relayInEntry_arrives hon hsend hh hmore hd1 len peer from_ clean)
  case writes =>
    rw [exec_relayOutboundEntry]
    exact onDev_outcome s (Dev.relayOutEntry_writes hon hfront hsend hroom ht hd1)
  case enrol =>
    rw [exec_bondEnrol]
    exact onChip_next s (Chip.bondEnrol_serves hs hb hparams hbulk hzero hzero' hrole hmin hmax)
  case start =>
    rw [exec_bondStart]
    exact onChip_next s (Chip.bondStart_serves hs hparams hbulk hzero hbase hbonded)
  case stale =>
    rw [exec_bondRoster]
    exact onChip_next s (Chip.bondRoster_stale hs hparams hbulk hstale)
  case roster =>
    rw [exec_bondRoster]
    exact onChip_next s (Chip.bondRoster_serves hs hparams hbulk hrole hepoch)
  case leave =>
    rw [exec_bondLeave]
    exact onChip_next s (Chip.bondLeave_serves hs hparams hbulk)
  case status =>
    rw [exec_bondStatus]
    exact onChip_next s (Chip.bondStatus_serves hs hplain)

end Sys2Proof.Machine
end

section
/-! The I3C port: reads and writes of registers, its addresses and the common command codes (R427 to R429). -/

namespace Sys2Proof.Machine

/-! ## The commands -/

section
variable (s : State)

theorem exec_i3cPrivateRead (off n : Nat) (i2c : Bool) : exec (.i3cPrivateRead off n i2c) s = onChip s (fun c => c.i3cRead off n i2c) := rfl
theorem exec_i3cPrivateWrite (bs : List Byte) (i2c : Bool) : exec (.i3cPrivateWrite bs i2c) s = onChip s (fun c => c.i3cWrite bs i2c) := rfl
theorem exec_entdaa (addr : Nat) : exec (.entdaa addr) s = onDev s (fun d => d.assignAddr addr) := rfl
theorem exec_setdasa (stat addr : Nat) : exec (.setdasa stat addr) s = onDev s (fun d => d.setdasa stat addr) := rfl
theorem exec_rstdaa : exec .rstdaa s = onDev s (fun d => d.rstdaa) := rfl
theorem exec_enec (events : Nat) : exec (.enec events) s = onDev s (fun d => d.i3cEvents true events) := rfl
theorem exec_disec (events : Nat) : exec (.disec events) s = onDev s (fun d => d.i3cEvents false events) := rfl
theorem exec_getpid : exec .getpid s = onDev s (fun d => d.getpid) := rfl
theorem exec_getbcr : exec .getbcr s = onDev s (fun d => d.getbcr) := rfl
theorem exec_getdcr : exec .getdcr s = onDev s (fun d => d.getdcr) := rfl
theorem exec_getstatus : exec .getstatus s = onDev s (fun d => d.getstatus) := rfl
theorem exec_getmwl : exec .getmwl s = onDev s (fun d => d.getmwl) := rfl
theorem exec_getmrl : exec .getmrl s = onDev s (fun d => d.getmrl) := rfl

end

/-! ## Reach (R427, R428) -/

theorem Dev.i3cOn_powered {d : Dev} (hon : d.plt.mainOn = true) (hpor : d.plt.por = false) : d.i3cOn = true := by
  rw [Dev.i3cOn, hon, hpor]
  rfl

theorem Dev.i3cReach_iff {d : Dev} (hon : d.i3cOn = true) (i2c : Bool) :
    d.i3cReach i2c = true ↔ if i2c then d.dynAddr = 0 else d.dynAddr ≠ 0 := by
  cases i2c <;> simp [Dev.i3cReach, hon]

/-- A transfer that does not reach the target changes nothing. -/
theorem Chip.i3c_unreached {c : Chip} {i2c : Bool} (hreach : c.dev.i3cReach i2c = false) (off n : Nat) (bs : List Byte) :
    c.i3cRead off n i2c = c ∧ c.i3cWrite bs i2c = c := by
  simp only [Chip.i3cRead, Chip.i3cWrite, hreach, Bool.not_false, if_true, and_self]

/-! ## Reads (R428) -/

theorem length_leBytes (n v : Nat) : (leBytes n v).length = n := by
  induction n generalizing v with
  | zero => rfl
  | succ n ih => rw [leBytes, List.length_cons, ih]

section
variable (k n off : Nat) (c : Chip)

theorem Chip.i3cBytes_none : Chip.i3cBytes k 0 off c = (c, []) := by
  cases k <;> rfl

/-- A read that takes a whole register, or more, clears the register's read-clear fields. -/
theorem Chip.i3cBytes_whole (hn : 8 ≤ n) {c1 : Chip} (hc1 : c1 = if off < 0x8000 then c.onDev (fun d => d.clearRc (0xF0000 + off)) else c) :
    Chip.i3cBytes (k + 1) n off c =
      ((Chip.i3cBytes k (n - 8) (off + 8) c1).1, leBytes 8 (c.i3cValue off).toNat ++ (Chip.i3cBytes k (n - 8) (off + 8) c1).2) := by
  have hnonzero : n ≠ 0 := by omega
  have htake : (leBytes 8 (c.i3cValue off).toNat).take n = leBytes 8 (c.i3cValue off).toNat :=
    List.take_of_length_le (by rwa [length_leBytes])
  simp only [Chip.i3cBytes, if_neg hnonzero, htake, hn, true_and, ← hc1]

/-- A read of part of a register clears nothing. -/
theorem Chip.i3cBytes_part (hmin : 1 ≤ n) (hmax : n < 8) : Chip.i3cBytes (k + 1) n off c = (c, (leBytes 8 (c.i3cValue off).toNat).take n) := by
  have hnonzero : n ≠ 0 := by omega
  have hrest : n - 8 = 0 := by omega
  simp only [Chip.i3cBytes, if_neg hnonzero, Nat.not_le.mpr hmax, false_and, if_false, hrest, Chip.i3cBytes_none, List.append_nil]

end

section
variable {c c1 : Chip} {i2c : Bool} (hreach : c.dev.i3cReach i2c = true) (hc1 : c1 = c.onDev fun d => d.i3cMode i2c)
include hreach hc1

theorem Chip.i3cRead_reached {off n : Nat} (halign : off % 8 = 0) :
    c.i3cRead off n i2c = (Chip.i3cBytes 64 n off c1).1.onDev fun d => d.emit (.i3c (Chip.i3cBytes 64 n off c1).2) := by
  simp only [Chip.i3cRead, hreach, ← hc1, halign, Bool.not_true, Bool.false_eq_true, if_false, ne_eq, not_true_eq_false]

theorem Chip.i3cRead_unaligned {off n : Nat} (halign : off % 8 ≠ 0) : c.i3cRead off n i2c = c1.onDev Dev.badAccess := by
  simp only [Chip.i3cRead, hreach, ← hc1, halign, Bool.not_true, Bool.false_eq_true, if_false, ne_eq, not_false_eq_true, if_true]

/-! ## Writes (R428) -/

variable {bs : List Byte} {off : Nat} (hoff : off = leAt bs 1 2)
include hoff

theorem Chip.i3cWrite_register (hlen : bs.length = 11) (hlead : leAt bs 0 1 = 2) (halign : off % 8 = 0) :
    c.i3cWrite bs i2c = c1.i3cPut off (bytesBv 64 (slice bs 3 8)) := by
  simp only [Chip.i3cWrite, hreach, ← hc1, ← hoff, hlen, hlead, halign, Bool.not_true, Bool.false_eq_true, if_false, and_self, if_true]

theorem Chip.i3cWrite_offset (hlen : bs.length = 3) (hlead : leAt bs 0 1 = 1) (halign : off % 8 = 0) : c.i3cWrite bs i2c = c1 := by
  simp [Chip.i3cWrite, hreach, ← hc1, ← hoff, hlen, hlead, halign]

theorem Chip.i3cWrite_bad (hregister : ¬ (bs.length = 11 ∧ leAt bs 0 1 = 2 ∧ off % 8 = 0)) (hoffset : ¬ (bs.length = 3 ∧ leAt bs 0 1 = 1 ∧ off % 8 = 0)) :
    c.i3cWrite bs i2c = c1.onDev Dev.badAccess := by
  simp only [Chip.i3cWrite, hreach, ← hc1, ← hoff, if_neg hregister, if_neg hoffset, Bool.not_true, Bool.false_eq_true, if_false]

end

/-! ## Addresses and common command codes (R427, R429) -/

section
variable {d : Dev} (hon : d.i3cOn = true)
include hon

theorem Dev.assignAddr_free {addr : Nat} (hfree : d.dynAddr = 0) (hstep : 5 ≤ d.step) (hlt : addr < 128) (hnonzero : addr ≠ 0) :
    d.assignAddr addr = (d.wr Fld.PLT_I3C_STATUS_DYN_ADDR addr).wr Fld.PLT_I3C_STATUS_I2C 0 := by
  have hnonzero : (addr == 0) = false := by simpa using hnonzero
  simp only [Dev.assignAddr, hon, Nat.not_lt.mpr hstep, hfree, Nat.mod_eq_of_lt hlt, hnonzero, bne_self_eq_false, Bool.not_true, decide_false,
    Bool.or_self, Bool.false_eq_true, if_false]

omit hon in
theorem Dev.assignAddr_taken {addr : Nat} (htaken : d.dynAddr ≠ 0) : d.assignAddr addr = d := by
  have htaken : (d.dynAddr != 0) = true := by simpa using htaken
  simp only [Dev.assignAddr, htaken, Bool.or_true, Bool.true_or, if_true]

theorem Dev.rstdaa_powered : d.rstdaa = d.wr Fld.PLT_I3C_STATUS_DYN_ADDR 0 := if_pos hon

theorem Dev.i3cEvents_set {events : Nat} (hbit : events.testBit 0 = true) (v : Bool) :
    d.i3cEvents v events = { d with plt := { d.plt with ibi := v } } := by
  simp only [Dev.i3cEvents, hon, hbit, Bool.and_self, if_true]

omit hon in
theorem Dev.i3cEvents_clear {events : Nat} (hbit : events.testBit 0 = false) (v : Bool) : d.i3cEvents v events = d := by
  simp only [Dev.i3cEvents, hbit, Bool.and_false, Bool.false_eq_true, if_false]

end

/-- A GET code is answered at the dynamic address alone. -/
theorem Dev.i3cGet_reached {d : Dev} (hreach : d.i3cReach false = true) (bs : List Byte) : d.i3cGet bs = d.emit (.i3c bs) := if_pos hreach

theorem Dev.getstatus_reached {d : Dev} (hreach : d.i3cReach false = true) :
    d.getstatus = { d.emit (.i3c (Config.freeBytes d.nfree 2)) with nfree := d.nfree + 1 } := by
  rw [Dev.getstatus, if_pos hreach, Dev.i3cGet_reached hreach]
  rfl

theorem Dev.i3cGet_unreached {d : Dev} (hreach : d.i3cReach false = false) (bs : List Byte) : d.i3cGet bs = d ∧ d.getstatus = d := by
  simp only [Dev.i3cGet, Dev.getstatus, hreach, Bool.false_eq_true, if_false, and_self]

/-! ## The statement -/

/-- Settles O58: each clause is one rule above. What GETSTATUS, GETMWL and GETMRL return and that no address is assigned before step 5 are the
model's choice (assumption 31). -/
theorem managementPortAnswers : Obligations.ManagementPortAnswers := by
  rintro s d dyn rfl hon hpor rfl
  have hrun : s.chip.dev.i3cOn = true := Dev.i3cOn_powered hon hpor
  have hreach (i2c : Bool) := Dev.i3cReach_iff hrun i2c
  refine ⟨fun i2c c haddr hc => ⟨fun off n halign => ⟨?read, fun hn => ?whole, fun hmin hmax => ?part, fun k x hn x1 hx1 => ?more⟩,
      fun off n halign => ?unaligned, fun bs off hoff => ⟨fun hlen hlead halign => ?write, fun hlen hlead halign => ?offset,
        fun hregister hoffset => ?badWrite⟩⟩,
    fun i2c off n bs haddr => ?unreached, fun addr => ⟨fun hfree hstep hlt hnonzero => ⟨?entdaa, ?setdasa⟩, fun htaken => ?taken, fun stat hstat => ?other⟩,
    ?rstdaa, fun ev => ⟨fun hbit => ⟨?enec, ?disec⟩, fun hbit => ?noEvent⟩,
    fun haddr => ⟨?pid, ?bcr, ?dcr, ?status, ?mwl, ?mrl⟩, fun hnone => ?noGet⟩
  case read =>
    rw [exec_i3cPrivateRead]
    exact onChip_next s (Chip.i3cRead_reached ((hreach i2c).mpr haddr) hc halign)
  case whole =>
    rw [exec_i3cPrivateRead, onChip_next s (Chip.i3cRead_reached ((hreach i2c).mpr haddr) hc halign), Chip.i3cBytes_whole 63 n off c hn.ge rfl, hn,
      Chip.i3cBytes_none, List.append_nil]
  case part =>
    rw [exec_i3cPrivateRead, onChip_next s (Chip.i3cRead_reached ((hreach i2c).mpr haddr) hc halign), Chip.i3cBytes_part 63 n off c hmin hmax]
  case more => exact Chip.i3cBytes_whole k n off x (by omega) hx1
  case unaligned =>
    rw [exec_i3cPrivateRead]
    exact onChip_next s (Chip.i3cRead_unaligned ((hreach i2c).mpr haddr) hc halign)
  case write =>
    rw [exec_i3cPrivateWrite]
    exact onChip_next s (Chip.i3cWrite_register ((hreach i2c).mpr haddr) hc hoff hlen hlead halign)
  case offset =>
    rw [exec_i3cPrivateWrite]
    exact onChip_next s (Chip.i3cWrite_offset ((hreach i2c).mpr haddr) hc hoff hlen hlead halign)
  case badWrite =>
    rw [exec_i3cPrivateWrite]
    exact onChip_next s (Chip.i3cWrite_bad ((hreach i2c).mpr haddr) hc hoff hregister hoffset)
  case unreached =>
    have hunreached : s.chip.dev.i3cReach i2c = false := by
      rw [← Bool.not_eq_true, hreach i2c]
      cases i2c <;> simpa [Dev.dynAddr] using haddr
    rw [exec_i3cPrivateRead, exec_i3cPrivateWrite]
    obtain ⟨hread, hwrite⟩ := Chip.i3c_unreached hunreached off n bs
    exact ⟨onChip_unchanged hread, onChip_unchanged hwrite⟩
  case entdaa =>
    rw [exec_entdaa]
    exact onDev_outcome s (Dev.assignAddr_free hrun hfree hstep hlt hnonzero)
  case setdasa =>
    rw [exec_setdasa]
    exact onDev_outcome s (Dev.assignAddr_free hrun hfree hstep hlt hnonzero)
  case taken =>
    rw [exec_entdaa]
    refine ⟨onDev_unchanged (Dev.assignAddr_taken htaken), fun stat => ?_⟩
    rw [exec_setdasa]
    exact onDev_unchanged (by rw [Dev.setdasa, Dev.assignAddr_taken htaken, ite_self])
  case other =>
    rw [exec_setdasa]
    exact onDev_unchanged (if_neg hstat)
  case rstdaa =>
    rw [exec_rstdaa]
    exact onDev_outcome s (Dev.rstdaa_powered hrun)
  case enec =>
    rw [exec_enec]
    exact onDev_outcome s (Dev.i3cEvents_set hrun hbit true)
  case disec =>
    rw [exec_disec]
    exact onDev_outcome s (Dev.i3cEvents_set hrun hbit false)
  case noEvent =>
    rw [exec_enec, exec_disec]
    exact ⟨onDev_unchanged (Dev.i3cEvents_clear hbit true), onDev_unchanged (Dev.i3cEvents_clear hbit false)⟩
  case pid =>
    rw [exec_getpid]
    exact onDev_outcome s (Dev.i3cGet_reached ((hreach false).mpr haddr) pidBytes)
  case bcr =>
    rw [exec_getbcr]
    exact onDev_outcome s (Dev.i3cGet_reached ((hreach false).mpr haddr) [0x06])
  case dcr =>
    rw [exec_getdcr]
    exact onDev_outcome s (Dev.i3cGet_reached ((hreach false).mpr haddr) [0x00])
  case status =>
    rw [exec_getstatus]
    exact onDev_outcome s (Dev.getstatus_reached ((hreach false).mpr haddr))
  case mwl =>
    rw [exec_getmwl]
    exact onDev_outcome s (Dev.i3cGet_reached ((hreach false).mpr haddr) (beBytes 2 11))
  case mrl =>
    rw [exec_getmrl]
    exact onDev_outcome s (Dev.i3cGet_reached ((hreach false).mpr haddr) (beBytes 2 512 ++ [1]))
  case noGet =>
    have hunreached : s.chip.dev.i3cReach false = false := by
      rw [← Bool.not_eq_true, hreach false]
      simpa [Dev.dynAddr] using hnone
    have hget (bs : List Byte) : s.chip.dev.i3cGet bs = s.chip.dev := (Dev.i3cGet_unreached hunreached bs).1
    simp only [List.forall_mem_cons, List.not_mem_nil, false_imp_iff, implies_true, and_true]
    rw [exec_getpid, exec_getbcr, exec_getdcr, exec_getstatus, exec_getmwl, exec_getmrl]
    exact ⟨onDev_unchanged (hget _), onDev_unchanged (hget _), onDev_unchanged (hget _), onDev_unchanged (Dev.i3cGet_unreached hunreached []).2,
      onDev_unchanged (hget _), onDev_unchanged (hget _)⟩

end Sys2Proof.Machine
end

section
/-! Supplies and reset sources, and what a cold and a warm reset clear and keep (R281, R306, R398 to R400, R406, R419, R438). -/

namespace Sys2Proof.Machine

/-! ## The commands -/

section
variable (s : State)

theorem exec_powerOn : exec .powerOn s = onChip s (fun c => c.powerOn) := rfl
theorem exec_porRelease : exec .porRelease s = onChip s (fun c => c.porRelease) := rfl
theorem exec_powerLoss (o : WordOutcome) : exec (.powerLoss o) s = onChip s (fun c => c.powerLoss o) := rfl
theorem exec_resetInN (low : Bool) (ns : Nat) (caught : Bool) : exec (.resetInN low ns caught) s = onChip s (fun c => c.resetIn low ns caught) := rfl
theorem exec_perstN (low : Bool) : exec (.perstN low) s = onChip s (fun c => c.perstN low) := rfl
theorem exec_resetCmdCold (v : Via) (w : Word) : exec (.resetCmdCold v w) s = onChip s (fun c => c.resetCmd v 2 w) := rfl
theorem exec_resetCmdWarm (v : Via) (w : Word) : exec (.resetCmdWarm v w) s = onChip s (fun c => c.resetCmd v 1 w) := rfl
theorem exec_hotReset : exec .hotReset s = onChip s (fun c => c.hotReset) := rfl

end

/-! ## Supplies (R281, R306, R438) -/

section
variable {c : Chip}

theorem Chip.powerOn_off (hoff : c.dev.plt.mainOn = false) : c.powerOn = (c.onDev fun d =>
    { d with plt := { d.plt with mainOn := true, por := true, fresh := true }, tmp := { d.tmp with armed := [] } }).resetNow 2 1 0 := by
  simp only [Chip.powerOn, hoff, Bool.false_eq_true, if_false]
  rfl

/-- What an alarm owed when power goes, where no alarm is still to be judged. -/
theorem Chip.pendingResponse_judged (hbatch : c.dev.tmp.batch = []) : c.pendingResponse =
    ⟨c.dev, if c.dev.tmp.eraseDue = true ∨ c.dev.tmp.erasing = true then { c.bd with bk := none, locked := true, erased := true }
      else if c.dev.tmp.lockDue = true then { c.bd with locked := true } else c.bd, c.fz⟩ := by
  simp only [Chip.pendingResponse, hbatch, List.isEmpty_nil, if_true, Bool.or_eq_true]
  split
  · rfl
  · split <;> rfl

section
variable (hon : c.dev.plt.mainOn = true)
include hon

theorem Chip.porRelease_on : c.porRelease = c.onDev fun d => { d with plt := { d.plt with por := false } } := if_pos hon

theorem Chip.powerLoss_judged (hbatch : c.dev.tmp.batch = []) (o : WordOutcome) : c.powerLoss o =
    (let t := c.dev.tmp
    let bd : Backup := if t.eraseDue = true ∨ t.erasing = true then { c.bd with bk := none, locked := true, erased := true }
      else if t.lockDue = true then { c.bd with locked := true } else c.bd
    let d1 := c.dev.nvsPowerLoss o
    let t1 : Tmp := { d1.tmp with
      frozen := false, crossed := [], lockDue := false, eraseDue := false, erasing := false, armed := [], window := [], reports := [], raised := [] }
    (Chip.resetNow ⟨{ d1 with tmp := t1, plt := { d1.plt with por := true, waiting := none } }, bd, c.fz⟩ 2 1 0).onDev
      fun d => { d with plt := { d.plt with mainOn := false, resets := [] } }) := by
  simp only [Chip.powerLoss, hon, Bool.not_true, Bool.false_eq_true, if_false, Chip.pendingResponse_judged hbatch, Chip.onDev]

/-! ## Sources (R398 to R400, R402, R419) -/

/-- A reset asked for during an Erase waits, the farther one kept. -/
theorem Chip.assertReset_erasing (herasing : c.dev.tmp.erasing = true) (reach src origin : Nat) : c.assertReset reach src origin =
    match c.dev.plt.waiting with
    | some w => if reach ≤ w.1 then c else c.onDev fun d => { d with plt := { d.plt with waiting := some (reach, src, origin) } }
    | none => c.onDev fun d => { d with plt := { d.plt with waiting := some (reach, src, origin) } } := by
  simp only [Chip.assertReset, hon, herasing, Bool.not_true, Bool.false_eq_true, if_false, if_true]
  cases c.dev.plt.waiting with
  | none => rfl
  | some w => simp only [decide_eq_true_eq]

variable (hidle : c.dev.tmp.erasing = false)
include hidle

theorem Chip.assertReset_cold (src origin : Nat) : c.assertReset 2 src origin = c.resetNow 2 src origin := by
  simp [Chip.assertReset, hon, hidle]

theorem Chip.assertReset_warm (hlate : c.dev.plt.reach = 0 ∨ 5 ≤ c.dev.rd Fld.PLT_RESET_STATUS_STEP) (src origin : Nat) :
    c.assertReset 1 src origin = c.resetNow 1 src origin := by
  have hlate : (c.dev.plt.reach != 0 && decide (c.dev.rd Fld.PLT_RESET_STATUS_STEP < 5)) = false := by
    rcases hlate with h | h
    · simp [h]
    · simp [Nat.not_lt.mpr h]
  simp [Chip.assertReset, hon, hidle, hlate]

/-- A warm reset before step 5 of a release is merged into the reset in progress. -/
theorem Chip.assertReset_merged (hreach : c.dev.plt.reach ≠ 0) (hearly : c.dev.rd Fld.PLT_RESET_STATUS_STEP < 5) (src origin : Nat) :
    c.assertReset 1 src origin = c := by
  simp [Chip.assertReset, hon, hidle, hreach, hearly]

theorem Chip.resetIn_low {ns : Nat} {caught : Bool} (hhigh : c.dev.plt.rstIn = false) (hlong : 1000 ≤ ns ∨ (100 < ns ∧ caught = true)) :
    c.resetIn true ns caught = (c.onDev fun d => { d with plt := { d.plt with rstIn := true } }).resetNow 2 2 0 := by
  have hlong : (decide (1000 ≤ ns) || (decide (100 < ns) && caught)) = true := by simpa using hlong
  simp only [Chip.resetIn, hhigh, hlong, Bool.not_true, Bool.or_self, Bool.false_eq_true, if_false]
  exact Chip.assertReset_cold (c := c.onDev fun d => { d with plt := { d.plt with rstIn := true } }) hon hidle 2 0

omit hon hidle in
theorem Chip.resetIn_short {ns : Nat} {caught : Bool} (hshort : ns ≤ 100 ∨ (ns < 1000 ∧ caught = false)) : c.resetIn true ns caught = c := by
  have hshort : (decide (1000 ≤ ns) || (decide (100 < ns) && caught)) = false := by
    rcases hshort with h | ⟨h, rfl⟩
    · simp [Nat.not_lt.mpr h]
      omega
    · simp [h]
  simp only [Chip.resetIn, hshort, Bool.not_true, Bool.not_false, Bool.or_true, Bool.false_eq_true, if_false, if_true]

theorem Chip.perstN_low (hhigh : c.dev.plt.perst = false) :
    c.perstN true = (c.onDev fun d => { d with plt := { d.plt with perst := true } }).resetNow 2 3 0 := by
  simp only [Chip.perstN, hhigh, Bool.not_true, Bool.false_eq_true, if_false]
  exact Chip.assertReset_cold (c := c.onDev fun d => { d with plt := { d.plt with perst := true } }) hon hidle 3 0

section
variable {v : Via} {w : Word} (hreached : c.dev.pltReached v 0 = true)
include hreached

theorem Chip.resetCmd_cold (hkey : getF w 48 16 = 0x9400) (htype : getF w 0 48 = 2) : c.resetCmd v 2 w = c.resetNow 2 4 (viaOrigin v) := by
  simp [Chip.resetCmd, Chip.resetWrite, keyed, hreached, hkey, htype, Chip.assertReset_cold hon hidle]

theorem Chip.resetCmd_warm (hkey : getF w 48 16 = 0x9400) (htype : getF w 0 48 = 1)
    (hlate : c.dev.plt.reach = 0 ∨ 5 ≤ c.dev.rd Fld.PLT_RESET_STATUS_STEP) : c.resetCmd v 1 w = c.resetNow 1 5 (viaOrigin v) := by
  simp [Chip.resetCmd, Chip.resetWrite, keyed, hreached, hkey, htype, Chip.assertReset_warm hon hidle hlate]

omit hon hidle in
/-- Neither command's content. -/
theorem Chip.resetCmd_bad (hbad : getF w 48 16 ≠ 0x9400 ∨ (getF w 0 48 ≠ 1 ∧ getF w 0 48 ≠ 2)) {type : Nat} (htype : type = 1 ∨ type = 2) :
    c.resetCmd v type w = c.onDev fun d => d.wr Fld.PLT_STATUS_BAD_KEY 1 := by
  have hkeyed : keyed w [1] = false ∧ keyed w [2] = false := by
    rcases hbad with h | ⟨h1, h2⟩
    · simp [keyed, h]
    · simp [keyed, h1, h2]
  rcases htype with rfl | rfl
  · simp [Chip.resetCmd, Chip.resetWrite, hreached, hkeyed]
  · simp [Chip.resetCmd, Chip.resetWrite, hreached, hkeyed]

end

end

/-! ## Releases of the pins (R398, R438) -/

theorem Chip.resetIn_release (ns : Nat) (caught : Bool) :
    c.resetIn false ns caught = c.onDev fun d => { d with plt := { d.plt with rstIn := false } } := rfl

theorem Chip.perstN_release : c.perstN false = c.onDev fun d => { d with plt := { d.plt with perst := false } } := rfl

end

/-! ## The cause of a reset (R406) -/

/-- RESET_OUT_N is low after a reset, and nothing but the platform's pins and the block's outputs shows it. -/
theorem Dev.resetOut_low (d : Dev) : ∃ plt out, d.resetOut false = { d with plt := plt, out := out } ∧ plt.rstOut = false ∧ plt.reach = d.plt.reach := by
  unfold Dev.resetOut
  split
  · next hlow => exact ⟨d.plt, d.out, rfl, hlow, rfl⟩
  · exact ⟨_, _, rfl, rfl, rfl⟩

section
variable (d : Dev) {reach src org : Nat}

theorem Dev.rd_resetCause (hsrc : src < 16) (hreach : reach < 4) (horg : org < 256) :
    (d.resetCause reach src org).rd Fld.PLT_RESET_CAUSE_SOURCE = src ∧ (d.resetCause reach src org).rd Fld.PLT_RESET_CAUSE_REACH = reach ∧
      (d.resetCause reach src org).rd Fld.PLT_RESET_CAUSE_ORIGIN = org := by
  unfold Dev.resetCause
  rw [Dev.rd_wr_field _ _ (.inl (by decide)), Dev.rd_wr_field _ _ (.inl (by decide)), Dev.rd_wr_same _ _ _ (by decide),
    Dev.rd_wr_field _ _ (.inl (by decide)), Dev.rd_wr_same _ _ _ (by decide), Dev.rd_wr_same _ _ _ (by decide)]
  exact ⟨Nat.mod_eq_of_lt hsrc, Nat.mod_eq_of_lt hreach, by rw [Nat.mod_eq_of_lt horg]; exact Nat.mod_eq_of_lt horg⟩

theorem Dev.reg_resetCause {a : Nat} (ha : a ≠ Fld.PLT_RESET_CAUSE_SOURCE.reg) : (d.resetCause reach src org).reg a = d.reg a := by
  unfold Dev.resetCause
  have hreach : a ≠ Fld.PLT_RESET_CAUSE_REACH.reg := ha
  have horigin : a ≠ Fld.PLT_RESET_CAUSE_ORIGIN.reg := ha
  rw [Dev.reg_wr_ne _ _ horigin, Dev.reg_wr_ne _ _ hreach, Dev.reg_wr_ne _ _ ha]

end

/-! ## What a warm reset leaves alone (R75, R406) -/

/-- A register that is no partition's status register. -/
def outsideParts (a : Nat) : Prop := a < 0x10020 ∨ 0x11000 ≤ a

/-- The programs, commands, threads, vault, bond and platform. -/
def Dev.units (d : Dev) : Prog × Dsp × Tab Thr × Vlt × Mtr × Plt := (d.prog, d.dsp, d.thrs, d.vlt, d.mtr, d.plt)

/-- From `d` to `d'` nothing changes of these units and of the partitions' epochs. -/
structure Dev.Apart (d d' : Dev) : Prop where
  units : d'.units = d.units
  epochs : ∀ n, n < 64 → d'.rd (Fld.PART_STATUS_EPOCH n) = d.rd (Fld.PART_STATUS_EPOCH n)

theorem Dev.Apart.refl (d : Dev) : d.Apart d := ⟨rfl, fun _ _ => rfl⟩

theorem Dev.Apart.trans {d d' d'' : Dev} (h : d.Apart d') (h' : d'.Apart d'') : d.Apart d'' :=
  ⟨h'.units.trans h.units, fun n hn => (h'.epochs n hn).trans (h.epochs n hn)⟩

theorem Dev.Apart.foldl {α : Type} {f : Dev → α → Dev} (h : ∀ d a, Dev.Apart d (f d a)) (l : List α) (d : Dev) : d.Apart (l.foldl f d) := by
  induction l generalizing d with
  | nil => exact .refl d
  | cons a l ih => exact (h d a).trans (ih (f d a))

section
variable (d : Dev)

theorem Dev.apart_wr (f : Fld) (v : Nat) (hf : outsideParts f.reg) : d.Apart (d.wr f v) := by
  refine ⟨rfl, fun n hn => Dev.rd_wr_reg _ _ ?_⟩
  simp only [Fld.PART_STATUS_EPOCH]
  rcases hf with h | h <;> omega

theorem Dev.apart_event : d.Apart d.event := ⟨rfl, fun _ _ => rfl⟩

theorem Dev.apart_eventAt (f : Fld) (hf : outsideParts f.reg) : d.Apart (d.eventAt f) := d.apart_event.trans (d.event.apart_wr f _ hf)

theorem Dev.apart_nvs (x : Nvs) : d.Apart { d with nvs := x } := ⟨rfl, fun _ _ => rfl⟩
theorem Dev.apart_rng (x : Rng) : d.Apart { d with rng := x } := ⟨rfl, fun _ _ => rfl⟩

theorem Dev.apart_journalLive : d.Apart d.journalLive := by
  unfold Dev.journalLive
  extract_lets full d1
  have hlive : d.Apart d1 := d.apart_wr _ _ (.inr (by decide))
  split
  · exact hlive
  · exact hlive.trans ((d1.apart_wr _ _ (.inr (by decide))).trans (Dev.apart_eventAt _ _ (.inr (by decide))))

theorem Dev.apart_recordDone (r : Rec) : d.Apart (d.recordDone r) := by
  unfold Dev.recordDone
  extract_lets seq r1 keep al _ d1 d2 d3
  have hcounted : d.Apart d2 := (d.apart_nvs _).trans ((d1.apart_wr _ _ (.inr (by decide))).trans (Dev.apart_wr _ _ _ (.inr (by decide))))
  have hpointed : d2.Apart d3 := by
    unfold d3
    split
    · exact d2.apart_wr _ _ (.inr (by decide))
    · exact .refl d2
  exact (hcounted.trans hpointed).trans d3.apart_journalLive

theorem Dev.apart_nvsCut (op : NvOp) (k : Nat) (o : WordOutcome) : d.Apart (d.nvsCut op k o) := by
  unfold Dev.nvsCut
  extract_lets _ d1
  have hmarked : d.Apart d1 := by
    unfold d1
    split
    · exact d.apart_nvs _
    · exact .refl d
  repeat' split
  · exact hmarked.trans (d1.apart_recordDone _)
  · exact hmarked.trans (d1.apart_nvs _)
  · exact hmarked.trans (d1.apart_nvs _)
  · exact hmarked
  · exact hmarked.trans (d1.apart_nvs _)
  · exact hmarked

theorem Dev.apart_nvsReset : d.Apart d.nvsReset := by
  unfold Dev.nvsReset
  split
  · exact (d.apart_nvsCut ..).trans (Dev.apart_nvs _ _)
  · exact d.apart_nvs _

theorem Dev.apart_rngDrop : d.Apart d.rngDrop := by
  refine .foldl (fun x n => ?_) _ d
  have hreg : outsideParts (rngDataReg n) := by
    unfold rngDataReg outsideParts
    split <;> omega
  exact (x.apart_wr (rngData n) 0 hreg).trans (Dev.apart_wr _ (rngValid n) 0 hreg)

theorem Dev.apart_rngZero : d.Apart d.rngZero := by
  have hready : d.Apart (((d.wr Fld.RNG_HEALTH_C_READY 0).wr Fld.RNG_HEALTH_D_READY 0).wr Fld.RNG_HEALTH_HOST_READY 0) :=
    ((d.apart_wr _ 0 (.inr (by decide))).trans (Dev.apart_wr _ _ 0 (.inr (by decide)))).trans (Dev.apart_wr _ _ 0 (.inr (by decide)))
  exact (hready.trans (Dev.apart_rngDrop _)).trans (Dev.apart_rng _ _)

theorem Dev.apart_rngReset : d.Apart (d.rngReset false) := by
  unfold Dev.rngReset
  extract_lets z
  have hzero : d.Apart z := d.apart_rngZero
  split
  · exact hzero.trans (z.apart_rng _)
  · exact (hzero.trans (z.apart_wr _ _ (.inr (by decide)))).trans (Dev.apart_rng _ _)

theorem Dev.apart_tileEpochUp (t : Nat) : d.Apart (d.tileEpochUp t) :=
  Dev.Apart.trans (d.apart_wr _ _ (.inr (by simp only [Fld.TILE_EPOCH_EPOCH]; omega))) (Dev.apart_event _)

end

/-! ## The partitions' epochs (R75, R83) -/

/-- A partition's new epoch concerns its own status register alone. -/
theorem Dev.rd_partEpochUp (d : Dev) (m n : Nat) : (d.partEpochUp m).rd (Fld.PART_STATUS_EPOCH n) =
    if n = m then (d.rd (Fld.PART_STATUS_EPOCH n) + 1) % 2 ^ 32 else d.rd (Fld.PART_STATUS_EPOCH n) := by
  have hevent : (Fld.PART_STATUS_EPOCH n).reg ≠ (Fld.PART_EVSEQ_SEQ m).reg := by
    simp only [Fld.PART_STATUS_EPOCH, Fld.PART_EVSEQ_SEQ]
    omega
  have hwr : (d.partEpochUp m).rd (Fld.PART_STATUS_EPOCH n) = (d.wr (Fld.PART_STATUS_EPOCH m) (d.epoch m + 1)).rd (Fld.PART_STATUS_EPOCH n) :=
    Dev.rd_wr_reg _ _ hevent
  rw [hwr]
  split
  · next h =>
    subst h
    exact Dev.rd_wr_same _ _ _ (by simp [Fld.PART_STATUS_EPOCH])
  · exact Dev.rd_wr_reg _ _ (by simp only [Fld.PART_STATUS_EPOCH]; omega)

theorem Dev.rd_foldl_partEpochUp {l : List Nat} (hl : l.Nodup) (d : Dev) (n : Nat) : (l.foldl Dev.partEpochUp d).rd (Fld.PART_STATUS_EPOCH n) =
    if n ∈ l then (d.rd (Fld.PART_STATUS_EPOCH n) + 1) % 2 ^ 32 else d.rd (Fld.PART_STATUS_EPOCH n) := by
  induction l generalizing d with
  | nil => rfl
  | cons m l ih =>
    obtain ⟨hm, hl⟩ := List.nodup_cons.mp hl
    rw [List.foldl_cons, ih hl, Dev.rd_partEpochUp]
    by_cases h : n = m
    · simp [h, hm]
    · simp [h]

/-! ## Registers that a warm reset keeps (R9, R406) -/

theorem tget_warmRegs (t : Tab Word) (a : Nat) : tget regReset (warmRegs t) a = mergeW (regReset a) (tget regReset t a) (warmKeep a) := by
  induction t with
  | nil =>
    simp only [warmRegs, List.foldr_nil, tget_nil, mergeW]
    ext i
    by_cases h : (warmKeep a).getLsbD i <;> simp_all
  | cons e t ih =>
    rw [warmRegs, List.foldr_cons, tget]
    by_cases h : e.1 = a
    · subst h
      simp
    · rw [tget_tput_ne _ _ (Ne.symm h), if_neg h]
      exact ih

theorem warmKeep_partStatus : ∀ n, n < 64 → warmKeep (Fld.PART_STATUS_EPOCH n).reg = 0xffffffff := by
  decide

theorem getF_mergeW_low (old new : Word) : getF (mergeW old new 0xffffffff) 0 32 = getF new 0 32 := by
  have hmask : (0xffffffff : Word) = maskF 0 32 := by decide
  apply Nat.eq_of_testBit_eq
  intro i
  rw [getF, getF, BitVec.testBit_toNat, BitVec.testBit_toNat, BitVec.getLsbD_extractLsb', BitVec.getLsbD_extractLsb', mergeW, hmask]
  by_cases hi : i < 32
  · have hbit : (maskF 0 32).getLsbD i = true := by simp [getLsbD_maskF, hi, show i < 64 by omega]
    simp only [Nat.zero_add, BitVec.getLsbD_or, BitVec.getLsbD_and, BitVec.getLsbD_not, hbit, Bool.not_true, Bool.and_false, Bool.and_true,
      Bool.false_or]
  · simp [hi]

/-! ## A cold reset (R406) -/

/-- The device with its units as a cold reset leaves them. -/
def Dev.coldCleared (d : Dev) (source : Nat) : Dev :=
  let d := d.nvsReset
  { d with
    regs := [], heff := [], seq := 0, hiu := Hiu.reset, dsp := Dsp.reset, thrs := [], prog := Prog.reset, ciph := Ciph.reset, hpk := Hpk.reset,
    vlt := Vlt.reset, xks := Xks.reset, rng := Rng.reset, tmp := d.tmp.reset_ true, wdn := d.wdn.restart true, crd := Crd.reset, mtr := Mtr.reset,
    plt := d.plt.assert 2 (if source = 1 then 500 else 502) }

theorem Dev.coldReset_eq (d : Dev) (src org : Nat) : d.coldReset src org = ((d.coldCleared src).resetCause 2 src org).resetOut false := rfl

/-! ## A warm reset (R75, R406) -/

/-- The device with its units as a warm reset leaves them, before the links, the random generator and the epochs are set. -/
def Dev.warmCleared (d : Dev) (source : Nat) : Dev :=
  let d := ((d.nvsReset).vaultReset).xksRest
  { d with
    regs := warmRegs d.regs, heff := [], hiu := d.hiu.warm (source == 6), dsp := { Dsp.reset with ctxs := d.dsp.ctxs, badCtx := d.dsp.badCtx }, thrs := [],
    ciph := Ciph.reset, hpk := Hpk.reset, tmp := d.tmp.reset_ false, wdn := d.wdn.restart false, crd := Crd.reset,
    mtr := { Mtr.reset with msgId := d.mtr.msgId, cert := d.mtr.cert }, plt := d.plt.assert 1 501 }

theorem Dev.rd_warmCleared (d : Dev) (source : Nat) {n : Nat} (hn : n < 64) :
    (d.warmCleared source).rd (Fld.PART_STATUS_EPOCH n) = d.rd (Fld.PART_STATUS_EPOCH n) := by
  have hreg : (d.warmCleared source).reg (Fld.PART_STATUS_EPOCH n).reg =
      mergeW (regReset (Fld.PART_STATUS_EPOCH n).reg) (d.nvsReset.reg (Fld.PART_STATUS_EPOCH n).reg) 0xffffffff := by
    rw [← warmKeep_partStatus n hn]
    exact tget_warmRegs _ _
  rw [Dev.rd, hreg, ← d.apart_nvsReset.epochs n hn]
  exact getF_mergeW_low _ _

theorem Dev.units_foldl_partEpochUp (l : List Nat) (d : Dev) : (l.foldl Dev.partEpochUp d).units = d.units := by
  induction l generalizing d with
  | nil => rfl
  | cons n l ih => exact ih (d.partEpochUp n)

theorem Dev.warmEpochs_counts (d : Dev) : d.warmEpochs.units = d.units ∧
    ∀ n, n < 64 → d.warmEpochs.rd (Fld.PART_STATUS_EPOCH n) = (d.rd (Fld.PART_STATUS_EPOCH n) + 1) % 2 ^ 32 := by
  unfold Dev.warmEpochs
  extract_lets d1 d2
  have hevent : d.Apart d1 := d.apart_eventAt _ (.inr (by decide))
  have htiles := Dev.Apart.foldl (fun (x : Dev) t => x.apart_tileEpochUp t) (List.range 64) d2
  refine ⟨htiles.units.trans ((Dev.units_foldl_partEpochUp _ d1).trans hevent.units), fun n hn => ?_⟩
  rw [htiles.epochs n hn, Dev.rd_foldl_partEpochUp List.nodup_range, if_pos (List.mem_range.mpr hn), hevent.epochs n hn]

theorem Dev.warmReset_eq (d : Dev) (src org : Nat) : ∃ x : Dev, d.warmReset src org = (x.resetCause 1 src org).resetOut false ∧
    x.units = (d.warmCleared src).units ∧
    ∀ n, n < 64 → x.rd (Fld.PART_STATUS_EPOCH n) = (d.rd (Fld.PART_STATUS_EPOCH n) + 1) % 2 ^ 32 := by
  unfold Dev.warmReset
  extract_lets d0 _ mtr links peers lanes _ d1 d2 r r1
  have hports : d1.Apart d2 := .foldl (fun x p => ((x.apart_wr _ _ (.inr (by simp only [Fld.MTR_PORT_LINK]; omega))).trans
    (Dev.apart_wr _ _ _ (.inr (by simp only [Fld.MTR_PORT_PEER_ID]; omega)))).trans
      (Dev.apart_wr _ _ _ (.inr (by simp only [Fld.MTR_PORT_LANES]; omega)))) _ d1
  obtain ⟨hunits, hepochs⟩ := (d2.rngReset false).warmEpochs_counts
  have hbase : d1.Apart (d2.rngReset false) := hports.trans d2.apart_rngReset
  have hevent : r.Apart r1 := by
    unfold r1
    split
    · exact .refl r
    · exact r.apart_wr _ _ (.inr (by decide))
  have hcount : r.Apart (r1.inc Fld.PLT_RESET_CAUSE_WARM_COUNT 1) := hevent.trans (r1.apart_wr _ _ (.inr (by decide)))
  refine ⟨r1.inc Fld.PLT_RESET_CAUSE_WARM_COUNT 1, rfl, hcount.units.trans (hunits.trans hbase.units), fun n hn => ?_⟩
  rw [hcount.epochs n hn, hepochs n hn, hbase.epochs n hn]
  exact congrArg (fun v => (v + 1) % 2 ^ 32) (d.rd_warmCleared src hn)

/-! ## The statement -/

/-- Settles O55: the clauses on supplies and sources are the rules above; those on the two resets follow from the units and registers that each
leaves. That POWER_LOSS sets the latches of an alarm judged and not yet delivered, and that a warm reset before step 5 of any release is merged,
are the model's choice (assumptions 41 and 40). -/
theorem suppliesAndResetSources : Obligations.SuppliesAndResetSources := by
  rintro s c rfl
  refine ⟨fun hoff => ?powerOn, fun hon => ⟨?porRelease, fun o hbatch => ?powerLoss, fun reach src origin herasing => ?waits,
      fun hidle => ⟨fun ns caught hhigh => ⟨fun hlong => ?resetIn, fun hshort => ?short⟩, fun hhigh => ?perst,
        fun v w org hreached horg => ⟨fun hkey htype => ?cold, fun hkey htype hlate => ?warm, fun hbad => ?bad⟩,
        fun hlate => ?hot, fun hreach hearly => ?merged⟩⟩,
    fun ns caught => ?resetInHigh, ?perstHigh, fun src org hsrc horg d hd => ⟨fun r hr => ?coldState, fun r hr => ?warmState⟩⟩
  case powerOn =>
    rw [exec_powerOn]
    exact onChip_next s (Chip.powerOn_off hoff)
  case porRelease =>
    rw [exec_porRelease]
    exact onChip_outcome s (Chip.porRelease_on hon)
  case powerLoss =>
    rw [exec_powerLoss]
    exact onChip_next s (Chip.powerLoss_judged hon hbatch o)
  case waits => exact Chip.assertReset_erasing hon herasing reach src origin
  case resetIn =>
    rw [exec_resetInN]
    exact onChip_next s (Chip.resetIn_low hon hidle hhigh hlong)
  case short =>
    rw [exec_resetInN]
    exact onChip_unchanged (Chip.resetIn_short hshort)
  case perst =>
    rw [exec_perstN]
    exact onChip_next s (Chip.perstN_low hon hidle hhigh)
  case cold =>
    have horg : org = viaOrigin v := by rw [horg]; cases v <;> rfl
    rw [exec_resetCmdCold, horg]
    exact onChip_next s (Chip.resetCmd_cold hon hidle hreached hkey htype)
  case warm =>
    have horg : org = viaOrigin v := by rw [horg]; cases v <;> rfl
    rw [exec_resetCmdWarm, horg]
    exact onChip_next s (Chip.resetCmd_warm hon hidle hreached hkey htype hlate)
  case bad =>
    simp only [List.forall_mem_cons, List.not_mem_nil, false_imp_iff, implies_true, and_true]
    rw [exec_resetCmdCold, exec_resetCmdWarm]
    exact ⟨onChip_outcome s (Chip.resetCmd_bad hreached hbad (.inr rfl)), onChip_outcome s (Chip.resetCmd_bad hreached hbad (.inl rfl))⟩
  case hot =>
    rw [exec_hotReset]
    exact onChip_next s (Chip.assertReset_warm hon hidle hlate 6 0)
  case merged =>
    rw [exec_hotReset]
    exact onChip_unchanged (Chip.assertReset_merged hon hidle hreach hearly 6 0)
  case resetInHigh =>
    rw [exec_resetInN]
    exact onChip_outcome s (Chip.resetIn_release ns caught)
  case perstHigh =>
    rw [exec_perstN]
    exact onChip_outcome s Chip.perstN_release
  case coldState =>
    obtain ⟨plt, out, hlow, hout, hreach⟩ := ((d.coldCleared src).resetCause 2 src org).resetOut_low
    obtain ⟨hsource, hextent, horigin⟩ := (d.coldCleared src).rd_resetCause (reach := 2) hsrc (by decide) horg
    rw [hr, d.coldReset_eq, hlow]
    exact ⟨fun a ha => (d.coldCleared src).reg_resetCause ha, hsource, hextent, horigin, rfl, rfl, rfl, rfl, rfl, rfl, rfl, rfl, rfl, rfl, rfl, rfl,
      rfl, hout, hreach⟩
  case warmState =>
    obtain ⟨x, heq, hunits, hepochs⟩ := d.warmReset_eq src org
    obtain ⟨plt, out, hlow, hout, hreach⟩ := (x.resetCause 1 src org).resetOut_low
    obtain ⟨hsource, hextent, horigin⟩ := x.rd_resetCause (reach := 1) hsrc (by decide) horg
    have hbefore := d.apart_nvsReset.units
    simp only [Dev.units, Prod.mk.injEq] at hunits hbefore
    obtain ⟨hprog, hdsp, hthrs, hvlt, hmtr, hplt⟩ := hunits
    obtain ⟨hprog0, hdsp0, -, -, hmtr0, -⟩ := hbefore
    rw [hr, heq, hlow]
    refine ⟨hsource, hextent, horigin, hprog.trans hprog0, (congrArg Dsp.ctxs hdsp).trans (congrArg Dsp.ctxs hdsp0 :), congrArg Dsp.cmds hdsp, hthrs,
      congrArg Vlt.staging hvlt, (congrArg Mtr.cert hmtr).trans (congrArg Mtr.cert hmtr0 :), hout, hreach.trans (congrArg Plt.reach hplt), fun n hn => ?_⟩
    refine Eq.trans ?_ (hepochs n hn)
    have hne : (Fld.PART_STATUS_EPOCH n).reg ≠ Fld.PLT_RESET_CAUSE_SOURCE.reg := by
      simp only [Fld.PART_STATUS_EPOCH, Fld.PLT_RESET_CAUSE_SOURCE]
      omega
    exact congrArg (fun w => getF w 0 32) (x.reg_resetCause hne)

end Sys2Proof.Machine
end

section
/-! A custodian card's link: activation, ATR and PPS, T=1 blocks and their recovery, timeouts and removal (R354 to R360). -/

namespace Sys2Proof.Machine

/-! ## The commands -/

section
variable (s : State) (p : Nat)

theorem exec_cardActivation : exec (.cardActivation p) s = onDev s (fun d => d.cardStart p) := rfl
theorem exec_atrReceive (bs : List Byte) : exec (.atrReceive p bs) s = onDev s (fun d => d.atrReceive p bs) := rfl
theorem exec_atrTimeout : exec (.atrTimeout p) s = onDev s (fun d => d.atrTimeout p) := rfl
theorem exec_ppsResponse (bs : List Byte) : exec (.ppsResponse p bs) s = onDev s (fun d => d.ppsResponse p bs) := rfl
theorem exec_ppsTimeout : exec (.ppsTimeout p) s = onDev s (fun d => d.ppsTimeout p) := rfl
theorem exec_t1BlockReceive (nad pcb : Nat) (inf : List Byte) (ok : Bool) :
    exec (.t1BlockReceive p nad pcb inf ok) s = onDev s (fun d => d.t1Block p nad pcb inf ok) := rfl
theorem exec_t1BlockTimeout : exec (.t1BlockTimeout p) s = onDev s (fun d => d.t1Timeout p) := rfl
theorem exec_sWtxRequest (k : Nat) : exec (.sWtxRequest p k) s = onDev s (fun d => d.sWtx p k) := rfl
theorem exec_sAbortRequest : exec (.sAbortRequest p) s = onDev s (fun d => d.sAbort p) := rfl
theorem exec_sIfsRequest (k : Nat) : exec (.sIfsRequest p k) s = onDev s (fun d => d.sIfs p k) := rfl
theorem exec_cardResponseTimeout : exec (.cardResponseTimeout p) s = onDev s (fun d => d.cardTimeout p) := rfl
theorem exec_cardRemoval : exec (.cardRemoval p) s = onDev s (fun d => d.cardRemoval p) := rfl

end

/-! ## A port and the registers -/

section
variable (d : Dev) (p : Nat) (x : CcPort)

@[simp] theorem Dev.rd_setCc (f : Fld) : (d.setCc p x).rd f = d.rd f := rfl
@[simp] theorem Dev.ccState_setCc (q : Nat) : (d.setCc p x).ccState q = d.ccState q := rfl

theorem Dev.modCc_setCc (f : CcPort → CcPort) : (d.setCc p x).modCc p f = d.setCc p (f x) := by
  rw [Dev.modCc, Dev.cc_setCc_same, Dev.setCc_setCc]

/-- An invalid block: an R-block, S(RESYNCH request) and the card's refusal, in this order as the counts run out (R359). -/
theorem Dev.ccInvalid_eq : d.ccInvalid p =
    if (d.cc p).sends < 3 then
      ((d.setCc p { d.cc p with sends := (d.cc p).sends + 1 }).inc (Fld.CRD_CC_COUNTS_RETRANSMIT p) 1).ccSend p (0x81 + (d.cc p).nr % 2 * 16) []
    else if (d.cc p).resynchs < 3 then
      ((d.setCc p { d.cc p with resynchs := (d.cc p).resynchs + 1, ns := 0, nr := 0 }).inc (Fld.CRD_CC_COUNTS_RESYNCH p) 1).ccSend p 0xC0 []
    else d.ccRefuse p 6 := rfl

end

/-! ## Activation, ATR and PPS (R355 to R357) -/

section
variable {d : Dev} {p : Nat} (hp : p < 2)
include hp

theorem Dev.cardStart_activates (hruns : d.wdn.running = true) (hempty : d.ccState p = 0) (hheld : d.ccHeld p = false) :
    d.cardStart p = (d.setCc p { d.cc p with present := true, tries := 0, refused := false }).ccOn p 1 := by
  simp [Dev.cardStart, Dev.cardActivation, Dev.modCc, hruns, hempty, hheld, Nat.not_le.2 hp]

theorem Dev.atrTimeout_refuses (hstate : d.ccState p = 1) : d.atrTimeout p = d.ccRefuse p 1 := by
  simp [Dev.atrTimeout, hstate, Nat.not_le.2 hp]

section
variable {bs : List Byte} (hstate : d.ccState p = 1)
include hstate

theorem Dev.atrReceive_malformed (hatr : atrParse bs = none) : d.atrReceive p bs = d.ccRefuse p 1 := by
  simp [Dev.atrReceive, hstate, hatr, Nat.not_le.2 hp]

variable {gs : List AtrGroup} (hatr : atrParse bs = some gs)
include hatr

theorem Dev.atrReceive_noClass (hclass : d.rd (Fld.CRD_CC_STATUS_CLASS p) = 1) (hnone : atrClass gs = none) :
    d.atrReceive p bs = d.ccRefuse p 2 := by
  simp [Dev.atrReceive, hstate, hatr, hclass, hnone, Nat.not_le.2 hp]

variable {cls : Nat} (hcls : (if d.rd (Fld.CRD_CC_STATUS_CLASS p) = 1 then atrClass gs else some (d.rd (Fld.CRD_CC_STATUS_CLASS p))) = some cls)
include hcls

theorem Dev.atrReceive_higher (hlt : d.rd (Fld.CRD_CC_STATUS_CLASS p) < cls) : d.atrReceive p bs = d.ccOn p cls := by
  simp [Dev.atrReceive, hstate, hatr, hcls, hlt, Nat.not_le.2 hp]

variable (hle : cls ≤ d.rd (Fld.CRD_CC_STATUS_CLASS p))
include hle

theorem Dev.atrReceive_noT1 (hprot : (atrProtocols gs).contains 1 = false) : d.atrReceive p bs = d.ccRefuse p 3 := by
  simp [Dev.atrReceive, hstate, hatr, hcls, Nat.not_lt.2 hle, hprot, Nat.not_le.2 hp, -List.contains_eq_mem]

variable (hprot : (atrProtocols gs).contains 1 = true) {d1 : Dev} (hd1 : d1 = (d.setCc p { d.cc p with atr := bs }).setCcState p 2)
include hprot hd1

theorem Dev.atrReceive_specific {t : Nat} (hta2 : atrTa2 gs = some t) : d.atrReceive p bs =
    if t % 16 = 1 ∧ (fiOf (atrTa1 gs / 16)).isSome = true ∧ (diOf (atrTa1 gs % 16)).isSome = true then d1.ccIfs p gs (atrTa1 gs)
    else d1.ccRefuse p 5 := by
  have hbad : (t % 16 != 1 || (fiOf (atrTa1 gs / 16)).isNone || (diOf (atrTa1 gs % 16)).isNone) =
      !decide (t % 16 = 1 ∧ (fiOf (atrTa1 gs / 16)).isSome = true ∧ (diOf (atrTa1 gs % 16)).isSome = true) := by
    cases fiOf (atrTa1 gs / 16) <;> cases diOf (atrTa1 gs % 16) <;> simp [bne, beq_eq_decide]
  simp only [Dev.atrReceive, Dev.modCc, hstate, Nat.not_le.2 hp, hatr, hcls, Nat.not_lt.2 hle, hprot, hta2, ← hd1, hbad, bne_self_eq_false,
    decide_false, Bool.or_self, Bool.not_true, Bool.false_eq_true, if_false, Bool.not_eq_true', decide_eq_false_iff_not, ite_not]

theorem Dev.atrReceive_negotiable (hta2 : atrTa2 gs = none) : d.atrReceive p bs = d1.emit (.card p (d1.ppsRequest p gs)) := by
  simp [Dev.atrReceive, Dev.modCc, hstate, hatr, hcls, Nat.not_lt.2 hle, hprot, hta2, hd1, Nat.not_le.2 hp, -List.contains_eq_mem]

end

section
variable (hstate : d.ccState p = 2) (hsends : (d.cc p).sends = 0)
include hstate hsends

theorem Dev.ppsWaits_of_negotiation : d.ppsWaits p = true := by
  simp [Dev.ppsWaits, hp, hstate, hsends]

theorem Dev.ppsTimeout_fails : d.ppsTimeout p = d.ppsFail p := if_pos (Dev.ppsWaits_of_negotiation hp hstate hsends)

variable {gs : List AtrGroup} (hatr : atrParse (d.cc p).atr = some gs) {bs : List Byte}
include hatr

theorem Dev.ppsResponse_echo (h : bs = d.ppsRequest p gs) : d.ppsResponse p bs = d.ccIfs p gs (d.ccTa1 p gs) := by
  simp [Dev.ppsResponse, Dev.ppsWaits_of_negotiation hp hstate hsends, hatr, h]

theorem Dev.ppsResponse_other (h : bs ≠ d.ppsRequest p gs) : d.ppsResponse p bs = d.ppsFail p := by
  simp [Dev.ppsResponse, Dev.ppsWaits_of_negotiation hp hstate hsends, hatr, h]

end

/-! ## T=1 blocks (R358, R359) -/

section
variable (hready : (d.cc p).ready = false)
include hready

section
variable (hwaits : d.ccState p = 4 ∨ d.ccState p = 2 ∧ (d.cc p).sends ≠ 0)
include hwaits

theorem Dev.t1_waits : (decide (2 ≤ p) || !(d.ccState p == 4 || (d.ccState p == 2 && (d.cc p).sends != 0)) || (d.cc p).ready) = false := by
  simpa [hready, Nat.not_le.2 hp, bne, imp_iff_not_or] using hwaits

theorem Dev.t1Timeout_invalid : d.t1Timeout p = d.ccInvalid p := by
  rw [Dev.t1Timeout, Dev.t1_waits hp hready hwaits, if_neg Bool.false_ne_true]

theorem Dev.t1Block_malformed {nad pcb : Nat} {inf : List Byte} {ok : Bool} (hbad : ok = false ∨ nad ≠ 0 ∨ 254 < inf.length) :
    d.t1Block p nad pcb inf ok = d.ccInvalid p := by
  have hbad : (!ok || nad != 0 || decide (254 < inf.length)) = true := by simpa [or_assoc] using hbad
  simp only [Dev.t1Block, Dev.t1_waits hp hready hwaits, hbad, Bool.false_eq_true, if_false, if_true]

/-- A block without an error goes to the branch of its PCB. -/
theorem Dev.t1Block_wellFormed {pcb : Nat} {inf : List Byte} (hlen : inf.length ≤ 254) : d.t1Block p 0 pcb inf true =
    if pcb < 128 then
      if d.ccState p ≠ 4 ∨ pcb % 32 ≠ 0 ∨ 1 < (d.cc p).out.length ∨ pcb / 64 % 2 ≠ (d.cc p).nr % 2 then d.ccInvalid p
      else d.ccInf p inf (pcb / 32 % 2 == 1)
    else if pcb / 64 = 2 then
      if inf ≠ [] ∨ pcb / 32 % 2 ≠ 0 ∨ d.ccState p ≠ 4 then d.ccInvalid p
      else if pcb % 16 = 0 ∧ pcb / 16 % 2 ≠ (d.cc p).ns % 2 ∧ 1 < (d.cc p).out.length then d.ccAcked p
      else if (d.cc p).sends < 3 then (d.inc (Fld.CRD_CC_COUNTS_RETRANSMIT p) 1).ccSendI p
      else d.ccResynch p
    else if pcb = 0xE1 then
      (if d.ccState p = 2 ∧ inf = [254] then ((d.modCc p CcPort.idle).setCcState p 3).ccStart p else d.ccInvalid p)
    else if pcb = 0xE0 then
      if d.ccState p = 4 then (d.modCc p (fun y => { y with sends := 0, got := [] })).ccSendI p
      else (d.modCc p (fun y => { y with sends := 1 })).ccSend p 0xC1 [254]
    else d.ccInvalid p := by
  have hwf : (!true || 0 != 0 || decide (254 < inf.length)) = false := by simpa using hlen
  simp only [Dev.t1Block, Dev.t1_waits hp hready hwaits, hwf, Bool.false_eq_true, if_false, Bool.or_eq_true, Bool.and_eq_true, bne_iff_ne,
    decide_eq_true_eq, Bool.not_eq_true', List.isEmpty_eq_false_iff, or_assoc, and_assoc]
  by_cases hbad : d.ccState p ≠ 4 ∨ pcb % 32 ≠ 0 ∨ 1 < (d.cc p).out.length
  · have hbad' : d.ccState p ≠ 4 ∨ pcb % 32 ≠ 0 ∨ 1 < (d.cc p).out.length ∨ pcb / 64 % 2 ≠ (d.cc p).nr % 2 := by tauto
    rw [if_pos hbad, if_pos hbad']
  · have hiff : (d.ccState p ≠ 4 ∨ pcb % 32 ≠ 0 ∨ 1 < (d.cc p).out.length ∨ pcb / 64 % 2 ≠ (d.cc p).nr % 2) ↔
        pcb / 64 % 2 ≠ (d.cc p).nr % 2 := by tauto
    simp only [if_neg hbad, hiff]

end

section
variable (hstate : d.ccState p = 4)
include hstate

/-- An I-block in sequence gives its information field to the response. -/
theorem Dev.t1Block_information {inf : List Byte} (hout : (d.cc p).out.length ≤ 1) (hlen : inf.length ≤ 254) (more : Bool) :
    d.t1Block p 0 ((d.cc p).nr % 2 * 64 + (if more then 32 else 0)) inf true = d.ccInf p inf more := by
  have hpcb : ∃ pcb, pcb = (d.cc p).nr % 2 * 64 + (if more then 32 else 0) ∧ pcb < 128 ∧ pcb % 32 = 0 ∧ pcb / 64 % 2 = (d.cc p).nr % 2 ∧
      (pcb / 32 % 2 == 1) = more := by
    refine ⟨_, rfl, ?_⟩
    cases more
    · simp only [Bool.false_eq_true, if_false, beq_eq_false_iff_ne]; omega
    · simp only [if_true, beq_iff_eq]; omega
  obtain ⟨pcb, hpcb, hinfo, hlow, hseq, hmore⟩ := hpcb
  rw [← hpcb, Dev.t1Block_wellFormed hp hready (.inl hstate) hlen, if_pos hinfo, hmore, if_neg]
  simp [hstate, hlow, hseq, hout]

/-- An R-block that acknowledges sends the next field. -/
theorem Dev.t1Block_acknowledged (hout : 2 ≤ (d.cc p).out.length) : d.t1Block p 0 (0x80 + ((d.cc p).ns + 1) % 2 * 16) [] true = d.ccAcked p := by
  rw [Dev.t1Block_wellFormed hp hready (.inl hstate) (by simp), if_neg (by omega), if_pos (by omega), if_neg, if_pos]
  · exact ⟨by omega, by omega, hout⟩
  · simp only [hstate, ne_eq, not_true, false_or, or_false]
    omega

/-- An R-block of the same number resends. -/
theorem Dev.t1Block_resends (hsends : (d.cc p).sends < 3) :
    d.t1Block p 0 (0x80 + (d.cc p).ns % 2 * 16) [] true = (d.inc (Fld.CRD_CC_COUNTS_RETRANSMIT p) 1).ccSendI p := by
  rw [Dev.t1Block_wellFormed hp hready (.inl hstate) (by simp), if_neg (by omega), if_pos (by omega), if_neg, if_neg, if_pos hsends]
  · omega
  · simp only [hstate, ne_eq, not_true, false_or, or_false]
    omega

theorem Dev.t1Block_resynched : d.t1Block p 0 0xE0 [] true = (d.setCc p { d.cc p with sends := 0, got := [] }).ccSendI p := by
  rw [Dev.t1Block_wellFormed hp hready (.inl hstate) (by simp)]
  simp [hstate, Dev.modCc]

theorem Dev.sWtx_answers (k : Nat) : d.sWtx p k = (d.setCc p { d.cc p with waited := k }).ccSend p 0xE3 [BitVec.ofNat 8 k] := by
  simp [Dev.sWtx, hstate, hready, Dev.modCc, Nat.not_le.2 hp]

end

section
variable (hstate : d.ccState p = 2) (hsends : (d.cc p).sends ≠ 0)
include hstate hsends

theorem Dev.t1Block_ifsTaken : d.t1Block p 0 0xE1 [254] true = ((d.setCc p (d.cc p).idle).setCcState p 3).ccStart p := by
  rw [Dev.t1Block_wellFormed hp hready (.inr ⟨hstate, hsends⟩) (by simp)]
  simp [hstate, Dev.modCc]

theorem Dev.t1Block_ifsAgain : d.t1Block p 0 0xE0 [] true = (d.setCc p { d.cc p with sends := 1 }).ccSend p 0xC1 [254] := by
  rw [Dev.t1Block_wellFormed hp hready (.inr ⟨hstate, hsends⟩) (by simp)]
  simp [hstate, Dev.modCc]

end

end

theorem Dev.sIfs_answers (hstate : d.ccState p = 4 ∨ d.ccState p = 2) (k : Nat) : d.sIfs p k =
    if 1 ≤ k ∧ k ≤ 254 then (d.wr (Fld.CRD_CC_LINK_IFSC p) k).ccSend p 0xE1 [BitVec.ofNat 8 k] else d.ccInvalid p := by
  have hwaits : (decide (2 ≤ p) || !(d.ccState p == 4 || d.ccState p == 2)) = false := by
    simpa [Nat.not_le.2 hp, imp_iff_not_or] using hstate
  have hrange : (decide (k = 0) || decide (255 ≤ k)) = !decide (1 ≤ k ∧ k ≤ 254) := by
    rw [Bool.eq_iff_iff]
    simp only [Bool.or_eq_true, decide_eq_true_eq, Bool.not_eq_true', decide_eq_false_iff_not]
    omega
  simp only [Dev.sIfs, hwaits, hrange, Bool.false_eq_true, if_false, Bool.not_eq_true', decide_eq_false_iff_not, ite_not]

theorem Dev.sAbort_answers (hstate : d.ccState p = 4) : d.sAbort p = (d.ccSend p 0xE2 []).ccGiveUp p := by
  simp [Dev.sAbort, hstate, Nat.not_le.2 hp]

theorem Dev.cardTimeout_refuses (hstate : d.ccState p = 4) : d.cardTimeout p = d.ccRefuse p 7 := by
  simp [Dev.cardTimeout, hstate, Nat.not_le.2 hp]

/-- Removal deactivates the port. -/
theorem Dev.cardRemoval_deactivates (hpresent : (d.cc p).present = true) : d.cardRemoval p =
    ((((((d.setCc p { CcPort.reset with present := false, tries := (d.cc p).tries, refused := false }).wr (Fld.CRD_CC_STATUS_CLASS p) 0).wr
      (Fld.CRD_CC_STATUS_SESSION p) 0).emit (.pin (ccPinName p) false)).wr (Fld.CRD_CC_STATUS_CAUSE p) 8).setCcState p 0) := by
  simp [Dev.cardRemoval, Dev.modCc, Dev.ccOff, hpresent, Nat.not_le.2 hp]

end

/-- What an I-block's information field does: more is asked for, the next part of a chained command is sent, or the response is complete. -/
theorem Dev.ccInf_takes (d : Dev) (p : Nat) (inf : List Byte) (more : Bool) {d1 : Dev}
    (hd1 : d1 = d.setCc p { d.cc p with
      got := (d.cc p).got ++ inf, nr := (d.cc p).nr + 1, sends := 0, resynchs := 0, waited := 1, out := [] }) :
    d.ccInf p inf more =
      if more then d1.ccSend p (0x80 + ((d.cc p).nr + 1) % 2 * 16) []
      else match (d.cc p).parts with
        | a :: rest => if (d.cc p).got ++ inf = [0x90, 0x00] then
            (d1.modCc p fun y => { y with
              ns := (d.cc p).ns + 1, parts := rest, got := [], out := chunks (max 1 (d.rd (Fld.CRD_CC_LINK_IFSC p))) 64 a }).ccSendI p
          else d1.modCc p fun y => { y with ns := (d.cc p).ns + 1, ready := true }
        | [] => d1.modCc p fun y => { y with ns := (d.cc p).ns + 1, ready := true } := by
  cases more
  · cases hparts : (d.cc p).parts <;> simp [Dev.ccInf, Dev.ccDone, Dev.modCc, hd1, hparts]
  · simp [Dev.ccInf, Dev.modCc, hd1]

/-! ## The statement -/

/-- Settles O47: activation, the ATR, PPS, T=1 blocks, the S-blocks, the timeouts and removal are each the port's rule, by the port's STATE and
what is in progress. -/
theorem cardLinkFollowsIso7816 : Obligations.CardLinkFollowsIso7816 := by
  rintro s _ p _ bad again rfl hp rfl hbad hagain
  replace hbad : s.chip.dev.ccInvalid p = bad := hbad ▸ Dev.ccInvalid_eq ..
  replace hagain : s.chip.dev.ppsFail p = again := hagain ▸ rfl
  refine ⟨fun hruns hempty hheld => ?activation, fun hstate => ⟨?atrTimeout, fun bs => ⟨fun hatr => ?malformed, fun gs hatr =>
    ⟨fun hclass hnone => ?noClass, fun cls hcls => ⟨fun hlt => ?higher, fun hle => ⟨fun hprot => ?noT1, fun hprot d1 hd1 =>
      ⟨fun t hta2 => ?specific, fun hta2 => ?negotiable⟩⟩⟩⟩⟩⟩,
    fun hstate hsends => ⟨?ppsTimeout, fun gs hatr bs => ⟨fun hecho => ?echo, fun hother => ?other⟩⟩,
    fun hwaits hready => ⟨?blockTimeout, fun nad pcb inf ok hmal => ?malformedBlock⟩,
    fun hstate hready hout inf more hlen d1 hd1 => ?information,
    fun hstate hready => ⟨fun hout => ?acknowledged, fun hsends => ?resends, fun k => ?wtx⟩,
    fun hstate hready hsends => ⟨?ifsTaken, ?ifsAgain⟩, fun hstate hready => ?resynched, fun hstate k => ?ifs,
    fun hstate => ⟨?abort, ?timeout⟩, fun hpresent => ?removal⟩
  case activation =>
    rw [exec_cardActivation]
    exact onDev_outcome s (Dev.cardStart_activates hp hruns hempty hheld)
  case atrTimeout =>
    rw [exec_atrTimeout]
    exact onDev_outcome s (Dev.atrTimeout_refuses hp hstate)
  case malformed =>
    rw [exec_atrReceive]
    exact onDev_outcome s (Dev.atrReceive_malformed hp hstate hatr)
  case noClass =>
    rw [exec_atrReceive]
    exact onDev_outcome s (Dev.atrReceive_noClass hp hstate hatr hclass hnone)
  case higher =>
    rw [exec_atrReceive]
    exact onDev_outcome s (Dev.atrReceive_higher hp hstate hatr hcls hlt)
  case noT1 =>
    rw [exec_atrReceive]
    exact onDev_outcome s (Dev.atrReceive_noT1 hp hstate hatr hcls hle hprot)
  case specific =>
    rw [exec_atrReceive]
    exact onDev_outcome s (Dev.atrReceive_specific hp hstate hatr hcls hle hprot hd1 hta2)
  case negotiable =>
    rw [exec_atrReceive]
    exact onDev_outcome s (Dev.atrReceive_negotiable hp hstate hatr hcls hle hprot hd1 hta2)
  case ppsTimeout =>
    rw [exec_ppsTimeout]
    exact onDev_outcome s ((Dev.ppsTimeout_fails hp hstate hsends).trans hagain)
  case echo =>
    rw [exec_ppsResponse]
    exact onDev_outcome s (Dev.ppsResponse_echo hp hstate hsends hatr hecho)
  case other =>
    rw [exec_ppsResponse]
    exact onDev_outcome s ((Dev.ppsResponse_other hp hstate hsends hatr hother).trans hagain)
  case blockTimeout =>
    rw [exec_t1BlockTimeout]
    exact onDev_outcome s ((Dev.t1Timeout_invalid hp hready hwaits).trans hbad)
  case malformedBlock =>
    rw [exec_t1BlockReceive]
    exact onDev_outcome s ((Dev.t1Block_malformed hp hready hwaits hmal).trans hbad)
  case information =>
    rw [exec_t1BlockReceive]
    exact onDev_outcome s ((Dev.t1Block_information hp hready hstate hout hlen more).trans (Dev.ccInf_takes _ p inf more hd1))
  case acknowledged =>
    rw [exec_t1BlockReceive]
    exact onDev_outcome s (Dev.t1Block_acknowledged hp hready hstate hout)
  case resends =>
    rw [exec_t1BlockReceive]
    exact onDev_outcome s (Dev.t1Block_resends hp hready hstate hsends)
  case wtx =>
    rw [exec_sWtxRequest]
    exact onDev_outcome s (Dev.sWtx_answers hp hready hstate k)
  case ifsTaken =>
    rw [exec_t1BlockReceive]
    exact onDev_outcome s (Dev.t1Block_ifsTaken hp hready hstate hsends)
  case ifsAgain =>
    rw [exec_t1BlockReceive]
    exact onDev_outcome s (Dev.t1Block_ifsAgain hp hready hstate hsends)
  case resynched =>
    rw [exec_t1BlockReceive]
    exact onDev_outcome s (Dev.t1Block_resynched hp hready hstate)
  case ifs =>
    rw [exec_sIfsRequest]
    exact onDev_outcome s (hbad ▸ Dev.sIfs_answers hp hstate k)
  case abort =>
    rw [exec_sAbortRequest]
    exact onDev_outcome s (Dev.sAbort_answers hp hstate)
  case timeout =>
    rw [exec_cardResponseTimeout]
    exact onDev_outcome s (Dev.cardTimeout_refuses hp hstate)
  case removal =>
    rw [exec_cardRemoval]
    exact onDev_outcome s (Dev.cardRemoval_deactivates hp hpresent)

end Sys2Proof.Machine
end

section
/-! The card application: what the Warden does with each response (R361 to R368). -/

namespace Sys2Proof.Machine

/-! ## The commands -/

section
variable (s : State) (p : Nat)

theorem exec_select : exec (.select p) s = onDev s (fun d => d.select p) := rfl
theorem exec_getInfo : exec (.getInfo p) s = onDev s (fun d => d.getInfo p) := rfl
theorem exec_openSession : exec (.openSession p) s = onDev s (fun d => d.openSession p) := rfl
theorem exec_signAuth : exec (.signAuth p) s = onChip s (fun c => c.signAuth p) := rfl
theorem exec_putShare : exec (.putShare p) s = onDev s (fun d => d.putShare p) := rfl
theorem exec_getShare : exec (.getShare p) s = onChip s (fun c => c.getShare p) := rfl
theorem exec_closeSession : exec (.closeSession p) s = onDev s (fun d => d.closeSession p) := rfl
theorem exec_getResponse : exec (.getResponse p) s = onDev s (fun d => d.getResponse p) := rfl

end

/-! ## What a return to READY keeps -/

section
variable (d : Dev) (p n : Nat)

@[simp] theorem Dev.setCcState_crd : (d.setCcState p n).crd = d.crd := by
  unfold Dev.setCcState
  split <;> rfl

@[simp] theorem Dev.setCcState_wdn : (d.setCcState p n).wdn = d.wdn := by
  unfold Dev.setCcState
  split <;> rfl

@[simp] theorem Dev.setCcState_cc (q : Nat) : (d.setCcState p n).cc q = d.cc q := by
  rw [Dev.cc, Dev.setCcState_crd, Dev.cc]

@[simp] theorem Dev.ccReady_cc : (d.ccReady p).cc p = (d.cc p).idle := by
  simp [Dev.ccReady, Dev.modCc]

@[simp] theorem Dev.ccReady_wdn : (d.ccReady p).wdn = d.wdn := by
  simp [Dev.ccReady, Dev.modCc]

@[simp] theorem Dev.cardWork_ccReady : (d.ccReady p).cardWork = d.cardWork := by
  simp [Dev.cardWork]

@[simp] theorem Dev.custodian_ccReady (kid : List Byte) : (d.ccReady p).custodian kid = d.custodian kid := by
  simp [Dev.custodian]

@[simp] theorem CcPort.idle_info (x : CcPort) : x.idle.info = x.info := rfl

end

theorem moreData_false {sw : Nat} (hsw : sw / 256 ≠ 0x61) : moreData sw = false := beq_false_of_ne hsw

/-! ## The responses -/

section
variable {d : Dev} {p sw : Nat} {data : List Byte}

/-- Announced data is collected first (R361). -/
theorem Dev.getResponse_collects (hrsp : d.ccResponse p (d.cc p).ins = some (data, sw)) (hmore : sw / 256 = 0x61) : d.getResponse p =
    (d.setCc p { d.cc p with out := [[0, 0xC0, 0, 0, BitVec.ofNat 8 (sw % 256)]], got := data, ready := false, sends := 0 }).ccSendI p := by
  simp [Dev.getResponse, hrsp, hmore, Dev.modCc]

/-- What follows GET_INFO, by what the Warden has in progress (R367, R368). -/
theorem Dev.ccNext_ready (d : Dev) (p : Nat) (data : List Byte) {d1 : Dev} (hd1 : d1 = (d.setCc p { d.cc p with info := data }).ccReady p) :
    d1.ccNext p =
      match d.wdn.ceremony, d.wdn.arch with
      | some w, _ => if w.sigs.any (fun y => y.1 == slice data 10 8) then d1.ccGiveUp p else d1.ccCommand p 0x30 [apdu 0x80 0x30 0 0 w.head]
      | none, some w => if (d.custodian (slice data 10 8)).isSome && !w.written.contains (slice data 10 8) then d1.ccOpen p else d1.ccGiveUp p
      | none, none => if (d.custodian (slice data 10 8)).isSome && d.cardWork then d1.ccOpen p else d1.ccGiveUp p := by
  have hinfo : (d1.cc p).info = data := by simp [hd1]
  have hwdn : d1.wdn = d.wdn := by simp [hd1]
  have hcustodian (kid : List Byte) : d1.custodian kid = d.custodian kid := by simp only [Dev.custodian, hwdn]
  have hwork : d1.cardWork = d.cardWork := by simp only [Dev.cardWork, hwdn]
  cases hceremony : d.wdn.ceremony with
  | some w => simp only [Dev.ccNext, hinfo, hwdn, hceremony, infoKeyId]
  | none => cases harch : d.wdn.arch with
    | some w => simp only [Dev.ccNext, hinfo, hwdn, hceremony, harch, hcustodian, infoKeyId]
    | none => simp only [Dev.ccNext, hinfo, hwdn, hceremony, harch, hcustodian, hwork, infoKeyId]

variable (hsw : sw / 256 ≠ 0x61)
include hsw

theorem Dev.select_answered (hrsp : d.ccResponse p 0xA4 = some (data, sw)) : d.select p =
    if sw = 0x9000 then d.ccCommand p 0x10 [[0x80, 0x10, 0, 0, 0]] else d.ccGiveUp p := by
  simp only [Dev.select, hrsp, moreData_false hsw, Bool.false_eq_true, if_false]
  rfl

theorem Dev.getInfo_answered (hrsp : d.ccResponse p 0x10 = some (data, sw))
    (hserves : d.wdn.ceremony ≠ none ∨ d.rngFailed = true ∨ d.rngServes 0 = true) : d.getInfo p =
    if sw = 0x9000 ∧ data.length = 184 ∧ infoKeyId data = keyId (infoPub data) then
      ((d.setCc p { d.cc p with info := data }).ccReady p).ccNext p
    else d.ccGiveUp p := by
  have hwaits : d.ccWaits = false := by
    simpa [Dev.ccWaits, ← Option.ne_none_iff_isSome, or_iff_not_imp_left] using hserves
  have hbad : (sw != 0x9000 || data.length != 184 || infoKeyId data != keyId (infoPub data)) =
      !decide (sw = 0x9000 ∧ data.length = 184 ∧ infoKeyId data = keyId (infoPub data)) := by
    simp [bne, beq_eq_decide, Bool.or_assoc]
  simp only [Dev.getInfo, hwaits, hrsp, moreData_false hsw, hbad, Bool.false_eq_true, if_false, Bool.not_eq_true', decide_eq_false_iff_not,
    ite_not, Dev.modCc]

theorem Dev.openSession_answered (hrsp : d.ccResponse p 0x20 = some (data, sw)) : d.openSession p =
    (let msg := asciiBytes "CCS2" ++ devEph (d.cc p).eph ++ slice data 0 97 ++ devNonce (d.cc p).eph ++ slice data 97 16 ++ d.deviceId
    if sw = 0x9000 ∧ data.length = 209 ∧ Config.verify 0 (infoPub (d.cc p).info) msg (slice data 113 96) = true then
      let k := kdf (slice (Config.agree (Config.freeBytes (d.cc p).eph 48) (slice data 0 97)) 0 32) (asciiBytes "CARDSES")
        (devNonce (d.cc p).eph ++ slice data 97 16) 512
      let d1 := ((d.setCc p { d.cc p with keys := k, cmdCount := 1, rspCount := 1 }).wr (Fld.CRD_CC_STATUS_SESSION p) 1).ccReady p
      match d.wdn.arch with
      | some w => d1.ccPut p w
      | none => d1.ccGet p 0
    else d.ccGiveUp p) := by
  have hbad (msg : List Byte) :
      (sw != 0x9000 || data.length != 209 || !Config.verify 0 (infoPub (d.cc p).info) msg (slice data 113 96)) =
        !decide (sw = 0x9000 ∧ data.length = 209 ∧ Config.verify 0 (infoPub (d.cc p).info) msg (slice data 113 96) = true) := by
    simp [bne, beq_eq_decide, Bool.or_assoc]
  cases harch : d.wdn.arch <;>
    simp only [Dev.openSession, hrsp, moreData_false hsw, hbad, Bool.false_eq_true, if_false, Bool.not_eq_true', decide_eq_false_iff_not, ite_not,
      Dev.modCc, Dev.ccReady_wdn, Dev.wr_wdn, Dev.setCc_wdn, harch]

theorem Dev.putShare_answered (hrsp : d.ccResponse p 0x40 = some (data, sw)) : d.putShare p =
    if sw = 0x9000 then
      match (d.cc p).unprotect 0x40 (d.cc p).slot data with
      | none => d.ccRefuse p 6
      | some _ =>
        let d1 := (d.setCc p { d.cc p with rspCount := (d.cc p).rspCount + 1 }).ccReady p
        (match d.wdn.arch with
          | some w => { d1 with wdn := { d1.wdn with arch := some { w with written := w.written ++ [infoKeyId (d.cc p).info] } } }
          | none => d1).ccClose p
    else if sw = 0x6988 then d.ccSessOver p else d.ccClose p := by
  obtain rfl | hok := eq_or_ne sw 0x9000
  · cases htag : (d.cc p).unprotect 0x40 (d.cc p).slot data with
    | none => simp [Dev.putShare, hrsp, moreData_false hsw, Dev.ccUnprotect, htag]
    | some y => cases harch : d.wdn.arch <;> simp [Dev.putShare, hrsp, moreData_false hsw, Dev.ccUnprotect, htag, harch, Dev.modCc]
  · simp [Dev.putShare, hrsp, moreData_false hsw, hok]

theorem Dev.closeSession_answered (hrsp : d.ccResponse p 0x50 = some (data, sw)) : d.closeSession p =
    ((d.setCc p { d.cc p with keys := [], cmdCount := 0, rspCount := 0, eph := 0 }).wr (Fld.CRD_CC_STATUS_SESSION p) 0).ccGiveUp p := by
  simp only [Dev.closeSession, hrsp, moreData_false hsw, Bool.false_eq_true, if_false, Dev.ccSessOver, Dev.modCc]

end

section
variable {c : Chip} {p sw : Nat} {data : List Byte}

theorem Chip.signAuth_idle (hrsp : c.dev.ccResponse p 0x30 = some (data, sw)) (hnone : c.dev.wdn.ceremony = none) :
    c.signAuth p = c.onDev fun d => d.ccGiveUp p := by
  simp only [Chip.signAuth, hrsp, hnone]

variable (hsw : sw / 256 ≠ 0x61)
include hsw

theorem Chip.signAuth_answered {w : Ceremony} (hrsp : c.dev.ccResponse p 0x30 = some (data, sw)) (hceremony : c.dev.wdn.ceremony = some w)
    (hnvs : c.dev.nvs.frozen = false) (haudit : c.dev.canAudit = true) : c.signAuth p =
    if sw = 0x9000 ∧ data.length = 96 ∧ Config.verify 0 (infoPub (c.dev.cc p).info) w.head data = true then
      (c.auditEvent 4).onDev fun d =>
        { d with wdn := { d.wdn with ceremony := some { w with sigs := w.sigs ++ [(infoKeyId (c.dev.cc p).info, data)] } } }.ccGiveUp p
    else c.onDev fun d => d.ccGiveUp p := by
  have hbad : (sw != 0x9000 || data.length != 96 || !Config.verify 0 (infoPub (c.dev.cc p).info) w.head data || !true) =
      !decide (sw = 0x9000 ∧ data.length = 96 ∧ Config.verify 0 (infoPub (c.dev.cc p).info) w.head data = true) := by
    simp [bne, beq_eq_decide, Bool.or_assoc]
  simp only [Chip.signAuth, hrsp, hceremony, moreData_false hsw, hnvs, haudit, hbad, Bool.or_self, Bool.false_eq_true, if_false, Bool.not_eq_true',
    decide_eq_false_iff_not, ite_not]

/-- What follows the response to GET_SHARE: the next slot is read, after slot 3 the session is closed. -/
def Chip.afterShare (c : Chip) (p slot : Nat) : Chip :=
  c.onDev fun d => if slot < 3 && d.cardWork then (d.ccReady p).ccGet p (slot + 1) else (d.ccReady p).ccClose p

theorem Chip.getShare_answered (hrsp : c.dev.ccResponse p 0x42 = some (data, sw)) (hnvs : c.dev.nvs.frozen = false) : c.getShare p =
    if sw = 0x9000 then
      match (c.dev.cc p).unprotect 0x42 (c.dev.cc p).slot data with
      | none => c.onDev fun d => d.ccRefuse p 6
      | some y => ((c.onDev fun d => d.setCc p { c.dev.cc p with rspCount := (c.dev.cc p).rspCount + 1 }).takeShare y).afterShare p (c.dev.cc p).slot
    else if sw = 0x6988 then c.onDev fun d => d.ccSessOver p else c.afterShare p (c.dev.cc p).slot := by
  obtain rfl | hok := eq_or_ne sw 0x9000
  · cases htag : (c.dev.cc p).unprotect 0x42 (c.dev.cc p).slot data with
    | none => simp [Chip.getShare, hrsp, moreData_false hsw, hnvs, Dev.ccUnprotect, htag]
    | some y => simp [Chip.getShare, hrsp, moreData_false hsw, hnvs, Dev.ccUnprotect, htag, Chip.afterShare, Dev.modCc, Chip.onDev]
  · simp [Chip.getShare, hrsp, moreData_false hsw, hnvs, hok, Chip.afterShare]

end

/-! ## The statement -/

/-- Settles O48: each response of the card application moves the ceremony, the session or the share as its rule says, by its data, SW and tag. -/
theorem cardApplicationServesTheWarden : Obligations.CardApplicationServesTheWarden := by
  rintro s _ _ p _ data sw rfl rfl rfl
  refine ⟨fun hrsp hmore => ?getResponse, fun hsw => ⟨fun hrsp => ?select, fun hrsp hserves => ?getInfo, fun hrsp => ?openSession,
    fun hrsp => ⟨fun hnone => ?noCeremony, fun w hceremony hnvs haudit => ?signAuth⟩, fun hrsp => ?putShare, fun hrsp hnvs => ?getShare,
    fun hrsp => ?closeSession⟩⟩
  case getResponse =>
    rw [exec_getResponse]
    exact onDev_outcome s (Dev.getResponse_collects hrsp hmore)
  case select =>
    rw [exec_select]
    exact onDev_outcome s (Dev.select_answered hsw hrsp)
  case getInfo =>
    rw [exec_getInfo]
    refine onDev_outcome s ((Dev.getInfo_answered hsw hrsp hserves).trans ?_)
    rw [Dev.ccNext_ready _ _ _ rfl]
    rfl
  case openSession =>
    rw [exec_openSession]
    exact onDev_outcome s (Dev.openSession_answered hsw hrsp)
  case noCeremony =>
    rw [exec_signAuth]
    exact onChip_outcome s (Chip.signAuth_idle hrsp hnone)
  case signAuth =>
    rw [exec_signAuth]
    exact onChip_next s (Chip.signAuth_answered hsw hrsp hceremony hnvs haudit)
  case putShare =>
    rw [exec_putShare]
    exact onDev_outcome s (Dev.putShare_answered hsw hrsp)
  case getShare =>
    rw [exec_getShare]
    exact onChip_next s (Chip.getShare_answered hsw hrsp hnvs)
  case closeSession =>
    rw [exec_closeSession]
    exact onDev_outcome s (Dev.closeSession_answered hsw hrsp)

end Sys2Proof.Machine
end

section
/-! A bond's frames: the commands, and what becomes of a frame before its message counts (R380, R383, R386, R396). -/

namespace Sys2Proof.Machine

/-! ## The commands -/

section
variable (s : State) (fr : Frame)

theorem exec_hello (p : List Byte) : exec (.hello fr p) s = onChip s (fun c => c.mortar (fun d => d.hello fr p)) := rfl
theorem exec_helloReply (p : List Byte) : exec (.helloReply fr p) s = onChip s (fun c => c.mortar (fun d => d.helloReply fr p)) := rfl
theorem exec_finish (p : List Byte) : exec (.finish fr p) s = onChip s (fun c => c.mortar (fun d => d.finishFrame fr p)) := rfl
theorem exec_sessionRetry (k peer : Nat) : exec (.sessionRetry k peer) s = onChip s (fun c => c.mortar (fun d => d.sessRetry k peer)) := rfl
theorem exec_join (last highest h0 h1 : Nat) :
    exec (.join fr last highest h0 h1) s = onChip s (fun c => c.mortar (fun d => d.join fr last highest h0 h1)) := rfl
theorem exec_joinAccept (role last b0 b1 : Nat) (roster : List (Nat × List Byte)) :
    exec (.joinAccept fr role last b0 b1 roster) s = onChip s (fun c => c.mortar (fun d => d.joinAccept fr role last b0 b1 roster)) := rfl
theorem exec_sync (images : List (Nat × List Byte)) : exec (.sync fr images) s = onChip s (fun c => c.mortar (fun d => d.sync fr images)) := rfl
theorem exec_syncEnd (last slots : Nat) : exec (.syncEnd fr last slots) s = onChip s (fun c => c.mortar (fun d => d.syncEnd fr last slots)) := rfl
theorem exec_heartbeat (standby renew : Nat) : exec (.heartbeat fr standby renew) s = onChip s (fun c => c.heartbeat fr standby renew) := rfl
theorem exec_heartbeatAck (state last : Nat) :
    exec (.heartbeatAck fr state last) s = onChip s (fun c => c.mortar (fun d => d.heartbeatAck fr state last)) := rfl
theorem exec_heartbeatInterval : exec .heartbeatInterval s = onChip s (fun c => c.heartbeatInterval) := rfl
theorem exec_frameForward (bs : List Byte) : exec (.frameForward fr bs) s = onDev s (fun d => d.frameForward fr bs) := rfl
theorem exec_prepare (txn slot before : Nat) (img : List Byte) :
    exec (.prepare fr txn slot before img) s = onChip s (fun c => c.mortar (fun d => d.prepare fr txn slot before img)) := rfl
theorem exec_prepared (txn status : Nat) : exec (.prepared fr txn status) s = onChip s (fun c => c.mortar (fun d => d.prepared fr txn status)) := rfl
theorem exec_commit (txn : Nat) : exec (.commit fr txn) s = onChip s (fun c => c.mortar (fun d => d.commit fr txn)) := rfl
theorem exec_applied (txn status : Nat) : exec (.applied fr txn status) s = onChip s (fun c => c.mortar (fun d => d.applied fr txn status)) := rfl
theorem exec_abort (txn : Nat) : exec (.abort fr txn) s = onChip s (fun c => c.mortar (fun d => d.abortTx fr txn)) := rfl
theorem exec_leaseRequest (highest : Nat) : exec (.leaseRequest fr highest) s = onChip s (fun c => c.mortar (fun d => d.leaseRequest fr highest)) := rfl
theorem exec_leaseGrant (l : Nat) : exec (.leaseGrant fr l) s = onChip s (fun c => c.leaseGrant fr l) := rfl
theorem exec_leaseHeld (l : Nat) : exec (.leaseHeld fr l) s = onChip s (fun c => c.mortar (fun d => d.leaseHeld fr l)) := rfl
theorem exec_leaseState (hw holder ev l : Nat) :
    exec (.leaseState fr hw holder ev l) s = onChip s (fun c => c.mortar (fun d => d.leaseState fr hw holder ev l)) := rfl
theorem exec_leaseStateAck (hw : Nat) : exec (.leaseStateAck fr hw) s = onChip s (fun c => c.leaseStateAck fr hw) := rfl
theorem exec_standbyDesignate (hw last : Nat) (table : List (Nat × Nat)) :
    exec (.standbyDesignate fr hw last table) s = onChip s (fun c => c.mortar (fun d => d.standbyDesignate fr hw last table)) := rfl
theorem exec_standbyAccept (hw : Nat) : exec (.standbyAccept fr hw) s = onChip s (fun c => c.mortar (fun d => d.standbyAccept fr hw)) := rfl
theorem exec_promoted (last : Nat) (burns : List Nat) :
    exec (.promoted fr last burns) s = onChip s (fun c => c.mortar (fun d => d.promoted fr last burns)) := rfl
theorem exec_nak (kind cause manager : Nat) :
    exec (.nak fr kind cause manager) s = onChip s (fun c => c.mortar (fun d => d.nak fr kind cause manager)) := rfl
theorem exec_unlockRelay (target token : List Byte) :
    exec (.unlockRelay fr target token) s = onChip s (fun c => c.mortar (fun d => d.unlockRelay fr target token)) := rfl
theorem exec_unlockResult (status : Nat) :
    exec (.unlockResult fr status) s = onChip s (fun c => c.mortar (fun d => d.unlockResult fr status)) := rfl
theorem exec_reset : exec (.reset fr) s = onChip s (fun c => c.mtrResetFrame fr) := rfl
theorem exec_retransmitTimer : exec .retransmitTimer s = onChip s (fun c => c.mortar (fun d => d.retransmit)) := rfl
theorem exec_memberLost (m : Nat) : exec (.memberLost m) s = onChip s (fun c => c.mortar (fun d => d.memberLost m)) := rfl
theorem exec_cutOff : exec .cutOff s = onChip s (fun c => c.mortar (fun d => d.cutOff)) := rfl
theorem exec_promotion : exec .promotion s = onChip s (fun c => c.mortar (fun d => d.promotion)) := rfl
theorem exec_mortarLinkUp (p lanes peer : Nat) :
    exec (.mortarLinkUp p lanes peer) s = onChip s (fun c => c.mortar (fun d => d.mortarLink p lanes peer)) := rfl
theorem exec_mortarLinkDown (p : Nat) : exec (.mortarLinkDown p) s = onChip s (fun c => c.mortar (fun d => d.mortarDown p)) := rfl

end

/-- A Mortar command gives the device of its rule, the vault changes that have ended answered. -/
theorem mortar_outcome (s : State) {f : Dev → Dev} {d : Dev} (h : f s.chip.dev = d) : onChip s (fun c => c.mortar f) = .next (s.mortarTo d) := by
  rw [onChip_eq, Chip.mortar, Chip.onDev, h]

/-! ## A frame at its session (R383) -/

section
variable {d : Dev} {fr : Frame}

theorem Dev.relayTaken_ring (hport : fr.port < 2) : d.relayTaken fr = d := if_neg (by omega)

theorem frameSess_ring (hport : fr.port < 2) : frameSess fr = fr.port := if_pos hport

section
variable (hport : fr.port < 2)
include hport

theorem Dev.framePasses_clear (h : fr.crc = false ∨ (d.sess fr.port).st ≠ 3) : d.framePasses fr = (d.inc Fld.MTR_COUNTS_DROPPED 1, false) := by
  have h : (!fr.crc || (d.sess fr.port).st != 3) = true := by simpa using h
  simp only [Dev.framePasses, frameSess_ring hport, h, if_true, Dev.mtrDrop]

theorem Dev.framePasses_bad (hcrc : fr.crc = true) (hst : (d.sess fr.port).st = 3) (h : fr.tag = false ∨ fr.counter ≤ (d.sess fr.port).rx) :
    d.framePasses fr =
      (let d1 := d.inc Fld.MTR_COUNTS_DROPPED 1
      if (d.sess fr.port).drops = 2 then d1.sessEnd fr.port
      else d1.setSess fr.port { d.sess fr.port with drops := (d.sess fr.port).drops + 1 }, false) := by
  have h : (!fr.tag || decide (fr.counter ≤ (d.sess fr.port).rx)) = true := by simpa using h
  simp [Dev.framePasses, Dev.frameBad, Dev.mtrDrop, frameSess_ring hport, hcrc, hst, h]

theorem Dev.frameIn_dropped {d1 : Dev} (harrives : d.frameArrives fr = true) (hdst : fr.dst = d.ownMember) (hpasses : d.framePasses fr = (d1, false)) :
    d.frameIn fr = (d1, false) := by
  simp [Dev.frameIn, harrives, hdst, Dev.relayTaken_ring hport, hpasses]

end

/-! ## What a message requires (R386) -/

section
variable {kind : Nat} {role : Dev → Bool} {f : Dev → Dev} {d1 : Dev}

theorem Dev.mtrApply_dropped (h : d.frameIn fr = (d1, false)) : d.mtrApply kind fr role f = d1 := by
  simp [Dev.mtrApply, h]

section
variable (hin : d.frameIn fr = (d1, true)) (hlock : d1.tmp.lock = false)
include hin hlock

theorem Dev.mtrApply_judged : d.mtrApply kind fr role f =
    if (d1.mtrJudge kind fr (role d1)).2 then f (d1.mtrJudge kind fr (role d1)).1 else (d1.mtrJudge kind fr (role d1)).1 := by
  simp [Dev.mtrApply, hin, hlock]

theorem Dev.mtrApply_lower (h : fr.epoch < d1.rd Fld.MTR_EPOCH_EPOCH) : d.mtrApply kind fr role f = d1.mtrNak fr.src kind 1 fr.msgId := by
  simp [Dev.mtrApply_judged hin hlock, Dev.mtrJudge, h]

theorem Dev.mtrApply_higher (h : d1.rd Fld.MTR_EPOCH_EPOCH < fr.epoch) :
    d.mtrApply kind fr role f = if d1.bondState = 1 then d1 else d1.enterJoining Dev.noteAnswer false := by
  simp only [Dev.mtrApply_judged hin hlock, Dev.mtrJudge, h, Nat.not_lt.2 h.le, if_true, if_false, Bool.false_eq_true]
  rfl

theorem Dev.mtrApply_wrongRole (h : fr.epoch = d1.rd Fld.MTR_EPOCH_EPOCH) (hrole : role d1 = false) :
    d.mtrApply kind fr role f = d1.mtrNak fr.src kind 2 fr.msgId := by
  simp [Dev.mtrApply_judged hin hlock, Dev.mtrJudge, h, hrole]

end

/-- An accepted message between the right roles is applied. -/
theorem Dev.mtrApply_accepted (h : d.Accepts fr d1) (hrole : role d1 = true) : d.mtrApply kind fr role f = f d1 := by
  obtain ⟨hin, hlock, hepoch⟩ := h
  simp [Dev.mtrApply_judged hin hlock, Dev.mtrJudge, hepoch, hrole]

/-- An accepted message between the right roles is applied to the chip. -/
theorem Chip.mtrApply_accepted {c : Chip} {g : Chip → Chip} (h : c.dev.Accepts fr d1) (hrole : role d1 = true) :
    c.mtrApply kind fr role g = g { c with dev := d1 } := by
  obtain ⟨hin, hlock, hepoch⟩ := h
  simp [Chip.mtrApply, hin, hlock, Dev.mtrJudge, hepoch, hrole]

theorem Chip.mtrApply_wrongRole {c : Chip} {g : Chip → Chip} (h : c.dev.Accepts fr d1) (hrole : role d1 = false) :
    c.mtrApply kind fr role g = { c with dev := d1.mtrNak fr.src kind 2 fr.msgId } := by
  obtain ⟨hin, hlock, hepoch⟩ := h
  simp [Chip.mtrApply, hin, hlock, Dev.mtrJudge, hepoch, hrole]

end

end

end Sys2Proof.Machine
end

section
/-! Link training, the session handshake, forwarding, and frames that do not count (R378 to R387, R396). -/

namespace Sys2Proof.Machine

/-! ## Links, retries and forwarding (R380, R382, R385) -/

section
variable {d : Dev}

theorem Dev.mortarLink_trains {p : Nat} (hruns : d.wdn.running = true) (hp : p < 2) (hport : d.portHeld p = false) (hheld : d.held = false)
    (hlink : d.rd (Fld.MTR_PORT_LINK p) < 2) (lanes peer : Nat) : d.mortarLink p lanes peer =
      let d1 := (((d.wr (Fld.MTR_PORT_LINK p) 2).wr (Fld.MTR_PORT_LANES p) (min lanes 4)).wr (Fld.MTR_PORT_PEER_ID p) peer).lifeAdd (543 + p) 1
      if d1.mtrUp && d1.ownMember < peer then d1.helloStart p peer else d1 := by
  simp only [Dev.mortarLink, hruns, if_true, Dev.mortarUp, hport, hheld, Nat.not_le.2 hp, Nat.not_le.2 hlink, decide_false, Bool.or_self,
    Bool.false_eq_true, if_false]

theorem Dev.mortarDown_clears {p : Nat} (hp : p < 2) : d.mortarDown p = d.portDown p := if_neg (Nat.not_le.2 hp)

section
variable {k : Nat} (hup : d.mtrUp = true) (hst : (d.sess k).st = 0)
include hup hst

theorem Dev.sessRetry_port (peer : Nat) (hk : k < 2) (hlink : d.rd (Fld.MTR_PORT_LINK k) = 2) (hlower : d.ownMember < d.rd (Fld.MTR_PORT_PEER_ID k))
    (hport : d.portHeld k = false) : d.sessRetry k peer = d.helloStart k (d.rd (Fld.MTR_PORT_PEER_ID k)) := by
  simp [Dev.sessRetry, hup, hst, hk, hlink, hlower, hport]

theorem Dev.sessRetry_relay {peer : Nat} (hk : k = 16 + peer) (hrelay : d.relayOn = true) : d.sessRetry k peer = d.helloStart k peer := by
  have hk2 : ¬ k < 2 := by omega
  simp only [Dev.sessRetry, hup, hst, hk2, hrelay, Bool.not_true, bne_self_eq_false, Bool.or_self, Bool.false_eq_true, if_false, Bool.and_true,
    decide_eq_true_eq]
  exact if_pos hk

end

section
variable {fr : Frame} {d1 : Dev} (harrives : d.frameArrives fr = true) (hdst : fr.dst ≠ d.ownMember) (hport : fr.port < 2)
  (hpasses : d.framePasses fr = (d1, true)) (bs : List Byte)
include harrives hdst hport hpasses

theorem Dev.frameForward_spent (hhops : 7 ≤ fr.hops) : d.frameForward fr bs = d1.inc Fld.MTR_COUNTS_DROPPED 1 := by
  simp [Dev.frameForward, harrives, hdst, Nat.not_le.2 hport, hpasses, hhops, Dev.mtrDrop]

theorem Dev.frameForward_leaves (hhops : fr.hops < 7) {t : Sess} (ht : t = d1.sess (1 - fr.port)) (hst : t.st = 3) : d.frameForward fr bs =
    (d1.setSess (1 - fr.port) { t with tx := t.tx + 1 }).emit (.frame (1 - fr.port)
      (t.seal (leAt bs 0 1) (fr.hops + 1) fr.dst fr.src (bs.drop 16))) := by
  have hst : (d1.sess (1 - fr.port)).st = 3 := ht ▸ hst
  simp [Dev.frameForward, harrives, hdst, Nat.not_le.2 hport, hpasses, Nat.not_le.2 hhops, hst, ht]

end

theorem Dev.retransmit_sends (hlock : d.tmp.lock = false) (herase : d.tmp.erasing = false) (hheld : d.held = false) :
    d.retransmit = d.mtr.outstanding.foldl (fun x m => x.mtrSend m.dst m.kind m.fields) d := by
  simp [Dev.retransmit, hlock, herase, hheld]

end

/-! ## The handshake (R382) -/

theorem Dev.rngFailed_event_relayTaken (d : Dev) (fr : Frame) : (d.relayTaken fr).event.rngFailed = d.rngFailed := by
  unfold Dev.relayTaken
  split <;> rfl

/-! ## Frames that do not count (R383, R386) -/

section
variable {s : State} {fr : Frame} {d1 : Dev}

/-- A message whose frame is dropped changes nothing else. -/
theorem exec_dropped (h : s.chip.dev.frameIn fr = (d1, false)) (a b : Nat) (l : List Byte) :
    ∀ i ∈ [Instr.prepare fr a b 0 l, .prepared fr a b, .commit fr a, .applied fr a b, .abort fr a, .leaseRequest fr a, .leaseHeld fr a,
      .heartbeatAck fr a b, .nak fr a b 0, .unlockResult fr a, .standbyAccept fr a, .join fr a b 0 0, .syncEnd fr a b],
      exec i s = .next (s.mortarTo d1) := by
  simp only [List.forall_mem_cons, List.not_mem_nil, false_implies, implies_true, and_true]
  have hjoin : s.chip.dev.join fr a b 0 0 = d1 := by simp [Dev.join, h]
  have hnak : s.chip.dev.nak fr a b 0 = d1 := by simp [Dev.nak, h]
  have hresult : s.chip.dev.unlockResult fr a = d1 := by simp [Dev.unlockResult, h]
  exact ⟨mortar_outcome s (Dev.mtrApply_dropped h), mortar_outcome s (Dev.mtrApply_dropped h), mortar_outcome s (Dev.mtrApply_dropped h),
    mortar_outcome s (Dev.mtrApply_dropped h), mortar_outcome s (Dev.mtrApply_dropped h), mortar_outcome s (Dev.mtrApply_dropped h),
    mortar_outcome s (Dev.mtrApply_dropped h), mortar_outcome s (Dev.mtrApply_dropped h), mortar_outcome s hnak, mortar_outcome s hresult,
    mortar_outcome s (Dev.mtrApply_dropped h), mortar_outcome s hjoin, mortar_outcome s (Dev.mtrApply_dropped h)⟩

/-- A message of another epoch or between wrong roles is not applied. -/
theorem exec_judged {i : Instr} {kind : Nat} (role : Dev → Bool) {f : Dev → Dev} (hin : s.chip.dev.frameIn fr = (d1, true))
    (hlock : d1.tmp.lock = false) (hexec : exec i s = onChip s (fun c => c.mortar (fun d => d.mtrApply kind fr role f))) :
    (fr.epoch < d1.rd Fld.MTR_EPOCH_EPOCH → exec i s = .next (s.mortarTo (d1.mtrNak fr.src kind 1 fr.msgId))) ∧
    (d1.rd Fld.MTR_EPOCH_EPOCH < fr.epoch →
      exec i s = .next (s.mortarTo (if d1.bondState = 1 then d1 else d1.enterJoining Dev.noteAnswer false))) ∧
    (fr.epoch = d1.rd Fld.MTR_EPOCH_EPOCH → role d1 = false → exec i s = .next (s.mortarTo (d1.mtrNak fr.src kind 2 fr.msgId))) := by
  rw [hexec]
  exact ⟨fun h => mortar_outcome s (Dev.mtrApply_lower hin hlock h), fun h => mortar_outcome s (Dev.mtrApply_higher hin hlock h),
    fun h hrole => mortar_outcome s (Dev.mtrApply_wrongRole hin hlock h hrole)⟩

end

/-! ## The statement -/

/-- Settles O50: links, the handshake and forwarding by their rules; a dropped frame and a message of another epoch or role by the judgement
that every message passes. -/
theorem mortarFramesAndSessions : Obligations.MortarFramesAndSessions := by
  rintro s _ rfl
  refine ⟨fun p lanes peer hruns hp hport hheld hlink => ?linkUp, fun p hp => ?linkDown, fun fr pay d1 k hin hd1 hk =>
    ⟨fun n cert hn hcert hrng hserves => ?hello, fun hst n cert m t hn hcert hm ht => ?helloReply, fun hst hpeer => ?finish⟩,
    fun k peer hup hst => ⟨fun hk hlink hlower hport => ?retryPort, fun hk hrelay => ?retryRelay⟩,
    fun fr bs d1 harrives hdst hport hpasses => ⟨fun hhops => ?spent, fun hhops t ht hst => ?leaves⟩, fun hlock herase hheld => ?retransmit,
    fun fr t harrives hdst hport ht a b l i hi => ⟨fun hclear => ?clear, fun hcrc hst hbad => ?bad⟩, fun fr d1 e hin hlock he a b l => ?judged⟩
  case linkUp =>
    rw [exec_mortarLinkUp]
    exact mortar_outcome s (Dev.mortarLink_trains hruns hp hport hheld hlink lanes peer)
  case linkDown =>
    rw [exec_mortarLinkDown]
    exact mortar_outcome s (Dev.mortarDown_clears hp)
  case hello =>
    rw [exec_hello]
    refine mortar_outcome s ?_
    have hrng1 : d1.rngFailed = false := by rw [hd1, Dev.rngFailed_event_relayTaken, hrng]
    have hchecks : (pay.length != 16 + n + 97 + 1568 + 16 || leAt pay 4 4 != 0 || leAt cert 0x20 1 != fr.src ||
        (decide (fr.port < 2) && decide (d1.ownMember < fr.src)) || !d1.certAccept cert || false) =
        !decide (pay.length = 16 + n + 97 + 1568 + 16 ∧ leAt pay 4 4 = 0 ∧ leAt cert 0x20 1 = fr.src ∧ (fr.port < 2 → fr.src ≤ d1.ownMember) ∧
          d1.certAccept cert = true) := by
      rw [Bool.eq_iff_iff]
      simp only [Bool.or_false, Bool.or_eq_true, Bool.and_eq_true, bne_iff_ne, decide_eq_true_eq, Bool.not_eq_true',
        ← @Nat.not_le fr.src d1.ownMember, ← Bool.not_eq_true]
      tauto
    simp only [Dev.hello, hin, hrng, hserves, Dev.helloTaken, ← hd1, ← hn, ← hcert, ← hk, hrng1, hchecks, Bool.not_true, Bool.not_false,
      Bool.and_false, Bool.false_eq_true, if_false, Bool.not_eq_true', decide_eq_false_iff_not, ite_not, Dev.sessFail, Dev.mtrDrop]
  case helloReply =>
    rw [exec_helloReply]
    refine mortar_outcome s ?_
    have hchecks : (pay.length != m + 96 + 4627 || leAt pay 4 4 != 0 || leAt cert 0x20 1 != fr.src || !d1.certAccept cert ||
        !bothVerify cert (asciiBytes "MTR2") t (pay.drop m)) =
        !decide (pay.length = m + 96 + 4627 ∧ leAt pay 4 4 = 0 ∧ leAt cert 0x20 1 = fr.src ∧ d1.certAccept cert = true ∧
          bothVerify cert (asciiBytes "MTR2") t (pay.drop m) = true) := by
      simp [bne, beq_eq_decide, Bool.or_assoc]
    simp only [Dev.helloReply, hin, Dev.helloTaken, ← hd1, ← hk, hst, ← hn, ← hcert, ← hm, ← ht, hchecks, Bool.not_true, bne_self_eq_false,
      Bool.false_eq_true, if_false, Bool.not_eq_true', decide_eq_false_iff_not, ite_not, Dev.sessFail, Dev.mtrDrop]
  case finish =>
    rw [exec_finish]
    refine mortar_outcome s ?_
    have hchecks : (pay.length != 16 + 96 + 4627 || !bothVerify (d1.sess k).cert (asciiBytes "MTR3") (d1.sess k).hello (pay.drop 16)) =
        !decide (pay.length = 16 + 96 + 4627 ∧ bothVerify (d1.sess k).cert (asciiBytes "MTR3") (d1.sess k).hello (pay.drop 16) = true) := by
      simp [bne, beq_eq_decide]
    simp only [Dev.finishFrame, hin, Dev.helloTaken, ← hd1, ← hk, hst, hpeer, hchecks, Bool.not_true, bne_self_eq_false, Bool.or_self,
      Bool.false_eq_true, if_false, Bool.not_eq_true', decide_eq_false_iff_not, ite_not, Dev.sessFail, Dev.mtrDrop]
  case retryPort =>
    rw [exec_sessionRetry]
    exact mortar_outcome s (Dev.sessRetry_port hup hst peer hk hlink hlower hport)
  case retryRelay =>
    rw [exec_sessionRetry]
    exact mortar_outcome s (Dev.sessRetry_relay hup hst hk hrelay)
  case spent =>
    rw [exec_frameForward]
    exact onDev_outcome s (Dev.frameForward_spent harrives hdst hport hpasses bs hhops)
  case leaves =>
    rw [exec_frameForward]
    exact onDev_outcome s (Dev.frameForward_leaves harrives hdst hport hpasses bs hhops ht hst)
  case retransmit =>
    rw [exec_retransmitTimer]
    exact mortar_outcome s (Dev.retransmit_sends hlock herase hheld)
  case clear =>
    subst ht
    exact exec_dropped (Dev.frameIn_dropped hport harrives hdst (Dev.framePasses_clear hport hclear)) a b l i hi
  case bad =>
    subst ht
    exact exec_dropped (Dev.frameIn_dropped hport harrives hdst (Dev.framePasses_bad hport hcrc hst hbad)) a b l i hi
  case judged =>
    subst he
    simp only [List.forall_mem_cons, List.not_mem_nil, false_implies, implies_true, and_true]
    exact ⟨exec_judged (fun x => x.fromManager fr && (x.bondRole == 2 || x.bondRole == 3)) hin hlock rfl,
      exec_judged (fun x => x.bondRole == 1) hin hlock rfl,
      exec_judged (fun x => x.fromManager fr && (x.bondRole == 2 || x.bondRole == 3)) hin hlock rfl,
      exec_judged (fun x => x.bondRole == 1) hin hlock rfl, exec_judged (fun x => x.fromManager fr) hin hlock rfl,
      exec_judged (fun x => x.bondRole == 1 && (x.rosterId fr.src).isSome) hin hlock rfl, exec_judged (fun x => x.bondRole == 1) hin hlock rfl,
      exec_judged (fun x => x.fromManager fr && x.bondRole == 2) hin hlock rfl, exec_judged (fun x => x.bondRole == 1) hin hlock rfl⟩

end Sys2Proof.Machine
end

section
/-! Joining a bond, its heartbeats, the loss of a member and promotion (R379, R386, R387, R391 to R395). -/

namespace Sys2Proof.Machine

/-! ## Joining (R379, R387) -/

section
variable {d d1 : Dev} {fr : Frame} (hacc : d.Accepts fr d1)
include hacc

section
variable (hrole : d1.bondRole = 1)
include hrole

/-- JOIN of a device that the roster does not name, or whose certificate is another device's, is refused. -/
theorem Dev.join_stranger (hid : d1.rosterId fr.src = none) (last highest h0 h1 : Nat) :
    d.join fr last highest h0 h1 = d1.mtrNak fr.src 0x10 3 fr.msgId := by
  obtain ⟨hin, hlock, hepoch⟩ := hacc
  simp [Dev.join, hin, hlock, hepoch, hrole, roleManager, hid]

theorem Dev.join_member {id : List Byte} (hstandby : fr.src ≠ d1.standbyId) (hid : d1.rosterId fr.src = some id) (last highest h0 h1 : Nat) :
    d.join fr last highest h0 h1 =
      if (match d1.certOf fr.src with | some c => id == slice c 0x10 16 | none => true) = true then
        let burn (h : Nat) : Nat := if 2 ^ 63 ≤ h ∧ (d1.mtr.table.any fun t => t.member == fr.src && t.lease == h - 2 ^ 63) = false then h else 0
        let d2 : Dev := { d1 with mtr := { d1.mtr with lost := d1.mtr.lost.filter (· != fr.src) } }
        let d3 := if d2.rd Fld.MTR_LEASE_HIGH_WATER < highest then d2.wr Fld.MTR_LEASE_HIGH_WATER highest else d2
        let d4 := d3.setLive fr.src true
        (d4.mtrSend fr.src 0x11 ([3, d3.rd Fld.MTR_TXN_TXN, burn h0, burn h1] ++ d3.mtr.roster.flatMap (fun e => [e.1, ofLe e.2]))).resync fr.src last
      else d1.mtrNak fr.src 0x10 3 fr.msgId := by
  obtain ⟨hin, hlock, hepoch⟩ := hacc
  have hrole : (d1.bondRole != roleManager) = false := by rw [hrole]; rfl
  have hlower : ¬ d1.rd Fld.MTR_EPOCH_EPOCH < fr.epoch := by omega
  cases hcert : d1.certOf fr.src with
  | none =>
    simp only [Dev.join, hin, hlock, hlower, hrole, hid, hcert, if_neg hstandby, Bool.not_true, Bool.or_self, Bool.false_eq_true, if_false, if_true,
      List.map_cons, List.map_nil, Bool.and_eq_true, decide_eq_true_eq, Bool.not_eq_true']
    rfl
  | some c =>
    by_cases hok : (id == slice c 0x10 16) = true
    · simp only [Dev.join, hin, hlock, hlower, hrole, hid, hcert, hok, if_neg hstandby, Bool.not_true, Bool.or_self, Bool.false_eq_true, if_false,
        if_true, List.map_cons, List.map_nil, Bool.and_eq_true, decide_eq_true_eq, Bool.not_eq_true']
      rfl
    · simp [Dev.join, hin, hlock, hlower, hrole, hid, hcert, hok]

end

section
variable (hmanager : d1.fromManager fr = true)
include hmanager

theorem Dev.joinAccept_joins (hstate : d1.bondState = 1) (hjoining : d1.mtr.joining = fr.src) {role : Nat} (hrole : role = 2 ∨ role = 3)
    (last b0 b1 : Nat) (roster : List (Nat × List Byte)) : d.joinAccept fr role last b0 b1 roster =
      let d2 := d1.mtrDone fr.src (fun m => m.kind == 0x10)
      let d3 := if 2 ^ 63 ≤ b0 then d2.burnLease (b0 - 2 ^ 63) else d2
      let d4 := if 2 ^ 63 ≤ b1 then d3.burnLease (b1 - 2 ^ 63) else d3
      let d5 : Dev := { d4 with mtr := { d4.mtr with roster := roster.filter (fun e => e.1 != 0), joining := 0, byReset := false, syncLast := last, named := [] } }
      ((d5.mtrSet role 2).bondRecord).syncCheck := by
  have hrole : (role == roleStandby || role == roleWorker) = true := by simpa [roleStandby, roleWorker] using hrole
  have hgoes : (d1.bondState != bsJoining || d1.mtr.joining != fr.src || !(role == roleStandby || role == roleWorker)) = false := by
    simp [hstate, bsJoining, hjoining, hrole]
  refine (Dev.mtrApply_accepted hacc hmanager).trans ?_
  simp only [hgoes, Bool.false_eq_true, if_false, List.foldl_cons, List.foldl_nil]
  rfl

theorem Dev.sync_installs (hstate : d1.bondState = 2) {images : List (Nat × List Byte)} (hsome : images ≠ []) (hlen : images.length ≤ 200) :
    d.sync fr images =
      let d2 := images.foldl (fun x i => if i.1 < 0x1C000 then x.changeAsk (imageChange x i.1 i.2 (some (leAt i.2 0x28 2)) 4) else x) d1
      { d2 with mtr := { d2.mtr with named := d2.mtr.named ++ images.map Prod.fst } } := by
  refine (Dev.mtrApply_accepted hacc hmanager).trans ?_
  simp [hstate, bsSyncing, hsome, Nat.not_lt.2 hlen]

theorem Dev.syncEnd_ends (hstate : d1.bondState = 2) (hfirst : d1.mtr.named.contains 0xFFFFFFFF = false) (last slots : Nat) :
    d.syncEnd fr last slots =
      if d1.mtr.named.eraseDups.length = slots then
        let d2 := (d1.vlt.slots.filter fun x => decide (x.1 < 0x1C000) && aPresent x.2.attr && !d1.mtr.named.contains x.1).foldl
          (fun x y => x.changeAsk (mkChange y.1 (aPart y.2.attr) [] 0 true (aPersistent y.2.attr) 4)) d1
        ({ d2 with mtr := { d2.mtr with named := d2.mtr.named ++ [0xFFFFFFFF], syncLast := last } } : Dev).bondAnswer { VStage.reset with origin := 4 } stOk
      else
        let d2 := ({ d1 with mtr := { d1.mtr with joining := fr.src, named := [] } } : Dev).mtrSet d1.bondRole 1
        d2.mtrAsk fr.src 0x10 ([d1.rd Fld.MTR_TXN_TXN, d1.mtr.highest] ++ d1.heldFields) := by
  have hgoes : (d1.bondState != bsSyncing || d1.mtr.named.contains 0xFFFFFFFF) = false := by rw [hfirst, hstate]; rfl
  refine (Dev.mtrApply_accepted hacc hmanager).trans ?_
  simp only [hgoes, Bool.false_eq_true, if_false, bne_iff_ne, ne_eq, ite_not, bsJoining]

end

end

/-! ## Heartbeats (R392 to R394) -/

/-- HEARTBEAT at a member: CUT_OFF ends, the standby is named, the leases are renewed if asked, and it is answered. -/
theorem Chip.heartbeat_answered {c : Chip} {d1 : Dev} {fr : Frame} (hacc : c.dev.Accepts fr d1) (hmanager : d1.fromManager fr = true)
    (hadopt : d1.mayAdopt fr = false) (standby renew : Nat) : c.heartbeat fr standby renew =
      let c1 : Chip := { c with dev := (if d1.bondState = 4 then d1.mtrSet d1.bondRole 3 else d1).wr Fld.MTR_EPOCH_STANDBY_ID standby }
      let c2 := if renew = 1 then
          c1.onDev (fun d => d.heldLeases.foldl (fun x l => (x.grantRecord l (c1.seconds + leAt c1.dev.wdn.config 0x1A 2)).leaseTake l) d)
        else c1
      c2.onDev fun d => d.mtrSend fr.src 0x21 ([d.bondState, d.rd Fld.MTR_TXN_TXN] ++ d.heldFields) := by
  obtain ⟨hin, hlock, hepoch⟩ := hacc
  have hlower : ¬ fr.epoch < d1.rd Fld.MTR_EPOCH_EPOCH := by omega
  have hhigher : ¬ d1.rd Fld.MTR_EPOCH_EPOCH < fr.epoch := by omega
  simp only [Chip.heartbeat, hin, hlock, hadopt, Dev.mtrJudge, hlower, hhigher, hmanager, Bool.not_true, Bool.or_self, Bool.false_eq_true,
    if_false, if_true]
  rfl

section
variable {d d1 : Dev} {fr : Frame}

/-- A device in JOINING may adopt the higher epoch of a member that may lead. -/
theorem Dev.mayAdopt_higher (hstate : d1.bondState = 1) (hlead : d1.mayLead fr.src = true) (hepoch : d1.rd Fld.MTR_EPOCH_EPOCH < fr.epoch) :
    d1.mayAdopt fr = true := by
  simp [Dev.mayAdopt, hstate, bsJoining, hlead, hepoch]

theorem Chip.heartbeat_adopts {c : Chip} (hin : c.dev.frameIn fr = (d1, true)) (hlock : d1.tmp.lock = false) (hadopt : d1.mayAdopt fr = true)
    (hepoch : d1.rd Fld.MTR_EPOCH_EPOCH < fr.epoch) (standby renew : Nat) :
    c.heartbeat fr standby renew = c.onDev fun _ => d1.adopt fr.src fr.epoch := by
  simp [Chip.heartbeat, hin, hlock, hadopt, hepoch.ne, Chip.onDev]

theorem Dev.promoted_adopts (hin : d.frameIn fr = (d1, true)) (hlock : d1.tmp.lock = false) (hadopt : d1.mayAdopt fr = true) (last : Nat)
    (burns : List Nat) : d.promoted fr last burns = d1.adopt fr.src fr.epoch := by
  simp [Dev.promoted, hin, hlock, hadopt]

section
variable (hacc : d.Accepts fr d1) (hrole : d1.bondRole = 1) (hid : (d1.rosterId fr.src).isSome = true)
include hacc hrole hid

theorem Dev.heartbeatAck_lost (hlost : d1.mtr.lost.contains fr.src = true) (state last : Nat) :
    d.heartbeatAck fr state last = d1.mtrNak fr.src 0x21 4 fr.msgId := by
  refine (Dev.mtrApply_accepted hacc (by simp [hrole, roleManager, hid])).trans ?_
  rw [if_pos hlost]

theorem Dev.heartbeatAck_live (hlost : d1.mtr.lost.contains fr.src = false) {state : Nat} (hstate : state ≠ 3) (last : Nat) :
    d.heartbeatAck fr state last = ((d1.setLive fr.src true).mtrDone fr.src (fun m => m.kind == 0x34)).designate := by
  refine (Dev.mtrApply_accepted hacc (by simp [hrole, roleManager, hid])).trans ?_
  simp [hlost, hstate, bsMember, -List.contains_eq_mem]

end

end

/-- HEARTBEAT goes to every other member of the roster. -/
theorem Chip.heartbeatInterval_beats {c : Chip} (hrole : c.dev.bondRole = 1) (hlock : c.dev.tmp.lock = false) (hup : c.dev.mtrUp = true)
    (hrenew : c.dev.mtr.beats + 1 ≠ leAt c.dev.wdn.config 0x1A 2 * 250) : c.heartbeatInterval = c.onDev fun d =>
      let d2 : Dev := { d with mtr := { d.mtr with beats := d.mtr.beats + 1 } }
      ((d2.mtr.roster.filter (fun e => e.1 != d2.ownMember)).foldl (fun x e =>
        x.mtrSend e.1 0x20 [x.standbyId, 0, x.rd Fld.MTR_TXN_TXN]) d2).designate := by
  have hgoes : (c.dev.bondRole != roleManager || c.dev.tmp.lock || !c.dev.mtrUp) = false := by rw [hrole, hlock, hup]; rfl
  simp only [Chip.heartbeatInterval, hgoes, beq_false_of_ne hrenew, Bool.false_eq_true, if_false, Bool.toNat_false, Chip.onDev]

/-! ## Loss and promotion (R393 to R395) -/

section
variable {d : Dev}

theorem Dev.memberLost_drops {m : Nat} (hrole : d.bondRole = 1) (hother : m ≠ d.ownMember) (hlive : d.liveMembers.contains m = true) :
    d.memberLost m =
      let d1 := if m == d.standbyId then ((d.txAbort Dev.noteAnswer 0x0501).wr Fld.MTR_EPOCH_STANDBY_ID 0).wr Fld.MTR_STATUS_CAN_COMMIT 0 else d
      let d2 := (d1.setLive m false).inc Fld.MTR_COUNTS_LOST 1
      let leases := (d2.mtr.table.filter (fun t => t.member == m)).map Holding.lease
      let gone : Mtr := { d2.mtr with
        lost := d2.mtr.lost ++ [m]
        table := d2.mtr.table.filter (fun t => t.member != m)
        tx := d2.mtr.tx.map (fun t => { t with waiting := t.waiting.filter (· != m) })
        granting := match d2.mtr.granting with | some g => if g.1 = m || m == d.standbyId then none else some g | none => none
        requests := d2.mtr.requests.filter (fun r => r.1 != m)
        outstanding := d2.mtr.outstanding.filter (fun x => x.dst != m) }
      let d3 := (({ d2 with mtr := gone } : Dev).txApplied m (fun _ => true)).bondRecord
      let d4 := if d3.canCommit then leases.foldl (fun x l => x.mtrAsk x.standbyId 0x43 [x.rd Fld.MTR_LEASE_HIGH_WATER, m, 3, l]) d3 else d3
      ({ d4 with mtr := { d4.mtr with
        burning := if d4.canCommit then d4.mtr.burning ++ leases.map (fun l => (m, l)) else d4.mtr.burning } } : Dev).designate := by
  have hgoes : (d.bondRole != roleManager || m == d.ownMember || !d.liveMembers.contains m) = false := by rw [hlive, hrole, beq_false_of_ne hother]; rfl
  rw [Dev.memberLost, hgoes, if_neg Bool.false_ne_true]
  rfl

theorem Dev.cutOff_member (hrole : d.bondRole = 3) (hstate : d.bondState = 3) (hlock : d.tmp.lock = false) :
    d.cutOff = (d.inc Fld.MTR_COUNTS_MISSED 3).mtrSet 3 4 := by
  simp [Dev.cutOff, hrole, hstate, hlock, roleWorker, bsMember, bsCutOff]

theorem Dev.promotion_promotes (hrole : d.bondRole = 2) (hstate : d.bondState = 3) (hlock : d.tmp.lock = false) (haudit : d.canAudit = true)
    {burns : List (Nat × Nat)} (hburns : burns =
      (d.mtr.table.filter (fun t => t.member == d.managerId || !d.liveMembers.contains t.member)).map (fun t => (t.member, t.lease))) :
    d.promotion =
      let d2 := (d.dropPrepared fun _ => true).inc Fld.MTR_COUNTS_MISSED 3
      let d3 := d2.mtrEpoch ((d.dropPrepared fun _ => true).rd Fld.MTR_EPOCH_EPOCH + 1)
      let d4 := (d3.wr Fld.MTR_EPOCH_MANAGER_ID d3.ownMember).wr Fld.MTR_EPOCH_STANDBY_ID 0
      let d5 : Dev := { d4 with mtr := { d4.mtr with
        table := d4.mtr.table.filter (fun t => !burns.contains (t.member, t.lease)), lost := [d.managerId], beats := 0, want := 0, outstanding := [] } }
      let d6 := (d5.wr Fld.MTR_LIVE_LIVE 0).mtrSet 1 3
      let d7 := (d6.setLive d6.ownMember true).bondRecord
      let d8 := (burns.filter (fun b => b.1 == d7.ownMember)).foldl (fun x b => x.burnLease b.2) d7
      (d8.mtr.roster.filter (fun e => e.1 != d8.ownMember)).foldl (fun x e =>
        x.mtrSend e.1 0x52 ([x.rd Fld.MTR_TXN_TXN, burns.length] ++ burns.map Prod.snd)) d8 := by
  have hgoes : (d.bondRole != roleStandby || d.bondState != bsMember || d.tmp.lock || !d.canAudit) = false := by
    rw [hrole, hstate, hlock, haudit]; rfl
  rw [hburns, Dev.promotion, hgoes, if_neg Bool.false_ne_true]
  rfl

variable {d1 : Dev} {fr : Frame} (hin : d.frameIn fr = (d1, true)) (hlock : d1.tmp.lock = false)
include hin hlock

theorem Dev.promoted_follows (hepoch : d1.rd Fld.MTR_EPOCH_EPOCH < fr.epoch) (hstate : d1.bondState = 3 ∨ d1.bondState = 4)
    (hrole : d1.bondRole = 3) (hlead : d1.mayLead fr.src = true) (last : Nat) (burns : List Nat) : d.promoted fr last burns =
      let d2 := (d1.mtrEpoch fr.epoch).dropPrepared (fun t => decide (last < t))
      let d3 := (d2.wr Fld.MTR_EPOCH_MANAGER_ID fr.src).wr Fld.MTR_EPOCH_STANDBY_ID 0
      let d4 : Dev := { d3 with mtr := { d3.mtr with
        outstanding := d3.mtr.outstanding.map fun m : Sent => if m.kind = 0x40 then Sent.mk fr.src m.kind m.fields else m } }
      let d5 := (d4.mtrSet 3 3).bondRecord
      (burns.filter d5.heldLeases.contains).foldl (fun x l => x.burnLease l) d5 := by
  have hadopt : d1.mayAdopt fr = false := by
    have hjoining : d1.bondState ≠ bsJoining := by unfold bsJoining; omega
    simp [Dev.mayAdopt, hjoining]
  have hgoes : ((d1.bondState == bsMember || d1.bondState == bsCutOff) && d1.bondRole == roleWorker && d1.mayLead fr.src) = true := by
    simpa [hrole, hlead, bsMember, bsCutOff, roleWorker] using hstate
  simp only [Dev.promoted, hin, hlock, hadopt, Nat.not_lt.2 hepoch.le, hepoch.ne', hgoes, Bool.not_true, Bool.or_self, Bool.false_eq_true, if_false,
    if_true]
  rfl

/-! ## NAK (R386) -/

section
variable {kind : Nat} {d2 : Dev} (hd2 : d2 = d1.mtrDone fr.src (fun m => m.kind == kind))
include hd2

theorem Dev.nak_stale (hepoch : d2.rd Fld.MTR_EPOCH_EPOCH < fr.epoch) (hstate : d2.bondState ≠ 1) (m : Nat) :
    d.nak fr kind 1 m = d2.enterJoining Dev.noteAnswer false := by
  have hlock2 : d2.tmp.lock = false := by rw [hd2]; exact hlock
  have hstate : ¬ d2.bondState = bsJoining := hstate
  simp [Dev.nak, hin, ← hd2, hlock2, hepoch, hstate]

theorem Dev.nak_lost (hkind : kind = 0x21) (hmanager : fr.src = d2.managerId) (m : Nat) :
    d.nak fr kind 4 m = (d2.enterJoining Dev.noteAnswer false).adopt fr.src fr.epoch := by
  subst hkind
  have hlock2 : d2.tmp.lock = false := by rw [hd2]; exact hlock
  simp [Dev.nak, hin, ← hd2, hlock2, ← hmanager]

theorem Dev.nak_resent {m : Nat} (hm : m ≠ 0) (hother : m ≠ d2.ownMember) (hsrc : m ≠ fr.src) : d.nak fr kind 2 m =
    (d1.mtr.outstanding.filter (fun x => x.dst == fr.src && x.kind == kind)).foldl (fun x y => x.mtrAsk m y.kind y.fields) d2 := by
  have hlock2 : d2.tmp.lock = false := by rw [hd2]; exact hlock
  simp [Dev.nak, hin, ← hd2, hlock2, hm, hother, hsrc]

end

end

/-! ## The statement -/

/-- Settles O51: joining, heartbeats, loss, promotion and NAK each by the rule of their message or timer. -/
theorem bondJoinsAndBeats : Obligations.BondJoinsAndBeats := by
  rintro s _ d1 fr rfl
  refine ⟨fun hacc hrole hid a b h0 h1 => ?stranger, fun id hacc hrole hstandby hid last highest h0 h1 => ?join, fun hacc hmanager =>
      ⟨fun hstate hjoining role hrole last b0 b1 roster => ?joinAccept, fun hstate images hsome hlen => ?sync,
        fun hstate hfirst last slots => ?syncEnd, fun hadopt standby renew => ?heartbeat⟩,
    fun hin hlock hstate hlead hepoch adopted hadopted => ⟨fun standby renew => ?heartbeatAdopts, fun last burns => ?promotedAdopts⟩,
    fun hacc hrole hid state last => ⟨fun hlost => ?ackLost, fun hlost hstate => ?ackLive⟩, fun hrole hlock hup hrenew => ?interval,
    fun m hrole hother hlive => ?memberLost, fun hrole hstate hlock => ?cutOff, fun hrole hstate hlock haudit burns hburns => ?promotion,
    fun hin hlock hepoch hstate hrole hlead last burns => ?promoted, fun hin hlock kind d2 hd2 =>
      ⟨fun hepoch hstate m => ?nakStale, fun hkind hmanager m => ?nakLost, fun m hm hother hsrc => ?nakResent⟩⟩
  case stranger =>
    rw [exec_join]
    exact mortar_outcome s (Dev.join_stranger hacc hrole hid a b h0 h1)
  case join =>
    rw [exec_join]
    exact mortar_outcome s (Dev.join_member hacc hrole hstandby hid last highest h0 h1)
  case joinAccept =>
    rw [exec_joinAccept]
    exact mortar_outcome s (Dev.joinAccept_joins hacc hmanager hstate hjoining hrole last b0 b1 roster)
  case sync =>
    rw [exec_sync]
    exact mortar_outcome s (Dev.sync_installs hacc hmanager hstate hsome hlen)
  case syncEnd =>
    rw [exec_syncEnd]
    exact mortar_outcome s (Dev.syncEnd_ends hacc hmanager hstate hfirst last slots)
  case heartbeat =>
    rw [exec_heartbeat]
    exact onChip_next s (Chip.heartbeat_answered hacc hmanager hadopt standby renew)
  case heartbeatAdopts =>
    rw [exec_heartbeat, hadopted]
    exact onChip_outcome s (Chip.heartbeat_adopts hin hlock (Dev.mayAdopt_higher hstate hlead hepoch) hepoch standby renew)
  case promotedAdopts =>
    rw [exec_promoted, hadopted]
    exact mortar_outcome s (Dev.promoted_adopts hin hlock (Dev.mayAdopt_higher hstate hlead hepoch) last burns)
  case ackLost =>
    rw [exec_heartbeatAck]
    exact mortar_outcome s (Dev.heartbeatAck_lost hacc hrole hid hlost state last)
  case ackLive =>
    rw [exec_heartbeatAck]
    exact mortar_outcome s (Dev.heartbeatAck_live hacc hrole hid hlost hstate last)
  case interval =>
    rw [exec_heartbeatInterval]
    exact onChip_outcome s (Chip.heartbeatInterval_beats hrole hlock hup hrenew)
  case memberLost =>
    rw [exec_memberLost]
    exact mortar_outcome s (Dev.memberLost_drops hrole hother hlive)
  case cutOff =>
    rw [exec_cutOff]
    exact mortar_outcome s (Dev.cutOff_member hrole hstate hlock)
  case promotion =>
    rw [exec_promotion]
    exact mortar_outcome s (Dev.promotion_promotes hrole hstate hlock haudit hburns)
  case promoted =>
    rw [exec_promoted]
    exact mortar_outcome s (Dev.promoted_follows hin hlock hepoch hstate hrole hlead last burns)
  case nakStale =>
    rw [exec_nak]
    exact mortar_outcome s (Dev.nak_stale hin hlock hd2 hepoch hstate m)
  case nakLost =>
    rw [exec_nak]
    exact mortar_outcome s (Dev.nak_lost hin hlock hd2 hkind hmanager m)
  case nakResent =>
    rw [exec_nak]
    exact mortar_outcome s (Dev.nak_resent hin hlock hd2 hm hother hsrc)

end Sys2Proof.Machine
end

section
/-! Key changes replicated through a bond: PREPARE, PREPARED, COMMIT, APPLIED and ABORT (R385 to R389). -/

namespace Sys2Proof.Machine

/-! ## The octets of a prepared change -/

theorem ofLe_leBytes (n v : Nat) : ofLe (leBytes n v) = v % 256 ^ n := by
  induction n generalizing v with
  | zero => simp [leBytes, ofLe, Nat.mod_one]
  | succ n ih => simp [leBytes, ofLe, ih, Nat.pow_succ', Nat.mod_mul]

/-- A field that is followed by others is read as it was put. -/
theorem leAt_append {a b c : List Byte} {off n : Nat} (ha : a.length = off) (hb : b.length = n) : leAt (a ++ (b ++ c)) off n = ofLe b := by
  subst ha hb
  simp [leAt, slice]

/-- What PREPARE keeps of a transaction: the slot, GEN_BEFORE and the slot's image. -/
def preparedBytes (slot before : Nat) (img : List Byte) : List Byte := leBytes 4 slot ++ leBytes 2 before ++ [0, 0] ++ slice img 0 64

theorem preparedBytes_slot {slot : Nat} (hslot : slot < 0x1C000) (before : Nat) (img : List Byte) : leAt (preparedBytes slot before img) 0 4 = slot := by
  have h : preparedBytes slot before img = [] ++ (leBytes 4 slot ++ (leBytes 2 before ++ [0, 0] ++ slice img 0 64)) := by simp [preparedBytes]
  rw [h, leAt_append (off := 0) rfl (length_leBytes ..), ofLe_leBytes]
  omega

theorem preparedBytes_before (slot : Nat) {before : Nat} (hbefore : before < 2 ^ 16) (img : List Byte) :
    leAt (preparedBytes slot before img) 4 2 = before := by
  have h : preparedBytes slot before img = leBytes 4 slot ++ (leBytes 2 before ++ ([0, 0] ++ slice img 0 64)) := by simp [preparedBytes]
  rw [h, leAt_append (length_leBytes ..) (length_leBytes ..), ofLe_leBytes]
  omega

theorem preparedBytes_image (slot before : Nat) (img : List Byte) : (preparedBytes slot before img).drop 8 = slice img 0 64 :=
  List.drop_left' (by simp [length_leBytes])

/-! ## A standby or a worker (R387, R389) -/

/-- The role that PREPARE and COMMIT require of their receiver. -/
theorem Dev.prepareRole {d1 : Dev} {fr : Frame} (hmanager : d1.fromManager fr = true) (hrole : d1.bondRole = 2 ∨ d1.bondRole = 3) :
    (d1.fromManager fr && (d1.bondRole == roleStandby || d1.bondRole == roleWorker)) = true := by
  simpa [hmanager, roleStandby, roleWorker] using hrole

section
variable {d : Dev} {txn slot before : Nat} {img : List Byte}

/-- The one transaction prepared goes to the vault if its GEN_BEFORE matches the slot, else it is refused. -/
theorem Dev.prepareNext_one (hpending : d.mtr.pendingImages = [(txn, preparedBytes slot before img)]) (happlying : d.applying = false)
    (hslot : slot < 0x1C000) (hbefore : before < 2 ^ 16) : d.prepareNext 1 =
      if (d.slot slot).gen = before then d.changeAsk (imageChange d slot (slice img 0 64) none 2)
      else ({ d with mtr := { d.mtr with pendingImages := [] } } : Dev).mtrSend d.managerId 0x31 [txn, stStaleEpoch] := by
  have hgone : tput (fun _ => []) [(txn, preparedBytes slot before img)] txn [] = [] := by simp [tput]
  simp only [Dev.prepareNext, hpending, happlying, preparedBytes_slot hslot, preparedBytes_before slot hbefore, preparedBytes_image, hgone,
    Bool.false_eq_true, if_false]
  rfl

variable {d1 : Dev} {fr : Frame} (hacc : d.Accepts fr d1) (hmanager : d1.fromManager fr = true)
include hacc hmanager

section
variable (hrole : d1.bondRole = 2 ∨ d1.bondRole = 3)
include hrole

theorem Dev.prepare_repeats (hknown : txn ≤ d1.rd Fld.MTR_TXN_TXN ∨ d1.mtr.prepared.map Prod.fst = some txn) :
    d.prepare fr txn slot before img = d1.mtrSend fr.src 0x31 [txn, stOk] := by
  refine (Dev.mtrApply_accepted hacc (Dev.prepareRole hmanager hrole)).trans ?_
  exact if_pos (by simpa using hknown)

theorem Dev.prepare_new (hnew : d1.rd Fld.MTR_TXN_TXN < txn) (hnone : d1.mtr.prepared = none) (hslot : slot < 0x1C000) (hbefore : before < 2 ^ 16)
    (hpending : d1.mtr.pendingImages = []) (happlying : d1.applying = false) : d.prepare fr txn slot before img =
      let d2 : Dev := { d1 with mtr := { d1.mtr with pendingImages := [(txn, preparedBytes slot before img)] } }
      if (d1.slot slot).gen = before then d2.changeAsk (imageChange d1 slot (slice img 0 64) none 2)
      else ({ d2 with mtr := { d2.mtr with pendingImages := [] } } : Dev).mtrSend d2.managerId 0x31 [txn, stStaleEpoch] := by
  have hentry : tput (fun _ => []) d1.mtr.pendingImages txn (preparedBytes slot before img) = [(txn, preparedBytes slot before img)] := by
    have hlen : preparedBytes slot before img ≠ [] := by simp [preparedBytes]
    simp [hpending, tput, tins, hlen]
  have hfirst : (decide (txn ≤ d1.rd Fld.MTR_TXN_TXN) || d1.mtr.prepared.map Prod.fst == some txn) = false := by simp [hnone, hnew]
  have hfree : (decide (0x1C000 ≤ slot) || !(tget (fun _ => []) d1.mtr.pendingImages txn).isEmpty) = false := by simp [hpending, hslot]
  refine (Dev.mtrApply_accepted hacc (Dev.prepareRole hmanager hrole)).trans ?_
  rw [hfirst, hfree, if_neg Bool.false_ne_true, if_neg Bool.false_ne_true]
  change Dev.prepareNext (tput (fun _ => []) d1.mtr.pendingImages txn (preparedBytes slot before img)).length
    { d1 with mtr := { d1.mtr with pendingImages := tput (fun _ => []) d1.mtr.pendingImages txn (preparedBytes slot before img) } } = _
  rw [hentry]
  exact Dev.prepareNext_one rfl happlying hslot hbefore

theorem Dev.commit_repeats (hknown : txn ≤ d1.rd Fld.MTR_TXN_TXN) : d.commit fr txn = d1.mtrSend fr.src 0x33 [txn, stOk] :=
  (Dev.mtrApply_accepted hacc (Dev.prepareRole hmanager hrole)).trans (if_pos hknown)

theorem Dev.commit_prepared {e : Nat} (hnew : d1.rd Fld.MTR_TXN_TXN < txn) (hprepared : d1.mtr.prepared = some (txn, e))
    (hphase : (d1.vstage e).phase = .bond) : d.commit fr txn =
      let d2 := d1.event
      ({ d2 with mtr := { d2.mtr with unapplied := d2.mtr.unapplied ++ [⟨txn, e, [], 0, 0, d2.seq.toNat, [d2.ownMember], 2⟩] } } : Dev).changeGo
        Dev.noteAnswer e (d1.vstage e) := by
  refine (Dev.mtrApply_accepted hacc (Dev.prepareRole hmanager hrole)).trans ?_
  have hstage : d1.event.vstage e = d1.vstage e := rfl
  simp only [Nat.not_le.2 hnew, hprepared, hphase, hstage, decide_true, beq_self_eq_true, Bool.and_self, if_true, if_false]

end

theorem Dev.abortTx_abandons : d.abortTx fr txn = (d1.dropPrepared (· == txn)).prepareNext d1.mtr.pendingImages.length :=
  Dev.mtrApply_accepted hacc hmanager

end

/-! ## The manager (R387, R389) -/

section
variable {d d1 : Dev} {fr : Frame} {txn : Nat} (hacc : d.Accepts fr d1) (hrole : d1.bondRole = 1)
include hacc hrole

section
variable {d2 : Dev} (hd2 : d2 = d1.mtrDone fr.src (fun m => m.kind == 0x30 && m.fields.head? == some txn))
include hd2

/-- A committed transaction that is sent again is committed at once. -/
theorem Dev.prepared_committed (hknown : txn ≤ d2.rd Fld.MTR_TXN_TXN) (status : Nat) :
    d.prepared fr txn status = if status = stOk then d2.mtrAsk fr.src 0x32 [txn] else d2 := by
  refine (Dev.mtrApply_accepted hacc (by rw [hrole]; rfl)).trans ?_
  simp only [Dev.mtrDone1, ← hd2, hknown, if_true]

section
variable (hnew : d2.rd Fld.MTR_TXN_TXN < txn) {t : MtrTx} (htx : d2.mtr.tx = some t) (htxn : t.txn = txn)
include hnew htx htxn

theorem Dev.prepared_consent (hsrc : fr.src = d2.standbyId) (hphase : t.phase = 0) : d.prepared fr txn stOk =
    ({ d2 with mtr := { d2.mtr with tx := some { t with phase := 1 } } } : Dev).mtrAsk fr.src 0x32 [txn] := by
  refine (Dev.mtrApply_accepted hacc (by rw [hrole]; rfl)).trans ?_
  simp only [Dev.mtrDone1, ← hd2, Nat.not_le.2 hnew, htx, htxn, beq_iff_eq.2 hsrc, hphase, bne_self_eq_false, Bool.false_eq_true, if_false, if_true]

theorem Dev.prepared_refusal (hsrc : fr.src = d2.standbyId) {status : Nat} (hstatus : status ≠ stOk) :
    d.prepared fr txn status = d2.txAbort Dev.noteAnswer stStaleEpoch := by
  refine (Dev.mtrApply_accepted hacc (by rw [hrole]; rfl)).trans ?_
  simp only [Dev.mtrDone1, ← hd2, Nat.not_le.2 hnew, htx, htxn, beq_iff_eq.2 hsrc, hstatus, bne_self_eq_false, Bool.false_eq_true, if_false, if_true]

theorem Dev.prepared_worker (hsrc : fr.src ≠ d2.standbyId) (status : Nat) : d.prepared fr txn status =
    if status = stOk then d2
    else ({ d2 with mtr := { d2.mtr with tx := some { t with waiting := t.waiting.filter (· != fr.src) } } } : Dev).resync fr.src 0 := by
  refine (Dev.mtrApply_accepted hacc (by rw [hrole]; rfl)).trans ?_
  simp only [Dev.mtrDone1, ← hd2, Nat.not_le.2 hnew, htx, htxn, beq_false_of_ne hsrc, bne_self_eq_false, Bool.false_eq_true, if_false]

end

end

section
variable {d2 : Dev} (hd2 : d2 = d1.mtrDone fr.src (fun m => m.kind == 0x32 && m.fields.head? == some txn))
include hd2

/-- APPLIED of a worker counts for FENCE_BOND. -/
theorem Dev.applied_counts (htx : d2.mtr.tx = none) : d.applied fr txn stOk = d2.txApplied fr.src (fun t => t.txn == txn) := by
  refine (Dev.mtrApply_accepted hacc (by rw [hrole]; rfl)).trans ?_
  simp only [Dev.mtrDone1, ← hd2, htx, if_true]

section
variable {t : MtrTx} (htx : d2.mtr.tx = some t) (htxn : t.txn = txn) (hsrc : fr.src = d2.standbyId) (hphase : t.phase = 1)
include htx htxn hsrc hphase

theorem Dev.applied_refusal {status : Nat} (hstatus : status ≠ stOk) : d.applied fr txn status = d2.txAbort Dev.noteAnswer stStaleEpoch := by
  refine (Dev.mtrApply_accepted hacc (by rw [hrole]; rfl)).trans ?_
  simp only [Dev.mtrDone1, ← hd2, htx, htxn, beq_iff_eq.2 hsrc, hphase, decide_true, beq_self_eq_true, Bool.and_self, hstatus, if_true, if_false]

/-- APPLIED of the standby commits the transaction. -/
theorem Dev.applied_commits : d.applied fr txn stOk = (d2.txCommit t).txNext := by
  refine (Dev.mtrApply_accepted hacc (by rw [hrole]; rfl)).trans ?_
  simp only [Dev.mtrDone1, ← hd2, htx, htxn, beq_iff_eq.2 hsrc, hphase, decide_true, beq_self_eq_true, Bool.and_self, if_true]

end

end

end

/-! ## The statement -/

/-- Settles O52: PREPARE, COMMIT and ABORT at a member, PREPARED and APPLIED at the manager, each by the rule of its message. -/
theorem bondReplicatesKeyChanges : Obligations.BondReplicatesKeyChanges := by
  rintro s _ d1 fr txn rfl hacc
  refine ⟨fun hmanager hrole => ⟨fun slot before img => ⟨fun hknown => ?prepareRepeat, fun hnew hnone hslot hbefore hpending happlying v hv => ?prepareNew⟩,
      fun hknown => ?commitRepeat, fun e hnew hprepared hphase => ?commit⟩, fun hmanager => ?abort,
    fun hrole status => ⟨fun d2 hd2 => ⟨fun hknown => ?committed, fun t hnew htx htxn =>
        ⟨fun hsrc hok hphase => ?consent, fun hsrc hstatus => ?refusal, fun hsrc => ?worker⟩⟩,
      fun d2 hd2 => ⟨fun htx => ?counts, fun t htx htxn hsrc hphase => ⟨fun hstatus => ?notApplied, ?commits⟩⟩⟩⟩
  case prepareRepeat =>
    rw [exec_prepare]
    exact mortar_outcome s (Dev.prepare_repeats hacc hmanager hrole hknown)
  case prepareNew =>
    rw [exec_prepare, hv]
    exact mortar_outcome s (Dev.prepare_new hacc hmanager hrole hnew hnone hslot hbefore hpending happlying)
  case commitRepeat =>
    rw [exec_commit]
    exact mortar_outcome s (Dev.commit_repeats hacc hmanager hrole hknown)
  case commit =>
    rw [exec_commit]
    exact mortar_outcome s (Dev.commit_prepared hacc hmanager hrole hnew hprepared hphase)
  case abort =>
    rw [exec_abort]
    exact mortar_outcome s (Dev.abortTx_abandons hacc hmanager)
  case committed =>
    rw [exec_prepared]
    exact mortar_outcome s (Dev.prepared_committed hacc hrole hd2 hknown status)
  case consent =>
    rw [exec_prepared, hok]
    exact mortar_outcome s (Dev.prepared_consent hacc hrole hd2 hnew htx htxn hsrc hphase)
  case refusal =>
    rw [exec_prepared]
    exact mortar_outcome s (Dev.prepared_refusal hacc hrole hd2 hnew htx htxn hsrc hstatus)
  case worker =>
    rw [exec_prepared]
    exact mortar_outcome s (Dev.prepared_worker hacc hrole hd2 hnew htx htxn hsrc status)
  case counts =>
    rw [exec_applied]
    refine mortar_outcome s ((Dev.applied_counts hacc hrole hd2 htx).trans ?_)
    simp only [Dev.txApplied, beq_iff_eq]
  case notApplied =>
    rw [exec_applied]
    exact mortar_outcome s (Dev.applied_refusal hacc hrole hd2 htx htxn hsrc hphase hstatus)
  case commits =>
    rw [exec_applied]
    refine mortar_outcome s ((Dev.applied_commits hacc hrole hd2 htx htxn hsrc hphase).trans ?_)
    subst htxn
    rfl

end Sys2Proof.Machine
end

section
/-! A bond's leases, the standby's designation, relayed unlocks and RESET (R384, R386, R390, R391, R395, R396, R398). -/

namespace Sys2Proof.Machine

/-! ## The manager (R390, R395) -/

section
variable {d : Dev}

/-- The oldest request is served while the manager may commit and no grant is open. -/
theorem Dev.leaseServe_serves {m h l : Nat} {rest : List (Nat × Nat)} (hrole : d.bondRole = 1) (hcommit : d.canCommit = true)
    (hidle : d.mtr.granting = none) (hrequests : d.mtr.requests = (m, h) :: rest) (hl : l = max (d.rd Fld.MTR_LEASE_HIGH_WATER) h + 1) :
    d.leaseServe =
      let d1 := ({ d.wr Fld.MTR_LEASE_HIGH_WATER l with mtr := { d.mtr with requests := rest, granting := some (m, l) } } : Dev).bondRecord
      d1.mtrAsk d1.standbyId 0x43 [l, m, 1, l] := by
  have hgoes : (d.bondRole != roleManager || !d.canCommit || d.mtr.granting.isSome) = false := by rw [hrole, hcommit, hidle]; rfl
  rw [Dev.leaseServe, hgoes, if_neg Bool.false_ne_true, hrequests, hl]
  rfl

theorem Dev.leaseServe_waits (hbusy : d.canCommit = false ∨ d.mtr.granting.isSome = true) : d.leaseServe = d := by
  refine if_pos ?_
  obtain h | h := hbusy <;> simp [h]

end

section
variable {d d1 : Dev} {fr : Frame} (hacc : d.Accepts fr d1) (hrole : d1.bondRole = 1)
include hacc hrole

section
variable (hid : (d1.rosterId fr.src).isSome = true) {high : Nat}
include hid

theorem Dev.leaseRequest_wanted : d.leaseRequest fr high = d1.leaseWant fr.src high :=
  Dev.mtrApply_accepted hacc (by simp [hrole, roleManager, hid])

/-- With nothing else waiting, HIGH_WATER rises and the standby is told. -/
theorem Dev.leaseRequest_served {l : Nat} {d2 : Dev} (hnone : d1.mtr.requests = []) (hidle : d1.mtr.granting = none) (hcommit : d1.canCommit = true)
    (hl : l = max (d1.rd Fld.MTR_LEASE_HIGH_WATER) high + 1) (hd2 : d2 = d1.wr Fld.MTR_LEASE_HIGH_WATER l) : d.leaseRequest fr high =
      let d3 := ({ d2 with mtr := { d2.mtr with granting := some (fr.src, l) } } : Dev).bondRecord
      d3.mtrAsk d3.standbyId 0x43 [l, fr.src, 1, l] := by
  have hjoins : (d1.mtr.requests.any (fun r => r.1 == fr.src) || d1.mtr.granting.map Prod.fst == some fr.src) = false := by simp [hnone, hidle]
  rw [Dev.leaseRequest_wanted hacc hrole hid, Dev.leaseWant, hjoins, if_neg Bool.false_ne_true, hd2]
  refine Eq.trans (Dev.leaseServe_serves (m := fr.src) (h := high) (rest := []) hrole hcommit hidle (by simp [hnone]) hl) ?_
  simp only [Dev.wr_mtr, hnone]
  rfl

theorem Dev.leaseRequest_waits (hfirst : d1.mtr.requests.any (fun r => r.1 == fr.src) = false) (hother : d1.mtr.granting.map Prod.fst ≠ some fr.src)
    (hbusy : d1.canCommit = false ∨ d1.mtr.granting.isSome = true) :
    d.leaseRequest fr high = { d1 with mtr := { d1.mtr with requests := d1.mtr.requests ++ [(fr.src, high)] } } := by
  have hjoins : (d1.mtr.requests.any (fun r => r.1 == fr.src) || d1.mtr.granting.map Prod.fst == some fr.src) = false := by
    rw [hfirst, beq_false_of_ne hother]; rfl
  rw [Dev.leaseRequest_wanted hacc hrole hid, Dev.leaseWant, hjoins, if_neg Bool.false_ne_true]
  exact Dev.leaseServe_waits hbusy

end

theorem Dev.leaseHeld_recorded {l : Nat} {d2 : Dev} (hd2 : d2 = d1.mtrDone fr.src (fun m => m.kind == 0x41 && m.fields.head? == some l)) :
    d.leaseHeld fr l =
      if d2.mtr.table.any (fun t => t.member == fr.src && t.lease == l) then
        let d3 := d2.tableAdd fr.src l 2
        if d3.canCommit then d3.mtrAsk d3.standbyId 0x43 [d3.rd Fld.MTR_LEASE_HIGH_WATER, fr.src, 2, l] else d3
      else d2 := by
  refine (Dev.mtrApply_accepted hacc (by rw [hrole]; rfl)).trans ?_
  simp only [Dev.mtrDone1, ← hd2]

theorem Dev.standbyAccept_accepted (hw : Nat) {d2 : Dev} (hcommit : d1.canCommit = false)
    (hasked : d1.mtr.outstanding.any (fun m => m.dst == fr.src && m.kind == 0x50) = true)
    (hd2 : d2 = ((d1.mtrDone fr.src (fun m => m.kind == 0x50)).wr Fld.MTR_EPOCH_STANDBY_ID fr.src).wr Fld.MTR_STATUS_CAN_COMMIT 1) :
    d.standbyAccept fr hw = (({ d2 with mtr := { d2.mtr with want := 0 } } : Dev).liveShow.leaseServe).txNext := by
  refine (Dev.mtrApply_accepted hacc (by rw [hrole]; rfl)).trans ?_
  simp only [hcommit, hasked, Bool.not_true, Bool.or_self, Bool.false_eq_true, if_false, hd2]
  rfl

end

/-! ### LEASE_STATE_ACK -/

/-- What LEASE_STATE awaited is answered. -/
theorem Chip.leaseStateAck_taken (c : Chip) {d1 d2 : Dev} {fr : Frame} {hw : Nat} {answered : Sent → Bool}
    (hd2 : d2 = d1.mtrDone fr.src (fun m => m.kind == 0x43 && (m.fields.head?.any fun h => decide (h ≤ hw))))
    (hanswered : ∀ m : Sent, answered m = (m.kind == 0x43 && (m.fields.head?.any fun h => decide (h ≤ hw)))) :
    (({ c with dev := d1 } : Chip).onDev fun d => d.mtrDone fr.src answered) = { c with dev := d2 } := by
  rw [hd2, ← funext hanswered]
  rfl

section
variable {c : Chip} {d1 d2 d3 : Dev} {fr : Frame} {hw : Nat} (hacc : c.dev.Accepts fr d1) (hrole : d1.bondRole = 1) (hsrc : fr.src = d1.standbyId)
  (hd2 : d2 = d1.mtrDone fr.src (fun m => m.kind == 0x43 && (m.fields.head?.any fun h => decide (h ≤ hw))))
  (hd3 : d3 = if d2.mtr.outstanding.any (fun m => m.kind == 0x43) then d2 else { d2 with mtr := { d2.mtr with burning := [] } })
include hacc hrole hsrc hd2 hd3

theorem Chip.leaseStateAck_done (hnone : d3.mtr.granting = none) : c.leaseStateAck fr hw = c.onDev fun _ => d3 := by
  refine (Chip.mtrApply_accepted hacc (by simp [hrole, roleManager, hsrc])).trans ?_
  rw [Chip.leaseStateAck_taken c hd2 (by rintro ⟨_, _, fields⟩; cases fields <;> rfl)]
  simp only [Chip.onDev, ← hd3, hnone]

theorem Chip.leaseStateAck_grants {m l : Nat} (hgrant : d3.mtr.granting = some (m, l)) (hl : l ≤ hw) (hm : m ≠ d3.ownMember) :
    c.leaseStateAck fr hw = c.onDev fun _ =>
      ((({ d3 with mtr := { d3.mtr with granting := none } } : Dev).tableAdd m l 1).mtrAsk m 0x41 [l]).leaseServe := by
  have hown : (({ d3 with mtr := { d3.mtr with granting := none } } : Dev).tableAdd m l 1).ownMember = d3.ownMember := rfl
  refine (Chip.mtrApply_accepted hacc (by simp [hrole, roleManager, hsrc])).trans ?_
  rw [Chip.leaseStateAck_taken c hd2 (by rintro ⟨_, _, fields⟩; cases fields <;> rfl)]
  simp only [Chip.onDev, ← hd3, hgrant, hl, hown, hm, if_true, if_false]

end

/-! ## A member (R391, R395) -/

section
variable {c : Chip} {d1 : Dev} {fr : Frame} {l : Nat} (hacc : c.dev.Accepts fr d1) (hmanager : d1.fromManager fr = true)
include hacc hmanager

/-- A repeat of a lease that the member holds is answered again. -/
theorem Chip.leaseGrant_repeats (hheld : d1.heldLeases.contains l = true) : c.leaseGrant fr l = c.onDev fun _ => d1.mtrSend fr.src 0x42 [l] := by
  refine (Chip.mtrApply_accepted hacc hmanager).trans ?_
  simp [hheld, Chip.onDev, -List.contains_eq_mem]

theorem Chip.leaseGrant_accepted (hheld : d1.heldLeases.contains l = false) (hhigh : d1.mtr.highest < l) (hnext : d1.nextValid = false)
    (haudit : d1.canAudit = true) : c.leaseGrant fr l = c.onDev fun _ =>
      let d2 : Dev := { d1 with mtr := { d1.mtr with highest := l } }
      let d3 := if d2.bondRole = 3 ∨ d2.bondRole = 0 then d2.wr Fld.MTR_LEASE_HIGH_WATER l else d2
      (((d3.bondRecord).grantRecord l (c.bd.time / 32768 + leAt d1.wdn.config 0x1A 2)).mtrDone d3.managerId (fun m => m.kind == 0x40)).mtrSend
        fr.src 0x42 [l] := by
  have hrepeat : (d1.heldLeases.contains l || (d1.mtr.highest == l && (d1.grantOf l).isSome)) = false := by
    rw [hheld, beq_false_of_ne hhigh.ne]; rfl
  have hgoes : (decide (l ≤ d1.mtr.highest) || d1.nextValid || !d1.canAudit) = false := by simp [hhigh, hnext, haudit]
  refine (Chip.mtrApply_accepted hacc hmanager).trans ?_
  simp only [hrepeat, Chip.leaseAccept, hgoes, Bool.false_eq_true, if_false, if_true, Chip.onDev, Chip.leaseExpiryNow, Chip.seconds, Bool.or_eq_true,
    decide_eq_true_eq]
  rfl

end

section
variable {d d1 : Dev} {fr : Frame} (hacc : d.Accepts fr d1) (hmanager : d1.fromManager fr = true)
include hacc hmanager

section
variable (hrole : d1.bondRole = 2) (haudit : d1.canAudit = true) {hw : Nat} {d2 : Dev}
  (hd2 : d2 = d1.wr Fld.MTR_LEASE_HIGH_WATER (max (d1.rd Fld.MTR_LEASE_HIGH_WATER) hw)) (holder l : Nat)
include hrole haudit hd2

/-- LEASE_STATE at the standby. -/
theorem Dev.leaseState_recorded (ev : Nat) : d.leaseState fr hw holder ev l =
    ((if ev = 3 then ({ d2 with mtr := { d2.mtr with table := d2.mtr.table.filter (fun t => !(t.member == holder && t.lease == l)) } } : Dev)
      else d2.tableAdd holder l ev).bondRecord).mtrSend fr.src 0x44 [hw] := by
  refine (Dev.mtrApply_accepted hacc (by rw [hmanager, hrole]; rfl)).trans ?_
  simp only [haudit, ← hd2, Bool.not_true, Bool.false_eq_true, if_false]

end

theorem Dev.standbyDesignate_accepted (hstate : d1.bondState = 3) (haudit : d1.canAudit = true) {last : Nat} (hlast : last ≤ d1.rd Fld.MTR_TXN_TXN)
    (hw : Nat) (table : List (Nat × Nat)) {d2 : Dev} (hd2 : d2 = d1.wr Fld.MTR_LEASE_HIGH_WATER (max (d1.rd Fld.MTR_LEASE_HIGH_WATER) hw)) :
    d.standbyDesignate fr hw last table =
      let d3 := ({ d2 with mtr := { d2.mtr with table := table.map (fun t => Holding.mk t.1 t.2 1) } } : Dev).mtrSet 2 3
      let d4 := (d3.wr Fld.MTR_EPOCH_STANDBY_ID d2.ownMember).bondRecord
      (d4.mtr.roster.foldl (fun x e => x.setLive e.1 true) d4).mtrSend fr.src 0x51 [hw] := by
  have hgoes : (d1.bondState != bsMember || !d1.canAudit || decide (d1.rd Fld.MTR_TXN_TXN < last)) = false := by
    simp [hstate, bsMember, haudit, hlast]
  refine (Dev.mtrApply_accepted hacc hmanager).trans ?_
  simp only [hgoes, Bool.false_eq_true, if_false, hd2]
  rfl

end

/-! ## Relayed unlocks and RESET (R384, R398) -/

section
variable {d d1 : Dev} {fr : Frame} (hin : d.frameIn fr = (d1, true))
include hin

theorem Dev.unlockRelay_queued {token : List Byte} (htoken : token.length % 8 = 0) : d.unlockRelay fr d1.deviceId token =
    d1.enqueue ⟨3, fr.src, leBytes 2 0x0403 ++ [0, 0] ++ leBytes 2 0 ++ leBytes 2 token.length ++ List.replicate 24 0 ++ token, 0⟩ := by
  simp [Dev.unlockRelay, hin, htoken]

theorem Dev.unlockRelay_other {target : List Byte} (token : List Byte) (htarget : target ≠ d1.deviceId) : d.unlockRelay fr target token = d1 := by
  simp [Dev.unlockRelay, hin, htarget]

theorem Dev.unlockResult_delivered (status : Nat) :
    d.unlockResult fr status = (d1.mtrDone fr.src (fun m => m.kind == 0x61)).emit (.warden (0x100 + fr.src) status []) := by
  simp [Dev.unlockResult, hin]

end

section
variable {c : Chip} {d1 : Dev} {fr : Frame} (hacc : c.dev.Accepts fr d1)
include hacc

theorem Chip.mtrResetFrame_worker (hrole : d1.bondRole = 3) (hsrc : fr.src = d1.managerId) :
    c.mtrResetFrame fr = ({ c with dev := d1 } : Chip).assertReset 1 8 d1.managerId := by
  rw [Chip.mtrResetFrame]
  exact Chip.mtrApply_accepted hacc (by simp [hrole, roleWorker, hsrc])

theorem Chip.mtrResetFrame_refused (hrole : d1.bondRole = 1 ∨ d1.bondRole = 2) :
    c.mtrResetFrame fr = c.onDev fun _ => d1.mtrNak fr.src 0x70 2 fr.msgId := by
  rw [Chip.mtrResetFrame]
  exact Chip.mtrApply_wrongRole hacc (by obtain h | h := hrole <;> simp [h, roleWorker])

end

/-! ## The statement -/

/-- Settles O53: leases at the manager and at a member, the standby's designation, relayed unlocks and RESET each by the rule of their message. -/
theorem bondLeasesStandbyAndRelays : Obligations.BondLeasesStandbyAndRelays := by
  rintro s _ d1 fr rfl
  refine ⟨fun hacc hrole => ⟨fun high hid => ⟨fun l d2 hnone hidle hcommit hl hd2 => ?served, fun hfirst hother hbusy => ?waits⟩,
      fun l d2 hd2 => ?held, fun hw d2 d3 hsrc hd2 hd3 => ⟨fun hnone => ?ackDone, fun m l hgrant hl hm => ?ackGrants⟩,
      fun hw hcommit hasked d2 hd2 => ?standbyAccept⟩,
    fun hacc hmanager => ⟨fun l hheld => ?grantRepeat, fun l hheld hhigh hnext haudit => ?grant,
      fun hrole haudit hw holder l d2 hd2 => ⟨?burned, fun ev hev => ?leaseState⟩,
      fun hstate haudit last hlast hw table d2 hd2 => ?designate⟩,
    fun hin => ⟨fun token htoken => ?relayed, fun target token htarget => ?relayOther, fun status => ?result⟩,
    fun hacc => ⟨fun hrole hsrc => ?reset, fun hrole => ?resetRefused⟩⟩
  case served =>
    rw [exec_leaseRequest]
    exact mortar_outcome s (Dev.leaseRequest_served hacc hrole hid hnone hidle hcommit hl hd2)
  case waits =>
    rw [exec_leaseRequest]
    exact mortar_outcome s (Dev.leaseRequest_waits hacc hrole hid hfirst hother hbusy)
  case held =>
    rw [exec_leaseHeld]
    exact mortar_outcome s (Dev.leaseHeld_recorded hacc hrole hd2)
  case ackDone =>
    rw [exec_leaseStateAck]
    exact onChip_outcome s (Chip.leaseStateAck_done hacc hrole hsrc hd2 hd3 hnone)
  case ackGrants =>
    rw [exec_leaseStateAck]
    exact onChip_outcome s (Chip.leaseStateAck_grants hacc hrole hsrc hd2 hd3 hgrant hl hm)
  case standbyAccept =>
    rw [exec_standbyAccept]
    exact mortar_outcome s (Dev.standbyAccept_accepted hacc hrole hw hcommit hasked hd2)
  case grantRepeat =>
    rw [exec_leaseGrant]
    exact onChip_outcome s (Chip.leaseGrant_repeats hacc hmanager hheld)
  case grant =>
    rw [exec_leaseGrant]
    exact onChip_outcome s (Chip.leaseGrant_accepted hacc hmanager hheld hhigh hnext haudit)
  case burned =>
    rw [exec_leaseState]
    exact mortar_outcome s (Dev.leaseState_recorded hacc hmanager hrole haudit hd2 holder l 3)
  case leaseState =>
    rw [exec_leaseState]
    refine mortar_outcome s ((Dev.leaseState_recorded hacc hmanager hrole haudit hd2 holder l ev).trans ?_)
    rw [if_neg (by omega)]
  case designate =>
    rw [exec_standbyDesignate]
    exact mortar_outcome s (Dev.standbyDesignate_accepted hacc hmanager hstate haudit hlast hw table hd2)
  case relayed =>
    rw [exec_unlockRelay]
    exact mortar_outcome s (Dev.unlockRelay_queued hin htoken)
  case relayOther =>
    rw [exec_unlockRelay]
    exact mortar_outcome s (Dev.unlockRelay_other hin token htarget)
  case result =>
    rw [exec_unlockResult]
    exact mortar_outcome s (Dev.unlockResult_delivered hin status)
  case reset =>
    rw [exec_reset]
    exact onChip_next s (Chip.mtrResetFrame_worker hacc hrole hsrc)
  case resetRefused =>
    rw [exec_reset]
    exact onChip_outcome s (Chip.mtrResetFrame_refused hacc hrole)

end Sys2Proof.Machine
end
